-- ==== Sys2Proof/Word.lean ====
section
/-! DEFINITION. The word types of the model and their plainest arithmetic. -/

namespace Sys2Proof

/-- One byte. -/
abbrev Byte := BitVec 8

/-- A run of bytes, lowest offset first (R11). -/
abbrev Bytes := List Byte

/-- A Gauge value, written step:mark (R15): a 64-bit step and a 4-bit mark. -/
structure Gauge where
  step : Nat
  mark : Nat
  deriving DecidableEq, Repr

/-- a:b precedes c:d (R16): step first, then mark. -/
def Gauge.lt (a b : Gauge) : Bool :=
  decide (a.step < b.step) || (decide (a.step = b.step) && decide (a.mark < b.mark))

end Sys2Proof
end

