-- ==== Sys2Proof/Syntax.lean ====
section
/-! DEFINITION. The commands and events of the block: one constructor of `Instr` per row of the opcode table, with
the row's operands, and the operand types they carry. -/

namespace Sys2Proof

/-- A mailbox request as the command it carries sees it (R520): the mailbox it arrived on, its TAG and its
SEQUENCE. -/
structure Req where
  mb : Nat
  tag : Nat
  seq : Nat
  deriving DecidableEq, Repr

/-- A destination of prepared data: a port of a device of a side (R166). -/
structure Dest where
  port : Nat
  device : Nat
  side : Nat
  deriving DecidableEq, Repr

/-- A submission entry (R130). -/
structure SqEntry where
  opcode : Nat := 0
  flags : Nat := 0
  cmdId : Nat := 0
  reserved4 : Nat := 0
  bufAddr : Nat := 0
  slba : Nat := 0
  nlb : Nat := 0
  reserved28 : Nat := 0
  params : List Nat := [0, 0, 0, 0, 0, 0, 0, 0]
  deriving DecidableEq, Repr

/-- The kinds of gated event (R68). -/
inductive EventKind where
  | checkpoint | epochRollover | planChange | recipeChange | gateList | weir
  deriving DecidableEq, Repr

/-- The value of an event kind (R68). -/
def EventKind.value : EventKind → Nat
  | .checkpoint => 0 | .epochRollover => 1 | .planChange => 2
  | .recipeChange => 3 | .gateList => 4 | .weir => 5

/-- The parameters of a checkpoint event (R430). -/
structure CkptParams where
  full : Bool
  pause : Bool
  toMedia : Bool
  address : Nat
  deriving DecidableEq, Repr

/-- One armed event (R69). `item` is the plan, recipe or gate-list handle it carries (R177, R464). -/
structure ArmedEvent where
  handle : Nat
  kind : EventKind
  target : Gauge
  item : Nat := 0
  ckpt : Option CkptParams := none
  deriving DecidableEq, Repr

/-- The actions bound to a Weir opening (R77). -/
structure WeirActions where
  startFeed : Bool := false
  gateList : Option Nat := none
  releasePipeline : Bool := false
  bothSides : Bool := false
  deriving DecidableEq, Repr


/-- A HELLO or HEARTBEAT piece's fields (R496). -/
structure Hello where
  sender : Nat
  side : Nat
  clockBin : Nat
  twin : Bool
  isManager : Bool
  groupId : Nat
  datapathRev : Nat
  mac : Nat
  gid : Nat
  expected : BitVec 128
  deriving DecidableEq, Repr

/-- A member's state (R494). -/
inductive MemberStatus where
  | absent | forming | active | serviceLost | lost | joining
  deriving DecidableEq, Repr

/-- The value of a member state (R494). -/
def MemberStatus.value : MemberStatus → Nat
  | .absent => 0 | .forming => 1 | .active => 2 | .serviceLost => 3 | .lost => 4 | .joining => 5

/-- What the manager distributes on privileged channel 0 and members store or act on (R391, R500). A manager command
forwarded whole (R501, R519) is that command's own row with the request on MB5. -/
inductive Item where
  | catalogue (dataset total : Nat) (entries : List (Nat × Nat))
  | plan (handle : Nat) (bytes : Bytes)
  | recipe (handle : Nat) (bytes : Bytes)
  | vocab (handle : Nat) (bytes : Bytes)
  | program (handle : Nat) (bytes : Bytes)
  | dupSet (handle : Nat) (bytes : Bytes)
  | armEvent (e : ArmedEvent)
  | cancelEvent (handle : Nat)
  | weir (target : Gauge) (actions : WeirActions)
  | fence (step : Nat)
  | membership (record : Bytes)
  | command (code : Nat) (digest : Bytes)
  | ckptDone (step : Nat)
  | ckptFailed (step : Nat)
  /-- a destination handed to the twin peer, or back, with its first batch that has not closed and its carry list as
  (step, k, attempt) (R507, R508) -/
  | proxy (back : Bool) (dest : Dest) (step : Nat) (carry : List (Nat × Nat × Nat))
  /-- what is in force at a device's join step: the plan's handle and segment, the recipe, the mode (R510) -/
  | join (device step : Nat) (plan : Option (Nat × Bytes)) (recipe : Option Nat) (exact : Bool)
  deriving DecidableEq, Repr

/-- The content of a ring piece, by what it says (R391, R496). -/
inductive Body where
  | item (i : Item)
  | summary (lo hi : Gauge)
  | collect (dataset : Nat)
  | ranges (dataset total : Nat) (l : List (Nat × Nat))
  | publication (committed leading : Gauge) (fence : Nat)
  | weirOpen (tOpen : Nat)
  | correction (count : Nat)
  | ckptAck (crc length : Nat)
  | ack (subject : Nat) (digest : Bytes) (early : Bool)
  | weirAck (lateness : Nat)
  | hello (h : Hello)
  | heartbeat (h : Hello)
  | state (member : Nat) (status : MemberStatus)
  | mb5 (code : Nat) (status result : Nat)
  /-- a HELLO of a ring neighbour, exchanged over the link itself (R497 step 1) -/
  | neighbour (h : Hello)
  /-- the two-way exchanges with a ring neighbour, as t1 to t4 of each (R75) -/
  | exchanges (neighbour : Nat) (times : List (Nat × Nat × Nat × Nat))
  /-- a device's measured link to the next rank: delay and offset in ps (R75) -/
  | hop (delay offset : Int)
  /-- this side's mode, which the manager exchange of a twin gives the other side (R420, R502) -/
  | mode (exact : Bool)
  deriving DecidableEq, Repr

/-- A piece on the management ring (R392). -/
structure Piece where
  sender : Nat
  channel : Nat
  seq : Nat
  body : Body
  deriving DecidableEq, Repr

/-- What the switch reads of a frame received on a port (R448 to R458). -/
structure Frame where
  /-- bytes from destination MAC to FCS -/
  length : Nat
  fcsOk : Bool := true
  dst : Nat := 0
  src : Nat := 0
  etherType : Nat := 0
  /-- 802.1Q tag: VLAN ID, PCP, DEI -/
  tag : Option (Nat × Nat × Bool) := none
  /-- IP DSCP and ECN fields -/
  ip : Option (Nat × Nat) := none
  /-- UDP source and destination port -/
  udp : Option (Nat × Nat) := none
  /-- the frame is a ring piece (R392) -/
  ringPiece : Bool := false
  /-- the payload after the EtherType, for the Gauge logic (R53) -/
  payload : Bytes := []
  deriving DecidableEq, Repr

/-- Port types (R445). -/
inductive PortKind where
  | accel | mesh | twin | ringIn | ringOut | plain
  deriving DecidableEq, Repr

/-- One port entry of PORT_CONFIG, its fields as the payload gives them (R446). -/
structure PortEntry where
  logical : Nat
  kind : Nat
  lanes : Nat
  index : Nat
  mtu : Nat
  txInvert : Nat := 0
  rxInvert : Nat := 0
  laneOrder : Nat := 0
  trust : Nat := 0
  defaultTc : Nat := 0
  reserved : Nat := 0
  deriving DecidableEq, Repr

/-- One endpoint table entry, its fields as the payload gives them (R449). -/
structure Endpoint where
  mac : Nat
  vlan : Nat
  kind : Nat
  location : Nat
  target : Nat
  reserved : Nat := 0
  deriving DecidableEq, Repr

/-- The parameters of QUEUE_CONFIG (R453, R456). -/
structure QueueParams where
  prio : Nat := 0
  weight : Nat := 16
  minCells : Nat := 64
  maxCells : Nat := 1310720
  alpha : Nat := 6
  yellowPct : Nat := 50
  markCells : Nat := 0
  deriving DecidableEq, Repr

/-- The tables of CLASS_MAP_SET (R452, R455). -/
structure ClassMap where
  /-- class of each PCP value -/
  pcp : List Nat := [0, 1, 2, 3, 4, 5, 6, 7]
  /-- class of each DSCP value -/
  dscp : List Nat := (List.range 64).map (· / 8)
  /-- queue of (origin, class), index 8 x origin + class -/
  queue : List Nat := [0, 1, 2, 3, 4, 5, 6, 7, 8, 8, 8, 8, 8, 8, 8, 8, 9, 9, 9, 9, 9, 9, 9, 9,
    10, 10, 10, 10, 10, 10, 10, 10]
  /-- pre-colour of (PCP, DEI), index 2 x PCP + DEI: 0 green, 1 yellow, 2 red -/
  colour : List Nat := List.replicate 16 0
  feedTc : Nat := 3
  collTc : Nat := 4
  ctrlTc : Nat := 6
  deriving DecidableEq, Repr

/-- The parameters of POLICER_SET (R455). -/
structure PolicerParams where
  /-- 0 srTCM, 1 trTCM -/
  mode : Nat := 0
  /-- 0 colour-blind, 1 colour-aware -/
  aware : Nat := 0
  markDei : Nat := 0
  cir : Nat := 0
  pir : Nat := 0
  cbs : Nat := 1518
  /-- EBS of srTCM, PBS of trTCM -/
  ebs : Nat := 1518
  /-- (ingress port, class) pairs assigned to the policer -/
  assign : List (Nat × Nat) := []
  deriving DecidableEq, Repr

/-- A NAND operation that ends (R98, R102). -/
inductive NandOp where
  /-- a page read of a block of a superblock for a logical block; `step` is the recovery step of R102 that decoded the
  codeword, 0 where none did -/
  | read (lba superblock block step : Nat)
  /-- a page program of a block; `last` when it completes its superblock's copy, parity included -/
  | program (superblock block : Nat) (last : Bool)
  /-- an erase of a block; `last` when it completes its superblock -/
  | erase (superblock block : Nat) (last : Bool)
  deriving DecidableEq, Repr

/-- The settings of MEDIA_POLICY_SET (R124). -/
structure PolicyParams where
  wlSpread : Nat := 300
  wlBw : Nat := 2
  rdBaseTlc : Nat := 200000
  rdBaseQlc : Nat := 50000
  rdFloor : Nat := 100
  gcStart : Nat := 8
  gcStop : Nat := 16
  stageGiB : Nat := 4
  deriving DecidableEq, Repr

/-- A die an NC engine finds at boot (R96). -/
structure FoundDie where
  channel : Nat
  target : Nat
  /-- manufacturer and model are in the qualification table -/
  listed : Bool
  /-- blocks marked bad by the manufacturer -/
  bad : Nat := 0
  deriving DecidableEq, Repr

/-- The fields of an Ngayx instruction word but its opcode (R360). -/
structure Fields where
  d : Nat := 0
  a : Nat := 0
  b : Nat := 0
  c : Nat := 0
  p : Nat := 0
  pe : Nat := 0
  f : Nat := 0
  rm : Nat := 0
  imm : Nat := 0
  deriving DecidableEq, Repr

/-- The operation of a BTH (R469). -/
inductive BthOp where
  | sendFirst | sendMiddle | sendLast | sendOnly
  | writeFirst | writeMiddle | writeLast | writeLastImm | writeOnly | writeOnlyImm
  | readRequest | readFirst | readMiddle | readLast | readOnly
  | ack | atomicAck | compareSwap | fetchAdd | cnp
  | other (code : Nat)
  deriving DecidableEq, Repr

/-- A RoCEv2 packet as the engine reads and sends it (R469, R476). -/
structure RdmaPacket where
  /-- ICRC and IPv4 header checksum hold -/
  icrcOk : Bool := true
  /-- headers whole and BTH version 0 -/
  headerOk : Bool := true
  /-- destination GID -/
  dgid : Nat := 0
  qpn : Nat
  pkey : Nat := 0
  psn : Nat := 0
  op : BthOp
  ackReq : Bool := false
  /-- RETH or AtomicETH address, RKEY, DMA length -/
  va : Nat := 0
  rkey : Nat := 0
  dmaLength : Nat := 0
  /-- AtomicETH swap or add, and compare; on an ATOMIC ACK the original value -/
  swap : Nat := 0
  compare : Nat := 0
  imm : Nat := 0
  /-- AETH: 0 ACK, 1 RNR NAK with its timer code, 2 NAK with its code -/
  aeth : Nat := 0
  aethCode : Nat := 0
  /-- IP ECN field is CE -/
  ce : Bool := false
  payload : Bytes := []
  deriving DecidableEq, Repr

/-- What one device sends another of a launch's chunk (R393, R406 to R408): a device partial (level 2), a side result
(level 3), or a final result. -/
structure CollData where
  channel : Nat
  ordinal : Nat
  stepLo : Nat
  chunk : Nat
  /-- rank of the contribution for ALL_GATHER, ROOT for BROADCAST, 0 otherwise -/
  rank : Nat := 0
  level : Nat := 0
  /-- the sender -/
  device : Nat
  side : Nat
  flags : Nat := 0
  fault : Nat := 0
  events : Nat := 0
  failed : Bool := false
  /-- the sender has ended the launch with COLL_ABORTED (R418) -/
  aborted : Bool := false
  out0 : Bytes := []
  out1 : Bytes := []
  deriving DecidableEq, Repr

/-- How a node run ends (R415, R416). -/
inductive NodeEnd where
  | good | mismatch | hwError
  deriving DecidableEq, Repr

/-- What a member writes as a checkpoint image (R435): the sealing of a FULL or LIGHT image succeeds, or the write fails
(R433). -/
inductive ImageWrite where
  | written | failed
  deriving DecidableEq, Repr
/-- An error in the Lockkeeper's SRAM or core (R515). -/
inductive LkError where
  | single | double | residue
  deriving DecidableEq, Repr

/-- The unit that read an uncorrectable LPDDR6 line (R581). -/
inductive MemReader where
  | riffle (n : Nat) | drawplate (n : Nat) | anvil | crucible (n : Nat) | context (qp : Nat) | pointer (pool : Nat)
  | host (length : Nat) | other
  deriving DecidableEq, Repr


/-- The commands and events of the block, in the order of the opcode table. A mailbox command carries the request it
answers and its parameters under R522; an event carries what arrives with it. -/
inductive Instr where
  -- chapter 02: the Gauge and the Weir
  | gaugeFrame (port : Nat) (payload : Bytes)
  | deviceSummarySend
  | summaryReceive (device : Nat) (lo hi : Gauge)
  | gaugePublish
  | gaugePublicationReceive (twin : Bool) (committed leading : Gauge) (fence : Nat)
  | gaugeTimeoutExpiry
  | gaugeConfig (r : Req) (jobTag maxJump timeout horizon lead : Nat)
  | gaugeRead (r : Req) (port : Nat)
  | gaugeSourceCtrl (r : Req) (port action mark step : Nat)
  | eventArm (r : Req) (kind mark step item ckptKind ckptFlags ckptDest ckptAddr : Nat)
  | eventCancel (r : Req) (handle : Nat)
  | weirArm (r : Req) (mark actions step gateList : Nat)
  | weirStatus (r : Req)
  | weirOpen (tOpen : Nat)
  | weirOpenTime
  | timebaseCorrectionSend
  | timebaseCorrectionReceive (count : Nat)
  -- chapter 03: buffer pools
  | poolAllocate (pool : Nat) (ready : List Nat)
  | bufferReturn (requester pointer : Nat)
  | bufferHandoff (pointer holder receiver : Nat)
  | poolCacheRefill (pool : Nat)
  | poolCacheSpill (pool : Nat)
  | poolCreate (r : Req) (pool space bufSize count base ringBase heldBase : Nat)
  | poolDestroy (r : Req) (pool : Nat)
  | poolQuotaSet (r : Req) (pool first : Nat) (quotas : List Nat)
  | poolRead (r : Req) (pool : Nat)
  -- chapter 04: the Reservoir
  | nandOpComplete (channel target : Nat) (op : NandOp) (pass : Bool)
  | nandOpTimeout (channel target : Nat) (op : NandOp)
  | stageProgram
  | journalCommit
  | journalSnapshot
  | relocationStart (superblock : Nat)
  | gcStart
  | wearLevelStart
  | readCountRefresh (superblock block : Nat)
  | slcFold (superblock : Nat)
  | dieRebuildComplete (stripeSet : Nat)
  | mediaPolicySet (r : Req) (policy : PolicyParams)
  | mediaPolicyGet (r : Req)
  | mediaHealth (r : Req)
  | mediaFormat (r : Req) (convSize spareReserve : Nat)
  -- chapter 05: storage queues
  | sqTail (qp value : Nat)
  | cqHead (qp value : Nat)
  | sqFetch
  | cqPost (qp : Nat)
  | coalTimeExpiry (vector : Nat)
  | read (qp : Nat) (e : SqEntry)
  | write (qp : Nat) (e : SqEntry)
  | zoneAppend (qp : Nat) (e : SqEntry)
  | zoneReset (qp : Nat) (e : SqEntry)
  | zoneFinish (qp : Nat) (e : SqEntry)
  | trim (qp : Nat) (e : SqEntry)
  | flush (qp : Nat) (e : SqEntry)
  | writeDurable
  | identify (qp : Nat) (e : SqEntry)
  | getLog (qp : Nat) (e : SqEntry)
  | getFeature (qp : Nat) (e : SqEntry)
  | setFeature (qp : Nat) (e : SqEntry)
  | fwDownload (qp : Nat) (e : SqEntry)
  | fwCommit (qp : Nat) (e : SqEntry)
  | createQueue (qp : Nat) (e : SqEntry)
  | deleteQueue (qp : Nat) (e : SqEntry)
  | resetQueue (qp : Nat) (e : SqEntry)
  | queueAdminSetup (r : Req) (depth sqBase cqBase : Nat)
  | queueAdminReset (r : Req)
  -- chapter 06: Ingots and the epoch plan
  | datasetLoad (r : Req) (source address length : Nat)
  | datasetUnload (r : Req) (dataset : Nat)
  | datasetRead (r : Req) (dataset : Nat)
  | catalogueBuild (r : Req) (dataset : Nat)
  | recipeLoad (r : Req) (source address length : Nat)
  | recipeDrop (r : Req) (recipe : Nat)
  | jobSeed (r : Req) (seed : Bytes)
  | planLoad (r : Req) (source address length : Nat)
  | planRead (r : Req)
  | planQuery (r : Req) (plan mode a b c : Nat)
  | planStart (r : Req) (plan recipe : Nat)
  | planStop (r : Req)
  | planDrop (r : Req) (plan : Nat)
  | stepPrepare
  | peerFetchRequest (qp : Nat)
  | peerFetchReply (qp : Nat)
  | recordArrival (sample : Nat)
  -- chapter 07: the Riffles
  | sampleDispatch (sample : Nat)
  | slotHeaderCheck (riffle slot : Nat)
  | slotAlloc (riffle slot : Nat)
  | decodeFieldEnd (riffle slot : Nat)
  | engineYield (riffle slot : Nat)
  | budgetExceeded (riffle slot : Nat)
  | transformDone (riffle slot : Nat)
  | sampleWatchdogExpiry (sample : Nat)
  | riffleEccError (riffle : Nat)
  | riffleStallTimeout (riffle slot : Nat)
  | reseqRelease (dest : Nat)
  | riffleStatus (r : Req) (riffle : Nat)
  | sampleReportRead (r : Req) (first count : Nat)
  -- chapter 08: the Drawplates
  | textStreamAssign (sample name : Nat)
  | textEncodeDone (plate stream : Nat)
  | synthStreamAssign
  | detokDone (plate stream : Nat)
  | drawplateEccError (plate : Nat)
  | drawplateStallTimeout (plate stream : Nat)
  | vocabLoad (r : Req) (source address length : Nat)
  | vocabDrop (r : Req) (vocab : Nat)
  | drawplateStatus (r : Req) (plate : Nat)
  | textProbe (r : Req) (recipe direction item output limit : Nat) (input : Bytes)
  -- chapter 09: the filters and the Anvil
  | sampleScreen (sample : Nat)
  | kernelBoundReached (ctx : Nat)
  | anvilRowTileSubmit (stage : Nat)
  | anvilRowTileTimeout (stage : Nat)
  | anvilJobComplete (queue : Nat)
  | anvilEccError
  | anvilTileTimeout
  | dupSetLoad (r : Req) (source address length : Nat)
  | dupSetDrop (r : Req) (set : Nat)
  | filterStatus (r : Req) (stage : Nat)
  | anvilStatus (r : Req)
  -- chapter 10: packing, the feed and the synthetic path
  | batchStart (dest : Nat)
  | batchClose (dest : Nat)
  | feedSlotWrite (dest : Nat)
  | creditRead (port : Nat)
  | ingotClose
  | feedRingSet (r : Req) (port qp baseVa rkey slots slotBytes tag : Nat)
  | feedRingClear (r : Req) (port : Nat)
  | feedQueueSet (r : Req) (dest depth low : Nat)
  | feedStatus (r : Req) (dest : Nat)
  | synthConfig (r : Req) (pool dataset nextRecord firstZone lastZone records bytes : Nat)
  | synthFlush (r : Req)
  | synthStatus (r : Req)
  -- chapters 11 and 12: formats and programs
  | formatTableRead (r : Req)
  | programLoad (r : Req) (program source address length : Nat)
  | programDrop (r : Req) (program : Nat)
  | programRead (r : Req) (program : Nat)
  | channelProgramSet (r : Req) (channel program : Nat)
  | insnBoundReached (ctx : Nat)
  -- chapter 13: Ngayx instructions, each on a program context
  | halt (ctx : Nat) (w : Fields)
  | br (ctx : Nat) (w : Fields)
  | brz (ctx : Nat) (w : Fields)
  | brnz (ctx : Nat) (w : Fields)
  | brany (ctx : Nat) (w : Fields)
  | brnone (ctx : Nat) (w : Fields)
  | brend (ctx : Nat) (w : Fields)
  | loop (ctx : Nat) (w : Fields)
  | stset (ctx : Nat) (w : Fields)
  | smovi (ctx : Nat) (w : Fields)
  | slui (ctx : Nat) (w : Fields)
  | sadd (ctx : Nat) (w : Fields)
  | saddi (ctx : Nat) (w : Fields)
  | ssub (ctx : Nat) (w : Fields)
  | smul (ctx : Nat) (w : Fields)
  | sand (ctx : Nat) (w : Fields)
  | sor (ctx : Nat) (w : Fields)
  | sxor (ctx : Nat) (w : Fields)
  | sshl (ctx : Nat) (w : Fields)
  | sshr (ctx : Nat) (w : Fields)
  | ssra (ctx : Nat) (w : Fields)
  | scmp (ctx : Nat) (w : Fields)
  | sget (ctx : Nat) (w : Fields)
  | sput (ctx : Nat) (w : Fields)
  | pand (ctx : Nat) (w : Fields)
  | por (ctx : Nat) (w : Fields)
  | pxor (ctx : Nat) (w : Fields)
  | pnot (ctx : Nat) (w : Fields)
  | pfirst (ctx : Nat) (w : Fields)
  | pcnt (ctx : Nat) (w : Fields)
  | vadd (ctx : Nat) (w : Fields)
  | vsub (ctx : Nat) (w : Fields)
  | vmul (ctx : Nat) (w : Fields)
  | vfma (ctx : Nat) (w : Fields)
  | vneg (ctx : Nat) (w : Fields)
  | vabs (ctx : Nat) (w : Fields)
  | vmin (ctx : Nat) (w : Fields)
  | vmax (ctx : Nat) (w : Fields)
  | vdot (ctx : Nat) (w : Fields)
  | vhsum (ctx : Nat) (w : Fields)
  | vcmp (ctx : Nat) (w : Fields)
  | vsel (ctx : Nat) (w : Fields)
  | vmov (ctx : Nat) (w : Fields)
  | vbcast (ctx : Nat) (w : Fields)
  | viota (ctx : Nat) (w : Fields)
  | vzero (ctx : Nat) (w : Fields)
  | vcvt (ctx : Nat) (w : Fields)
  | vqnt (ctx : Nat) (w : Fields)
  | vdqnt (ctx : Nat) (w : Fields)
  | vsort (ctx : Nat) (w : Fields)
  | vmerge (ctx : Nat) (w : Fields)
  | vgathc (ctx : Nat) (w : Fields)
  | vgaths (ctx : Nat) (w : Fields)
  | vldc (ctx : Nat) (w : Fields)
  | vstc (ctx : Nat) (w : Fields)
  | vcomp (ctx : Nat) (w : Fields)
  | vcrc (ctx : Nat) (w : Fields)
  | scrc (ctx : Nat) (w : Fields)
  | vrand (ctx : Nat) (w : Fields)
  | vld (ctx : Nat) (w : Fields)
  | vst (ctx : Nat) (w : Fields)
  | emitp (ctx : Nat) (w : Fields)
  | ssum (ctx : Nat) (w : Fields)
  -- chapter 14: collectives
  | launchDescriptor (qp : Nat)
  | launchTimeoutExpiry (launch : Nat)
  | voteReceive (qp : Nat)
  | nodeRun (launch chunk rank level node : Nat)
  | nodeRunEnd (ctx : Nat) (fate : NodeEnd)
  | partialReceive (data : CollData)
  | chunkCommit (launch chunk rank : Nat)
  | resultReceive (data : CollData)
  | launchRelease (launch : Nat)
  | channelConfig (r : Req) (channel weight timeout : Nat) (spec : Bytes)
  | channelRead (r : Req) (channel : Nat)
  | collPortSet (r : Req) (port qp : Nat)
  | residualCreate (r : Req) (store elems : Nat)
  | residualReset (r : Req) (store : Nat)
  | residualDrop (r : Req) (store : Nat)
  | treePlanSet (r : Req) (policy : Nat)
  | collectiveStatus (r : Req) (channel : Nat)
  -- chapter 15: determinism and checkpoints
  | detModeSet (r : Req) (mode : Nat)
  | detRecordRead (r : Req) (step : Nat)
  | detRecordSign (r : Req) (nonce : Bytes)
  | checkpointRead (r : Req)
  | checkpointResume (r : Req) (flags place address : Nat)
  | checkpointImageWrite (outcome : ImageWrite)
  | checkpointAckReceive (device crc length : Nat)
  -- chapter 16: the switch and its scheduler
  | frameReceive (port : Nat) (frame : Frame)
  | reseqArrival (ingress egress number : Nat) (eccError : Bool)
  | reseqHoldTimeout (egress : Nat)
  | egressSelect (port : Nat)
  | residueRetry (port : Nat)
  | auditPass (ownerless corrupt : List (Nat × Nat))
  | portLinkChange (port : Nat) (up : Bool)
  | portConfig (r : Req) (block : Nat) (entries : List PortEntry)
  | portStatus (r : Req) (port : Nat)
  | endpointSet (r : Req) (first : Nat) (entries : List Endpoint)
  | mcastGroupSet (r : Req) (group : Nat) (bitmap : BitVec 256)
  | classMapSet (r : Req) (port : Nat) (tables : ClassMap)
  | queueConfig (r : Req) (port queue : Nat) (params : QueueParams)
  | shaperSet (r : Req) (port queue rate burst overhead : Nat)
  | policerSet (r : Req) (policer : Nat) (params : PolicerParams)
  | gateListLoad (r : Req) (handle : Nat) (list : Bytes)
  | gateListDrop (r : Req) (handle : Nat)
  | switchStatus (r : Req)
  -- chapter 17: remote memory
  | rdmaPacketReceive (port : Nat) (packet : RdmaPacket)
  | contextFetchComplete (qp : Nat)
  | rdmaPacketSend (qp : Nat)
  | ackTimer (qp : Nat)
  | ackTimeout (qp : Nat)
  | rnrTimerExpiry (qp : Nat)
  | rdmaAddrSet (r : Req) (mac : Nat) (gids : List Nat)
  | rdmaStoreSet (r : Req) (store address : Nat)
  | qpCreate (r : Req) (index service pool domain pin : Nat)
  | qpModify (r : Req) (index : Nat) (attributes : Bytes)
  | qpQuery (r : Req) (index : Nat)
  | qpDestroy (r : Req) (index : Nat)
  | mrRegister (r : Req) (index address length vaBase domain access : Nat)
  | mrDeregister (r : Req) (index : Nat)
  | ccProfileSet (r : Req) (profile target ai beta cwndMin cwndMax cwndInit cnpEnable : Nat)
  | rdmaStatus (r : Req) (block : Nat)
  -- chapters 14 and 18: the management ring and the group
  | ringPieceReceive (p : Piece) (fcsOk : Bool)
  | ringPieceResend (channel seq : Nat)
  | distributionReceive (item : Item)
  | quorumAckReceive (device : Nat) (ack : Body)
  | helloSend
  | heartbeatSend
  | twinKeepaliveSend
  | formationRetry
  | formTimeoutExpiry
  | memberSilenceTimeout (device : Nat)
  | managerSilenceTimeout
  | ringLinkDown (out : Bool)
  | proxyBatchReceive (dest step : Nat) (last : Bool) (header payload : Bytes)
  | groupConfig (r : Req) (groupId side deviceId managerId twin expected formTimeout mgrTimeout twinLag : Nat)
  | groupForm (r : Req)
  | groupStatus (r : Req)
  | deviceAdmit (r : Req) (device : Nat)
  | deviceService (r : Req) (device action : Nat)
  | managerTakeover (r : Req)
  | managerRestore (r : Req)
  -- chapters 19 and 20: the Lockkeeper and the settings
  | answerTimeout (r : Req)
  | lkWatchdogExpiry
  | lkSramEccError (error : LkError)
  | mgmtRestartEnd (crcOk : Bool)
  | identityRead (r : Req)
  | mailboxStatus (r : Req) (mailbox : Nat)
  | unitMapRead (r : Req)
  | echo (r : Req) (data : Bytes)
  | configRead (r : Req) (copy offset length : Nat)
  | configWrite (r : Req) (image : Bytes)
  | calRead (r : Req) (layer field : Nat)
  | calWrite (r : Req) (field : Nat) (offset : Int)
  | ownerEnrol (r : Req) (record : Bytes)
  | ownerRevoke (r : Req) (revocation : Bytes)
  | attest (r : Req) (nonce : Bytes)
  | certRead (r : Req) (index : Nat)
  | fwImageWrite (r : Req) (offset : Nat) (data : Bytes)
  | fwImageCommit (r : Req) (action : Nat)
  | fwStatusRead (r : Req)
  | reset (r : Req) (scope target : Nat)
  | domainSet (r : Req) (domain action : Nat)
  | powerRead (r : Req)
  | throttleSet (r : Req) (limit : Nat)
  | logRead (r : Req) (log offset length : Nat)
  | counterRead (r : Req) (block first count : Nat)
  | telemetrySet (r : Req) (on interval destination place extent : Nat)
  | eventMaskSet (r : Req) (bitmap : Bytes)
  | sensorRead (r : Req) (index : Nat)
  | logClear (r : Req) (log : Nat)
  | norWriteComplete (pass : Bool)
  | retireRecordWrite
  | fwRestartBegin
  | fwWriteBackDone (pass : Bool)
  | probationEnd
  | fwSessionIdleTimeout
  -- chapter 21: the host link and device memory
  | hlResetReqCold
  | hlResetReqWarm
  | allocReq (block value : Nat)
  | returnReg (block value : Nat)
  | mbDoorbell (mailbox : Nat)
  | respReady (mailbox : Nat)
  | mb7Pop
  | registerWrite (offset size value : Nat)
  | hostMemAccess (address length : Nat) (data : Option Bytes)
  | ucieModuleLost (module : Nat)
  | lpddr6Ue (address : Nat) (reader : MemReader)
  -- chapter 22: reset, power domains and clocks
  | sysRstN (low : Bool)
  | powerOn
  | pllLockLoss (pll : Nat)
  | shadowParityError
  | poolPointerEcc (pool : Nat)
  | resetRelease (bootSrc clkMode : BitVec 2)
  | mgmtRegionRelease (norReadable : Bool)
  | rstOutNRelease
  | lpddr6TrainingDone (failed : List Nat) (found : List FoundDie)
  | journalRecoveryDone
  | configApply
  | blockResetRelease (target : Nat)
  | selfTestDone (target : Nat) (pass : Bool)
  | domainDrainDone (domain : Nat)
  | domainPowerGood (domain : Nat) (good : Bool)
  | domainPowerUpTimeout (domain : Nat)
  -- chapter 23: errors, logs and telemetry
  | d2dReplayFail (link : Nat)
  | d2dRetrainTimeout (link : Nat)
  | sensorSample (temperatures rails : List Int)
  | throttleEval (power : Nat) (domainPower : List Nat) (throttleLow : Bool)
  | telemetryEmit
  | ucieLinkTrained (modules : List Nat)
  | d2dRetrainDone (link : Nat)
  | lpddr6PatrolScrub (channel lines corrected : Nat)
  | maintenanceDatagram (source : Nat) (message : Bytes)
  | mboxDataScan (message : Bytes)
  deriving DecidableEq, Repr

end Sys2Proof
end

