-- ==== Sys2Proof/Decode.lean ====
section
/-! DEFINITION. What a word of the opcode table spells. The table gives no row of this hardware any bits: its commands reach the
block as register writes, messages and pin events, so no word spells a command. -/

namespace Sys2Proof

/-- The command that a word of so many bits spells by the opcode table's bits: the table gives none. -/
def decodeTableWord (_nbits _w : Nat) : Option Instr := none

end Sys2Proof
end

