-- ==== Sys2Proof/Config.lean ====
section
/-! DEFINITION. What the spec leaves open or defines by reference to a document outside it: opaque constants with no
body. A statement proved of the model holds whatever these are (log entries 4 and 5). -/

namespace Sys2Proof.Config

/-- Fresh free values: entry `n` is the value the `n`-th open choice of a run takes (R637 and every value the spec
leaves open). The state's counter `freeCtr` names the next entry. Log entry 4. -/
opaque freeNat : Nat → Nat

/-- Multi-plane blocks of a die of stripe sets 0 and 32 that the journal takes (R112, R641): no figure is given. -/
opaque journalBlocks : Nat

/-- The class of a character outside ASCII under the Unicode Character Database, version 15.1.0 (R236): 0 L, 1 N, 2 W,
3 O, taken mod 4. Log entry 5. -/
opaque unicodeClass : Nat → Nat

/-- What the samples of a decoded picture are (R206 step 1). -/
inductive PixelKind where
  | grey | greyAlpha | rgb | rgba | ycc | rgbJpeg | yuv | mono
  deriving DecidableEq, Repr, Inhabited

/-- A picture of native samples: planes at their own resolution, each as rows. -/
structure Picture where
  width : Nat
  height : Nat
  maxv : Nat
  kind : PixelKind
  planes : List (List (List Nat))
  deriving DecidableEq, Repr, Inhabited

/-- A clip of native samples: [sample][channel]; a float clip holds FP32 codes. -/
structure Clip where
  float : Bool
  bits : Nat
  /-- 8-bit WAV samples are offset by 128 (R212) -/
  offset : Bool
  samples : List (List Int)
  deriving DecidableEq, Repr, Inhabited

/-- What the header pre-pass reads of a field (R193). -/
structure MediaHeader where
  malformed : Bool
  unsupported : Bool
  undeclared : Bool
  width : Nat
  height : Nat
  /-- channels, after palette expansion for PNG -/
  channels : Nat
  /-- bytes of a sample, of the container for audio -/
  sampleBytes : Nat
  /-- JPEG: (horizontal, vertical) sampling factor of each component -/
  sampling : List (Nat × Nat)
  /-- PNG: bits of a pixel as stored, and interlaced -/
  pixelBits : Nat
  interlaced : Bool
  /-- AV1: for each temporal unit, whether it begins with a shown key frame, its shown frames, and its frame headers
  without show_existing_frame -/
  units : List (Bool × Nat × Nat)
  monochrome : Bool
  /-- audio samples per channel, and rate -/
  samples : Nat
  rate : Nat
  /-- declared size of a wrapped field -/
  declared : Option Nat
  deriving DecidableEq, Repr, Inhabited

/-- A decode of a field (R189, R194): the budget units it counts one step after another, the error it meets, what it
produced. -/
structure DecodeRun where
  steps : List Nat
  /-- 220, 221 or 222 and its DETAIL -/
  fault : Option (Nat × Nat)
  produced : Nat
  /-- data follows the end of the stream -/
  tail : Bool
  pictures : List Picture
  clip : Clip
  bytes : List Byte
  deriving DecidableEq, Repr, Inhabited

/-- The header pre-pass of a field by TYPE, CODEC and payload: the formats of R189 are defined by documents outside the
spec. Log entry 5. -/
opaque mediaHeader : Nat → Nat → List Byte → MediaHeader

/-- The decode of a field by TYPE, CODEC, payload and, for video, the selected frame indices. Log entry 5. -/
opaque decodeRun : Nat → Nat → List Byte → List Nat → DecodeRun

/-- GRAY of a JPEG whose components are R, G and B (Adobe transform 0), which has no Y component (R208): the spec states
no value. Log entry 4. -/
opaque jpegRgbGrey : Nat → Nat → Nat → Nat

/-- ECDSA P-256 verification of a signature (r then s) over a digest under a 64-byte public key (R549). Log entry 5. -/
opaque ecdsaVerify : List Byte → List Byte → List Byte → Bool

/-- The ECDSA P-256 signature, r then s, of a private key over a digest (R428, R549, R553), for one choice of the random number
that FIPS 186-5 has the signer make; its low 512 bits are used. Log entry 5. -/
opaque ecdsaSign : Nat → Nat → List Byte → Nat

/-- Another member's device (by side and ID) has an accelerator port of a logical number (R167). Log entry 5. -/
opaque memberPort : Nat → Nat → Nat → Bool

/-- The buffer pool an internal stage's requester ID takes its buffers from (R87 names the requester IDs and no pool).
Log entry 30. -/
opaque stagePool : Nat → Nat

/-- The NAND channel that holds a logical block of zoned extent space (R87, R100). Log entry 30. -/
opaque readChannel : Nat → Nat

/-- The 64 bytes are a point of the P-256 curve (R549, R551). Log entry 5. -/
opaque onCurve : List Byte → Bool

/-- The entries of the factory default configuration, held in the firmware image (R541): its contents are not given. Log
entry 5. -/
opaque factoryEntries : List Byte

/-- The certificate of index 1 or 2 in a firmware image (R550): its place in the image is not given. Log entry 5. -/
opaque imageCert : List Byte → Nat → List Byte

/-- The 256 KiB of ROM, as ROM_MEASUREMENT measures them (R553): their contents are not given; the low 256 bits are used. Log
entry 5. -/
opaque romMeasurement : Nat

/-- RNR_TIMER of firmware's own queue pairs, which R498 does not fix. Log entry 4. -/
opaque firmwareRnr : Nat

end Sys2Proof.Config
end

