-- ==== Sys2Proof/Machine/Digest.lean ====
section
/-! DEFINITION. Little-endian fields (R11, R12), CRC-32C (R154), SHA-256 (FIPS 180-4, which the spec's digests use) and
serial-number comparison (R72), on natural numbers so that the kernel can evaluate them. -/

namespace Sys2Proof.Machine

/-- A byte list read as a little-endian number (R11, R12). -/
def leNat : Bytes → Nat
  | [] => 0
  | b :: bs => b.toNat + 256 * leNat bs

/-- The low `n` bytes of a number, little-endian (R12). -/
def natLe : Nat → Nat → Bytes
  | 0, _ => []
  | n + 1, v => BitVec.ofNat 8 v :: natLe n (v / 256)

/-- A byte list read as a big-endian number (network byte order, R12). -/
def beNat (bs : Bytes) : Nat := leNat bs.reverse

/-- The low `n` bytes of a number, big-endian. -/
def natBe (n v : Nat) : Bytes := (natLe n v).reverse

/-- `n` bytes from offset `o`; bytes beyond the end read 0. -/
def sliceAt (bs : Bytes) (o n : Nat) : Bytes :=
  let t := (bs.drop o).take n
  t ++ List.replicate (n - t.length) 0

/-- The little-endian field of `n` bytes at offset `o` (R20). -/
def fieldAt (bs : Bytes) (o n : Nat) : Nat := leNat ((bs.drop o).take n)

/-- Bits [hi:lo] of a number (R25). -/
def bitsOf (v hi lo : Nat) : Nat := v / 2 ^ lo % 2 ^ (hi - lo + 1)

/-- Bit `n` of a number (R11). -/
def bitOf (v n : Nat) : Bool := v / 2 ^ n % 2 = 1

/-- Every byte of offsets `o` to `o + n - 1` is zero (R13, R14). -/
def zeroAt (bs : Bytes) (o n : Nat) : Bool := ((bs.drop o).take n).all (· = 0)

/-- The four outcomes of a serial-number comparison (R72). -/
inductive Serial where
  | equal | after | before | outside
  deriving DecidableEq, Repr

/-- serial_cmp(a, b, n) of R72. -/
def serialCmp (a b n : Nat) : Serial :=
  let m := 2 ^ n
  let d := (a % m + m - b % m) % m
  if d = 0 then .equal
  else if d < 2 ^ (n - 1) then .after
  else if d > 2 ^ (n - 1) then .before
  else .outside

/-- One bit step of CRC-32C: reflected polynomial 0x82F63B78 (R154). -/
def crcStep : Nat → Nat → Nat
  | 0, c => c
  | n + 1, c => crcStep n (if c % 2 = 1 then (c / 2) ^^^ 0x82F63B78 else c / 2)

/-- CRC-32C over bytes, continuing from a register value. -/
def crcBytes (c : Nat) : Bytes → Nat
  | [] => c
  | b :: bs => crcBytes (crcStep 8 (c ^^^ b.toNat)) bs

/-- CRC-32C (R154): initial value and final exclusive-or all ones. -/
def crc32c (bs : Bytes) : Nat := crcBytes 0xFFFFFFFF bs ^^^ 0xFFFFFFFF

/-- Rotate a 32-bit value right. -/
def rotr32 (x k : Nat) : Nat := (x / 2 ^ k + x * 2 ^ (32 - k)) % 2 ^ 32

/-- rotl32 of R25. -/
def rotl32 (x k : Nat) : Nat := (x * 2 ^ k + x / 2 ^ (32 - k)) % 2 ^ 32

/-- The SHA-256 round constants, first half. -/
def shaK1 : List Nat := [
  0x428a2f98, 0x71374491, 0xb5c0fbcf, 0xe9b5dba5, 0x3956c25b, 0x59f111f1, 0x923f82a4, 0xab1c5ed5,
  0xd807aa98, 0x12835b01, 0x243185be, 0x550c7dc3, 0x72be5d74, 0x80deb1fe, 0x9bdc06a7, 0xc19bf174,
  0xe49b69c1, 0xefbe4786, 0x0fc19dc6, 0x240ca1cc, 0x2de92c6f, 0x4a7484aa, 0x5cb0a9dc, 0x76f988da,
  0x983e5152, 0xa831c66d, 0xb00327c8, 0xbf597fc7, 0xc6e00bf3, 0xd5a79147, 0x06ca6351, 0x14292967]

/-- The SHA-256 round constants, second half. -/
def shaK2 : List Nat := [
  0x27b70a85, 0x2e1b2138, 0x4d2c6dfc, 0x53380d13, 0x650a7354, 0x766a0abb, 0x81c2c92e, 0x92722c85,
  0xa2bfe8a1, 0xa81a664b, 0xc24b8b70, 0xc76c51a3, 0xd192e819, 0xd6990624, 0xf40e3585, 0x106aa070,
  0x19a4c116, 0x1e376c08, 0x2748774c, 0x34b0bcb5, 0x391c0cb3, 0x4ed8aa4a, 0x5b9cca4f, 0x682e6ff3,
  0x748f82ee, 0x78a5636f, 0x84c87814, 0x8cc70208, 0x90befffa, 0xa4506ceb, 0xbef9a3f7, 0xc67178f2]

/-- The working variables of SHA-256. -/
structure Sha where
  a : Nat
  b : Nat
  c : Nat
  d : Nat
  e : Nat
  f : Nat
  g : Nat
  h : Nat
  deriving DecidableEq, Repr

/-- The initial hash value of SHA-256. -/
def shaInit : Sha :=
  ⟨0x6a09e667, 0xbb67ae85, 0x3c6ef372, 0xa54ff53a, 0x510e527f, 0x9b05688c, 0x1f83d9ab, 0x5be0cd19⟩

/-- The next word of the message schedule from the last 16, oldest first. -/
def shaNext (w : List Nat) : Nat :=
  let w1 := w.getD 1 0
  let w14 := w.getD 14 0
  let s0 := (rotr32 w1 7) ^^^ (rotr32 w1 18) ^^^ (w1 / 8)
  let s1 := (rotr32 w14 17) ^^^ (rotr32 w14 19) ^^^ (w14 / 1024)
  (w.getD 0 0 + s0 + w.getD 9 0 + s1) % 2 ^ 32

/-- One round of SHA-256 with round constant `k` and word `w`. -/
def shaRound (x : Sha) (k w : Nat) : Sha :=
  let s1 := (rotr32 x.e 6) ^^^ (rotr32 x.e 11) ^^^ (rotr32 x.e 25)
  let ch := (x.e &&& x.f) ^^^ ((2 ^ 32 - 1 - x.e) &&& x.g)
  let t1 := x.h + s1 + ch + k + w
  let s0 := (rotr32 x.a 2) ^^^ (rotr32 x.a 13) ^^^ (rotr32 x.a 22)
  let mj := (x.a &&& x.b) ^^^ (x.a &&& x.c) ^^^ (x.b &&& x.c)
  ⟨(t1 + s0 + mj) % 2 ^ 32, x.a, x.b, x.c, (x.d + t1) % 2 ^ 32, x.e, x.f, x.g⟩

/-- The rounds of one block: the schedule is a window of 16 words. -/
def shaRounds : List Nat → List Nat → Sha → Sha
  | [], _, x => x
  | k :: ks, w, x => shaRounds ks (w.drop 1 ++ [shaNext w]) (shaRound x k (w.getD 0 0))

/-- The compression of one 16-word block. -/
def shaBlock (x : Sha) (w : List Nat) : Sha :=
  let y := shaRounds (shaK1 ++ shaK2) w x
  let m := 2 ^ 32
  ⟨(x.a + y.a) % m, (x.b + y.b) % m, (x.c + y.c) % m, (x.d + y.d) % m,
   (x.e + y.e) % m, (x.f + y.f) % m, (x.g + y.g) % m, (x.h + y.h) % m⟩

/-- Sixteen big-endian words from the front of a byte list. -/
def shaWords : Nat → Bytes → List Nat
  | 0, _ => []
  | n + 1, bs => beNat (bs.take 4) :: shaWords n (bs.drop 4)

/-- The blocks of a padded message, by fuel. -/
def shaBlocks : Nat → Bytes → Sha → Sha
  | 0, _, x => x
  | n + 1, bs, x => shaBlocks n (bs.drop 64) (shaBlock x (shaWords 16 bs))

/-- SHA-256 of a byte list. -/
def sha256 (bs : Bytes) : Bytes :=
  let l := bs.length
  let padded := bs ++ [0x80] ++ List.replicate ((119 - l % 64) % 64) 0 ++ natBe 8 (8 * l)
  let x := shaBlocks (padded.length / 64) padded shaInit
  natBe 4 x.a ++ natBe 4 x.b ++ natBe 4 x.c ++ natBe 4 x.d
    ++ natBe 4 x.e ++ natBe 4 x.f ++ natBe 4 x.g ++ natBe 4 x.h

/-- HMAC-SHA-256 with a key of at most 64 bytes (R550). -/
def hmacSha256 (key msg : Bytes) : Bytes :=
  let k := key ++ List.replicate (64 - key.length) 0
  sha256 (k.map (· ^^^ 0x5C) ++ sha256 (k.map (· ^^^ 0x36) ++ msg))

/-- The order n of P-256. -/
def p256Order : Nat := 0xFFFFFFFF00000000FFFFFFFFFFFFFFFFBCE6FAADA7179E84F3B9CAC2FC632551

/-- The 17 bytes "LX-FT960 identity" of R550. -/
def identityLabel : Bytes :=
  [0x4C, 0x58, 0x2D, 0x46, 0x54, 0x39, 0x36, 0x30, 0x20, 0x69, 0x64, 0x65, 0x6E, 0x74, 0x69, 0x74, 0x79]

/-- The identity private key d, derived from the seed and DEVICE_UID (R550; log entry 5 for the byte order of int). -/
def identityKey (seed : Bytes) (uid : Nat) : Nat := beNat (hmacSha256 seed (identityLabel ++ natLe 8 uid)) % (p256Order - 1) + 1

end Sys2Proof.Machine
end

