-- ==== Sys2Proof/Machine/Numbers.lean ====
section
/-! DEFINITION. Number formats, rounding, blocks, tree-node sums and the counter generator (chapter 11). Every finite
value is exact: an integer times a power of two. -/

namespace Sys2Proof.Machine

/-! ### Formats (R309, R311, R335, R638) -/

/-- The formats of R309. -/
inductive Fmt where
  | fp32 | bf16 | fp16 | e4m3 | e5m2 | int32 | int8 | int4 | b4 | b4i | b8 | t2
  deriving DecidableEq, Repr

/-- The code of a format (R309). -/
def Fmt.code : Fmt → Nat
  | .fp32 => 0x01 | .bf16 => 0x02 | .fp16 => 0x03 | .e4m3 => 0x04 | .e5m2 => 0x05
  | .int32 => 0x08 | .int8 => 0x09 | .int4 => 0x0A
  | .b4 => 0x10 | .b4i => 0x11 | .b8 => 0x12 | .t2 => 0x13

/-- The format of a code; other codes are reserved (R309). -/
def fmtOf : Nat → Option Fmt
  | 0x01 => some .fp32 | 0x02 => some .bf16 | 0x03 => some .fp16 | 0x04 => some .e4m3 | 0x05 => some .e5m2
  | 0x08 => some .int32 | 0x09 => some .int8 | 0x0A => some .int4
  | 0x10 => some .b4 | 0x11 => some .b4i | 0x12 => some .b8 | 0x13 => some .t2
  | _ => none

/-- The three format sets of R361. -/
inductive FmtClass where
  | flt | int | blk
  deriving DecidableEq, Repr

/-- The class of a format (R309). -/
def Fmt.cls : Fmt → FmtClass
  | .fp32 | .bf16 | .fp16 | .e4m3 | .e5m2 => .flt
  | .int32 | .int8 | .int4 => .int
  | .b4 | .b4i | .b8 | .t2 => .blk

/-- Bits of one element: of a scalar, or of a block's element (R309, R310). -/
def Fmt.bits : Fmt → Nat
  | .fp32 | .int32 => 32
  | .bf16 | .fp16 => 16
  | .e4m3 | .e5m2 | .int8 | .b8 => 8
  | .int4 | .b4 | .b4i => 4
  | .t2 => 2

/-- Significand bits, bias, largest finite code, infinities (R309): of floats and of float block elements. -/
structure FloatSpec where
  mant : Nat
  bias : Nat
  maxCode : Nat
  hasInf : Bool
  deriving DecidableEq, Repr

/-- The float parameters of a format, none for integer grids. -/
def Fmt.float : Fmt → Option FloatSpec
  | .fp32 => some ⟨23, 127, 0x7F7FFFFF, true⟩
  | .bf16 => some ⟨7, 127, 0x7F7F, true⟩
  | .fp16 => some ⟨10, 15, 0x7BFF, true⟩
  | .e4m3 | .b8 => some ⟨3, 7, 0x7E, false⟩
  | .e5m2 => some ⟨2, 15, 0x7B, true⟩
  | .b4 => some ⟨1, 1, 7, false⟩
  | _ => none

/-- The canonical NaN of a float format (R311). -/
def Fmt.nan : Fmt → Nat
  | .fp32 => 0x7FC00000 | .bf16 => 0x7FC0 | .fp16 => 0x7E00 | .e4m3 | .b8 => 0x7F | .e5m2 => 0x7E
  | _ => 0

/-- One 16-byte entry of the format table (R335). -/
def formatEntry (code cls ebits mant bias flags ef unit bits nan : Nat) : Bytes :=
  natLe 1 code ++ natLe 1 cls ++ natLe 1 ebits ++ natLe 1 mant ++ natLe 1 bias ++ natLe 1 flags ++ natLe 1 ef
    ++ natLe 1 unit ++ natLe 2 bits ++ [0, 0] ++ natLe 4 nan

/-- The 192 bytes of the format table (R335, R638). -/
def numberFormats : Bytes :=
  formatEntry 0x01 0 8 23 127 7 0 1 32 0x7FC00000 ++ formatEntry 0x02 0 8 7 127 7 0 1 16 0x7FC0
    ++ formatEntry 0x03 0 5 10 15 7 0 1 16 0x7E00 ++ formatEntry 0x04 0 4 3 7 6 0 1 8 0x7F
    ++ formatEntry 0x05 0 5 2 15 7 0 1 8 0x7E ++ formatEntry 0x08 1 0 32 0 0 0 1 32 0xFFFFFFFF
    ++ formatEntry 0x09 1 0 8 0 0 0 1 8 0xFFFFFFFF ++ formatEntry 0x0A 1 0 4 0 0 0 1 4 0xFFFFFFFF
    ++ formatEntry 0x10 2 2 1 1 6 2 32 136 0xFF ++ formatEntry 0x11 2 0 4 0 2 2 32 136 0xFF
    ++ formatEntry 0x12 2 4 3 7 6 8 32 264 0xFF ++ formatEntry 0x13 2 0 2 0 2 0 32 72 0xFF

/-! ### Exact values -/

/-- An exact value m x 2^e. -/
structure Exact where
  m : Int
  e : Int
  deriving DecidableEq, Repr

/-- An integer as an exact value. -/
def Exact.ofInt (n : Int) : Exact := ⟨n, 0⟩

/-- m x 2^(e - lo), for a `lo` at or below e. -/
def Exact.at (x : Exact) (lo : Int) : Int := x.m * 2 ^ (x.e - lo).toNat

/-- Exact sum. -/
def Exact.add (x y : Exact) : Exact :=
  let lo := min x.e y.e
  ⟨x.at lo + y.at lo, lo⟩

/-- Exact negation, difference, product, magnitude. -/
def Exact.neg (x : Exact) : Exact := ⟨-x.m, x.e⟩
def Exact.sub (x y : Exact) : Exact := x.add y.neg
def Exact.mul (x y : Exact) : Exact := ⟨x.m * y.m, x.e + y.e⟩
def Exact.abs (x : Exact) : Exact := ⟨x.m.natAbs, x.e⟩

/-- Exact order. -/
def Exact.lt (x y : Exact) : Bool :=
  let lo := min x.e y.e
  decide (x.at lo < y.at lo)

/-- Exact equality of values. -/
def Exact.eq (x y : Exact) : Bool := !(x.lt y) && !(y.lt x)

/-- Times a power of two. -/
def Exact.scale (x : Exact) (k : Int) : Exact := ⟨x.m, x.e + k⟩

/-- floor(log2 |x|) of a value that is not 0. -/
def Exact.log2 (x : Exact) : Int := (Nat.log2 x.m.natAbs : Nat) + x.e

/-- A value of a scalar element or a block element: NaN, an infinity, or an exact value with the sign of its zero. -/
inductive Val where
  | nan
  | inf (neg : Bool)
  | fin (neg : Bool) (x : Exact)
  deriving DecidableEq, Repr

/-- A value that is an exact number, +0 when it is 0. -/
def Val.of (x : Exact) : Val := .fin (decide (x.m < 0)) x

/-- An integer value. -/
def Val.ofInt (n : Int) : Val := Val.of ⟨n, 0⟩

/-! ### Decoding elements (R309 to R312) -/

/-- Two's complement of `w` bits. -/
def signedOf (w v : Nat) : Int := if v % 2 ^ w < 2 ^ (w - 1) then (v % 2 ^ w : Nat) else (v % 2 ^ w : Nat) - (2 ^ w : Nat)

/-- The low `w` bits of an integer. -/
def wrapTo (w : Nat) (n : Int) : Nat := (n % (2 ^ w : Nat)).toNat

/-- The finite value of a float code below the exponent of infinities and NaNs. -/
def floatValue (f : FloatSpec) (w code : Nat) : Val :=
  let neg := decide (2 ^ (w - 1) ≤ code)
  let c := code % 2 ^ (w - 1)
  let ex := c / 2 ^ f.mant
  let fr := c % 2 ^ f.mant
  let x : Exact := if ex = 0 then ⟨fr, 1 - (f.bias : Int) - f.mant⟩
    else ⟨(2 ^ f.mant + fr : Nat), (ex : Int) - f.bias - f.mant⟩
  .fin neg (if neg then x.neg else x)

/-- The value of an element code (R309, R312); a reserved T2 code reads as 0. -/
def Fmt.value (f : Fmt) (code : Nat) : Val :=
  match f.float with
  | some g =>
    let c := code % 2 ^ (f.bits - 1)
    if f = .b4 ∧ c = 0 then Val.ofInt 0
    else if c ≤ g.maxCode then floatValue g f.bits code
    else if g.hasInf ∧ c = g.maxCode + 1 then .inf (decide (2 ^ (f.bits - 1) ≤ code))
    else .nan
  | none =>
    if f = .t2 then Val.ofInt (if code % 4 = 1 then 1 else if code % 4 = 3 then -1 else 0)
    else Val.ofInt (signedOf f.bits code)

/-! ### Rounding (R315 to R317) -/

/-- Rounding modes (R315). -/
inductive Rm where
  | rne | rtz | sr
  deriving DecidableEq, Repr

/-- The mode of a code; 3 is reserved (R315). -/
def rmOf : Nat → Option Rm
  | 0 => some .rne | 1 => some .rtz | 2 => some .sr | _ => none

/-- Round m / 2^k to an integer (R316): `u` is the draw of SR. -/
def roundShift (r : Rm) (u m k : Nat) : Nat :=
  let d := 2 ^ k
  let lo := m / d
  let rem := m % d
  if rem = 0 then lo
  else match r with
    | .rne => if 2 * rem < d then lo else if d < 2 * rem then lo + 1 else if lo % 2 = 0 then lo else lo + 1
    | .rtz => lo
    | .sr => if d * (2 ^ 32 - u) ≤ rem * 2 ^ 32 then lo + 1 else lo

/-- The exponent of the spacing of a format's grid at a magnitude that is not 0. -/
def Fmt.quantum (f : Fmt) (x : Exact) : Int :=
  match f.float with
  | some g => max x.log2 (1 - (g.bias : Int)) - g.mant
  | none => 0

/-- Round a magnitude to the grid of a format, extended past its largest finite value (R316). -/
def Fmt.roundMag (f : Fmt) (r : Rm) (u : Nat) (x : Exact) : Exact :=
  if x.m = 0 then ⟨0, 0⟩
  else
    let q := f.quantum x
    if q ≤ x.e then x.abs
    else ⟨roundShift r u x.m.natAbs (q - x.e).toNat, q⟩

/-- The largest finite magnitude of a format, or of a block's elements (emax of R318). -/
def Fmt.maxMag (f : Fmt) : Exact :=
  match f.float with
  | some g => match floatValue g 64 g.maxCode with
    | .fin _ x => x
    | _ => ⟨0, 0⟩
  | none => match f with
    | .int32 => ⟨2147483647, 0⟩
    | .int8 => ⟨127, 0⟩
    | .t2 => ⟨1, 0⟩
    | _ => ⟨7, 0⟩

/-- The code of a magnitude that lies on a float format's grid. -/
def floatCode (g : FloatSpec) (x : Exact) : Nat :=
  if x.m = 0 then 0
  else
    let ex := max x.log2 (1 - (g.bias : Int))
    let sig := if ex - g.mant ≤ x.e then x.m.natAbs * 2 ^ (x.e - (ex - g.mant)).toNat
      else x.m.natAbs / 2 ^ ((ex - g.mant) - x.e).toNat
    if sig < 2 ^ g.mant then sig else (ex + g.bias).toNat * 2 ^ g.mant + (sig - 2 ^ g.mant)

/-- Numeric flags (R327). -/
def fSat : Nat := 1
def fEscape : Nat := 2
def fNanScale : Nat := 4
def fNanElem : Nat := 8
def fInfSat : Nat := 16
def fBump : Nat := 32
def fBadCode : Nat := 64

/-- Round a value into a scalar format (R316, R317): the element's bits and the flags. -/
def Fmt.round (f : Fmt) (r : Rm) (u : Nat) (v : Val) : Nat × Nat :=
  let sign (neg : Bool) : Nat := if neg then 2 ^ (f.bits - 1) else 0
  match f.float with
  | some g =>
    match v with
    | .nan => (f.nan, 0)
    | .inf neg => if g.hasInf then (g.maxCode + 1 + sign neg, 0) else (g.maxCode + sign neg, fInfSat ||| fSat)
    | .fin neg x =>
      let y := f.roundMag r u x.abs
      if f.maxMag.lt y then
        if g.hasInf then (if r = .rtz then (g.maxCode + sign neg, 0) else (g.maxCode + 1 + sign neg, 0))
        else (g.maxCode + sign neg, fSat)
      else (floatCode g y + sign neg, 0)
  | none =>
    let lo : Int := -(2 ^ (f.bits - 1) : Nat)
    let hi : Int := (2 ^ (f.bits - 1) : Nat) - 1
    match v with
    | .nan => (0, fNanElem)
    | .inf neg => (wrapTo f.bits (if neg then lo else hi), fInfSat ||| fSat)
    | .fin neg x =>
      let y := f.roundMag r u x.abs
      let n : Int := if neg then -(y.at (min 0 y.e)) else y.at (min 0 y.e)
      if n < lo then (wrapTo f.bits lo, fSat)
      else if hi < n then (wrapTo f.bits hi, fSat)
      else (wrapTo f.bits n, 0)

/-! ### Blocks (R312 to R314, R318) -/

/-- A block: its tag, its scale and its 32 element codes. `wide` marks elements held as E4M3 codes though the tag has no
ESCAPE (R365). -/
structure Block where
  tag : Nat
  scale : Nat
  elems : List Nat
  deriving DecidableEq, Repr

/-- The tag of an unescaped block of a declared format (R314). -/
def Fmt.tag (f : Fmt) : Nat := f.code - 0x10

/-- A tag is well formed in a stream of a declared format (R314). -/
def tagOk (f : Fmt) (tag : Nat) : Bool :=
  decide (tag < 16) && ((decide (tag % 4 = f.tag) && decide (tag / 4 % 2 = 0))
    || (decide (tag % 4 = 2) && decide (tag / 4 % 2 = 1) && decide (f ≠ .b8)))

/-- The format the elements of a block are read in: B8 when it has escaped. -/
def Block.elemFmt (b : Block) (f : Fmt) : Fmt := if b.tag / 4 % 2 = 1 then .b8 else f

/-- A block of zeros under a declared format's tag (R318, R342). -/
def zeroBlock (f : Fmt) : Block := ⟨f.tag, 0, List.replicate 32 0⟩

/-- A non-finite block (R318, R320). -/
def nanBlock (f : Fmt) : Block := ⟨f.tag, 0xFF, List.replicate 32 0⟩

/-- Read a block of a declared format (R312, R314, R364): 32 values, or none for a non-finite block, and the flags. -/
def readBlock (f g : Fmt) (b : Block) : Option (List Val) × Nat :=
  if !tagOk f b.tag then (none, fBadCode ||| fNanScale)
  else if b.scale = 0xFF then (none, fNanScale)
  else
    let bad := decide (g = .t2) && b.elems.any (fun c => decide (c % 4 = 2))
    let k : Int := (b.scale : Int) - 127
    let one (c : Nat) : Val := match g.value c with
      | .fin n x => .fin n (x.scale k)
      | v => v
    let vs := b.elems.map one
    (some vs, (if bad then fBadCode else 0) ||| (if vs.contains .nan then fNanElem else 0))

/-- ef of R318. -/
def Fmt.ef : Fmt → Int
  | .b4 | .b4i => 2
  | .b8 => 8
  | _ => 0

/-- The code of an element magnitude on the grid, with its sign; never -0 (R316). -/
def Fmt.elemCode (f : Fmt) (neg : Bool) (x : Exact) : Nat :=
  if x.m = 0 then 0
  else match f.float with
    | some g => floatCode g x + (if neg then 2 ^ (f.bits - 1) else 0)
    | none =>
      let n : Int := x.at (min 0 x.e)
      wrapTo f.bits (if neg then -n else n)

/-- What a quantisation gives: the block, its flags, and what R328 counts. -/
structure Quantised where
  block : Block
  flags : Nat := 0
  sats : Nat := 0
  bumps : Nat := 0
  deriving DecidableEq, Repr

/-- One scaled element rounded to the element grid: none is an infinity. -/
def roundElem (f : Fmt) (r : Rm) (s : Nat) (u : Nat) : Val → Option (Bool × Exact)
  | .fin n x => some (n, f.roundMag r u (x.scale (127 - (s : Int))).abs)
  | _ => none

/-- Round all 32 elements at a scale. -/
def roundAll (f : Fmt) (r : Rm) (s : Nat) (vs : List Val) (us : List Nat) : List (Option (Bool × Exact)) :=
  vs.mapIdx (fun i v => roundElem f r s (us.getD i 0) v)

/-- An element passed emax. -/
def passed (f : Fmt) : Option (Bool × Exact) → Bool
  | none => true
  | some (_, x) => f.maxMag.lt x

/-- quantise of R318, over values with no NaN or with one: the block is non-finite then. -/
def quantise (f : Fmt) (r : Rm) (vs : List Val) (us : List Nat) : Quantised :=
  if vs.contains .nan then { block := nanBlock f, flags := fNanScale }
  else
    let isInf (v : Val) : Bool := match v with | .inf _ => true | _ => false
    let anyInf := vs.any isInf
    let mag (v : Val) : Exact := match v with | .fin _ x => x.abs | _ => ⟨0, 0⟩
    let a := (vs.map mag).foldl (fun m x => if m.lt x then x else m) (⟨0, 0⟩ : Exact)
    if !anyInf && decide (a.m = 0) then { block := zeroBlock f }
    else
      let s0 : Int := if anyInf then 254 else min 254 (max 0 (127 + a.log2 - f.ef))
      let s := s0.toNat
      let q := roundAll f r s vs us
      let bump := q.any (passed f) && decide (s < 254)
      let s := if bump then s + 1 else s
      let q := if bump then roundAll f r s vs us else q
      let sats := (q.filter (passed f)).length
      let neg (v : Val) : Bool := match v with | .inf n => n | .fin n _ => n | .nan => false
      let code (i : Nat) (x : Option (Bool × Exact)) : Nat :=
        if passed f x then f.elemCode (neg (vs.getD i .nan)) f.maxMag
        else match x with
          | some (n, y) => f.elemCode n y
          | none => 0
      { block := ⟨f.tag + (if sats = 0 then 0 else 8), s, q.mapIdx code⟩,
        flags := (if sats = 0 then 0 else fSat) ||| (if bump then fBump else 0) ||| (if anyInf then fInfSat else 0),
        sats := sats, bumps := bump.toNat }

/-- The value a quantised element stands for. -/
def quantValue (f : Fmt) (b : Block) (i : Nat) : Exact :=
  match f.value (b.elems.getD i 0) with
  | .fin _ x => x.scale ((b.scale : Int) - 127)
  | _ => ⟨0, 0⟩

/-- The escape test of R321 on the block that R318 produced. -/
def escapes (f : Fmt) (bound : Nat) (vs : List Val) (b : Block) : Bool :=
  let x (v : Val) : Exact := match v with | .fin _ y => y | _ => ⟨0, 0⟩
  let isFin (v : Val) : Bool := match v with | .fin _ _ => true | _ => false
  let a := (vs.map (fun v => (x v).abs)).foldl (fun m y => if m.lt y then y else m) (⟨0, 0⟩ : Exact)
  decide (0 < bound) && decide (f ≠ .b8) && vs.all isFin && decide (a.m ≠ 0)
    && (List.range 32).any (fun i =>
      ((Exact.ofInt bound).mul a).lt ((((x (vs.getD i .nan)).sub (quantValue f b i)).abs).scale 16))

/-- Quantise with the escape test (R318, R321): an escaping block is emitted as B8 with ELEM 2 and ESCAPE, and only that
quantisation is flagged and counted. -/
def emit (f : Fmt) (r : Rm) (bound : Nat) (vs : List Val) (us : List Nat) : Quantised :=
  let q := quantise f r vs us
  if escapes f bound vs q.block then
    let w := quantise .b8 r vs us
    { w with block := { w.block with tag := w.block.tag + 4 }, flags := w.flags ||| fEscape }
  else q

/-- Blocks that escaped among those emitted. -/
def Quantised.escaped (q : Quantised) : Nat := if q.block.tag / 4 % 2 = 1 then 1 else 0

/-- Exact sum of values at a node (R320, R322, R374): NaN wins; opposite infinities are invalid. Returns the value and
NAN_ELEM where one was read or made. -/
def addVal : Val → Val → Val
  | .nan, _ => .nan
  | _, .nan => .nan
  | .inf a, .inf b => if a = b then .inf a else .nan
  | .inf a, _ => .inf a
  | _, .inf b => .inf b
  | .fin a x, .fin b y =>
    let z := x.add y
    if z.m = 0 then .fin (decide (x.m = 0) && decide (y.m = 0) && a && b) z else .fin (decide (z.m < 0)) z

/-- Sum of a list of values, from its first. -/
def sumVals : List Val → Val
  | [] => Val.ofInt 0
  | v :: vs => vs.foldl addVal v

/-! ### Packed forms (R310, R313) -/

/-- Pack element codes of `w` bits from the low end of each byte (R310). -/
def packElems (w : Nat) (cs : List Nat) : Nat := cs.foldr (fun c n => c % 2 ^ w + 2 ^ w * n) 0

/-- The first `n` element codes of `w` bits of a number. -/
def unpackElems (w : Nat) : Nat → Nat → List Nat
  | 0, _ => []
  | n + 1, v => v % 2 ^ w :: unpackElems w n (v / 2 ^ w)

/-- Bytes of the elements of a block (R313). -/
def Fmt.elemBytes (f : Fmt) : Nat := 4 * f.bits

/-- The packed form of a block (R313): the scale, then the elements. -/
def packBlock (f : Fmt) (b : Block) : Bytes := natLe 1 b.scale ++ natLe f.elemBytes (packElems f.bits b.elems)

/-- The stream form of a block (R313): the tag, then the packed form, of B8 when it has escaped. -/
def streamBlock (f : Fmt) (b : Block) : Bytes := natLe 1 b.tag ++ packBlock (b.elemFmt f) b

/-- A block of a packed tensor. -/
def unpackBlock (f : Fmt) (bs : Bytes) : Block :=
  ⟨f.tag, fieldAt bs 0 1, unpackElems f.bits 32 (leNat ((bs.drop 1).take f.elemBytes))⟩

/-- Bytes of one packed unit times count: of `n` elements of a format (R153, R309, R310, R313). -/
def Fmt.tensorBytes (f : Fmt) (n : Nat) : Nat :=
  match f.cls with
  | .blk => (n + 31) / 32 * (1 + f.elemBytes)
  | _ => (n * f.bits + 7) / 8

/-! ### The counter generator (R329 to R333) -/

/-- The quarter round of R331 on words a, b, c, d. -/
def quarter (x : List Nat) (a b c d : Nat) : List Nat :=
  let m := 2 ^ 32
  let g (l : List Nat) (i : Nat) : Nat := l.getD i 0
  let x := x.set a ((g x a + g x b) % m)
  let x := x.set d (rotl32 (g x d ^^^ g x a) 16)
  let x := x.set c ((g x c + g x d) % m)
  let x := x.set b (rotl32 (g x b ^^^ g x c) 12)
  let x := x.set a ((g x a + g x b) % m)
  let x := x.set d (rotl32 (g x d ^^^ g x a) 8)
  let x := x.set c ((g x c + g x d) % m)
  x.set b (rotl32 (g x b ^^^ g x c) 7)

/-- One double round. -/
def doubleRound (x : List Nat) : List Nat :=
  let x := quarter x 0 4 8 12
  let x := quarter x 1 5 9 13
  let x := quarter x 2 6 10 14
  let x := quarter x 3 7 11 15
  let x := quarter x 0 5 10 15
  let x := quarter x 1 6 11 12
  let x := quarter x 2 7 8 13
  quarter x 3 4 9 14

/-- The 128-bit counter of R330, each field within its width. -/
def counterOf (purpose epoch index draw : Nat) : Nat :=
  draw % 2 ^ 40 + index % 2 ^ 48 * 2 ^ 40 + epoch % 2 ^ 32 * 2 ^ 88 + purpose % 2 ^ 8 * 2 ^ 120

/-- gen_block of R331 under a 32-byte key. -/
def genBlock (key : Bytes) (purpose epoch index draw : Nat) : List Nat :=
  let c := counterOf purpose epoch index draw
  let s := [0x61707865, 0x3320646E, 0x79622D32, 0x6B206574]
    ++ (List.range 8).map (fun k => fieldAt key (4 * k) 4) ++ (List.range 4).map (fun k => c / 2 ^ (32 * k) % 2 ^ 32)
  let x := doubleRound (doubleRound (doubleRound (doubleRound s)))
  x.mapIdx (fun k w => (w + s.getD k 0) % 2 ^ 32)

/-- gen_word of R331. -/
def genWord (key : Bytes) (purpose epoch index draw : Nat) : Nat := (genBlock key purpose epoch index draw).getD 0 0

/-- Word `x mod 16` of a generator block. -/
def genWordAt (key : Bytes) (purpose epoch index draw x : Nat) : Nat :=
  (genBlock key purpose epoch index draw).getD (x % 16) 0

/-- The draw of a tree node for element offset `x` (R333). -/
def nodeDraw (key : Bytes) (step channel ordinal level node x : Nat) : Nat :=
  genWordAt key 5 (step % 2 ^ 32) (x / 16) (node % 2 ^ 16 + level % 4 * 2 ^ 16 + ordinal % 2 ^ 12 * 2 ^ 18
    + channel % 2 ^ 10 * 2 ^ 30) x

end Sys2Proof.Machine
end

