-- ==== Sys2Proof/Machine/Layouts.lean ====
section
/-! DEFINITION. The commands of the catalogue, which of them are manager commands, and the layout of their payloads (R519,
R522, R530, R531, R640; log entry 8). -/

namespace Sys2Proof.Machine

/-- What follows the fixed parameters of a payload (R522, R640). -/
inductive Tail where
  /-- nothing -/
  | none
  /-- a structure of fixed size at the next multiple of 8 -/
  | fixed (size : Nat)
  /-- units at the next multiple of 8, counted by an earlier 2-byte parameter -/
  | counted (at_ unit : Nat)
  /-- bytes right after the fixed parameters -/
  | free (least greatest : Nat)
  /-- a structure that declares its own length, at the next multiple of 8 -/
  | image
  | gateList
  deriving DecidableEq, Repr

/-- A command: its code, whether the manual marks it "manager", the sizes of its fixed parameters, and its tail. -/
structure Layout where
  code : Nat
  manager : Bool := false
  fields : List Nat := []
  tail : Tail := .none
  deriving DecidableEq, Repr

/-- Classes 0x01 and 0x02 (R93, R530, R531). -/
def layouts12 : List Layout :=
  [{ code := 0x0101 }, { code := 0x0102, fields := [1] }, { code := 0x0103 }, { code := 0x0104, tail := .free 0 4064 },
   { code := 0x0110 }, { code := 0x0201, fields := [1, 4, 4] }, { code := 0x0202, tail := .image },
   { code := 0x0210, fields := [1, 2] }, { code := 0x0211, fields := [2, 4] },
   { code := 0x0230, fields := [2, 1, 4, 4, 8, 8, 8] }, { code := 0x0231, fields := [2] },
   { code := 0x0232, fields := [2, 2, 2], tail := .counted 4 4 }, { code := 0x0233, fields := [2] }]

/-- Class 0x03 (R177, R221, R252, R280, R308). -/
def layouts3 : List Layout :=
  [{ code := 0x0301, fields := [1, 8, 4] }, { code := 0x0302, fields := [8] }, { code := 0x0303, fields := [8] },
   { code := 0x0304, manager := true, fields := [8] }, { code := 0x0310, manager := true, fields := [1, 8, 4] },
   { code := 0x0311, manager := true, fields := [2] }, { code := 0x0320, fields := [1] },
   { code := 0x0321, fields := [8, 2] }, { code := 0x0330, manager := true, fields := [1, 8, 4] },
   { code := 0x0331, manager := true, fields := [2] }, { code := 0x0332, fields := [1] },
   { code := 0x0333, fields := [2, 1, 4, 8, 4], tail := .free 0 4000 },
   { code := 0x0340, manager := true, fields := [1, 8, 4] }, { code := 0x0341, manager := true, fields := [2] },
   { code := 0x0342, fields := [1] }, { code := 0x0343 }, { code := 0x0350, fields := [2, 2, 8, 4, 2, 4, 4] },
   { code := 0x0351, fields := [2] }, { code := 0x0352, fields := [2, 1, 1] }, { code := 0x0353, fields := [2] },
   { code := 0x0354, fields := [2, 8, 8, 4, 4, 4, 4] }, { code := 0x0355 }, { code := 0x0356 }]

/-- Class 0x04 (R66 to R78, R177, R420 to R438, R513). -/
def layouts4 : List Layout :=
  [{ code := 0x0401, manager := true, tail := .free 32 256 }, { code := 0x0402, manager := true, fields := [1, 8, 4] },
   { code := 0x0403 }, { code := 0x0404, fields := [2, 1, 8, 2, 4] }, { code := 0x0405, manager := true, fields := [2, 2] },
   { code := 0x0406, manager := true }, { code := 0x0407, manager := true, fields := [2] },
   { code := 0x0410, manager := true, fields := [2, 2, 4, 1, 4] }, { code := 0x0411, fields := [2] },
   { code := 0x0412, fields := [2, 1, 1, 8] }, { code := 0x0413, manager := true, fields := [1, 1, 8, 2] },
   { code := 0x0414, manager := true, fields := [4] }, { code := 0x0420, manager := true, fields := [1, 1, 8, 2] },
   { code := 0x0421 }, { code := 0x0430, manager := true, fields := [1] }, { code := 0x0431, fields := [8] },
   { code := 0x0432, fields := [32] }, { code := 0x0433 }, { code := 0x0434, manager := true, fields := [1, 8, 1] },
   { code := 0x0440, fields := [8, 1, 2, 2, 1, 16, 4, 4, 2] }, { code := 0x0441 }, { code := 0x0442 },
   { code := 0x0443, manager := true, fields := [2] }, { code := 0x0444, manager := true, fields := [2, 1] },
   { code := 0x0445 }, { code := 0x0446 }]

/-- Classes 0x05 and 0x06 (R372, R419, R468). -/
def layouts56 : List Layout :=
  [{ code := 0x0501, manager := true, fields := [2, 1, 8, 4] }, { code := 0x0502, manager := true, fields := [2] },
   { code := 0x0503, fields := [2] }, { code := 0x0504, manager := true, fields := [2, 2] },
   { code := 0x0510, manager := true, fields := [2, 1, 4], tail := .fixed 8 }, { code := 0x0511, fields := [2] },
   { code := 0x0512, fields := [2, 2] }, { code := 0x0513, manager := true, fields := [2, 4] },
   { code := 0x0514, manager := true, fields := [2] }, { code := 0x0515, manager := true, fields := [2] },
   { code := 0x0516, manager := true, fields := [1] }, { code := 0x0517, fields := [2] },
   { code := 0x0601, fields := [2, 2], tail := .counted 2 16 }, { code := 0x0602, fields := [2] },
   { code := 0x0610, manager := true, fields := [2, 2], tail := .counted 2 16 },
   { code := 0x0611, fields := [2], tail := .fixed 32 }, { code := 0x0620, fields := [2], tail := .fixed 123 },
   { code := 0x0621, fields := [2, 2, 1, 1, 2, 4, 1, 1, 4] }, { code := 0x0622, fields := [2, 2, 4, 4, 1] },
   { code := 0x0623, fields := [2, 1, 1, 1, 4, 4, 4, 4], tail := .free 0 4040 },
   { code := 0x0630, manager := true, fields := [2], tail := .gateList }, { code := 0x0631, manager := true, fields := [2] },
   { code := 0x0640 }]

/-- Classes 0x07 and 0x08 (R124 to R126, R491). -/
def layouts78 : List Layout :=
  [{ code := 0x0701, fields := [8], tail := .fixed 64 }, { code := 0x0702, fields := [1, 8] },
   { code := 0x0710, fields := [2, 1, 2, 2, 1] }, { code := 0x0711, fields := [2], tail := .fixed 64 },
   { code := 0x0712, fields := [2] }, { code := 0x0713, fields := [2] }, { code := 0x0720, fields := [2, 8, 8, 8, 2, 1] },
   { code := 0x0721, fields := [2] }, { code := 0x0730, fields := [1, 4, 4, 1, 4, 4, 4, 1] },
   { code := 0x0740, fields := [2] }, { code := 0x0801, fields := [2, 1, 4, 4, 2, 1, 1, 1] }, { code := 0x0802 },
   { code := 0x0803 }, { code := 0x0804, fields := [8, 1] }, { code := 0x0810, fields := [2, 8, 8] }, { code := 0x0811 }]

/-- Classes 0x09 to 0x0C (R531). -/
def layouts9C : List Layout :=
  [{ code := 0x0901, tail := .fixed 136 }, { code := 0x0902, tail := .fixed 80 }, { code := 0x0903, fields := [32] },
   { code := 0x0904, fields := [1] }, { code := 0x0A01, fields := [4], tail := .free 0 4060 },
   { code := 0x0A02, fields := [1] }, { code := 0x0A03 }, { code := 0x0B01, fields := [1, 2] },
   { code := 0x0B02, fields := [1, 1] }, { code := 0x0B03 }, { code := 0x0B04, fields := [4] },
   { code := 0x0C01, fields := [2, 4, 4] }, { code := 0x0C02, fields := [2, 4, 2] },
   { code := 0x0C03, fields := [1, 4, 1, 8, 2] }, { code := 0x0C04, tail := .fixed 128 }, { code := 0x0C05, fields := [2] },
   { code := 0x0C06, fields := [2] }]

/-- Every command of the catalogue (R530, R531). -/
def layouts : List Layout := layouts12 ++ layouts3 ++ layouts4 ++ layouts56 ++ layouts78 ++ layouts9C

/-- The layout of a command, none for an unknown code. A mode, kind or destination byte chooses among the forms of
PLAN_QUERY, EVENT_ARM and TELEMETRY_SET. -/
def layoutOf (code : Nat) (payload : Bytes) : Option Layout :=
  let b (o : Nat) : Nat := fieldAt payload o 1
  (layouts.find? (fun l => decide (l.code = code))).map (fun l =>
    if code = 0x0404 ∧ b 2 ≠ 0 then { l with fields := [2, 1, 4, 8] }
    else if code = 0x0413 ∧ b 0 = 0 then { l with fields := [1, 1, 8, 1, 1, 1, 8] }
    else if code = 0x0413 ∧ b 0 = 1 then { l with fields := [1, 1, 8] }
    else if code = 0x0C03 ∧ b 8 ≠ 0 then { l with fields := [1, 4, 1, 4, 2] }
    else l)

/-- The next multiple of a size. -/
def alignTo (n o : Nat) : Nat := (o + n - 1) / n * n

/-- Offset and size of each fixed parameter, each aligned to its own size (R522). -/
def spansFrom : List Nat → Nat → List (Nat × Nat)
  | [], _ => []
  | n :: ns, o => (alignTo n o, n) :: spansFrom ns (alignTo n o + n)

/-- The byte after the fixed parameters. -/
def Layout.fixedEnd (l : Layout) : Nat := match (spansFrom l.fields 0).getLast? with
  | some x => x.1 + x.2
  | none => 0

/-- Where the tail begins. -/
def Layout.tailAt (l : Layout) : Nat := match l.tail with
  | .none | .free _ _ => l.fixedEnd
  | _ => alignTo 8 l.fixedEnd

/-- The least and the greatest payload length (R640). -/
def Layout.lengths (l : Layout) (payload : Bytes) : Nat × Nat :=
  let t := l.tailAt
  match l.tail with
  | .none => (t, t)
  | .fixed n => (t + n, t + n)
  | .counted o u => (t + u * fieldAt payload o 2, t + u * fieldAt payload o 2)
  | .free lo hi => (t + lo, t + hi)
  | .image => let n := t + fieldAt payload (t + 12) 4 + (if fieldAt payload (t + 6) 2 % 2 = 1 then 64 else 0)
              (n, n)
  | .gateList => let n := t + 48 + 4 * fieldAt payload (t + 3) 1
                 (n, n)

/-- BAD_LENGTH of R523: the RESULT of R640. -/
def lengthFault (code : Nat) (payload : Bytes) : Option Nat := match layoutOf code payload with
  | none => none
  | some l =>
    let (lo, hi) := l.lengths payload
    if payload.length < lo then some lo else if hi < payload.length then some hi else none

/-- The first padding byte that is not zero (R522, R523). -/
def padFault (code : Nat) (payload : Bytes) : Option Nat := match layoutOf code payload with
  | none => none
  | some l =>
    let spans := spansFrom l.fields 0
    let inside (o : Nat) : Bool := spans.any (fun x => decide (x.1 ≤ o) && decide (o < x.1 + x.2))
    (List.range l.tailAt).find? (fun o => !inside o && decide (fieldAt payload o 1 ≠ 0))

end Sys2Proof.Machine
end

