-- ==== Sys2Proof/Machine/Memory.lean ====
section
/-! DEFINITION. Byte memories: a list of (address, byte) pairs with strictly rising addresses and no zero byte, so that
equal memories are equal lists. An unlisted address reads 0 (log entry 3 for LPDDR6, R136 for the Reservoir). -/

namespace Sys2Proof.Machine

/-- A byte memory in canonical form. -/
abbrev Memory := List Host.Cell

/-- What an address that no cell lists reads as. -/
def Memory.blank : Byte := 0

/-- The byte at an address. -/
def Memory.read (m : Memory) (a : Nat) : Byte :=
  match m with
  | [] => Memory.blank
  | (k, b) :: rest => if k = a then b else Memory.read rest a

/-- Put one byte at an address, keeping the canonical form. -/
def Memory.write (m : Memory) (a : Nat) (v : Byte) : Memory :=
  match m with
  | [] => if v = Memory.blank then [] else [(a, v)]
  | (k, b) :: rest =>
    if a < k then (if v = Memory.blank then (k, b) :: rest else (a, v) :: (k, b) :: rest)
    else if a = k then (if v = Memory.blank then rest else (a, v) :: rest)
    else (k, b) :: Memory.write rest a v

/-- `n` bytes from an address upward. -/
def Memory.readBytes (m : Memory) (a : Nat) : Nat → Bytes
  | 0 => []
  | n + 1 => m.read a :: m.readBytes (a + 1) n

/-- Write bytes from an address upward. -/
def Memory.writeBytes (m : Memory) (a : Nat) : Bytes → Memory
  | [] => m
  | b :: bs => (m.write a b).writeBytes (a + 1) bs

/-- Every address of the memory lies above `lo` and rises strictly, and no cell holds the unlisted byte. -/
def Memory.above (lo : Option Nat) : Memory → Bool
  | [] => true
  | (k, b) :: rest =>
    (match lo with | none => true | some l => decide (l < k)) && decide (b ≠ Memory.blank)
      && Memory.above (some k) rest

/-- The canonical form holds. -/
def Memory.wf (m : Memory) : Bool := Memory.above none m

/-- Make `n` bytes from an address read as unlisted. -/
def Memory.clear (m : Memory) (a n : Nat) : Memory :=
  m.filter (fun c => decide (c.1 < a) || decide (a + n ≤ c.1))

end Sys2Proof.Machine
end

