-- ==== Sys2Proof/Machine/StateNgayx.lean ====
section
/-! DEFINITION. The state of the Ngayx executors: program contexts, programs, channel bindings and filter banks
(chapter 12). Each field's docstring reads `meaning | width | rule and chapter | reset value`. -/

namespace Sys2Proof.Machine

/-- An input port of a run (R337, R341, R342): its stream, the read offset and END. A kernel's in0 has no declared
format (R343). -/
structure InPort where
  fmt : Option Fmt := none
  bytes : Bytes := []
  off : Nat := 0
  ended : Bool := false
  deriving DecidableEq, Repr

/-- An output port of a run (R341). out1 has no declared format (R337 gives it none). -/
structure OutPort where
  fmt : Option Fmt := none
  bytes : Bytes := []
  deriving DecidableEq, Repr

/-- The counter fields of R368 that the run fixes, and those of R333 for SSUM. -/
structure DrawSite where
  kernel : Bool := false
  step : Nat := 0
  epoch : Nat := 0
  channel : Nat := 0
  ordinal : Nat := 0
  level : Nat := 0
  node : Nat := 0
  position : Nat := 0
  attempt : Nat := 0
  kernelIndex : Nat := 0
  deriving DecidableEq, Repr

/-- The statistics record of R328, kept by a run and joined into its collective. -/
structure NumStats where
  saturations : Nat := 0
  escapes : Nat := 0
  bumps : Nat := 0
  nanBlocks : Nat := 0
  residualSats : Nat := 0
  /-- largest magnitude of a new residual, as an FP32 code -/
  maxResidual : Nat := 0
  flags : Nat := 0
  deriving DecidableEq, Repr

/-- What a run is for (R336). -/
inductive RunFor where
  /-- a tree node of a launch on a chunk, on a logical Crucible -/
  | node (launch chunk level node crucible : Nat)
  /-- kernel `k` of a sample of a stage, by the sample's identity; synthetic messages too -/
  | kernel (stage sample k : Nat)
  deriving DecidableEq, Repr

/-- One program context (R338, R344). -/
structure NgCtx where
  /-- the context's number: 8 x Crucible + context, or 128 + 4 x stage + context (R336) -/
  id : Nat
  run : RunFor
  /-- instruction words -/
  prog : List Nat
  /-- v0 to v15, 4,096 bits each, byte 0 lowest -/
  v : List Nat := List.replicate 16 0
  /-- s0 to s15 -/
  s : List Nat := List.replicate 16 0
  /-- p0 to p7, bit i governs lane i -/
  p : List Nat := List.replicate 8 0
  pc : Nat := 0
  flags : Nat := 0
  fault : Nat := 0
  faultPc : Nat := 0
  halted : Bool := false
  bound : Bool := false
  user : Nat := 0
  ins : List InPort := []
  outs : List OutPort := []
  /-- instructions executed, and their bound (R350, R371) -/
  executed : Nat := 0
  budget : Nat := 0
  /-- the context grant and its size in bytes (R347) -/
  grant : Memory := []
  grantBytes : Nat := 0
  maxChunk : Nat := 0
  escBound : Nat := 0
  exact : Bool := true
  site : DrawSite := {}
  /-- element offset of the chunk, held apart from s0 (R390), and elements SSUM has appended -/
  x0 : Nat := 0
  summed : Nat := 0
  /-- at the final node of a launch with error feedback: the chunk's residuals (R323, R325), FP16 codes -/
  residuals : Option (List Nat) := none
  /-- the new residuals, in element order -/
  newResiduals : List Nat := []
  stats : NumStats := {}
  deriving DecidableEq, Repr

/-- The run has ended (R350). -/
def NgCtx.ended (x : NgCtx) : Bool := x.halted || x.bound || decide (x.fault ≠ 0)

/-- The Ngayx executors (chapter 12). -/
structure NgayxState where
  /-- loaded program images by handle 0 to 63 | list | R353, R355 12 | empty -/
  programs : List (Nat × Bytes) := []
  /-- program bound to a channel | list | R357 12 | none -/
  bindings : List (Nat × Nat) := []
  /-- contexts that hold a run | at most 128 + 8 | R336, R338 12 | empty -/
  contexts : List NgCtx := []
  /-- arbiter pointer of each executor: 0 to 15 Crucibles, 16 and 17 filter cores | 18 pointers | R336 12 | 0 (R92) -/
  arbs : List Nat := List.replicate 18 0
  /-- recipe whose kernels an armed RECIPE_CHANGE placed in the other bank of each filter core | handle | R356 12 | none -/
  otherBank : Option Nat := none
  deriving DecidableEq, Repr

end Sys2Proof.Machine
end

