-- ==== Sys2Proof/Machine/StateColl.lean ====
section
/-! DEFINITION. The state of collectives: channels, launches, chunks in their trees, residual stores, the Crucibles'
second runs (chapter 14). Each field's docstring reads `meaning | width | rule and chapter | reset value`. -/

namespace Sys2Proof.Machine

/-- An operand of a tree: a leaf by its place, or the output of a node (R409). -/
inductive Opnd where
  | leaf (i : Nat)
  | node (k : Nat)
  deriving DecidableEq, Repr

/-- A chunk's value on its way through the trees, with its chunk status (R408). -/
structure Part where
  out0 : Bytes := []
  out1 : Bytes := []
  flags : Nat := 0
  fault : Nat := 0
  events : Nat := 0
  failed : Bool := false
  /-- new residuals, of the final node of a launch with error feedback (R325) -/
  residuals : Option (List Nat) := none
  deriving DecidableEq, Repr

/-- An operand present at a level (R412: in arrival order). -/
structure LevelOp where
  level : Nat
  src : Opnd
  part : Part
  deriving DecidableEq, Repr

/-- A node that has taken its operands and not committed its output (R416). -/
structure ActiveRun where
  level : Nat
  k : Nat
  inputs : List LevelOp
  final : Bool
  crucible : Nat
  /-- second runs made on the present Crucible -/
  tries : Nat := 0
  events : Nat := 0
  /-- the context that runs it, none while it must be run again -/
  ctx : Option Nat := none
  /-- the grant as it was when the run began -/
  before : Memory := []
  deriving DecidableEq, Repr

/-- A chunk of a launch on this device. -/
structure Chunk where
  n : Nat
  rank : Nat := 0
  started : Bool := false
  /-- local participants whose source is not yet asked for, and those asked and not yet read -/
  unread : List Nat := []
  reading : List Nat := []
  ops : List LevelOp := []
  runs : List ActiveRun := []
  /-- nodes done, as (level, k) -/
  done : List (Nat × Nat) := []
  /-- operands the nodes done have taken beyond the one each gives back, as (level, operands) -/
  spent : List (Nat × Nat) := []
  /-- every run of the chunk on this device has ended (R348) -/
  ended : Bool := false
  /-- the final output, waiting for its commit (R407) -/
  out : Option Part := none
  /-- pool buffers that hold the sources, with their requester ID -/
  buffers : List (Nat × Nat) := []
  deriving DecidableEq, Repr

/-- Where a launch stands on this device. -/
inductive LaunchPhase where
  | matching | voting | running | ended
  deriving DecidableEq, Repr

/-- A launch (R396 to R401). -/
structure Launch where
  id : Nat
  channel : Nat
  ordinal : Nat
  stepLo : Nat
  /-- its STEP_LO lies before the channel's previous launch, or its ordinal passes 4,095 (R397) -/
  misplaced : Bool := false
  spec : Bytes
  phase : LaunchPhase := .matching
  /-- descriptors by port -/
  descs : List (Nat × Bytes) := []
  missing : List Nat := []
  firstAt : Nat
  /-- votes by (side, device): outcome and digest (R399) -/
  votes : List ((Nat × Nat) × Nat × Bytes) := []
  /-- this device's outcome -/
  outcome : Option Nat := none
  /-- its final RESULT, once decided -/
  result : Option Nat := none
  handle : Nat := 67
  image : Bytes := []
  g : Nat := 16
  exact : Bool := true
  /-- blocks of XM reserved -/
  blocks : Nat := 0
  grant : Memory := []
  /-- the next chunk to start -/
  next : Nat := 0
  chunks : List Chunk := []
  /-- results delivered to the local participants, as (chunk, rank) -/
  delivered : List (Nat × Nat) := []
  flags : Nat := 0
  events : Nat := 0
  /-- failed chunks and their fault codes -/
  failures : List (Nat × Nat) := []
  aborted : Bool := false
  /-- local participants whose queue pair failed (R418) -/
  dead : List Nat := []
  /-- transfers and writes not yet acknowledged (R401) -/
  unacked : Nat := 0
  /-- the status records have been written -/
  reported : Bool := false
  stats : NumStats := {}
  deriving DecidableEq, Repr

/-- A collective channel (R391, R394, R397). -/
structure Channel where
  num : Nat
  /-- the 8-byte group specification, empty before CHANNEL_CONFIG -/
  spec : Bytes := []
  /-- LAUNCH_TIMEOUT in ms -/
  timeout : Nat := 100
  /-- STEP_LO and ordinal of the latest launch formed -/
  last : Option (Nat × Nat) := none
  /-- descriptors dropped -/
  dropped : Nat := 0
  /-- launches by RESULT value -/
  results : List (Nat × Nat) := []
  /-- the statistics record of its last launch (R328) -/
  stats : NumStats := {}
  deriving DecidableEq, Repr

/-- A residual store (R323, R413). -/
structure Residual where
  handle : Nat
  base : Nat
  elems : Nat
  /-- group specification, FORMAT, COUNT and CHUNK of its first bound launch -/
  key : Option (Bytes × Nat × Nat × Nat) := none
  /-- LAST_STEP: the full step of the last launch that wrote it (R434), 0 before any -/
  lastStep : Nat := 0
  /-- the launch it is bound to -/
  bound : Option Nat := none
  deriving DecidableEq, Repr

/-- What a physical Crucible has counted (R416, R419). -/
structure CrucibleCount where
  site : Nat
  runs : Nat := 0
  mismatches : Nat := 0
  seconds : Nat := 0
  /-- the run numbers of its latest second runs -/
  recent : List Nat := []
  deriving DecidableEq, Repr

/-- Collectives (chapter 14). -/
structure CollState where
  /-- channels that have been configured or have received a descriptor | of 1,024 | R391 14 | none: WEIGHT 16, LAUNCH_TIMEOUT 100 ms, no group specification (DESIGN CHOICE 2) -/
  channels : List Channel := []
  /-- collective queue pair of each accelerator port | list | R396 14 | none -/
  ports : List (Nat × Nat) := []
  /-- launches this device holds, oldest first | list | R397 14 | empty -/
  launches : List Launch := []
  /-- the model's own: the next launch's number | counter | R397 14 | 0 -/
  nextLaunch : Nat := 0
  /-- votes of launches this device does not hold yet | list | R399 14 | empty -/
  earlyVotes : List Bytes := []
  /-- partials and results of launches that do not run here yet, results marked | list | R407 14 | empty -/
  earlyData : List (Bool × CollData) := []
  /-- residual stores | at most 64 | R413 14 | none -/
  stores : List Residual := []
  /-- free XM blocks | 12,288 | R346 12 | all free -/
  freeBlocks : Nat := 12288
  /-- counts of the Crucibles that have run | by site | R416 14 | 0 -/
  crucibles : List CrucibleCount := []
  deriving DecidableEq, Repr

end Sys2Proof.Machine
end

