-- ==== Sys2Proof/Machine/StateDet.lean ====
section
/-! DEFINITION. The state of exact mode, the determinism record and checkpoints (chapter 15). Each field's docstring
reads `meaning | width | rule and chapter | reset value`. -/

namespace Sys2Proof.Machine

/-- A determinism record (R425). -/
structure DetRecord where
  mode : Nat
  datapathRev : Nat
  fwVersion : Nat
  fromStep : Nat
  seed : Bytes
  recipe : Bytes
  plan : Bytes
  format : Bytes
  membership : Bytes
  map : Bytes
  programs : Bytes
  treePlan : Nat
  deriving DecidableEq, Repr

/-- How far a checkpoint has come (R432, R442). -/
inductive CkptPhase where
  | armed | capturing | written | done | failed
  deriving DecidableEq, Repr

/-- What a checkpoint keeps of the moment it fires, before any other event at the same Gauge takes effect (R68, R435,
R436). -/
structure CkptSnap where
  record : Bytes
  epoch : Nat
  plan : Bytes
  /-- destinations of this device -/
  dests : List Nat
  /-- events beyond it: KIND, TARGET_STEP, digest -/
  events : List (Nat × Nat × Bytes)
  deriving DecidableEq, Repr

/-- The checkpoint armed, capturing or last ended (R430 to R433). -/
structure Ckpt where
  step : Nat
  params : CkptParams
  phase : CkptPhase := .armed
  /-- manager: acknowledgements, as (device, IMAGE_CRC, LENGTH) -/
  acks : List (Nat × Nat × Nat) := []
  /-- this device's image: IMAGE_CRC and LENGTH -/
  own : Option (Nat × Nat) := none
  /-- what it captured when it fired -/
  snap : Option CkptSnap := none
  deriving DecidableEq, Repr

/-- Exact mode and determinism (chapter 15). -/
structure DetState where
  /-- exact mode | 1 bit | R420 15 | true -/
  exact : Bool := true
  /-- the last 64 determinism records, newest last | list | R427 15 | empty -/
  records : List DetRecord := []
  /-- tree plan policy: 0 PINNED, 1 REDERIVE | 8 bits | R411 14 | 0 -/
  treePolicy : Nat := 0
  /-- the checkpoint | record | R430 15 | none -/
  ckpt : Option Ckpt := none
  /-- launches of this step or later are held at admission | 64 bits | R431 15 | none -/
  holdFrom : Option Nat := none
  /-- IMAGE_CRC of the light images captured since the last warm or cold reset | list | R434 15 | empty -/
  lights : List Nat := []
  /-- CHECKPOINT_RESUME waiting for the first Weir | request | R438 15 | none -/
  resumeWaiter : Option Req := none
  deriving DecidableEq, Repr

end Sys2Proof.Machine
end

