-- ==== Sys2Proof/Machine/StateFeed.lean ====
section
/-! DEFINITION. The state of the Gauge, the Weir, the buffer pools, the Reservoir, the storage queues, the
datasets and the epoch plan (chapters 02 to 06 of the spec). Each field's docstring reads
`meaning | width | rule and chapter | reset value`. -/

namespace Sys2Proof.Machine

/-- One Gauge source: one accelerator port (R55, R56). -/
structure GaugeSource where
  /-- logical port number | 8 bits | R55 02 | 0 (DESIGN CHOICE 2) -/
  port : Nat := 0
  /-- full step of the last accepted Gauge | 64 bits | R56 02 | 0 (DESIGN CHOICE 2) -/
  lastStep : Nat := 0
  /-- mark of the last accepted Gauge | 4 bits | R56 02 | 0 (DESIGN CHOICE 2) -/
  lastMark : Nat := 0
  /-- arrival time of the last accepted frame, none is minus infinity | ACLK cycles | R56 02 | none, as after a seed (DESIGN CHOICE 2) -/
  lastTime : Option Nat := none
  /-- consecutive rejections | 4 bits | R56 02 | 0 (DESIGN CHOICE 2) -/
  rejects : Nat := 0
  /-- quarantine flag | 1 bit | R56 02 | false (DESIGN CHOICE 2) -/
  quarantined : Bool := false
  /-- removed from the reconciliation by EXCLUDE | 1 bit | R59 02 | false (DESIGN CHOICE 2) -/
  excluded : Bool := false
  /-- time of the previous advance of the step | ACLK cycles | R613 23 | none (DESIGN CHOICE 2) -/
  lastAdvance : Option Nat := none
  /-- measurements 0 and 1: step and mark, held while quarantined or excluded | 64 + 4 bits | R613 23 | 0 (DESIGN CHOICE 2) -/
  measStep : Nat := 0
  measMark : Nat := 0
  /-- STEP_INTERVAL in ns, none before the first advance | 64 bits | R613 23 | none (DESIGN CHOICE 2) -/
  stepInterval : Option Nat := none
  deriving DecidableEq, Repr

/-- Where an armed Weir stands in the order of R78. -/
inductive WeirPhase where
  | armed | sent | opened | reported
  deriving DecidableEq, Repr

/-- The Weir of this device (R77, R78). -/
structure Weir where
  target : Gauge
  actions : WeirActions
  phase : WeirPhase := .armed
  /-- timebase count of the opening -/
  tOpen : Option Nat := none
  /-- this device's lateness in cycles -/
  lateness : Nat := 0
  /-- devices whose opening acknowledgement is in, with their lateness -/
  acks : List (Nat × Nat) := []
  deriving DecidableEq, Repr

/-- A worker's last summary as the manager holds it (R60, R62). -/
structure Summary where
  device : Nat
  lo : Gauge
  hi : Gauge
  ignored : Nat := 0
  removed : Bool := false
  deriving DecidableEq, Repr

/-- The Gauge and the Weir of one device (chapter 02). -/
structure GaugeState where
  /-- the Gauge sources, one per accelerator port | list | R56 02 | empty until ports are configured -/
  sources : List GaugeSource := []
  /-- JOB_TAG | 16 bits | R66 02 | 0, never valid (DESIGN CHOICE 2) -/
  jobTag : Nat := 0
  /-- MAX_GAUGE_JUMP | 16 bits | R66 02 | 16 -/
  maxJump : Nat := 16
  /-- GAUGE_TIMEOUT in s | 32 bits | R66 02 | 30 -/
  timeoutS : Nat := 30
  /-- PREP_HORIZON | 16 bits | R66 02 | 8 -/
  horizon : Nat := 8
  /-- WEIR_LEAD in us | 32 bits | R66 02 | 20 -/
  weirLead : Nat := 20
  /-- the last summary sent to the manager | two Gauges | R60 02 | none (DESIGN CHOICE 2) -/
  sentSummary : Option (Gauge × Gauge) := none
  /-- when it was sent | ACLK cycles | R60 02 | none -/
  sentSummaryAt : Option Nat := none
  /-- manager: the members' summaries | list | R61, R62 02 | empty -/
  summaries : List Summary := []
  /-- manager: published committed Gauge | Gauge | R61 02 | 0:0 (DESIGN CHOICE 2) -/
  pubCommitted : Gauge := ⟨0, 0⟩
  /-- manager: published leading Gauge | Gauge | R61 02 | 0:0 (DESIGN CHOICE 2) -/
  pubLeading : Gauge := ⟨0, 0⟩
  /-- manager: when it last published | ACLK cycles | R61 02 | none -/
  pubAt : Option Nat := none
  /-- manager: the plan fence | 64 bits | R175 06 | 0 (DESIGN CHOICE 2) -/
  pubFence : Nat := 0
  /-- manager: fence holds, as the handle whose acknowledgements are awaited and its target step | list | R176 06 | empty -/
  fenceHolds : List (Nat × Nat) := []
  /-- the device's view of the committed Gauge | Gauge | R63 02 | 0:0 (DESIGN CHOICE 2) -/
  committed : Gauge := ⟨0, 0⟩
  /-- the device's view of the leading Gauge | Gauge | R63 02 | 0:0 (DESIGN CHOICE 2) -/
  leading : Gauge := ⟨0, 0⟩
  /-- the device's view of the fence | 64 bits | R175 06 | 0 (DESIGN CHOICE 2) -/
  fence : Nat := 0
  /-- the other side's published committed and leading Gauge | two Gauges | R512 18 | none -/
  peerSide : Option (Gauge × Gauge) := none
  /-- the other side's published fence | 64 bits | R501, R512 18 | 0 -/
  peerFence : Nat := 0
  /-- when TWIN_LAG was last raised | ACLK cycles | R512 18 | none -/
  twinLagAt : Option Nat := none
  /-- Gauge hold | 1 bit | R64 02 | false -/
  hold : Bool := false
  /-- the armed events, in the order armed | at most 256 | R69 02 | empty -/
  armed : List ArmedEvent := []
  /-- the last event handle assigned or distributed, 0 before the first | 32 bits | R69 02 | 0 -/
  lastHandle : Nat := 0
  /-- the Weir | record | R77 02 | none -/
  weir : Option Weir := none
  /-- the Weir timebase | 64 bits | R74 02 | 0 (DESIGN CHOICE 2) -/
  timebase : Nat := 0
  /-- correction still to be slewed, in cycles | signed | R76 02 | 0 -/
  slew : Int := 0
  /-- cycles since the last slewed cycle | 0 to 4095 | R76 02 | 0 -/
  slewPhase : Nat := 0
  /-- ring delay from the manager measured at formation, in ps | 64 bits | R75 02 | 0 (DESIGN CHOICE 2) -/
  delayPs : Nat := 0
  /-- signed offset from the manager measured at formation, in ps | signed | R75 02 | 0 (DESIGN CHOICE 2) -/
  offsetPs : Int := 0
  /-- the current epoch | 32 bits | R178 06 | 0 (DESIGN CHOICE 2) -/
  epoch : Nat := 0
  deriving DecidableEq, Repr

/-- One buffer pool (R80 to R90). The free pointers are the buffers that `held` does not name; `cached` of them lie
in the on-chip cache and the rest in the free ring. -/
structure Pool where
  num : Nat
  /-- SPACE: 0 LPDDR6, 1 staging SRAM -/
  space : Nat
  bufSize : Nat
  count : Nat
  base : Nat
  ringBase : Nat
  heldBase : Nat
  /-- free pointers in the on-chip cache (R82) -/
  cached : Nat := 0
  /-- held buffers with their owner, indices rising -/
  held : List (Nat × Nat) := []
  /-- non-zero quotas by requester ID -/
  quotas : List (Nat × Nat) := []
  /-- the last accepted return: its FCLK cycle and buffer index (R92) -/
  lastReturn : Option (Nat × Nat) := none
  /-- arbiter pointer of R92 -/
  arb : Nat := 0
  /-- failed allocations per requester (R93) -/
  fails : List (Nat × Nat) := []
  /-- when POOL_BAD_RETURN was last raised (R90) -/
  badReturnAt : Option Nat := none
  deriving DecidableEq, Repr

/-- The buffer pool manager (chapter 03). -/
structure PoolState where
  /-- the configured pools | at most 64 | R80 03 | empty, then the factory default configuration's (R84) -/
  pools : List Pool := []
  /-- requests waiting for a refill, as (pool, requester) | list | R83 03 | empty -/
  waitRefill : List (Nat × Nat) := []
  /-- requests presented again after a return, as (pool, requester) | list | R87 03 | empty -/
  retrying : List (Nat × Nat) := []
  /-- requests held for a retry on the next return, as (pool, requester) | list | R87 03 | empty -/
  waitReturn : List (Nat × Nat) := []
  /-- when POOL_BAD_RETURN was last raised for a number that is not configured | list | R90 03 | empty -/
  strayAt : List (Nat × Nat) := []
  deriving DecidableEq, Repr

/-- Zone states (R105). -/
inductive ZoneStatus where
  | empty | open | full | readOnly | offline
  deriving DecidableEq, Repr

/-- One zone: its state, its superblock and its write pointer in blocks from the zone start (R105). -/
structure Zone where
  status : ZoneStatus := .empty
  superblock : Option Nat := none
  wp : Nat := 0
  deriving DecidableEq, Repr

/-- What a superblock is used for. -/
inductive SbUse where
  | free | zone (n : Nat) | convFree | conv | slc | retired
  deriving DecidableEq, Repr

/-- One superblock of the native geometry (R100, R118, R119). -/
structure Superblock where
  num : Nat
  stripeSet : Nat
  usage : SbUse := .free
  /-- erase count of its blocks (R118) -/
  erases : Nat := 0
  /-- read counters of its 16 blocks (R119) -/
  reads : List Nat := []
  /-- valid conventional logical blocks (R116) -/
  valid : List Nat := []
  /-- 4 KiB blocks written since the last erase -/
  filled : Nat := 0
  /-- queued for refresh (R102, R119) -/
  refresh : Bool := false
  /-- step-4 rebuilds of each block since counted, as (block, erase count at the first) (R120) -/
  rebuilds : List (Nat × Nat) := []
  deriving DecidableEq, Repr

/-- The phase of a relocation (R111). -/
inductive RelocPhase where
  | copy | journal | erase
  deriving DecidableEq, Repr

/-- Why a relocation runs. -/
inductive RelocCause where
  | gc | wear | refresh | fold | rebuild | capacity | reset
  deriving DecidableEq, Repr

/-- One relocation in progress (R111). -/
structure Relocation where
  src : Nat
  dst : Nat
  cause : RelocCause
  phase : RelocPhase := .copy
  /-- logical blocks copied (R114 drops those rewritten meanwhile) -/
  blocks : List Nat := []
  deriving DecidableEq, Repr

/-- One staged write and its descriptor (R107, R108). -/
structure Staged where
  seq : Nat
  lba : Nat
  data : Bytes
  /-- the descriptor's CRC-32C is intact -/
  crcOk : Bool := true
  programmed : Bool := false
  /-- its journal entry is committed (R107, R112) -/
  committed : Bool := false
  /-- the command that wrote it: queue pair, slot, CMD_ID, opcode, RESULT (R135) -/
  source : Option (Nat × Nat × Nat × Nat × Nat) := none
  /-- its completion waits for durability under WRITE_THROUGH (R135) -/
  through : Bool := false
  /-- the completion has been posted, so a later FLUSH covers the write (R137) -/
  posted : Bool := false
  deriving DecidableEq, Repr

/-- One journal entry (R112). -/
inductive JournalOp where
  | write (stage : Nat)
  | zoneReset (zone : Nat)
  | relocate (src dst : Nat)
  | trim (lba : Nat) (len : Nat)
  deriving DecidableEq, Repr

/-- The geometry of the fitted dies (R95, R100, R101). -/
structure Geometry where
  /-- bytes of one multi-plane block in native mode -/
  blockBytes : Nat := 100663296
  /-- die density in Tb -/
  density : Nat := 4
  /-- bits per cell in native mode: 3 TLC, 4 QLC -/
  cellBits : Nat := 4
  /-- multi-plane blocks per die -/
  blocks : Nat := 5000
  /-- rated program/erase count of the qualification table -/
  peRated : Nat := 1500
  deriving DecidableEq, Repr

/-- One NAND die position as the flash translation engines see it (R96, R120, R122). -/
structure NandDie where
  channel : Nat
  target : Nat
  failed : Bool := false
  /-- consecutive failed operations (R122) -/
  failRun : Nat := 0
  /-- spare blocks left (R120) -/
  spares : Nat := 0
  /-- multi-plane blocks marked bad by the manufacturer or retired -/
  bad : Nat := 0
  deriving DecidableEq, Repr

/-- The media health counters (R125) that are counts of events. -/
structure MediaCounters where
  growBad : Nat := 0
  factoryBad : Nat := 0
  hostBytes : Nat := 0
  mediaBytes : Nat := 0
  correctedCw : Nat := 0
  rebuiltCw : Nat := 0
  unrecoveredCw : Nat := 0
  refreshMoves : Nat := 0
  wlMoves : Nat := 0
  gcMoves : Nat := 0
  recoveries : Nat := 0
  warmReplays : Nat := 0
  diesFailed : Nat := 0
  deriving DecidableEq, Repr

/-- The Reservoir (chapter 04). -/
structure MediaState where
  /-- logical contents, byte address = LBA x 4,096 + offset, unlisted bytes read 0 | cells | R104, R136 04 | empty -/
  data : List (Nat × Byte) := []
  /-- logical blocks marked unreadable | list | R103 04 | empty -/
  unreadable : List Nat := []
  /-- geometry of the fitted dies | record | R95, R101 04 | the example geometry of R101, 5,000 blocks (DESIGN CHOICE 2) -/
  geometry : Geometry := {}
  /-- CONV_SIZE in superblocks of data capacity | 64 bits | R104 04 | 0: no MEDIA_FORMAT yet (DESIGN CHOICE 2) -/
  convSuperblocks : Nat := 0
  /-- SPARE_RESERVE in per cent | 1 to 5 | R124 04 | 2 -/
  spareReserve : Nat := 2
  /-- ZONE_COUNT | 64 bits | R641 04 | 0: no MEDIA_FORMAT yet (DESIGN CHOICE 2) -/
  zoneCount : Nat := 0
  /-- the zone map, zones absent from it are EMPTY | list | R105 04 | empty -/
  zones : List (Nat × Zone) := []
  /-- the superblocks | list | R100 04 | empty -/
  superblocks : List Superblock := []
  /-- the enrolled and failed dies | list | R96 04 | empty -/
  dies : List NandDie := []
  /-- the policy | record | R124 04 | the defaults of R124 -/
  policy : PolicyParams := {}
  /-- STAGE_SIZE waiting for an empty buffer | 1 to 16 | R124 04 | none -/
  stagePending : Option Nat := none
  /-- staged writes in acceptance order | list | R107 04 | empty -/
  staged : List Staged := []
  /-- acceptance number the next staged write takes | 64 bits | R108 04 | 0 (DESIGN CHOICE 2) -/
  stageSeq : Nat := 0
  /-- conventional WRITEs waiting for a free superblock, as (queue pair, slot, entry) | list | R116 04 | empty -/
  waitingWrites : List (Nat × Nat × SqEntry) := []
  /-- journal entries not yet committed, with their sequence number | list | R112 04 | empty -/
  journalOpen : List (Nat × JournalOp) := []
  /-- committed entries after the latest snapshot | list | R112 04 | empty -/
  journal : List (Nat × JournalOp) := []
  /-- next journal sequence number | 64 bits | R112 04 | 0 (DESIGN CHOICE 2) -/
  journalSeq : Nat := 0
  /-- bytes of journal since the last snapshot | 64 bits | R112 04 | 0 -/
  journalBytes : Nat := 0
  /-- sequence number of the latest snapshot | 64 bits | R112 04 | none -/
  snapshotSeq : Option Nat := none
  /-- relocations in progress | list | R111 04 | empty -/
  relocations : List Relocation := []
  /-- garbage collection runs | 1 bit | R116 04 | false -/
  gcActive : Bool := false
  /-- static wear levelling runs | 1 bit | R118 04 | false -/
  wlActive : Bool := false
  /-- rebuilds of failed dies pending or running, by stripe set (FLAGS[0] of the health log) | list | R122 04 | empty -/
  rebuilding : List Nat := []
  /-- read-only mode | 1 bit | R123 04 | false -/
  readOnly : Bool := false
  /-- NAND native bytes occupied in SLC mode | 64 bits | R110 04 | 0 -/
  slcUsed : Nat := 0
  /-- the conventional superblock being filled | number | R106 04 | none -/
  convOpen : Option Nat := none
  /-- the SLC superblock being filled | number | R110 04 | none -/
  slcOpen : Option Nat := none
  /-- the health counters | record | R125 04 | all 0 (DESIGN CHOICE 2) -/
  counters : MediaCounters := {}
  /-- suspensions of the operation in progress on each die, as (die index, count) | at most 8 | R97 04 | empty -/
  suspensions : List (Nat × Nat) := []
  /-- FLUSH commands waiting: (queue pair, slot, CMD_ID, acceptance numbers covered) | list | R137 05 | empty -/
  flushes : List (Nat × Nat × Nat × List Nat) := []
  /-- interim parity pages programmed for a FLUSH | 64 bits | R107, R137 04 | 0 -/
  interimParity : Nat := 0
  deriving DecidableEq, Repr

/-- A command fetched from an SQ and not yet ended, with its SQ index (R129, R144). -/
structure Fetched where
  slot : Nat
  entry : SqEntry
  begun : Bool := false
  deriving DecidableEq, Repr

/-- A completion not yet posted (R131, R132). -/
structure Completion where
  result : Nat
  cmdId : Nat
  status : Nat
  slot : Nat
  opcode : Nat
  effect : Nat
  info : Nat
  deriving DecidableEq, Repr

/-- An outcome of the error log page (R144). -/
structure ErrEntry where
  cmdId : Nat
  slot : Nat
  status : Nat
  opcode : Nat
  effect : Nat
  info : Nat
  deriving DecidableEq, Repr

/-- Who waits for a pair's reset (R139, R145): an admin command by its slot and entry, with the pair's removal asked for,
or a mailbox command by its request and code. -/
inductive ResetWaiter where
  | storage (slot : Nat) (e : SqEntry) (delete : Bool)
  | mailbox (r : Req) (code : Nat)
  deriving DecidableEq, Repr

/-- One storage queue pair (R126 to R145). -/
structure QueuePair where
  num : Nat
  depth : Nat
  sqBase : Nat
  cqBase : Nat
  sqHead : Nat := 0
  sqTail : Nat := 0
  cqHead : Nat := 0
  cqTail : Nat := 0
  phase : Bool := true
  fetched : List Fetched := []
  waiting : List Completion := []
  /-- last doorbell values written (R573) -/
  sqDoorbell : Nat := 0
  cqDoorbell : Nat := 0
  frozen : Bool := false
  doorbellFault : Bool := false
  /-- cause of the freeze: CMD_ID, slot, status, opcode, info -/
  cause : Option ErrEntry := none
  errors : List ErrEntry := []
  /-- GET_LOG of the QUEUE_ERROR page waiting for the pair's fetched commands (R144): admin slot and entry -/
  logWaiters : List (Nat × SqEntry) := []
  /-- a reset of the pair waits for its begun commands (R145) -/
  resetting : Option ResetWaiter := none
  deriving DecidableEq, Repr

/-- The storage queues (chapter 05). -/
structure QueueState where
  /-- the queue pairs that exist | at most 256 | R126 05 | empty -/
  pairs : List QueuePair := []
  /-- arbiter pointer over the I/O SQs | 0 to 255 | R129 05 | 0 (R92) -/
  arb : Nat := 0
  /-- ARB_BURST | 1 to 128 | R142 05 | 8 -/
  arbBurst : Nat := 8
  /-- MAX_XFER | 1 to 4096 | R142 05 | 256 -/
  maxXfer : Nat := 256
  /-- COAL_COUNT | 0 to 255 | R142 05 | 0 -/
  coalCount : Nat := 0
  /-- COAL_TIME in us | 0 to 1000 | R142 05 | 0 -/
  coalTime : Nat := 0
  /-- WRITE_THROUGH | 1 bit | R142 05 | 0 -/
  writeThrough : Nat := 0
  /-- completions not yet signalled per MSI-X vector 8 to 31 | 24 counters | R574 21 | all 0 -/
  unsignalled : List Nat := List.replicate 24 0
  /-- FREEZE_COUNT of each pair since cold reset | list | R144 05 | empty -/
  freezeCounts : List (Nat × Nat) := []
  deriving DecidableEq, Repr

/-- One loaded Ingot of a dataset (R148, R156, R159). -/
structure LoadedIngot where
  startLba : Nat
  firstRecord : Nat
  recordCount : Nat
  lengthBlocks : Nat
  zone : Nat
  lost : Bool := false
  /-- the record index: byte offset and length of each record (R149) -/
  index : List (Nat × Nat) := []
  deriving DecidableEq, Repr

/-- One loaded dataset (R157, R158). -/
structure Dataset where
  id : Nat
  total : Nat
  ingots : List LoadedIngot
  deriving DecidableEq, Repr

/-- One catalogue: ascending (first record, owner) entries (R160). -/
structure Catalogue where
  datasetId : Nat
  total : Nat
  entries : List (Nat × Nat)
  deriving DecidableEq, Repr

/-- One loaded plan (R166, R167). -/
structure Plan where
  stream : Nat
  datasetId : Nat
  total : Nat
  startStep : Nat
  startEpoch : Nat
  perDest : Nat
  subReserve : Nat
  subTries : Nat
  dests : List Dest
  deriving DecidableEq, Repr

/-- Why a fetch runs: at the record's owner (R172), repeated at the twin peer (R173, R509), as the mirror step of a local
read (R102), or to relay for the twin peer, with its request (R509). -/
inductive FetchKind where
  | owner | twin | mirror
  | relay (qp tag offset maxLength bufVa rkey : Nat)
  deriving DecidableEq, Repr

/-- A fetch this device has outstanding (R172, R173). -/
structure Fetch where
  tag : Nat
  /-- queue pair index it was sent on -/
  qp : Nat
  /-- the sample it is for; a relay is for none -/
  sample : Nat := 0
  record : Nat
  received : Bytes := []
  /-- buffer pointer and its owner -/
  pointer : Nat
  owner : Nat
  kind : FetchKind := .owner
  deriving DecidableEq, Repr

/-- Datasets, catalogues, recipes, plans and preparation (chapter 06). -/
structure PlanState where
  /-- loaded datasets | at most 4 | R158 06 | empty -/
  datasets : List Dataset := []
  /-- stored catalogues | list | R160 06 | empty -/
  catalogues : List Catalogue := []
  /-- manager: the ranges each member reported, as (device, dataset, total, ranges) | list | R161 06 | empty -/
  reports : List (Nat × Nat × Nat × List (Nat × Nat)) := []
  /-- recipes by handle 0 to 15, the bytes of the LENGTH the header declares | list | R181 06 | empty -/
  recipes : List (Nat × Bytes) := []
  /-- plans by handle 0 to 15 | list | R167 06 | empty -/
  plans : List (Nat × Plan) := []
  /-- the seed record | 32 to 256 bytes | R165 06 | none: the key is all zero (R329) -/
  seed : Option Bytes := none
  /-- the active plan, as the segment in force, with its handle | record | R179 06 | none -/
  active : Option (Nat × Plan) := none
  /-- the recipe in force | handle | R179 06 | none -/
  recipe : Option Nat := none
  /-- START_STEP:0 of the job | Gauge | R180 06 | 0:0 (DESIGN CHOICE 2) -/
  startGauge : Gauge := ⟨0, 0⟩
  /-- steps whose preparation this device has begun, the next one | 64 bits | R171 06 | 0 (DESIGN CHOICE 2) -/
  nextStep : Nat := 0
  /-- a CATALOGUE_BUILD under way: its request, dataset and the members whose ranges are awaited | record | R161 06 | none -/
  building : Option (Req × Nat × List Nat) := none
  /-- fetches outstanding | list | R172 06 | empty -/
  fetches : List Fetch := []
  /-- TAG of the next fetch request | 16 bits | R172 06 | 0 (DESIGN CHOICE 2) -/
  nextTag : Nat := 0
  /-- catalogue faults | 64 bits | R173 06 | 0 -/
  catalogueFaults : Nat := 0
  /-- EPOCH_LIMIT has stopped preparation | 1 bit | R71 02 | false -/
  epochLimit : Bool := false
  deriving DecidableEq, Repr

end Sys2Proof.Machine
end

