-- ==== Sys2Proof/Machine/StateMgmt.lean ====
section
/-! DEFINITION. The state of the Lockkeeper, its mailboxes, the NOR settings, the firmware, the host link, resets, power
domains, clocks, logs, counters, telemetry and the disabled-unit map (chapters 01, 19 to 23 of the spec). Each
field's docstring reads `meaning | width | rule and chapter | reset value`. -/

namespace Sys2Proof.Machine

/-- The status codes of R532 that the model uses, by name. -/
inductive Status where
  | ok | inProgress | badCommand | badParam | busy | badLength | badSequence | notPermitted | badHeader | recovery
  | notFound | noContext | poolEmpty | quota | poolInUse
  | gaugePast | eventFull | epochLimit | weirBusy
  | mediaError | mediaReadOnly | lbaRange | zoneWritePointer | zoneBoundary | zoneOpenLimit | zoneReadOnly
  | zoneOffline | queueExists
  | fwBusy | fwSigInvalid | fwImageInvalid | fwSession | fwRollback | sigInvalid | ownerEnrolled | configInvalid
  | ingotInvalid | catalogueGap | catalogueFull | indexSpace | planInvalid | planFence | inUse | notManager
  | recipeInvalid | vocabInvalid | filterSpace | feedSlotSmall | feedNoRing | programInvalid | programStoreFull
  | launchMismatch | launchTimeout | chunkFailed | collAborted | residualSpace
  | detMismatch | checkpointInvalid | checkpointStale | datapathChange
  | portConflict | gateInvalid | tableFull | qpState
  | groupMismatch | ringOrder | formTimeout | twinMismatch | memberState | flushed
  deriving DecidableEq, Repr

/-- The value of a status code (R532). -/
def Status.value : Status → Nat
  | .ok => 0 | .inProgress => 1 | .badCommand => 2 | .badParam => 3 | .busy => 4 | .badLength => 5
  | .badSequence => 6 | .notPermitted => 7 | .badHeader => 8 | .recovery => 9 | .notFound => 12 | .noContext => 41
  | .poolEmpty => 42 | .quota => 43 | .poolInUse => 44
  | .gaugePast => 60 | .eventFull => 61 | .epochLimit => 62 | .weirBusy => 63
  | .mediaError => 70 | .mediaReadOnly => 71 | .lbaRange => 72 | .zoneWritePointer => 73 | .zoneBoundary => 74
  | .zoneOpenLimit => 75 | .zoneReadOnly => 76 | .zoneOffline => 77 | .queueExists => 78
  | .fwBusy => 80 | .fwSigInvalid => 81 | .fwImageInvalid => 82 | .fwSession => 83 | .fwRollback => 84
  | .sigInvalid => 85 | .ownerEnrolled => 86 | .configInvalid => 87
  | .ingotInvalid => 90 | .catalogueGap => 91 | .catalogueFull => 92 | .indexSpace => 93 | .planInvalid => 94
  | .planFence => 95 | .inUse => 96 | .notManager => 97 | .recipeInvalid => 98 | .vocabInvalid => 99
  | .filterSpace => 100 | .feedSlotSmall => 101 | .feedNoRing => 102 | .programInvalid => 103
  | .programStoreFull => 104 | .launchMismatch => 105 | .launchTimeout => 106 | .chunkFailed => 107
  | .collAborted => 108 | .residualSpace => 109 | .detMismatch => 110 | .checkpointInvalid => 111
  | .checkpointStale => 112 | .datapathChange => 113 | .portConflict => 114 | .gateInvalid => 115
  | .tableFull => 116 | .qpState => 117 | .groupMismatch => 118 | .ringOrder => 119 | .formTimeout => 120
  | .twinMismatch => 121 | .memberState => 122 | .flushed => 123

/-- The event codes of R529. -/
inductive Event where
  | gaugeSourceQuarantined | gaugeHold | gaugeResumed | epochStarted | epochLimit | weirLate | poolBadReturn
  | mediaCapacity | datasetDegraded | sampleVacated | slowSample | riffleFault | riffleRetired | drawplateFault
  | drawplateRetired | anvilFault | anvilFailed | unitVacant | crucibleRetired | feedLowWater | feedCreditFault
  | feedRingError | synthDropped | synthSpace | synthIngotWritten | detRecordChanged | checkpointDone
  | checkpointFailed | portLink | bufferLeak | bufferAuditFault | qpError | groupFormed | groupFormFailed
  | ringFolded | managerLost | twinSplit | twinLag | eventsLost | mgmtRestarted
  | fwChecked | configConflict | resetCause | domainState | watchdog | thermalThrottle | thermalTrip | criticalState
  deriving DecidableEq, Repr

/-- The value of an event code (R529). -/
def Event.value : Event → Nat
  | .gaugeSourceQuarantined => 0xE001 | .gaugeHold => 0xE002 | .gaugeResumed => 0xE003 | .epochStarted => 0xE004
  | .epochLimit => 0xE005 | .weirLate => 0xE006 | .poolBadReturn => 0xE007 | .mediaCapacity => 0xE008
  | .datasetDegraded => 0xE009 | .sampleVacated => 0xE00A | .slowSample => 0xE00B | .riffleFault => 0xE00C
  | .riffleRetired => 0xE00D | .drawplateFault => 0xE00E | .drawplateRetired => 0xE00F | .anvilFault => 0xE010
  | .anvilFailed => 0xE011 | .unitVacant => 0xE012 | .crucibleRetired => 0xE013 | .feedLowWater => 0xE014
  | .feedCreditFault => 0xE015 | .feedRingError => 0xE016 | .synthDropped => 0xE017 | .synthSpace => 0xE018
  | .synthIngotWritten => 0xE019 | .detRecordChanged => 0xE01A | .checkpointDone => 0xE01B
  | .checkpointFailed => 0xE01C | .portLink => 0xE01D | .bufferLeak => 0xE01E | .bufferAuditFault => 0xE01F
  | .qpError => 0xE020 | .groupFormed => 0xE021 | .groupFormFailed => 0xE022 | .ringFolded => 0xE023
  | .managerLost => 0xE024 | .twinSplit => 0xE025 | .twinLag => 0xE026 | .eventsLost => 0xE027
  | .mgmtRestarted => 0xE028 | .fwChecked => 0xE040 | .configConflict => 0xE041 | .resetCause => 0xE042
  | .domainState => 0xE043 | .watchdog => 0xE044 | .thermalThrottle => 0xE045 | .thermalTrip => 0xE046
  | .criticalState => 0xE047

/-- The events R529 marks critical. -/
def Event.critical : Event → Bool
  | .anvilFailed | .unitVacant | .managerLost | .twinSplit | .thermalTrip | .criticalState => true
  | _ => false

/-- A message the device sends: a response, a completion or an event (R520). -/
structure Message where
  /-- command code, or event code -/
  command : Nat
  status : Nat := 0
  tag : Nat := 0
  origin : Nat := 0
  response : Bool := false
  completion : Bool := false
  event : Bool := false
  critical : Bool := false
  seq : Nat := 0
  result : Nat := 0
  /-- answering device ID, and its side -/
  device : Nat := 0
  side : Nat := 0
  payload : Bytes := []
  /-- the answer's values in the order the command's chapter lists them, where it gives no layout -/
  values : List Nat := []
  deriving DecidableEq, Repr

/-- Something a command in progress holds until its completion (R526). -/
inductive Held where
  | pool (n : Nat) | dataset (id : Nat) | plan (h : Nat) | recipe (h : Nat) | vocab (h : Nat) | dupSet (h : Nat)
  | program (h : Nat) | channel (c : Nat) | residual (h : Nat) | qp (i : Nat) | storageQp (q : Nat) | region (k : Nat)
  | device (d : Nat) | nor | media | port (p : Nat) | unit (t : Nat)
  deriving DecidableEq, Repr

/-- A request from its arrival until its response, or its completion if it answered IN_PROGRESS (R517). -/
structure Outstanding where
  req : Req
  command : Nat
  /-- the payload as it arrived, none for a command that no mailbox carried -/
  payload : Option Bytes := none
  /-- arrival time, ACLK cycles -/
  arrived : Nat := 0
  /-- the Lockkeeper has started it (R516, R526) -/
  started : Bool := false
  /-- IN_PROGRESS has been answered (R524) -/
  inProgress : Bool := false
  deriving DecidableEq, Repr

/-- One of the mailboxes MB0 to MB6 (R517, R521, R572). -/
structure Mailbox where
  /-- outstanding commands, in the order accepted -/
  outstanding : List Outstanding := []
  /-- last accepted SEQUENCE, none until a SYNC after a warm or cold reset -/
  lastSeq : Option Nat := none
  /-- (SEQUENCE, TAG) of the last 16 accepted requests, newest first -/
  accepted : List (Nat × Nat) := []
  /-- the response cache of those requests -/
  cache : List ((Nat × Nat) × Message) := []
  /-- responses queued for the host (MB0 to MB3), oldest first; on MB4 to MB6 the responses sent -/
  responses : List Message := []
  /-- response window released but not yet replaced: RESP_READY (R572) -/
  respReady : Bool := false
  /-- MB0 to MB3: the request window, unwritten bytes 0 (R568) -/
  window : List (Nat × Byte) := []
  /-- the request window is being copied until this time (REQ_BUSY, R572) -/
  busyUntil : Nat := 0
  /-- rejections by status value -/
  rejections : List (Nat × Nat) := []
  /-- repeats dropped unanswered (R521) -/
  repeatsDropped : Nat := 0
  deriving DecidableEq, Repr

/-- MB7 (R528, R572). -/
structure Mb7 where
  /-- messages in the order queued | at most 256 | R528 19 | empty -/
  queue : List Message := []
  /-- completions and critical events waiting for space | at most 64 | R528 19 | empty -/
  reserve : List Message := []
  /-- non-critical events discarded since the last EVENTS_LOST | 64 bits | R528 19 | 0 -/
  lost : Nat := 0
  /-- events discarded in all | 64 bits | R531 19 | 0 -/
  lostTotal : Nat := 0
  /-- masked event codes | subset of 0xE000 to 0xE3FF | R528 19 | empty (DESIGN CHOICE 2) -/
  mask : List Nat := []
  /-- masked events counted | 64 bits | R528 19 | 0 -/
  masked : Nat := 0
  /-- MB7's own SEQUENCE | 16 bits | R520 19 | 0 (DESIGN CHOICE 2) -/
  seq : Nat := 0
  deriving DecidableEq, Repr

/-- Why a management restart is in progress (R515, R557, R585). -/
inductive RestartCause where
  | command | watchdog | residue | commit
  deriving DecidableEq, Repr

/-- The Lockkeeper and its mailboxes (chapter 19). -/
structure LockState where
  /-- MB0 to MB6 | 7 mailboxes | R517 19 | each empty -/
  boxes : List Mailbox := List.replicate 7 {}
  /-- MB7 | record | R528 19 | empty -/
  mb7 : Mb7 := {}
  /-- arbiter pointer over the mailboxes | 0 to 6 | R526 19 | 0 (R92) -/
  arb : Nat := 0
  /-- objects held by commands in progress | list | R526 19 | empty -/
  held : List (Held × Req) := []
  /-- a management restart is in progress, with its cause | flag | R516 19 | none -/
  restart : Option RestartCause := none
  /-- a management restart that fell due during a checkpoint's capture waits, with its cause | flag | R432 15 | none -/
  restartDue : Option RestartCause := none
  /-- the handover record: commands in progress and waiting, in order | list | R516, R561 19 | empty -/
  handover : List Outstanding := []
  /-- how the configuration entry being executed ended: status and RESULT | pair | R542 20 | none -/
  entry : Option (Status × Nat) := none
  /-- the payload of the configuration entry being executed | bytes | R542 20 | none -/
  entryPayload : Option Bytes := none
  /-- end of the last management restart | ACLK cycles | R515 19 | none -/
  restartEnd : Option Nat := none
  /-- that restart was caused by the watchdog | 1 bit | R515 19 | false -/
  restartByWatchdog : Bool := false
  /-- MB5 pieces dropped for another sender | 64 bits | R517 19 | 0 -/
  mb5Dropped : Nat := 0
  /-- datagrams dropped outside the allow prefix | 64 bits | R517 19 | 0 -/
  mb4Dropped : Nat := 0
  /-- corrected single-bit SRAM errors | 64 bits | R515 19 | 0 -/
  sramCorrected : Nat := 0
  deriving DecidableEq, Repr

/-- Which half of a paired record. -/
inductive Half where
  | a | b
  deriving DecidableEq, Repr

/-- The four kinds of paired record (chapter 20). -/
inductive RecordKind where
  | config | ucal | owner | retire
  deriving DecidableEq, Repr

/-- A paired record in NOR: the bytes of each half and the half selected at the last boot (R534, R535). -/
structure Paired where
  /-- half A -/
  a : Bytes := []
  /-- half B -/
  b : Bytes := []
  sel : Option Half := none
  deriving DecidableEq, Repr

/-- What a queued NOR write is for (R536, R557, R558). -/
inductive NorJob where
  | record (k : RecordKind) (half : Half) (bytes : Bytes)
  | image (bytes : Bytes)
  | writeBack (bytes : Bytes)
  deriving DecidableEq, Repr

/-- A NOR write accepted and not yet verified: its job, the mailbox request or storage command that waits, and the
RESULT of that request's completion (R536, R547). -/
structure NorWrite where
  job : NorJob
  waiter : Option (Req × Nat) := none
  storage : Option (Nat × Nat) := none
  result : Nat := 0
  deriving DecidableEq, Repr

/-- The fields of a firmware image that the model reads (R554). -/
structure FwInfo where
  version : Nat := 0
  datapathRev : Nat := 0
  securityVersion : Nat := 0
  handoverFormat : Nat := 0
  handoverReadMin : Nat := 0
  measurement : Bytes := []
  deriving DecidableEq, Repr

/-- Who owns a download session (R556). -/
inductive FwOrigin where
  | mailbox (n : Nat) | storage (qp : Nat)
  deriving DecidableEq, Repr

/-- A download session (R556). -/
structure FwSession where
  origin : FwOrigin
  bytes : Bytes
  /-- time of the last write, ACLK cycles -/
  last : Nat
  deriving DecidableEq, Repr

/-- What runs on the Lockkeeper (R563). -/
inductive Running where
  | main | recovery | download
  deriving DecidableEq, Repr

/-- Write-back states (R563). -/
inductive WriteBack where
  | none | running | done | failed
  deriving DecidableEq, Repr

/-- The maintenance port's settings (R541). -/
structure Maintenance where
  address : Nat := 0
  gateway : Nat := 0
  allow : Nat := 0
  prefixLen : Nat := 16
  allowLen : Nat := 16
  deriving DecidableEq, Repr

/-- NOR, settings, security and firmware (chapter 20). -/
structure NorState where
  /-- the FW_IMAGE region | 262,144 bytes | R534 20 | empty: no image (DESIGN CHOICE 2) -/
  image : Bytes := []
  /-- configuration copies | paired | R537 20 | absent (DESIGN CHOICE 2) -/
  config : Paired := {}
  /-- user calibration layer | paired | R545 20 | absent (DESIGN CHOICE 2) -/
  ucal : Paired := {}
  /-- owner key record | paired | R551 20 | absent (DESIGN CHOICE 2) -/
  owner : Paired := {}
  /-- retirement record | paired | R548 20 | absent (DESIGN CHOICE 2) -/
  retire : Paired := {}
  /-- NOR device readable (valid SFDP, capacity) | 1 bit | R533 20 | true (DESIGN CHOICE 2) -/
  readable : Bool := true
  /-- writes accepted, oldest first | list | R536 20 | empty -/
  writes : List NorWrite := []
  /-- a change of the disabled-unit map is not yet written, with its time | ACLK cycles | R548 20 | none -/
  retireDue : Option Nat := none
  /-- calibration in force: (field, user offset) of the applied layer | list | R546 20 | empty -/
  calApplied : List (Nat × Int) := []
  /-- owner key in force | 64 bytes | R551 20 | none -/
  ownerKey : Option Bytes := none
  /-- SEQUENCE of the enrolled owner record | 32 bits | R551 20 | 0 -/
  ownerSeq : Nat := 0
  /-- DEBUG entry of the applied copy: DEBUG_FULL, and whether the copy was owner-signed | 2 bits | R518, R539 19 | clear -/
  debugFull : Bool := false
  debugSigned : Bool := false
  /-- DIGEST of the copy applied at boot | 32 bytes | R553 20 | zeros: factory default -/
  configDigest : Bytes := List.replicate 32 0
  /-- the maintenance settings | record | R541 20 | the link-local address of R541 once applied -/
  maintenance : Maintenance := {}
  /-- running firmware | record | R554 20 | zeros (DESIGN CHOICE 2) -/
  fw : FwInfo := {}
  /-- what runs | 3 values | R563 20 | main -/
  running : Running := .main
  /-- retained image | bytes | R558 20 | none -/
  retained : Option Bytes := none
  /-- committed image not yet booted | version | R563 20 | none -/
  pendingVersion : Option Nat := none
  /-- the running image's bytes as the loader placed them | bytes | R557 20 | empty (DESIGN CHOICE 2) -/
  runningImage : Bytes := []
  /-- a management restart of a commit is scheduled | 1 bit | R557 20 | false -/
  restartScheduled : Bool := false
  /-- download session | record | R556 20 | none -/
  session : Option FwSession := none
  /-- LAST_CHECK | 8 bits | R563 20 | 0 -/
  lastCheck : Nat := 0
  /-- WRITE_BACK | 8 bits | R563 20 | none -/
  writeBack : WriteBack := .none
  /-- a second watchdog expiry ended a probation: LAST_CHECK 6 follows at the next boot | 1 bit | R564 20 | clear -/
  endedProbation : Bool := false
  /-- end of probation | ACLK cycles | R559 20 | none -/
  probation : Option Nat := none
  /-- BOOT_COUNT | 32 bits | R553 20 | 0 (DESIGN CHOICE 2) -/
  bootCount : Nat := 0
  /-- RESTART_COUNT since the last cold or warm boot | 32 bits | R553 20 | 0 -/
  restartCount : Nat := 0
  /-- RESTARTS since cold boot | 32 bits | R563 20 | 0 -/
  restartsCold : Nat := 0
  deriving DecidableEq, Repr

/-- The fuses and the one-time memory (R2, R5, R35, R545, R549, R550, R560). -/
structure Fuses where
  /-- clock bin | 27 or 24 | R2 00 | 27, the reference bin (DESIGN CHOICE 2) -/
  clockBin : Nat := 27
  /-- host die option H1 | 8 bits | R2 00 | 1 (DESIGN CHOICE 2) -/
  hostOption : Nat := 1
  /-- stepping | 8 bits | R3, R568 00 | 0xB0 -/
  stepping : Nat := 0xB0
  /-- engineering sample | 1 bit | R5 00 | false (DESIGN CHOICE 2) -/
  es : Bool := false
  /-- serial number | 64 bits | R531 19 | 0 (DESIGN CHOICE 2) -/
  serial : Nat := 0
  /-- DEVICE_UID | 64 bits | R537 20 | 0 (DESIGN CHOICE 2) -/
  uid : Nat := 0
  /-- SHA-256 of the vendor key | 32 bytes | R549 20 | zeros (DESIGN CHOICE 2) -/
  vendorHash : Bytes := List.replicate 32 0
  /-- burned security version bits | 0 to 64 | R560 20 | 0 (DESIGN CHOICE 2) -/
  securityMin : Nat := 0
  /-- identity seed, none while blank | 256 bits | R550 20 | none -/
  seed : Option Bytes := none
  /-- factory calibration: (field, value) | list | R545 20 | empty (DESIGN CHOICE 2) -/
  cal : List (Nat × Int) := []
  /-- identity certificate | bytes | R550 20 | empty (DESIGN CHOICE 2) -/
  cert : Bytes := []
  /-- fused-off Crucible sites | 18 bits | R35, R38 01 | none (DESIGN CHOICE 2) -/
  crucibleOff : BitVec 18 := 0
  /-- fused-off Riffle sites | 10 bits | R35, R38 01 | none (DESIGN CHOICE 2) -/
  riffleOff : BitVec 10 := 0
  /-- fused-off Drawplates | 2 bits | R38 01 | none (DESIGN CHOICE 2) -/
  drawplateOff : BitVec 2 := 0
  /-- fused-off port blocks | 64 bits | R38 01 | none (DESIGN CHOICE 2) -/
  portBlockOff : BitVec 64 := 0
  /-- fused-off LPDDR6 channels | 48 bits | R38 01 | none (DESIGN CHOICE 2) -/
  lpddr6Off : BitVec 48 := 0
  /-- fused-off NAND channels | 48 bits | R38 01 | none (DESIGN CHOICE 2) -/
  nandOff : BitVec 48 := 0
  deriving DecidableEq, Repr

/-- The disabled-unit map (R38). -/
structure UnitMap where
  /-- CRUCIBLE_OFF | 18 bits | R38 01 | as fused -/
  crucibleOff : BitVec 18 := 0
  /-- RIFFLE_OFF | 10 bits | R38 01 | as fused -/
  riffleOff : BitVec 10 := 0
  /-- DRAWPLATE_OFF | 2 bits | R38 01 | as fused -/
  drawplateOff : BitVec 2 := 0
  /-- PORT_BLOCK_OFF | 64 bits | R38 01 | as fused -/
  portBlockOff : BitVec 64 := 0
  /-- LPDDR6_OFF | 48 bits | R38 01 | as fused -/
  lpddr6Off : BitVec 48 := 0
  /-- NAND_OFF | 48 bits | R38 01 | as fused -/
  nandOff : BitVec 48 := 0
  /-- CRUCIBLE_MAP: site of Crucible n, none when vacant | 16 entries | R35, R38 01 | sites 0 to 15 ascending -/
  crucibleMap : List (Option Nat) := (List.range 16).map some
  /-- RIFFLE_MAP: site of Riffle n, none when vacant | 8 entries | R35, R38 01 | sites 0 to 3 and 5 to 8 -/
  riffleMap : List (Option Nat) := [0, 1, 2, 3, 5, 6, 7, 8].map some
  deriving DecidableEq, Repr

/-- One ALLOC block of the host link (R571). -/
structure AllocBlock where
  /-- ALLOC_RESULT.DONE -/
  done : Bool := true
  status : Nat := 0
  pointer : Nat := 0
  returnStatus : Nat := 0
  returnDone : Bool := true
  /-- when DONE was last cleared by a request that still waits -/
  waitingPool : Option Nat := none
  deriving DecidableEq, Repr

/-- The host link (chapter 21). -/
structure LinkState where
  /-- trained UCIe modules, HL_STATUS.MODULES | 4 bits | R569 21 | 0 -/
  modules : BitVec 4 := 0
  /-- HL_STATUS.DEVICE_READY | 1 bit | R569 21 | 0 -/
  ready : Bool := false
  /-- HL_ERROR | 32 bits, [5:0] used | R570 21 | 0 -/
  error : BitVec 32 := 0
  /-- ALLOC blocks 0 to 14 | 15 records | R571 21 | DONE set, all else 0 (DESIGN CHOICE 2) -/
  alloc : List AllocBlock := List.replicate 15 {}
  /-- ignored HL_RESET_REQ values | 64 bits | R568 21 | 0 -/
  resetIgnored : Nat := 0
  /-- ignored ALLOC_REQ and RETURN writes | 64 bits | R571 21 | 0 -/
  allocIgnored : Nat := 0
  /-- accesses beyond the decoder range | 64 bits | R576 21 | 0 -/
  windowFaults : Nat := 0
  /-- the HDM decoder base | 64 bits | R575 21 | 0 (DESIGN CHOICE 2) -/
  hdmBase : Nat := 0
  /-- MSI-X table, 32 entries of 16 bytes | cells, unwritten bytes 0 and mask bits 1 | R568 21 | PRESUMED as PCIe resets it (12) -/
  msixTable : List (Nat × Byte) := []
  /-- MSI-X PBA: pending bits of vectors 0 to 31 | 32 bits | R568 21 | PRESUMED 0, as PCIe resets it (12) -/
  pba : BitVec 32 := 0
  /-- MSI-X messages sent, newest last | vectors | R574 21 | empty -/
  msix : List Nat := []
  /-- HDM line writes that back-invalidated the host | 64 bits | R577 21 | 0 -/
  backInvalidates : Nat := 0
  /-- data returned by the last host read | bytes | R575 21 | empty -/
  hostRead : Bytes := []
  deriving DecidableEq, Repr

/-- Cold or warm (R585). -/
inductive Scope where
  | cold | warm
  deriving DecidableEq, Repr

/-- Reset sources (R586). -/
inductive Source where
  | powerOn | sysRstN | watchdog | mailbox | thermalTrip | hostLink | lkSram | shadowParity | poolPointer
  | clockLock | escalated
  deriving DecidableEq, Repr

/-- SOURCE values (R586). -/
def Source.value : Source → Nat
  | .powerOn => 1 | .sysRstN => 2 | .watchdog => 3 | .mailbox => 4 | .thermalTrip => 5 | .hostLink => 6
  | .lkSram => 7 | .shadowParity => 8 | .poolPointer => 9 | .clockLock => 10 | .escalated => 11

/-- The first event of the widest scope of the reset in progress or last ended (R589). -/
structure ResetCause where
  source : Source := .powerOn
  scope : Scope := .cold
  original : Nat := 0
  detail : Nat := 0
  deriving DecidableEq, Repr

/-- Rows of R595 reached by a reset in progress: the last row completed. -/
inductive BootStep where
  | held      -- step 1 done: outputs in the states of R597, internal reset asserted
  | released  -- steps 2 and 3 done: internal reset released, straps latched, fuse shadow loaded
  | mgmt      -- step 4 done: management region out of reset, the loader has started
  | booted    -- steps 5 and 6 done: RST_OUT_N released, an image runs
  | memory    -- step 7 done
  | media     -- steps 8 and 9 done
  | running   -- step 10 done
  deriving DecidableEq, Repr

/-- Power domain states (R603). -/
inductive DomainStatus where
  | off | poweringOn | on | poweringOff | pendingOn | pendingOff | failed
  deriving DecidableEq, Repr

/-- The value of a domain state (R603). -/
def DomainStatus.value : DomainStatus → Nat
  | .off => 0 | .poweringOn => 1 | .on => 2 | .poweringOff => 3 | .pendingOn => 4 | .pendingOff => 5 | .failed => 6

/-- How far a power-down has come (R604). -/
inductive DomainPhase where
  | idle | draining | switching
  deriving DecidableEq, Repr

/-- One power domain (R601 to R606). -/
structure Domain where
  status : DomainStatus := .off
  phase : DomainPhase := .idle
  /-- requests waiting for a stable state -/
  waiting : List Req := []
  /-- power good -/
  good : Bool := false
  deriving DecidableEq, Repr

/-- Targets of a block reset in progress (R599, R600). -/
structure BlockReset where
  target : Nat
  waiter : Option Req := none
  /-- reset released, self-test running -/
  testing : Bool := false
  deriving DecidableEq, Repr

/-- Reset, power domains and clocks (chapter 22). -/
structure PowerState where
  /-- last row of R595 completed | 7 values | R595 22 | held: step 1 of a POWER_ON cold reset -/
  boot : BootStep := .held
  /-- the first event of the widest scope | record | R589 22 | POWER_ON, COLD -/
  cause : ResetCause := {}
  /-- time of the last reset event | ACLK cycles | R588 22 | 0 -/
  eventAt : Nat := 0
  /-- end of the last warm reset | ACLK cycles | R587 22 | none -/
  warmEnd : Option Nat := none
  /-- RST_OUT_N asserted (low) | 1 bit | R588 22 | true -/
  rstOut : Bool := true
  /-- NAND WP_N asserted (low) | 1 bit | R597 22 | true -/
  nandWp : Bool := true
  /-- NAND CE_N deasserted (high) | 1 bit | R597 22 | true -/
  nandCeHigh : Bool := true
  /-- LPDDR6 RESET_N low, CKE low | 2 bits | R597 22 | both low -/
  lpddrResetLow : Bool := true
  ckeLow : Bool := true
  /-- NOR CS_N deasserted (high) | 1 bit | R597 22 | true -/
  norCsHigh : Bool := true
  /-- UCIe transmitters idle | 1 bit | R597 22 | true -/
  ucieIdle : Bool := true
  /-- maintenance port transmitter off | 1 bit | R597 22 | true -/
  maintOff : Bool := true
  /-- LPDDR6 in self-refresh | 1 bit | R597 22 | false (cold) -/
  selfRefresh : Bool := false
  /-- latched BOOT_SRC | 2 bits | R590 22 | 0b00, the unstrapped value (R629) -/
  bootSrc : BitVec 2 := 0
  /-- latched CLK_MODE | 2 bits | R590 22 | 0b00, the unstrapped value (R629) -/
  clkMode : BitVec 2 := 0
  /-- CLK_MODE was 0b11 | 1 bit | R589, R590 22 | false -/
  clkFault : Bool := false
  /-- SYS_RST_N pin is low | 1 bit | R586 22 | false -/
  sysRstLow : Bool := false
  /-- a POWER_ON event has come and the straps have not been sampled since | 1 bit | R590 22 | true -/
  strapsDue : Bool := true
  /-- critical-state errors to report after the reset, by SOURCE | list | R586 22 | empty -/
  criticalDue : List Nat := []
  /-- a thermal trip to report after the reset, and to cool down from, by its sensor | index | R586, R588 22 | none -/
  tripDue : Option Nat := none
  /-- lock indicators of PLL 1 to 10 | 10 bits | R591, R593 22 | none locked (DESIGN CHOICE 2) -/
  locks : BitVec 10 := 0
  /-- the TB PLL takes ring-in | 1 bit | R592 22 | false -/
  tbRing : Bool := false
  /-- TB PLL changes to REFCLK_SYS counted | 64 bits | R594 22 | 0 -/
  tbChanges : Nat := 0
  /-- the 30 power domains | 30 records | R601, R603 22 | OFF -/
  domains : List Domain := List.replicate 30 {}
  /-- block resets in progress | list | R599, R600 22 | empty -/
  blocks : List BlockReset := []
  /-- cold reset in force since | ACLK cycles | R611 23 | 0 -/
  coldAt : Nat := 0
  /-- SerDes transmitters not in electrical idle, by port block | 64 bits | R597 22 | none -/
  serdesOn : BitVec 64 := 0
  deriving DecidableEq, Repr

/-- The identifiers of the counters of R612 and of the counts other rules keep. -/
inductive Counter where
  | port (p k : Nat)
  | rdma (block r : Nat)
  | gauge (a r : Nat)
  | pool (n k : Nat)
  | sample (r : Nat)
  | feed (d k : Nat)
  | synth (r : Nat)
  | memory (c k : Nat)
  | link (l k : Nat)
  deriving DecidableEq, Repr

/-- The sticky logs of R610. -/
inductive LogId where
  | resetHistory | critical | memory | unit | pool | config | link | thermal | media
  deriving DecidableEq, Repr

/-- One log entry (R611). -/
structure LogEntry where
  seq : Nat
  uptimeUs : Nat
  step : Nat
  code : Nat
  subject : Nat
  detail : List Nat
  deriving DecidableEq, Repr

/-- One sticky log (R610, R611). -/
structure Log where
  id : LogId
  entries : List LogEntry := []
  overflow : Nat := 0
  nextSeq : Nat := 0
  deriving DecidableEq, Repr

/-- Where telemetry goes (R614). -/
inductive TelDest where
  | ring (base slots : Nat)
  | port (ip udp : Nat)
  deriving DecidableEq, Repr

/-- Errors, logs, counters, telemetry, sensors and throttling (chapter 23). -/
structure TelemetryState where
  /-- the nine sticky logs | records | R610 23 | empty -/
  logs : List Log := [⟨.resetHistory, [], 0, 0⟩, ⟨.critical, [], 0, 0⟩, ⟨.memory, [], 0, 0⟩, ⟨.unit, [], 0, 0⟩,
    ⟨.pool, [], 0, 0⟩, ⟨.config, [], 0, 0⟩, ⟨.link, [], 0, 0⟩, ⟨.thermal, [], 0, 0⟩, ⟨.media, [], 0, 0⟩]
  /-- the counters of R612 that are not 0 | 64 bits each | R612 23 | all 0 -/
  counters : List (Counter × Nat) := []
  /-- telemetry stream on | 1 bit | R614 23 | off (DESIGN CHOICE 2) -/
  on : Bool := false
  /-- INTERVAL in ms | 1 to 10,000 | R614 23 | 1 (DESIGN CHOICE 2) -/
  interval : Nat := 1
  /-- destination | record | R614 23 | none -/
  dest : Option TelDest := none
  /-- SEQUENCE of the next record | 32 bits | R615 23 | 0 -/
  seq : Nat := 0
  /-- datagrams the maintenance port sent, newest last | bytes | R614 23 | empty -/
  sent : List Bytes := []
  /-- telemetry datagrams dropped | 64 bits | R614 23 | 0 -/
  dropped : Nat := 0
  /-- last three readings of the 16 junction sensors, in 0.1 C, newest first | 16 lists | R616 23 | empty: no reading -/
  temps : List (List Int) := List.replicate 16 []
  /-- last three readings of the 8 rail monitors, in mV, newest first | 8 lists | R616 23 | empty: no reading -/
  rails : List (List Int) := List.replicate 8 []
  /-- domain power in 10 mW | 30 x 16 bits | R615, R625 23 | 0 (DESIGN CHOICE 2) -/
  domainPower : List Nat := List.replicate 30 0
  /-- package power in mW | 32 bits | R615, R625 23 | 0 (DESIGN CHOICE 2) -/
  packagePower : Nat := 0
  /-- THROTTLE_SET limit in W | 300 to 1,080 | R617 23 | 1,080 -/
  limit : Nat := 1080
  /-- throttle duty in eighths | 2 to 8 | R617 23 | 8 (DESIGN CHOICE 2) -/
  duty : Nat := 8
  /-- consecutive cool evaluations | 0 to 9 | R617 23 | 0 -/
  cool : Nat := 0
  /-- THROTTLE_N is low after its filter | 1 bit | R617 23 | false (pull-up, R629) -/
  throttleLow : Bool := false
  /-- die-to-die links retraining, by index of R612 block 9 | list | R609 23 | empty -/
  retraining : List Nat := []
  /-- lines patrolled per LPDDR6 channel | list | R580 21 | empty -/
  patrolled : List (Nat × Nat) := []
  deriving DecidableEq, Repr

end Sys2Proof.Machine
end

