-- ==== Sys2Proof/Machine/StateGroup.lean ====
section
/-! DEFINITION. The state of the group, its formation, the management ring, the quorum and proxy preparation
(chapter 18, and R391, R392 of chapter 14). Each field's docstring reads
`meaning | width | rule and chapter | reset value`. -/

namespace Sys2Proof.Machine

/-- The group settings (R492). -/
structure GroupSettings where
  /-- GROUP_ID, 0 while none is set -/
  groupId : Nat := 0
  side : Nat := 0
  deviceId : Nat := 0
  managerId : Nat := 0
  twin : Bool := false
  expected : BitVec 128 := 1
  formTimeout : Nat := 10
  mgrTimeout : Nat := 100
  twinLag : Nat := 64
  deriving DecidableEq, Repr

/-- Where formation stands (R497). -/
inductive FormStep where
  | neighbours | hellos | delays | record | twin | formed
  deriving DecidableEq, Repr

/-- A formation in progress (R497). -/
structure Formation where
  /-- time it began, and of its last attempt -/
  start : Nat
  step : FormStep := .neighbours
  /-- ring neighbours whose HELLO over the link was in order: on ring-in, on ring-out -/
  inOk : Bool := false
  outOk : Bool := false
  /-- the status of the first failure since the last attempt, 0 while none -/
  failed : Nat := 0
  /-- FORM_TIMEOUT has run out: no retry follows -/
  timedOut : Bool := false
  /-- the other manager's HELLO agrees (step 7) -/
  twinOk : Bool := false
  /-- the request GROUP_FORM that waits for it -/
  waiter : Option Req := none
  deriving DecidableEq, Repr

/-- What a quorum's completion does (R500, R176, R431). -/
inductive QuorumGoal where
  | answer (r : Req) (code : Nat) (result : Nat) (payload : Bytes) (values : List Nat)
  | arm (r : Req) (handle : Nat)
  | weir (r : Req) (code : Nat)
  | build (r : Req) (dataset : Nat)
  /-- CHECKPOINT_RESUME: every member has checked its image and resumed (R437, R438) -/
  | resume (r : Req) (place address : Nat)
  | membership
  /-- side B's manager: its side has acknowledged an item that side A's manager forwarded (R501) -/
  | relay (subject : Nat) (digest : Bytes)
  /-- MANAGER_RESTORE: the device with MANAGER_ID holds a full copy (R506) -/
  | restore (r : Req)
  /-- nothing waits: the acknowledgements are only compared (R500) -/
  | compare
  deriving DecidableEq, Repr

/-- A distribution whose acknowledgements are awaited (R500). -/
structure Quorum where
  /-- digest every member must acknowledge -/
  digest : Bytes
  subject : Nat
  awaiting : List Nat
  goal : QuorumGoal
  /-- a member admitted a launch of the checkpoint's step or later (R431) -/
  early : Bool := false
  deriving DecidableEq, Repr

/-- Why a worker is SERVICE_LOST (R507). -/
inductive ServiceCause where
  | anvil | drawplates | riffles | stripe | handover
  deriving DecidableEq, Repr

/-- A destination prepared by a proxy (R507). -/
structure ProxyDest where
  dest : Dest
  step : Nat
  carry : List (Nat × Nat × Nat)
  deriving DecidableEq, Repr

/-- A device being admitted (R510). -/
structure Join where
  device : Nat
  /-- the device is of the other side, whose acting manager this is (R506) -/
  far : Bool := false
  /-- the join step, 2^64 while the device's ranges are awaited -/
  step : Nat
  /-- datasets whose ranges the device has not reported yet -/
  checks : List Nat := []
  waiter : Option Req := none
  deriving DecidableEq, Repr

/-- The group (chapter 18). -/
structure GroupState where
  /-- the group settings in force | record | R492 18 | the defaults of R492, GROUP_ID 0: none set -/
  set : GroupSettings := {}
  /-- settings waiting for the next formation | record | R492 18 | none -/
  next : Option GroupSettings := none
  /-- state of each member of this side, absent ones left out | list | R494 18 | empty: every device ABSENT -/
  members : List (Nat × MemberStatus) := []
  /-- state of each member of the other side | list | R494 18 | empty -/
  peers : List (Nat × MemberStatus) := []
  /-- formation in progress | record | R497 18 | none -/
  forming : Option Formation := none
  /-- the manager's device ID as this device takes it | 7 bits | R493, R506 18 | 0 -/
  manager : Nat := 0
  /-- this device is the acting manager of the other side | 1 bit | R506 18 | false -/
  acting : Bool := false
  /-- this side is managed by the twin's acting manager | 1 bit | R506 18 | false -/
  actedFor : Bool := false
  /-- this side's relay under an acting manager | device ID | R506 18 | none -/
  relay : Option Nat := none
  /-- the manager is taken as lost | 1 bit | R504 18 | false -/
  managerLost : Bool := false
  /-- this device folds the ring | 1 bit | R503 18 | false -/
  folded : Bool := false
  /-- ring-in and ring-out links up | 2 bits | R495 18 | up (DESIGN CHOICE 2) -/
  ringIn : Bool := true
  ringOut : Bool := true
  /-- when each worker was last heard | list | R504 18 | empty -/
  heard : List (Nat × Nat) := []
  /-- when a HEARTBEAT was last heard | ACLK cycles | R504 18 | none -/
  heartbeatAt : Option Nat := none
  /-- when the twin's keep-alive was last heard | ACLK cycles | R502 18 | none -/
  keepaliveAt : Option Nat := none
  /-- twin links up between any devices of the sides, as port numbers 0 to 3 of this device | list | R502 18 | empty -/
  twinUp : List Nat := []
  /-- TWIN_SPLIT holds | 1 bit | R502 18 | false -/
  split : Bool := false
  /-- the other side's mode as its manager last gave it: exact or not | flag | R420, R502 15 | exact, the default of R420 -/
  peerExact : Bool := true
  /-- quorums awaited | list | R500 18 | empty -/
  quorums : List Quorum := []
  /-- next sequence number of each channel this device sends on | 16 bits each | R392 14 | 0 -/
  nextSeq : List (Nat × Nat) := []
  /-- pieces sent and not returned intact a second time, with the time sent and the passes made | at most 64 per channel | R392 14 | empty -/
  flying : List (Piece × Nat × Nat) := []
  /-- pieces waiting for the limit of 64 | list | R392 14 | empty -/
  queued : List Piece := []
  /-- last number acted on, per sender and channel | 16 bits each | R392 14 | none: 0 is expected -/
  acted : List ((Nat × Nat) × Nat) := []
  /-- the reorder store | at most 64 per sender and channel | R392 14 | empty -/
  reorder : List Piece := []
  /-- duplicates dropped; copies dropped as outside or for a full store | 64 bits each | R392 14 | 0 -/
  duplicates : Nat := 0
  dropped : Nat := 0
  /-- why this worker is SERVICE_LOST | cause | R507 18 | none -/
  serviceCause : Option ServiceCause := none
  /-- destinations of this device that its proxy prepares | list | R507 18 | empty -/
  handedOver : List ProxyDest := []
  /-- destinations of the twin peer that this device prepares | list | R507 18 | empty -/
  proxyFor : List ProxyDest := []
  /-- devices being admitted | list | R510 18 | empty -/
  joins : List Join := []
  /-- the last HELLO heard from each device of either side | list | R497, R510 18 | empty -/
  hellos : List Hello := []
  /-- the links between each device and the next rank, as device, delay and offset in ps | list | R75 02 | empty -/
  hops : List (Nat × Int × Int) := []
  deriving DecidableEq, Repr

end Sys2Proof.Machine
end

