-- ==== Sys2Proof/Machine/StateOut.lean ====
section
/-! DEFINITION. What the block sends: a record of its outgoing traffic, newest last, so that a statement can say what
leaves it (log entry 6). -/

namespace Sys2Proof.Machine

/-- One thing sent. -/
inductive Sent where
  /-- a piece this device places on ring-out (R392) -/
  | piece (p : Piece)
  /-- another member's piece passed on (R392) -/
  | passed (p : Piece)
  /-- a HELLO exchanged with the ring neighbours over the links themselves (R497) -/
  | neighbour (h : Hello)
  /-- the managers' exchange over the twin links (R502) -/
  | twin (b : Body)
  deriving DecidableEq, Repr

end Sys2Proof.Machine
end

