-- ==== Sys2Proof/Machine/NgayxOps.lean ====
section
/-! DEFINITION. The operations of Ngayx instructions on one program context (chapters 12 and 13): registers, lanes,
blocks, predicates, draws, ports, the context grant and the tree-node sum. -/

namespace Sys2Proof

open Machine

/-- Signed value of the 28-bit immediate (R360). -/
def Fields.simm (w : Fields) : Int := signedOf 28 w.imm

/-- The format of F; the load checks let no other code through (R354, R361). -/
def Fields.fmt (w : Fields) : Fmt := (fmtOf w.f).getD .fp32

/-- The rounding mode of RM. -/
def Fields.mode (w : Fields) : Rm := (rmOf w.rm).getD .rne

/-- The draw selector SEL (R360). -/
def Fields.sel (w : Fields) : Nat := bitsOf w.imm 27 20

/-- G and H of a conversion (R380). -/
def Fields.gFmt (w : Fields) : Fmt := (fmtOf (bitsOf w.imm 4 0)).getD .fp32
def Fields.hSel (w : Fields) : Nat := bitsOf w.imm 7 5

end Sys2Proof

namespace Sys2Proof.Machine

/-! ### Registers -/

/-- Scalar, vector and predicate register of a number. -/
def NgCtx.sr (x : NgCtx) (n : Nat) : Nat := x.s.getD n 0
def NgCtx.vr (x : NgCtx) (n : Nat) : Nat := x.v.getD n 0
def NgCtx.pr (x : NgCtx) (n : Nat) : Nat := x.p.getD (n % 8) 0

/-- Write a scalar register modulo 2^64 (R372). -/
def NgCtx.setS (x : NgCtx) (n v : Nat) : NgCtx := { x with s := x.s.set n (v % 2 ^ 64) }

/-- Write a scalar register with an integer modulo 2^64. -/
def NgCtx.setSi (x : NgCtx) (n : Nat) (v : Int) : NgCtx := x.setS n (wrapTo 64 v)

/-- Write a vector register. -/
def NgCtx.setV (x : NgCtx) (n v : Nat) : NgCtx := { x with v := x.v.set n (v % 2 ^ 4096) }

/-- Set numeric flags (R327). -/
def NgCtx.flag (x : NgCtx) (fl : Nat) : NgCtx := { x with flags := x.flags ||| fl }

/-- The instruction has executed and the next one follows (R350). -/
def NgCtx.next (x : NgCtx) : NgCtx := { x with pc := x.pc + 1, executed := x.executed + 1 }

/-- The instruction has executed and the branch is taken. -/
def NgCtx.jump (x : NgCtx) (target : Nat) : NgCtx := { x with pc := target, executed := x.executed + 1 }

/-- The instruction faults (R351): the run ends. -/
def NgCtx.faulted (x : NgCtx) (code : Nat) : NgCtx :=
  { x with fault := code, faultPc := x.pc, executed := x.executed + 1 }

/-! ### Lanes and predicates (R339, R340, R362, R363) -/

/-- lanes(F): lanes in element view, 256 for block formats (R339, R361). -/
def lanes (f : Fmt) : Nat := if f.cls = .blk then 256 else 4096 / f.bits

/-- The lane codes of a register in element view (R339). -/
def laneCodes (f : Fmt) (reg : Nat) : List Nat := unpackElems f.bits (lanes f) reg

/-- A lane is governed (R362). -/
def NgCtx.gov (x : NgCtx) (w : Fields) (i : Nat) : Bool := decide (w.pe = 0) || bitOf (x.pr w.p) i

/-- Or of a list of flag sets. -/
def orFlags (l : List Nat) : Nat := l.foldl (· ||| ·) 0

/-- Count an event of a list of flag sets. -/
def countFlag (fl : Nat) (l : List Nat) : Nat := (l.filter (fun x => decide (x &&& fl ≠ 0))).length

/-- Keep statistics of rounded elements (R328). -/
def NgCtx.note (x : NgCtx) (fls : List Nat) : NgCtx :=
  let fl := orFlags fls
  { x with flags := x.flags ||| fl, stats := { x.stats with
      saturations := min (x.stats.saturations + countFlag fSat fls) (2 ^ 64 - 1), flags := x.stats.flags ||| fl } }

/-- Set flags and count saturated elements (R327, R328). -/
def NgCtx.saturated (x : NgCtx) (fl n : Nat) : NgCtx :=
  { x with flags := x.flags ||| fl, stats := { x.stats with
      saturations := min (x.stats.saturations + n) (2 ^ 64 - 1), flags := x.stats.flags ||| fl } }

/-- Write the governed lanes of a vector in element view; each lane gives its code and flags. -/
def NgCtx.writeLanes (x : NgCtx) (w : Fields) (f : Fmt) (d : Nat) (g : Nat → Nat × Nat) : NgCtx :=
  let new := (laneCodes f (x.vr d)).mapIdx (fun i o => if x.gov w i then g i else (o, 0))
  (x.setV d (packElems f.bits (new.map (·.1)))).note (new.map (·.2))

/-- Write the governed lane bits of a predicate; bits at or above lanes(F) become 0 (R363). -/
def NgCtx.writePred (x : NgCtx) (w : Fields) (f : Fmt) (d : Nat) (g : Nat → Bool) : NgCtx :=
  let old := x.pr d
  let bits := (List.range (lanes f)).map (fun i => if (if x.gov w i then g i else bitOf old i) then 1 else 0)
  { x with p := x.p.set (d % 8) (packElems 1 bits) }

/-! ### Draws (R368) -/

/-- The draw of result lane i from a base (R368). -/
def NgCtx.draw (x : NgCtx) (key : Bytes) (base sel i : Nat) : Nat :=
  let t := x.site
  if t.kernel then
    let n := (base + i) % 2 ^ 29
    let y := n / 16
    genWordAt key 6 t.epoch t.position (t.attempt * 2 ^ 36 + t.kernelIndex * 2 ^ 33 + y % 8 * 2 ^ 30
      + y / 8 % 2 ^ 12 * 2 ^ 18 + y / 2 ^ 15 % 4 * 2 ^ 16 + y / 2 ^ 17 % 256 * 2 ^ 8 + sel) n
  else
    let n := (base + i) % 2 ^ 44
    genWordAt key 6 (t.step % 2 ^ 32) (sel * 2 ^ 40 + n / 16) (t.channel * 2 ^ 30 + t.ordinal * 2 ^ 18
      + t.level * 2 ^ 16 + t.node % 2 ^ 16) n

/-- The draw of a rounding instruction's lane, drawn only under SR (R367). -/
def NgCtx.lane (x : NgCtx) (key : Bytes) (w : Fields) (i : Nat) : Nat :=
  if w.mode = .sr then x.draw key (x.sr w.c) w.sel i else 0

/-! ### Block view (R339, R364, R365) -/

/-- A register is wide when any of its eight tags has ESCAPE set (R365). -/
def isWide (reg : Nat) : Bool := (List.range 8).any (fun b => bitOf reg (8 * b + 2))

/-- The element format a register is laid out in. -/
def viewFmt (f : Fmt) (reg : Nat) : Fmt := if isWide reg then .b8 else f

/-- The eight blocks of a register, their elements in `viewFmt` codes. -/
def regBlocks (f : Fmt) (reg : Nat) : List Block :=
  let g := viewFmt f reg
  (List.range 8).map (fun b => ⟨reg / 2 ^ (8 * b) % 256, reg / 2 ^ (64 + 8 * b) % 256,
    unpackElems g.bits 32 (reg / 2 ^ (128 + 8 * b * g.elemBytes))⟩)

/-- Carry an element code between element formats, exactly where it can be held (R365, R366): the code and whether the
value had to saturate. -/
def recode (src dst : Fmt) (c : Nat) : Nat × Bool :=
  if src = dst then (c, false)
  else match src.value c with
    | .fin n x =>
      let y := dst.roundMag .rne 0 x.abs
      if dst.maxMag.lt y then (dst.elemCode n dst.maxMag, true) else (dst.elemCode n y, !(y.eq x.abs))
    | .nan => (dst.nan, false)
    | .inf n => (dst.elemCode n dst.maxMag, true)

/-- Whether an element value lies beyond what a format holds once rounded, so that R317 saturates it (R366). -/
def overNarrow (src dst : Fmt) (c : Nat) : Bool :=
  match src.value c with
  | .fin _ x => dst.maxMag.lt (dst.roundMag .rne 0 x.abs)
  | _ => false

/-- Carry a block's elements between element formats (R364 to R366): the block, the flags and the elements R317 saturates.
Widening is exact, and a reserved T2 code is read as 0; in narrowing, an element NaN makes the block non-finite. -/
def carryBlock (src dst : Fmt) (b : Block) : Block × Nat × Nat :=
  if src = dst then (b, 0, 0)
  else if b.elems.any (fun c => decide (src.value c = .nan)) then (nanBlock dst, fNanScale, 0)
  else
    let cs := b.elems.map (recode src dst)
    let bad := decide (src = .t2) && decide (b.scale ≠ 0xFF) && b.elems.any (fun c => decide (c % 4 = 2))
    ({ b with elems := cs.map (·.1) }, (if cs.any (·.2) then fSat else 0) ||| (if bad then fBadCode else 0),
      (b.elems.filter (overNarrow src dst)).length)

/-- The element format of a register that holds these blocks: any ESCAPE makes it wide (R365). -/
def packFmt (f : Fmt) (bs : List (Block × Fmt)) : Fmt := if bs.any (fun b => bitOf b.1.tag 2) then .b8 else f

/-- The blocks of a register, carried to its element format.
DEDUCED: a register that no longer holds an escaped block is narrowed as R366 narrows a block (log 106). -/
def carryBlocks (f : Fmt) (bs : List (Block × Fmt)) : List (Block × Nat × Nat) :=
  bs.map (fun b => carryBlock b.2 (packFmt f bs) b.1)

/-- Lay eight blocks out in a register; each comes with the format of its element codes (R339, R365). -/
def packReg (f : Fmt) (bs : List (Block × Fmt)) : Nat :=
  let g := packFmt f bs
  let out : List Block := (carryBlocks f bs).map (·.1)
  let tags := packElems 8 (out.map (·.tag))
  let scales := packElems 8 (out.map (·.scale))
  let elems := packElems (8 * g.elemBytes) (out.map (fun b => packElems g.bits b.elems))
  tags + 2 ^ 64 * scales + 2 ^ 128 * elems

/-- The flags that laying blocks out in a register sets, and the elements it saturates. -/
def packFlags (f : Fmt) (bs : List (Block × Fmt)) : Nat × Nat :=
  let out : List (Nat × Nat) := (carryBlocks f bs).map (·.2)
  (orFlags (out.map (·.1)), (out.map (·.2)).sum)

/-- Merge two statistics records (R328): counters stop at their maximum. -/
def NumStats.join (a b : NumStats) : NumStats :=
  { saturations := min (a.saturations + b.saturations) (2 ^ 64 - 1), escapes := min (a.escapes + b.escapes) (2 ^ 32 - 1),
    bumps := min (a.bumps + b.bumps) (2 ^ 32 - 1), nanBlocks := min (a.nanBlocks + b.nanBlocks) (2 ^ 32 - 1),
    residualSats := min (a.residualSats + b.residualSats) (2 ^ 32 - 1),
    maxResidual := max a.maxResidual b.maxResidual, flags := a.flags ||| b.flags }

/-- What a quantisation adds to the statistics (R328). -/
def Quantised.stats (q : Quantised) : NumStats :=
  { saturations := q.sats, escapes := q.escaped, bumps := q.bumps, nanBlocks := if q.block.scale = 0xFF then 1 else 0,
    flags := q.flags }

/-- Write the governed blocks of a register: each gives its block, its element format and what it counts (R362, R365). -/
def NgCtx.writeBlocks (x : NgCtx) (w : Fields) (f : Fmt) (d : Nat) (g : Nat → Quantised) : NgCtx :=
  let old := x.vr d
  let ov := viewFmt f old
  let new : List (Block × Fmt × Option Quantised) := (regBlocks f old).mapIdx (fun b o =>
    if x.gov w (32 * b) then let q := g b; (q.block, q.block.elemFmt f, some q) else (o, ov, none))
  let qs : List Quantised := new.filterMap (fun n => n.2.2)
  let fl := orFlags (qs.map (·.flags))
  let seen := (qs.map Quantised.stats).foldl NumStats.join x.stats
  let blocks : List (Block × Fmt) := new.map (fun n => (n.1, n.2.1))
  let k := packFlags f blocks
  (NgCtx.saturated { x with flags := x.flags ||| fl, stats := seen } k.1 k.2).setV d (packReg f blocks)

/-- Read block `b` of a register against F (R364): its values, or none, and flags. -/
def readReg (f : Fmt) (reg b : Nat) : Option (List Val) × Nat :=
  readBlock f (viewFmt f reg) ((regBlocks f reg).getD b (zeroBlock f))

/-- Values of a block as lanes: a non-finite block counts as 32 NaNs (R312, R379). -/
def blockLanes (r : Option (List Val) × Nat) : List Val := r.1.getD (List.replicate 32 .nan)

/-- A block result of an instruction (R376): non-finite where an operand is or an element is a NaN, otherwise quantised
once from the exact results. -/
def NgCtx.blockResult (x : NgCtx) (key : Bytes) (w : Fields) (f : Fmt) (b fl : Nat) (vs : List Val) : Quantised :=
  let us := if w.mode = .sr then (List.range 32).map (fun i => x.lane key w (32 * b + i)) else []
  let q := emit f w.mode x.escBound vs us
  { q with flags := q.flags ||| fl }

/-! ### Arithmetic (R373 to R377) -/

/-- Exact product (R374): 0 x infinity is invalid; a zero takes the exclusive-or of the signs. -/
def mulVal : Val → Val → Val
  | .nan, _ => .nan
  | _, .nan => .nan
  | .inf a, .inf b => .inf (a != b)
  | .inf a, .fin b y => if y.m = 0 then .nan else .inf (a != b)
  | .fin a x, .inf b => if x.m = 0 then .nan else .inf (a != b)
  | .fin a x, .fin b y => .fin (a != b) (x.mul y)

/-- Exact negation and magnitude. -/
def negVal : Val → Val
  | .nan => .nan
  | .inf a => .inf (!a)
  | .fin a x => .fin (!a) x.neg
def absVal : Val → Val
  | .nan => .nan
  | .inf _ => .inf false
  | .fin _ x => .fin false x.abs

/-- An order on values that are not NaN, with -0 below +0 (R377). -/
def ltVal : Val → Val → Bool
  | .inf a, .inf b => a && !b
  | .inf a, .fin _ _ => a
  | .fin _ _, .inf b => !b
  | .fin a x, .fin b y => x.lt y || (decide (x.m = 0) && decide (y.m = 0) && a && !b)
  | _, _ => false

/-- Equality of values, +0 and -0 equal (R379). -/
def eqVal : Val → Val → Bool
  | .inf a, .inf b => a == b
  | .fin _ x, .fin _ y => x.eq y
  | _, _ => false

/-- Order by exact value, +0 and -0 equal (R379). -/
def ltExact (a b : Val) : Bool := ltVal a b && !eqVal a b

/-- A result lane of an arithmetic instruction in FLT or INT (R367, R374, R375): a NaN input or an invalid operation
gives the canonical NaN with NAN_ELEM. -/
def roundLane (f : Fmt) (r : Rm) (u : Nat) (v : Val) : Nat × Nat :=
  let (c, fl) := f.round r u v
  (c, fl ||| (if v = .nan then fNanElem else 0))

/-- An arithmetic instruction with operands va and vb and a function on exact values (R373 to R376). -/
def NgCtx.arith (x : NgCtx) (key : Bytes) (w : Fields) (op : Val → Val → Val) : NgCtx :=
  let f := w.fmt
  if f.cls = .blk then
    let one (b : Nat) : Quantised :=
      let (va, fa) := readReg f (x.vr w.a) b
      let (vb, fb) := readReg f (x.vr w.b) b
      match va, vb with
      | some p, some q => x.blockResult key w f b (fa ||| fb) (List.zipWith op p q)
      | _, _ => { block := nanBlock f, flags := fa ||| fb ||| fNanScale }
    x.writeBlocks w f w.d one
  else
    let a := laneCodes f (x.vr w.a)
    let b := laneCodes f (x.vr w.b)
    x.writeLanes w f w.d (fun i =>
      roundLane f w.mode (x.lane key w i) (op (f.value (a.getD i 0)) (f.value (b.getD i 0))))

/-- The same with one operand. -/
def NgCtx.arith1 (x : NgCtx) (key : Bytes) (w : Fields) (op : Val → Val) : NgCtx :=
  x.arith key { w with b := w.a } (fun v _ => op v)

/-- VFMA (R373, R374): va x vb + vd, exact, rounded once. -/
def NgCtx.fma (x : NgCtx) (key : Bytes) (w : Fields) : NgCtx :=
  let f := w.fmt
  let a := laneCodes f (x.vr w.a)
  let b := laneCodes f (x.vr w.b)
  let d := laneCodes f (x.vr w.d)
  x.writeLanes w f w.d (fun i => roundLane f w.mode (x.lane key w i)
    (addVal (mulVal (f.value (a.getD i 0)) (f.value (b.getD i 0))) (f.value (d.getD i 0))))

/-- The lesser (or greater) of two values; NaN wins (R377). -/
def pickVal (least : Bool) (a b : Val) : Val :=
  if a = .nan ∨ b = .nan then .nan
  else if least then (if ltVal b a then b else a) else (if ltVal a b then b else a)

/-- VMIN and VMAX (R377). -/
def NgCtx.minmax (x : NgCtx) (key : Bytes) (w : Fields) (least : Bool) : NgCtx := x.arith key w (pickVal least)

/-- The governed integer lanes of a register. -/
def NgCtx.govInts (x : NgCtx) (w : Fields) (reg : Nat) : List Int :=
  (laneCodes w.fmt reg).mapIdx (fun i c => if x.gov w i then signedOf w.fmt.bits c else 0)

/-! ### Comparison (R378, R379, R382) -/

/-- The condition of VCMP: 0 EQ, 1 NE, 2 LT, 3 LE, 4 GT, 5 GE (R378, R379). -/
def compare (cond : Nat) (a b : Val) : Bool :=
  if a = .nan ∨ b = .nan then decide (cond = 1)
  else match cond with
    | 0 => eqVal a b
    | 1 => !eqVal a b
    | 2 => ltExact a b
    | 3 => ltExact a b || eqVal a b
    | 4 => ltExact b a
    | _ => ltExact b a || eqVal a b

/-- The lanes VCMP compares, with the flags of what it reads. -/
def NgCtx.compareLanes (x : NgCtx) (w : Fields) (reg : Nat) : List Val × Nat :=
  let f := w.fmt
  if f.cls = .blk then
    let one (b : Nat) : Option (List Val) × Nat :=
      if (List.range 32).any (fun i => x.gov w (32 * b + i)) then readReg f reg b else (some (List.replicate 32 .nan), 0)
    let rs := (List.range 8).map one
    (rs.flatMap blockLanes, orFlags (rs.map (·.2)))
  else
    let vs := (laneCodes f reg).map f.value
    (vs, orFlags (vs.mapIdx (fun i v => if x.gov w i && decide (v = .nan) then fNanElem else 0)))

/-- VCMP. -/
def NgCtx.vcompare (x : NgCtx) (w : Fields) : NgCtx :=
  let (a, fa) := x.compareLanes w (x.vr w.a)
  let (b, fb) := x.compareLanes w (x.vr w.b)
  (x.writePred w w.fmt w.d (fun i => compare (w.imm % 8) (a.getD i .nan) (b.getD i .nan))).flag (fa ||| fb)

/-- The order of a sort key (R382): FP32 by value with every NaN after +infinity, INT32 signed. -/
def sortKey (f : Fmt) (c : Nat) : Int :=
  if f = .int32 then signedOf 32 c
  else
    let m : Nat := c % 2 ^ 31
    if 0x7F800000 < m then 2 ^ 32 else if 2 ^ 31 ≤ c then -(m : Int) else (m : Int)

/-- A pair may stand before another (R382); descending reverses the comparison. -/
def mayPrecede (f : Fmt) (desc : Bool) (p q : Nat × Nat) : Bool :=
  if desc then decide (sortKey f q.1 ≤ sortKey f p.1) else decide (sortKey f p.1 ≤ sortKey f q.1)

/-- Stable insertion of an earlier pair into a sorted run. -/
def insertPair (f : Fmt) (desc : Bool) (p : Nat × Nat) : List (Nat × Nat) → List (Nat × Nat)
  | [] => [p]
  | q :: qs => if mayPrecede f desc p q then p :: q :: qs else q :: insertPair f desc p qs

/-- Stable sort of pairs (R383). -/
def sortPairs (f : Fmt) (desc : Bool) : List (Nat × Nat) → List (Nat × Nat)
  | [] => []
  | p :: ps => insertPair f desc p (sortPairs f desc ps)

/-- Merge of two sorted runs; equal keys take X first (R383). -/
def mergePairs (f : Fmt) (desc : Bool) : Nat → List (Nat × Nat) → List (Nat × Nat) → List (Nat × Nat)
  | 0, xs, ys => xs ++ ys
  | _, [], ys => ys
  | _, xs, [] => xs
  | n + 1, x :: xs, y :: ys =>
    if mayPrecede f desc x y then x :: mergePairs f desc n xs (y :: ys) else y :: mergePairs f desc n (x :: xs) ys

/-- The 128 pairs of a key register and an index register. -/
def NgCtx.pairs (x : NgCtx) (k i : Nat) : List (Nat × Nat) :=
  (laneCodes .int32 (x.vr k)).zip (laneCodes .int32 (x.vr i))

/-- Write 128 pairs to a key register and an index register. -/
def NgCtx.setPairs (x : NgCtx) (k i : Nat) (ps : List (Nat × Nat)) : NgCtx :=
  (x.setV k (packElems 32 (ps.map (·.1)))).setV i (packElems 32 (ps.map (·.2)))

/-- VSORT and VMERGE (R383). -/
def NgCtx.sort (x : NgCtx) (w : Fields) : NgCtx :=
  x.setPairs w.d w.c (sortPairs w.fmt (bitOf w.imm 0) (x.pairs w.a w.b))
def NgCtx.merge (x : NgCtx) (w : Fields) : NgCtx :=
  let m := mergePairs w.fmt (bitOf w.imm 0) 256 (x.pairs w.a (w.a + 1)) (x.pairs w.b (w.b + 1))
  (x.setPairs w.d (w.d + 1) (m.take 128)).setPairs w.c (w.c + 1) (m.drop 128)

/-! ### Conversion (R380, R381) -/

/-- A conversion's result lane: NaN reads set NAN_ELEM. -/
def NgCtx.convLane (x : NgCtx) (key : Bytes) (w : Fields) (v : Val) (i : Nat) : Nat × Nat :=
  roundLane w.gFmt w.mode (x.lane key w i) v

/-- VCVT (R381). -/
def NgCtx.convert (x : NgCtx) (key : Bytes) (w : Fields) : NgCtx :=
  let f := w.fmt
  let g := w.gFmt
  let a := (laneCodes f (x.vr w.a)).map f.value
  let ns := lanes f
  let nd := lanes g
  let old := laneCodes g (x.vr w.d)
  if ns ≤ nd then
    x.writeLanes w g w.d (fun i =>
      if w.hSel * ns ≤ i ∧ i < w.hSel * ns + ns then x.convLane key w (a.getD (i - w.hSel * ns) .nan) i
      else (old.getD i 0, 0))
  else x.writeLanes w g w.d (fun i => x.convLane key w (a.getD (w.hSel * nd + i) .nan) i)

/-- VQNT (R380, R381). -/
def NgCtx.quantiseVec (x : NgCtx) (key : Bytes) (w : Fields) : NgCtx :=
  let f := w.fmt
  let g := w.gFmt
  let us (j : Nat) : List Nat := if w.mode = .sr then (List.range 32).map (fun i => x.lane key w (32 * j + i)) else []
  let one (j : Nat) (vs : List Val) (fl : Nat) : Quantised :=
    let q := emit g w.mode x.escBound vs (us j)
    { q with flags := q.flags ||| fl ||| (if vs.contains .nan then fNanElem else 0) }
  if f.cls = .blk then
    x.writeBlocks w g w.d (fun j =>
      let r := readReg f (x.vr w.a) j
      match r.1 with
      | some vs => one j vs r.2
      | none => { block := nanBlock g, flags := r.2 ||| fNanScale })
  else
    let all := ((laneCodes f (x.vr w.a)) ++ laneCodes f (x.vr w.b)).map f.value
    x.writeBlocks w g w.d (fun j => one j ((all.drop (256 * w.hSel + 32 * j)).take 32) 0)

/-- VDQNT (R319, R380, R381). -/
def NgCtx.dequantise (x : NgCtx) (key : Bytes) (w : Fields) : NgCtx :=
  let f := w.fmt
  let g := w.gFmt
  let nd := lanes g
  let rs := (List.range 8).map (readReg f (x.vr w.a))
  let vs := rs.flatMap blockLanes
  let fl (k : Nat) : Nat := (rs.getD (k / 32) (none, 0)).2
  let old := laneCodes g (x.vr w.d)
  let conv (k i : Nat) : Nat × Nat :=
    let (c, e) := g.round w.mode (x.lane key w i) (vs.getD k .nan)
    (c, e ||| fl k)
  if nd = 128 then x.writeLanes w g w.d (fun i => conv (128 * w.hSel + i) i)
  else x.writeLanes w g w.d (fun i =>
    if 256 * w.hSel ≤ i ∧ i < 256 * w.hSel + 256 then conv (i - 256 * w.hSel) i else (old.getD i 0, 0))

/-! ### Context memory, gather, compaction (R347, R384, R385) -/

/-- An access of `n` bytes at an offset lies inside the grant (R385). -/
def NgCtx.inGrant (x : NgCtx) (o : Int) (n : Nat) : Bool := decide (0 ≤ o) && decide (o + n ≤ x.grantBytes)

/-- The offset of VLDC and VSTC: bits [5:0] cleared (R384). -/
def ctxOffset (base : Nat) (imm : Int) : Int := (signedOf 64 base + imm) / 64 * 64

/-- VLDC and VSTC. -/
def NgCtx.loadCtx (x : NgCtx) (w : Fields) : NgCtx :=
  let o := ctxOffset (x.sr w.a) w.simm
  if x.inGrant o 512 then (x.setV w.d (leNat (x.grant.readBytes o.toNat 512))).next else x.faulted 2
def NgCtx.storeCtx (x : NgCtx) (w : Fields) : NgCtx :=
  let o := ctxOffset (x.sr w.b) w.simm
  if x.inGrant o 512 then { x with grant := x.grant.writeBytes o.toNat (natLe 512 (x.vr w.a)) }.next else x.faulted 2

/-- The governed destination lanes of a gather, with their indices (R385). -/
def NgCtx.gatherLanes (x : NgCtx) (w : Fields) : List (Nat × Int) :=
  ((laneCodes .int32 (x.vr w.b)).mapIdx (fun i c => (128 * (w.imm % 8) + i, signedOf 32 c))).filter
    (fun l => x.gov w l.1)

/-- Put gathered elements into their lanes. -/
def NgCtx.putLanes (x : NgCtx) (w : Fields) (g : Int → Nat) (ls : List (Nat × Int)) : NgCtx :=
  let codes := ls.foldl (fun cs l => cs.set l.1 (g l.2)) (laneCodes w.fmt (x.vr w.d))
  (x.setV w.d (packElems w.fmt.bits codes)).next

/-- VGATHC: a lane outside the grant faults with CTX_RANGE and leaves vD unchanged. -/
def NgCtx.gatherCtx (x : NgCtx) (w : Fields) : NgCtx :=
  let n : Nat := w.fmt.bits / 8
  let off (i : Int) : Int := signedOf 64 (x.sr w.a) + i * (n : Int)
  let ls := x.gatherLanes w
  if ls.any (fun l => decide (l.2 < 0) || !x.inGrant (off l.2) n) then x.faulted 2
  else x.putLanes w (fun i => leNat (x.grant.readBytes (off i).toNat n)) ls

/-- The input port of a number. -/
def NgCtx.inPort (x : NgCtx) (n : Nat) : InPort := x.ins.getD n {}

/-- A port's declared format allows F: a kernel's in0 has none (R343, R389). -/
def InPort.allows (p : InPort) (f : Fmt) : Bool := match p.fmt with | none => true | some g => decide (g = f)

/-- VGATHS: an index outside the stream faults with GATHER_RANGE (R385). -/
def NgCtx.gatherStream (x : NgCtx) (w : Fields) : NgCtx :=
  let p := x.inPort w.a
  let n : Nat := w.fmt.bits / 8
  let ls := x.gatherLanes w
  if !p.allows w.fmt then x.faulted 4
  else if ls.any (fun l => decide (l.2 < 0) || decide (((p.bytes.length / n : Nat) : Int) ≤ l.2)) then x.faulted 5
  else x.putLanes w (fun i => fieldAt p.bytes (i.toNat * n) n) ls

/-- VCOMP: governed lanes packed from lane 0, the count to sC. -/
def NgCtx.compact (x : NgCtx) (w : Fields) : NgCtx :=
  let kept := ((laneCodes w.fmt (x.vr w.a)).zipIdx.filter (fun c => x.gov w c.2)).map (·.1)
  ((x.setV w.d (packElems w.fmt.bits kept)).setS w.c kept.length).next

/-! ### Ports (R341 to R343, R366, R389) -/

/-- Take up to `n` blocks in stream form (R313, R341): the blocks with their element formats, and the bytes taken. -/
def takeBlocks (f : Fmt) : Nat → Bytes → List (Block × Fmt) × Nat
  | 0, _ => ([], 0)
  | _ + 1, [] => ([], 0)
  | n + 1, bs =>
    let tag := fieldAt bs 0 1
    let g := if tagOk f tag ∧ tag / 4 % 2 = 1 then .b8 else f
    let size := 2 + g.elemBytes
    let b : Block := ⟨tag, fieldAt bs 1 1, unpackElems g.bits 32 (fieldAt bs 2 g.elemBytes)⟩
    let (rest, taken) := takeBlocks f n (bs.drop size)
    ((b, g) :: rest, min size bs.length + taken)

/-- The blocks a block-format read takes into a register, blocks of zeros after the stream's last (R342). -/
def portBlocks (p : InPort) (f : Fmt) : List (Block × Fmt) :=
  let bs := (takeBlocks f 8 (p.bytes.drop p.off)).1
  bs ++ List.replicate (8 - bs.length) (zeroBlock f, f)

/-- The flags that reading a register's worth from a port sets: a T2 code that is reserved, where the register is wide. -/
def portFlags (p : InPort) (f : Fmt) : Nat := if f.cls = .blk then (packFlags f (portBlocks p f)).1 else 0

/-- Read a register's worth from an input port (R341, R342): the register, the count taken, the port after. -/
def readPort (p : InPort) (f : Fmt) : Nat × Nat × InPort :=
  let rest := p.bytes.drop p.off
  if f.cls = .blk then
    let (bs, n) := takeBlocks f 8 rest
    (packReg f (portBlocks p f), bs.length, { p with off := p.off + n, ended := decide (p.bytes.length ≤ p.off + n) })
  else
    let n := min 512 rest.length
    let count := min (lanes f) ((8 * n + f.bits - 1) / f.bits)
    (leNat (rest.take 512), count, { p with off := p.off + n, ended := decide (p.bytes.length ≤ p.off + n) })

/-- VLD (R389). -/
def NgCtx.load (x : NgCtx) (w : Fields) : NgCtx :=
  let p := x.inPort w.a
  if !p.allows w.fmt then x.faulted 4
  else
    let (reg, n, q) := readPort p w.fmt
    (((NgCtx.flag { x with ins := x.ins.set w.a q } (portFlags p w.fmt)).setV w.d reg).setS w.c n).next

/-- Append bytes to an output port, or fault (R343, R389): nothing is appended past MAX_CHUNK. -/
def NgCtx.append (x : NgCtx) (port : Nat) (f : Fmt) (bs : Bytes) (ok : NgCtx → NgCtx) : NgCtx :=
  match x.outs[port]? with
  | none => x.faulted 4
  | some o =>
    if o.fmt.isSome ∧ o.fmt ≠ some f then x.faulted 4
    else if x.maxChunk < o.bytes.length + bs.length then x.faulted 3
    else ok { x with outs := x.outs.set port { o with bytes := o.bytes ++ bs } }

/-- One block as a port write emits it (R366): an escaped block as it stands, any other narrowed to the declared format
under its tag; the bytes, the flags and the elements R317 saturated.
DEDUCED: ESCAPE is a well-formed tag's; a block whose tag is malformed keeps the tag and the declared size (log 106). -/
def portBlock (f g : Fmt) (b : Block) : Bytes × Nat × Nat :=
  if tagOk f b.tag ∧ b.tag / 4 % 2 = 1 then (streamBlock f b, 0, 0)
  else
    let (c, fl, n) := carryBlock g f b
    (natLe 1 c.tag ++ packBlock f c, fl, n)

/-- VST (R366, R389). -/
def NgCtx.store (x : NgCtx) (w : Fields) : NgCtx :=
  let f := w.fmt
  let reg := x.vr w.a
  if f.cls = .blk then
    let n := min (x.sr w.c) 8
    let bs := ((regBlocks f reg).take n).map (portBlock f (viewFmt f reg))
    x.append w.b f (bs.flatMap (·.1)) (fun y => (y.saturated (orFlags (bs.map (·.2.1))) (bs.map (·.2.2)).sum).next)
  else
    let n := min (x.sr w.c) (lanes f)
    let n := if f = .int4 then (n + 1) / 2 * 2 else n
    x.append w.b f (natLe (n * f.bits / 8) reg) (fun y => y.next)

/-- EMITP: governed lanes in lane order (R388, R389). -/
def NgCtx.emitLanes (x : NgCtx) (w : Fields) : NgCtx :=
  let kept := ((laneCodes w.fmt (x.vr w.a)).zipIdx.filter (fun c => x.gov w c.2)).map (·.1)
  x.append w.b w.fmt (kept.flatMap (natLe (w.fmt.bits / 8))) (fun y => y.next)

/-! ### Tree-node sums (R320 to R326, R390) -/

/-- The new residual of an element (R325): none for one the statistics count as saturated is given by the flag. -/
def newResidual (wv : Val) (result : Val) : Nat × Bool :=
  match wv, result with
  | .fin _ a, .fin _ b =>
    let d := a.sub b
    let lim : Exact := ⟨65504, 0⟩
    if lim.lt d.abs then ((if d.m < 0 then 0xFBFF else 0x7BFF), true)
    else ((Fmt.fp16.round .rne 0 (Val.of d)).1, false)
  | _, _ => (0, false)

/-- The larger of two residual magnitudes, the second an FP16 code, as an FP32 code (R328). -/
def maxResidualCode (m : Nat) (c : Nat) : Nat :=
  let k := (Fmt.fp32.round .rne 0 (absVal (Fmt.fp16.value c))).1
  if m < k then k else m

/-- What a node sum of one register's worth gives: bytes for out0, flags, counts, new residuals. -/
structure NodeSum where
  bytes : Bytes := []
  flags : Nat := 0
  stats : NumStats := {}
  residuals : List Nat := []
  deriving DecidableEq, Repr

/-- Add residuals to exact sums (R325 step 2). -/
def withResiduals (res : Option (List Nat)) (vs : List Val) : List Val :=
  match res with
  | none => vs
  | some rs => vs.mapIdx (fun i v => addVal v (Fmt.fp16.value (rs.getD i 0)))

/-- New residuals of a run of elements and what they count (R325). -/
def residualStep (res : Option (List Nat)) (ws results : List Val) : List Nat × NumStats :=
  match res with
  | none => ([], {})
  | some _ =>
    let ns := List.zipWith newResidual ws results
    let sats := (ns.filter (·.2)).length
    let top := (ns.map (·.1)).foldl maxResidualCode 0
    let fl : Nat := if sats = 0 then 0 else fSat
    (ns.map (·.1), { residualSats := sats, maxResidual := top, flags := fl })

/-- The sum of one block over the operands (R320, R321, R325): `none` operands are non-finite. -/
def sumBlock (f : Fmt) (r : Rm) (esc : Nat) (ops : List (Option (List Val) × Nat)) (us : List Nat)
    (res : Option (List Nat)) : NodeSum :=
  let fl := orFlags (ops.map (·.2))
  let vals := ops.filterMap (·.1)
  let bad := decide (vals.length ≠ ops.length) || vals.any (fun v => v.contains .nan)
  if bad then
    let zeros := res.map (fun _ => List.replicate 32 0)
    { bytes := streamBlock f (nanBlock f), flags := fl ||| fNanScale, residuals := zeros.getD [],
      stats := { nanBlocks := 1, flags := fl ||| fNanScale } }
  else
    let sums := (List.range 32).map (fun i => sumVals (vals.map (fun v => v.getD i (Val.ofInt 0))))
    let ws := withResiduals res sums
    let q := emit f r esc ws us
    let g := q.block.elemFmt f
    let results := if q.block.scale = 0xFF then List.replicate 32 Val.nan
      else (List.range 32).map (fun i => Val.of (quantValue g q.block i))
    let (ns, k) := residualStep res ws results
    let all := fl ||| q.flags ||| k.flags
    { bytes := streamBlock f q.block, flags := all, residuals := ns, stats := (NumStats.join k q.stats).join { flags := all } }

/-- The sum of scalar lanes over the operands (R322, R325). -/
def sumScalars (f : Fmt) (r : Rm) (ops : List (List Val)) (n : Nat) (us : Nat → Nat) (res : Option (List Nat)) : NodeSum :=
  let sums := (List.range n).map (fun i => sumVals (ops.map (fun v => v.getD i (Val.ofInt 0))))
  let ws := withResiduals res sums
  let rounded := ws.mapIdx (fun i v => roundLane f r (us i) v)
  let (ns, k) := residualStep res ws (rounded.map (fun c => f.value c.1))
  let all := orFlags (rounded.map (·.2)) ||| k.flags
  { bytes := natLe (n * f.bits / 8) (packElems f.bits (rounded.map (·.1))), flags := all, residuals := ns,
    stats := NumStats.join k { saturations := countFlag fSat (rounded.map (·.2)), flags := all } }

/-- The draw of a tree node's rounding (R333, R334, R390): from the counter generator in exact mode, a free value in fast
mode. `fresh` numbers the free values. -/
def NgCtx.nodeDraw (x : NgCtx) (key : Bytes) (free : Nat → Nat) (fresh i : Nat) : Nat :=
  let t := x.site
  if x.exact then Sys2Proof.Machine.nodeDraw key t.step t.channel t.ordinal t.level t.node (x.x0 + x.summed + i)
  else free (fresh + i) % 2 ^ 32

/-- The residuals of the next elements of the run. -/
def NgCtx.residualsHere (x : NgCtx) : Option (List Nat) := x.residuals.map (fun rs => rs.drop x.summed)

/-- Sum one register's worth taken from every bound port (R320, R322, R390). -/
def NgCtx.nodeSum (x : NgCtx) (key : Bytes) (free : Nat → Nat) (fresh : Nat) (f : Fmt) (r : Rm)
    (taken : List (Nat × Nat × InPort)) : NodeSum × Nat :=
  let count := (taken.map (fun t => t.2.1)).foldl max 0
  let u (i : Nat) : Nat := if r = .sr then x.nodeDraw key free fresh i else 0
  if f.cls = .blk then
    let one (b : Nat) : NodeSum :=
      sumBlock f r x.escBound (taken.map (fun t => readReg f t.1 b))
        (if r = .sr then (List.range 32).map (fun i => u (32 * b + i)) else [])
        (x.residualsHere.map (fun rs => rs.drop (32 * b)))
    let bs := (List.range count).map one
    ({ bytes := bs.flatMap (·.bytes), flags := orFlags (bs.map (·.flags)), residuals := bs.flatMap (·.residuals),
       stats := (bs.map (·.stats)).foldl NumStats.join {} }, 32 * count)
  else (sumScalars f r (taken.map (fun t => (laneCodes f t.1).map f.value)) count u x.residualsHere, count)

/-- SSUM (R390). -/
def NgCtx.ssum (x : NgCtx) (key : Bytes) (free : Nat → Nat) (fresh : Nat) (w : Fields) : NgCtx :=
  let f := w.fmt
  if x.ins.any (fun p => !p.allows f) then x.faulted 4
  else if x.ins.all (·.ended) then { x with ins := x.ins }.next
  else
    let taken : List (Nat × Nat × InPort) := x.ins.map (fun p => readPort p f)
    let (n, elems) := x.nodeSum key free fresh f w.mode taken
    let after : List InPort := taken.map (fun (t : Nat × Nat × InPort) => t.2.2)
    let seen := orFlags (x.ins.map (fun p => portFlags p f))
    x.append 0 f n.bytes (fun y =>
      { y with ins := after, summed := y.summed + elems, newResiduals := y.newResiduals ++ n.residuals,
               flags := y.flags ||| n.flags ||| seen, stats := y.stats.join n.stats }.next)

/-- The status word of a run (R351). -/
def NgCtx.statusWord (x : NgCtx) : Nat :=
  x.flags % 256 + x.fault % 256 * 2 ^ 8 + x.faultPc % 1024 * 2 ^ 16 + x.halted.toNat * 2 ^ 26 + x.bound.toNat * 2 ^ 27
    + x.user % 2 ^ 16 * 2 ^ 32

end Sys2Proof.Machine
end

