-- ==== Sys2Proof/Machine/NgayxLoad.lean ====
section
/-! DEFINITION. The Ngayx instruction word, the opcode table and the load checks (R353 to R355, R360, R361, R370 to
R390). -/

namespace Sys2Proof.Machine

/-- What an operand field names (R361). -/
inductive Role where
  | unused | s | v | p | inPort | outPort | even
  deriving DecidableEq, Repr

/-- What IMM holds. -/
inductive ImmUse where
  | none | any | target | user | cond | lane | sel | order | half | convert
  deriving DecidableEq, Repr

/-- One row of the opcode tables. `pe` is 0 or 1 where the entry fixes it, 2 where either may stand. `fmts` is empty
where F must be 0. `round` marks rounding, `roundBlk` rounding in block formats only. -/
structure OpRow where
  d : Role := .unused
  a : Role := .unused
  b : Role := .unused
  c : Role := .unused
  pe : Nat := 0
  fmts : List Fmt := []
  imm : ImmUse := .none
  round : Bool := false
  roundBlk : Bool := false
  deriving DecidableEq, Repr

/-- The format sets of R361. -/
def fltSet : List Fmt := [.fp32, .bf16, .fp16, .e4m3, .e5m2]
def intSet : List Fmt := [.int32, .int8, .int4]
def blkSet : List Fmt := [.b4, .b4i, .b8, .t2]
def anySet : List Fmt := fltSet ++ intSet ++ blkSet
def moveSet : List Fmt := fltSet ++ [.int32, .int8]

/-- The control instructions (R370). -/
def controlRow : Nat → Option OpRow
  | 0x01 => some {}
  | 0x02 => some { imm := .target }
  | 0x03 | 0x04 | 0x08 => some { a := .s, imm := .target }
  | 0x05 | 0x06 => some { a := .p, fmts := anySet, imm := .target }
  | 0x07 => some { a := .inPort, imm := .target }
  | 0x09 => some { imm := .user }
  | _ => none

/-- The scalar and predicate instructions (R372). -/
def scalarRow : Nat → Option OpRow
  | 0x10 | 0x11 => some { d := .s, imm := .any }
  | 0x12 | 0x14 | 0x15 | 0x16 | 0x17 | 0x18 | 0x19 | 0x1A | 0x1B => some { d := .s, a := .s, b := .s }
  | 0x13 => some { d := .s, a := .s, imm := .any }
  | 0x1C => some { d := .s, a := .s, b := .s, imm := .cond }
  | 0x1D => some { d := .s, a := .v, fmts := fltSet ++ intSet, imm := .lane }
  | 0x1E => some { d := .v, a := .s, fmts := fltSet ++ intSet, imm := .lane }
  | 0x20 | 0x21 | 0x22 => some { d := .p, a := .p, b := .p, pe := 2, fmts := anySet }
  | 0x23 => some { d := .p, a := .p, pe := 2, fmts := anySet }
  | 0x24 => some { d := .p, a := .s, pe := 2, fmts := anySet }
  | 0x25 => some { d := .s, a := .p, fmts := anySet }
  | _ => none

/-- The vector arithmetic instructions (R373). -/
def arithRow : Nat → Option OpRow
  | 0x30 | 0x31 | 0x32 => some { d := .v, a := .v, b := .v, c := .s, pe := 2, fmts := anySet, imm := .sel, round := true }
  | 0x33 => some { d := .v, a := .v, b := .v, c := .s, pe := 2, fmts := fltSet ++ intSet, imm := .sel, round := true }
  | 0x34 | 0x35 => some { d := .v, a := .v, c := .s, pe := 2, fmts := anySet, imm := .sel, roundBlk := true }
  | 0x36 | 0x37 => some { d := .v, a := .v, b := .v, c := .s, pe := 2, fmts := anySet, imm := .sel, roundBlk := true }
  | 0x38 => some { d := .s, a := .v, b := .v, pe := 2, fmts := [.int8, .int4] }
  | 0x39 => some { d := .s, a := .v, pe := 2, fmts := intSet }
  | _ => none

/-- Compare, select, move, convert and sort (R378, R380, R383). -/
def moveRow : Nat → Option OpRow
  | 0x40 => some { d := .p, a := .v, b := .v, pe := 2, fmts := anySet, imm := .cond }
  | 0x41 => some { d := .v, a := .v, b := .v, pe := 1, fmts := fltSet ++ intSet }
  | 0x48 => some { d := .v, a := .v }
  | 0x49 => some { d := .v, a := .s, pe := 2, fmts := fltSet ++ intSet }
  | 0x4A => some { d := .v, a := .s, pe := 2, fmts := intSet }
  | 0x4B => some { d := .v }
  | 0x50 => some { d := .v, a := .v, c := .s, pe := 2, fmts := fltSet ++ intSet, imm := .convert, round := true }
  | 0x51 => some { d := .v, a := .v, b := .v, c := .s, pe := 2, fmts := anySet, imm := .convert, round := true }
  | 0x52 => some { d := .v, a := .v, c := .s, pe := 2, fmts := blkSet, imm := .convert, round := true }
  | 0x58 => some { d := .v, a := .v, b := .v, c := .v, fmts := [.fp32, .int32], imm := .order }
  | 0x59 => some { d := .even, a := .even, b := .even, c := .even, fmts := [.fp32, .int32], imm := .order }
  | _ => none

/-- Context memory, gather, compaction, hash, draws and streams (R384, R387, R388). -/
def memoryRow : Nat → Option OpRow
  | 0x60 => some { d := .v, a := .s, b := .v, pe := 2, fmts := moveSet, imm := .half }
  | 0x61 => some { d := .v, a := .inPort, b := .v, pe := 2, fmts := moveSet, imm := .half }
  | 0x62 => some { d := .v, a := .s, imm := .any }
  | 0x63 => some { a := .v, b := .s, imm := .any }
  | 0x68 => some { d := .v, a := .v, c := .s, pe := 1, fmts := moveSet }
  | 0x69 => some { a := .v, b := .outPort, pe := 1, fmts := moveSet }
  | 0x70 => some { d := .v, a := .v, pe := 2, fmts := [.fp32, .int32] }
  | 0x71 => some { d := .s, a := .v, b := .s }
  | 0x72 => some { d := .v, a := .s, pe := 2, fmts := [.int32], imm := .sel }
  | 0x78 => some { d := .v, a := .inPort, c := .s, fmts := anySet }
  | 0x79 => some { a := .v, b := .outPort, c := .s, fmts := anySet }
  | 0x7A => some { fmts := moveSet ++ blkSet, imm := .sel, round := true }
  | _ => none

/-- The row of an opcode; none is undefined (R360). -/
def opRow (op : Nat) : Option OpRow :=
  (((controlRow op).orElse (fun _ => scalarRow op)).orElse (fun _ => arithRow op)).orElse
    (fun _ => (moveRow op).orElse (fun _ => memoryRow op))

/-- The fields of a word (R360). -/
def fieldsOf (word : Nat) : Fields :=
  { d := bitsOf word 11 8, a := bitsOf word 15 12, b := bitsOf word 19 16, c := bitsOf word 23 20, p := bitsOf word 26 24,
    pe := bitsOf word 27 27, f := bitsOf word 32 28, rm := bitsOf word 34 33, imm := bitsOf word 63 36 }

/-- The opcode of a word. -/
def opOf (word : Nat) : Nat := word % 256

/-- The word of an opcode and fields, each within its width (R360). -/
def wordOf (op : Nat) (w : Fields) : Nat :=
  op + w.d * 2 ^ 8 + w.a * 2 ^ 12 + w.b * 2 ^ 16 + w.c * 2 ^ 20 + w.p * 2 ^ 24 + w.pe * 2 ^ 27 + w.f * 2 ^ 28
    + w.rm * 2 ^ 33 + w.imm * 2 ^ 36

/-- A register field obeys its role (R361). -/
def roleOk (r : Role) (v : Nat) : Bool :=
  match r with
  | .unused => decide (v = 0)
  | .s | .v => true
  | .p => decide (v < 8)
  | .inPort => decide (v < 4)
  | .outPort => decide (v < 2)
  | .even => decide (v % 2 = 0)

/-- The instruction rounds in the format F names (R361, R367). -/
def OpRow.rounds (r : OpRow) (f : Option Fmt) : Bool :=
  r.round || (r.roundBlk && decide (f.map Fmt.cls = some .blk))

/-- The format of the result: G of a conversion, else F. -/
def resultFmt (r : OpRow) (w : Fields) : Option Fmt := if r.imm = .convert then fmtOf (bitsOf w.imm 4 0) else fmtOf w.f

/-- H lies in the range of R381, for formats the instruction accepts. -/
def hOk (op : Nat) (f g : Fmt) (h : Nat) : Bool :=
  let ns := lanes f
  let nd := lanes g
  if op = 0x50 then (if ns ≤ nd then decide (h < nd / ns) else decide (h < ns / nd))
  else if op = 0x51 then (if f.cls = .blk then decide (h = 0) else decide (h < 2 * ns / 256))
  else (if nd = 128 then decide (h < 2) else decide (h < nd / 256))

/-- The destination formats a conversion takes (R380). -/
def convFmts (op : Nat) : List Fmt := if op = 0x51 then blkSet else fltSet ++ intSet

/-- IMM holds what the entry states, its reserved bits zero (R361). -/
def immOk (op : Nat) (r : OpRow) (w : Fields) : Bool :=
  let f := fmtOf w.f
  match r.imm with
  | .none => decide (w.imm = 0)
  | .any => true
  | .target => decide (w.imm < 2 ^ 10)
  | .user => decide (w.imm < 2 ^ 16)
  | .cond => decide (w.imm ≤ 5)
  | .lane => decide (w.imm < 2 ^ 10) && (match f with
      | some g => !r.fmts.contains g || decide (w.imm < lanes g)
      | none => true)
  | .sel => decide (w.imm % 2 ^ 20 = 0) && (decide (w.imm = 0) || r.rounds f || decide (op = 0x72))
  | .order => decide (w.imm ≤ 1)
  | .half => decide (w.imm < 8) && (match f with
      | some g => !r.fmts.contains g || decide (w.imm < lanes g / 128)
      | none => true)
  | .convert => decide (bitsOf w.imm 19 8 = 0) && (match f, fmtOf (bitsOf w.imm 4 0) with
      | some g, some k => !r.fmts.contains g || !(convFmts op).contains k || hOk op g k w.hSel
      | _, _ => true)

/-- Destinations that name the same register (R361): VSORT, VMERGE, VCOMP's are of different kinds but for the sorts. -/
def sameDest (op : Nat) (w : Fields) : Bool := (decide (op = 0x58) || decide (op = 0x59)) && decide (w.d = w.c)

/-- The byte of the first faulty field among a word's checks (R354, R642). -/
def lowestByte (cs : List (Bool × Nat)) : Option Nat := ((cs.filter (fun c => c.1)).map (fun c => c.2)).min?

/-- Check 2 of R354: a defined opcode, its reserved bits zero and its fields in range. -/
def check2 (word : Nat) : Option Nat :=
  let w := fieldsOf word
  match opRow (opOf word) with
  | none => some 0
  | some r =>
    let g := resultFmt r w
    let rmUsed := r.rounds (fmtOf w.f) && decide (g.map Fmt.cls = some .flt ∨ g.map Fmt.cls = some .blk)
    let bUnused := decide (opOf word = 0x51) && decide ((fmtOf w.f).map Fmt.cls = some .blk)
    let peOk := if r.pe = 0 then decide (w.pe = 0) else if r.pe = 1 then decide (w.pe = 1) else true
    lowestByte [(!roleOk r.d w.d, 1), (!roleOk r.a w.a, 1), (sameDest (opOf word) w, 1),
      (!roleOk r.b w.b || (bUnused && decide (w.b ≠ 0)), 2), (!roleOk r.c w.c, 2),
      (!peOk || (decide (w.pe = 0) && decide (w.p ≠ 0)), 3), (r.fmts.isEmpty && decide (w.f ≠ 0), 3),
      (!rmUsed && decide (w.rm ≠ 0), 4), (decide (bitsOf word 35 35 ≠ 0), 4), (!immOk (opOf word) r w, 4)]

/-- Check 3 of R354: every format code is accepted, no rounding field holds 3. -/
def check3 (word : Nat) : Option Nat :=
  let w := fieldsOf word
  match opRow (opOf word) with
  | none => none
  | some r =>
    let fOk := r.fmts.isEmpty || (match fmtOf w.f with | some f => r.fmts.contains f | none => false)
    let gOk := decide (r.imm ≠ .convert) || (match fmtOf (bitsOf w.imm 4 0) with
      | some g => (convFmts (opOf word)).contains g
      | none => false)
    lowestByte [(!fOk, 3), (!gOk, 4), (decide (w.rm = 3), 4)]

/-- A branch (R370). -/
def isBranch (op : Nat) : Bool := decide (2 ≤ op) && decide (op ≤ 8)

/-- Check 4 of R354: a branch target lies in the program. -/
def check4 (n word : Nat) : Option Nat := lowestByte [(isBranch (opOf word) && decide (n ≤ bitsOf word 45 36), 4)]

/-- Ports of a program: the masks of R353. A kernel has in0 only, in element view, and no output (R354). -/
structure PortMask where
  kernel : Bool
  ins : Nat
  outs : Nat
  deriving DecidableEq, Repr

/-- Check 6 of R354: every port named is permitted. -/
def check6 (m : PortMask) (word : Nat) : Option Nat :=
  let w := fieldsOf word
  match opRow (opOf word) with
  | none => none
  | some r =>
    let blk := decide ((fmtOf w.f).map Fmt.cls = some .blk)
    lowestByte [(decide (r.a = .inPort) && !bitOf m.ins w.a, 1), (decide (r.b = .outPort) && !bitOf m.outs w.b, 1),
      (decide (opOf word = 0x7A) && (m.kernel || !bitOf m.outs 0), 1),
      (m.kernel && decide (opOf word = 0x78) && blk, 1)]

/-- Check 7 of R354: a kernel names no context memory access, and gathers index in0 only. -/
def check7 (m : PortMask) (word : Nat) : Option Nat :=
  lowestByte [(m.kernel && [0x60, 0x62, 0x63].contains (opOf word), 0)]

/-- Byte offset, from the first word, of the first word that fails a check. -/
def firstBad (check : Nat → Option Nat) : List Nat → Nat → Option Nat
  | [], _ => none
  | w :: ws, i => match check w with
    | some b => some (8 * i + b)
    | none => firstBad check ws (i + 1)

/-- Check 5 of R354: the last instruction is HALT or BR. -/
def check5 (ws : List Nat) : Option Nat :=
  let op := opOf (ws.getD (ws.length - 1) 0)
  if op = 1 ∨ op = 2 then none else some (8 * (ws.length - 1))

/-- Checks 2 to 7 of R354, in order: the byte offset at fault, from the first instruction word. -/
def programFault (m : PortMask) (ws : List Nat) : Option Nat :=
  ((((((firstBad check2 ws 0).orElse (fun _ => firstBad check3 ws 0)).orElse
    (fun _ => firstBad (check4 ws.length) ws 0)).orElse (fun _ => check5 ws)).orElse
    (fun _ => firstBad (check6 m) ws 0)).orElse (fun _ => firstBad (check7 m) ws 0))

/-- The instruction words of bytes (R353). -/
def wordsOf : Nat → Bytes → List Nat
  | 0, _ => []
  | n + 1, bs => leNat (bs.take 8) :: wordsOf n (bs.drop 8)

/-- The first faulty field of an image's header (check 1 of R354): byte offsets of R353. -/
def imageHeaderFault (length : Nat) (bs : Bytes) : Option Nat :=
  let n := fieldAt bs 8 4
  let mc := fieldAt bs 12 4
  let checks : List (Bool × Nat) := [
    (decide (length < 64), 0),
    (decide (bs.take 4 ≠ [0x4E, 0x47, 0x59, 0x58]), 0), (decide (fieldAt bs 4 2 ≠ 1), 4), (decide (fieldAt bs 6 1 ≠ 1), 6),
    (!zeroAt bs 7 1, 7), (decide (n < 1) || decide (1024 < n) || decide (length ≠ 64 + 8 * n), 8),
    (decide (mc < 4096) || decide (1048576 < mc) || decide (mc % 4096 ≠ 0), 12),
    (decide (fieldAt bs 16 2 < 1) || decide (16 < fieldAt bs 16 2), 16), (decide (8 < fieldAt bs 18 2), 18),
    (decide (12288 < fieldAt bs 20 4), 20), (decide (fieldAt bs 24 4 < 1) || decide (16777216 < fieldAt bs 24 4), 24),
    (decide (15 < fieldAt bs 28 1), 28), (decide (3 < fieldAt bs 29 1), 29), (!zeroAt bs 30 30, 30),
    (decide (fieldAt bs 60 4 ≠ crc32c (bs.take 60 ++ (bs.drop 64).take (8 * n))), 60)]
  (checks.find? (fun c => c.1)).map (fun c => c.2)

/-- The byte offset at fault of a program image (R354), none when it loads. -/
def imageFault (length : Nat) (bs : Bytes) : Option Nat :=
  match imageHeaderFault length bs with
  | some o => some o
  | none => (programFault ⟨false, fieldAt bs 28 1, fieldAt bs 29 1⟩ (wordsOf (fieldAt bs 8 4) (bs.drop 64))).map
      (fun i => 64 + i)

/-- A collective program's declaration (R345, R353). -/
structure Declared where
  maxChunk : Nat
  pipeDepth : Nat
  ctxCopies : Nat
  scratch : Nat
  budget : Nat
  inPorts : Nat
  outPorts : Nat
  deriving DecidableEq, Repr

/-- The declaration of an image. -/
def declaredOf (bs : Bytes) : Declared :=
  ⟨fieldAt bs 12 4, fieldAt bs 16 2, fieldAt bs 18 2, fieldAt bs 20 4, fieldAt bs 24 4, fieldAt bs 28 1, fieldAt bs 29 1⟩

/-- The built-ins' declaration (R355). -/
def builtinDeclared : Declared := ⟨1048576, 4, 1, 0, 16777216, 15, 3⟩

/-- per_copy and demand of R346, in 8 KiB blocks. -/
def Declared.perCopy (d : Declared) : Nat := (d.maxChunk + 8191) / 8192
def Declared.demand (d : Declared) : Nat := d.pipeDepth * d.ctxCopies * d.perCopy + d.scratch

end Sys2Proof.Machine
end

