-- ==== Sys2Proof/Machine/PlanMath.lean ====
section
/-! DEFINITION. The epoch plan as arithmetic (chapter 06): the permutation, the batch schedule, substitutes, owners, and
the checks of a plan. -/

namespace Sys2Proof.Machine

/-! ### The permutation (R164) -/

/-- half_width(n) of R164: half the smallest even width, 2 or more, whose power of two holds n; by fuel over w. -/
def halfWidthFrom (n : Nat) : Nat → Nat → Nat
  | 0, w => w / 2
  | f + 1, w => if 2 ^ w < n then halfWidthFrom n f (w + 2) else w / 2

/-- half_width(n); n is at most 2^48. -/
def halfWidth (n : Nat) : Nat := halfWidthFrom n 24 2

/-- A round function: round index and half, to a half. -/
abbrev RoundFn := Nat → Nat → Nat

/-- round_f of R164 under a key. -/
def roundF (key : Bytes) (e stream h : Nat) : RoundFn :=
  fun i r => genWord key 0x01 e r (stream * 256 + i) % 2 ^ h

/-- The rounds i, i + 1, … of feistel on (l, r). -/
def feistelRounds (f : RoundFn) : Nat → Nat → Nat × Nat → Nat × Nat
  | 0, _, x => x
  | n + 1, i, (l, r) => feistelRounds f n (i + 1) (r, l ^^^ f i r)

/-- feistel(x) of R164. -/
def feistel (f : RoundFn) (h x : Nat) : Nat :=
  let (l, r) := feistelRounds f 8 0 (x / 2 ^ h, x % 2 ^ h)
  l * 2 ^ h + r

/-- The rounds n - 1 down to 0 of feistel_inv on (l, r). -/
def feistelBack (f : RoundFn) : Nat → Nat × Nat → Nat × Nat
  | 0, x => x
  | n + 1, (l, r) => feistelBack f n (r ^^^ f n l, l)

/-- feistel_inv(y) of R164. -/
def feistelInv (f : RoundFn) (h y : Nat) : Nat :=
  let (l, r) := feistelBack f 8 (y / 2 ^ h, y % 2 ^ h)
  l * 2 ^ h + r

/-- Cycle-walking: apply g again while the value lies at n or above, by fuel. -/
def walk (g : Nat → Nat) (n : Nat) : Nat → Nat → Nat
  | 0, y => y
  | k + 1, y => if n ≤ y then walk g n k (g y) else y

/-- permute(e, p) of R164 over n records, for a round function of half width h. -/
def permuteWith (f : RoundFn) (n h p : Nat) : Nat := walk (feistel f h) n (2 ^ (2 * h)) (feistel f h p)

/-- unpermute(e, rec) of R164. -/
def unpermuteWith (f : RoundFn) (n h rec : Nat) : Nat := walk (feistelInv f h) n (2 ^ (2 * h)) (feistelInv f h rec)

/-! ### The schedule (R167 to R170) -/

/-- The step batch B (R167). -/
def Plan.batch (p : Plan) : Nat := p.dests.length * p.perDest

/-- The steps per epoch SPE (R167). -/
def Plan.spe (p : Plan) : Nat := (p.total - p.subReserve) / p.batch

/-- The epoch window W (R167). -/
def Plan.window (p : Plan) : Nat := p.spe * p.batch

/-- The reserve M (R167). -/
def Plan.reserve (p : Plan) : Nat := p.total - p.window

/-- The epoch of a step (R168). -/
def Plan.epochOf (p : Plan) (s : Nat) : Nat := p.startEpoch + (s - p.startStep) / p.spe

/-- position(s, d, k) of R168, without its epoch. -/
def Plan.positionOf (p : Plan) (s d k : Nat) : Nat := (s - p.startStep) % p.spe * p.batch + d * p.perDest + k

/-- The last step that belongs to an epoch (R71, R170). -/
def Plan.lastStep (p : Plan) : Nat := p.startStep + (2 ^ 32 - p.startEpoch) * p.spe - 1

/-- The record at a position of an epoch (R164). -/
def Plan.record (p : Plan) (key : Bytes) (e pos : Nat) : Nat :=
  let h := halfWidth p.total
  permuteWith (roundF key e p.stream h) p.total h pos

/-- The position of a record in an epoch (R164). -/
def Plan.unrecord (p : Plan) (key : Bytes) (e rec : Nat) : Nat :=
  let h := halfWidth p.total
  unpermuteWith (roundF key e p.stream h) p.total h rec

/-- The position whose record attempt `a` of position `pos` takes: itself at attempt 0, else R169's. -/
def Plan.attemptPosition (p : Plan) (pos a : Nat) : Nat :=
  if a = 0 then pos else p.window + (pos + a - 1) % p.reserve

/-- The owner of a record on this side: the last range that starts at or below it (R160). -/
def Catalogue.owner (c : Catalogue) (rec : Nat) : Option Nat :=
  ((c.entries.filter (fun e => decide (e.1 ≤ rec))).getLast?).map (fun e => e.2)

/-- A catalogue's bytes (R160). -/
def Catalogue.bytes (c : Catalogue) : Bytes := c.entries.flatMap (fun e => natLe 8 (e.1 + e.2 * 2 ^ 48))

/-! ### A plan's bytes and checks (R166, R167) -/

/-- The value of a DEST entry (R166). -/
def destValue (d : Dest) : Nat := d.port + d.device * 2 ^ 8 + d.side * 2 ^ 15

/-- A plan's bytes (R166); the digest is taken over them. -/
def Plan.bytes (p : Plan) : Bytes :=
  natLe 2 1 ++ natLe 2 p.stream ++ natLe 4 0 ++ natLe 8 p.datasetId ++ natLe 8 p.total ++ natLe 8 p.startStep
    ++ natLe 4 p.startEpoch ++ natLe 4 p.dests.length ++ natLe 4 p.perDest ++ natLe 4 p.subReserve
    ++ natLe 1 p.subTries ++ List.replicate 15 0 ++ p.dests.flatMap (fun d => natLe 4 (destValue d))

/-- The plan digest (R166). -/
def Plan.digest (p : Plan) : Bytes := sha256 p.bytes

/-- A DEST entry from its value. -/
def destOf (v : Nat) : Dest := ⟨bitsOf v 7 0, bitsOf v 14 8, bitsOf v 15 15⟩

/-- The DEST values of a plan's bytes. -/
def destValues (bs : Bytes) (n : Nat) : List Nat := (List.range n).map (fun d => fieldAt bs (64 + 4 * d) 4)

/-- Read a plan (R166). -/
def planOf (bs : Bytes) : Plan :=
  { stream := fieldAt bs 2 2, datasetId := fieldAt bs 8 8, total := fieldAt bs 16 8, startStep := fieldAt bs 24 8,
    startEpoch := fieldAt bs 32 4, perDest := fieldAt bs 40 4, subReserve := fieldAt bs 44 4, subTries := fieldAt bs 48 1,
    dests := (destValues bs (fieldAt bs 36 4)).map destOf }

/-- The offsets at which faults of a list lie. -/
def faultsOf (l : List (Bool × Nat)) : List Nat := (l.filter (fun c => c.1)).map (fun c => c.2)

/-- The non-zero bytes of a reserved run, each charged to itself (R642). -/
def reservedBytes (bs : Bytes) (o n : Nat) : List Nat :=
  (List.range n).filterMap (fun i => if (bs.getD (o + i) 0) ≠ 0 then some (o + i) else none)

/-- DEST values that do not rise strictly in bits [15:0], charged to the later one (R167, R642). -/
def risingFaults : List Nat → Nat → List Nat
  | a :: b :: rest, o => (if b % 2 ^ 16 ≤ a % 2 ^ 16 then [o + 4] else []) ++ risingFaults (b :: rest) (o + 4)
  | _, _ => []

/-- Every offset at fault in a plan of `length` bytes (R166, R167, R639, R642). `total` is the catalogue's record total
where the dataset has a built catalogue, and `portOk` tells whether a destination is an accelerator port of a member. -/
def planFaults (length : Nat) (bs : Bytes) (total : Option Nat) (portOk : Dest → Bool) : List Nat :=
  let p := planOf bs
  let d := fieldAt bs 36 4
  let sound := decide (1 ≤ d) && decide (1 ≤ p.perDest)
  let fits := decide (length = 64 + 4 * d)
  faultsOf [
    (decide (length < 64) || decide (fieldAt bs 0 2 ≠ 1), 0),
    (total.isNone, 8), (decide (p.total < 1) || decide (2 ^ 48 < p.total) || (total.isSome && decide (total ≠ some p.total)), 16),
    (outside d 1 14336 || !fits, 36), (outside p.perDest 1 65536 || decide (2 ^ 24 < d * p.perDest), 40),
    (decide (p.total ≤ p.subReserve) || (sound && decide (p.spe = 0)), 44),
    (decide (8 < p.subTries) || (sound && decide (0 < p.subTries) && decide (p.reserve = 0)), 48)]
  ++ reservedBytes bs 4 4 ++ reservedBytes bs 49 15
  ++ (if fits then
        risingFaults (destValues bs d) 64
        ++ (List.range d).filterMap (fun i =>
            let v := fieldAt bs (64 + 4 * i) 4
            if 2 ^ 16 ≤ v ∨ !portOk (destOf v) then some (64 + 4 * i) else none)
      else [])
where
  outside (v lo hi : Nat) : Bool := decide (v < lo) || decide (hi < v)

end Sys2Proof.Machine
end

