-- ==== Sys2Proof/Machine/Records.lean ====
section
/-! DEFINITION. Ingots and records as bytes (R148 to R157): headers, record indexes, field frames, tensor descriptors,
manifests, and the checks of the packer-and-filter front end. -/

namespace Sys2Proof.Machine

/-! ### Field types and tensors (R152, R153) -/

/-- TYPE and CODEC are in R152, and a wrapper stands only on TEXT, TENSOR or BYTES. -/
def codecOk (typ codec : Nat) : Bool :=
  let content := codec % 16
  let wrapper := codec / 16
  match typ with
  | 1 => (decide (content = 1) || decide (content = 2)) && decide (wrapper = 0)
  | 2 => decide (content = 1) && decide (wrapper = 0)
  | 3 => (decide (content = 1) || decide (content = 2)) && decide (wrapper = 0)
  | 4 | 5 => decide (content = 1) && decide (wrapper ≤ 4)
  | 6 => decide (content = 0) && decide (wrapper ≤ 4)
  | _ => false

/-- A tensor: its format code, its dimensions outermost first, and its packed elements (R153). -/
structure Tensor where
  dtype : Nat
  dims : List Nat
  data : Bytes
  deriving DecidableEq, Repr

/-- Number of elements of a shape. -/
def product (l : List Nat) : Nat := l.foldl (· * ·) 1

/-- Bytes of `n` elements of a format, whole blocks for a block format (R153, R313). -/
def elementBytes (dtype n : Nat) : Option Nat := (fmtOf dtype).map (fun f => f.tensorBytes n)

/-- Read an unwrapped TENSOR payload (R153), none where the descriptor breaks it. -/
def tensorOf (bs : Bytes) : Option Tensor :=
  let rank := fieldAt bs 1 1
  let dims := (List.range rank).map (fun i => fieldAt bs (4 + 4 * i) 4)
  let dtype := fieldAt bs 0 1
  if bs.length < 4 + 4 * rank ∨ rank < 1 ∨ 8 < rank ∨ fieldAt bs 2 2 ≠ 0 ∨ !dims.all (fun d => decide (1 ≤ d) && decide (d < 2 ^ 31))
      ∨ elementBytes dtype (product dims) ≠ some (bs.length - (4 + 4 * rank)) then none
  else some ⟨dtype, dims, bs.drop (4 + 4 * rank)⟩

/-- A tensor with its descriptor, as bytes (R153). -/
def Tensor.bytes (t : Tensor) : Bytes :=
  natLe 1 t.dtype ++ natLe 1 t.dims.length ++ natLe 2 0 ++ t.dims.flatMap (fun d => natLe 4 d) ++ t.data

/-! ### Records (R150, R151, R155) -/

/-- One field frame: TYPE, CODEC, NAME_ID and the payload as stored (R151). -/
structure FieldFrame where
  typ : Nat
  codec : Nat
  nameId : Nat
  payload : Bytes
  deriving DecidableEq, Repr

/-- Round up to a multiple of `k`. -/
def upTo (k n : Nat) : Nat := (n + k - 1) / k * k

/-- A front-end failure: the reason of R155 and the NAME_ID at fault, 0xFFFF for a whole-record reason (R198). -/
structure RecordFault where
  reason : Nat
  nameId : Nat := 0xFFFF
  deriving DecidableEq, Repr

/-- The frames of a record's bytes after its header: `none` where they do not add up to the bytes (R151). -/
def framesOf : Nat → Bytes → Option (List (Bytes × Bytes))
  | 0, bs => if bs.isEmpty then some [] else none
  | n + 1, bs =>
    let len := fieldAt bs 4 4
    if bs.length < 16 + upTo 8 len then none
    else (framesOf n (bs.drop (16 + upTo 8 len))).map (fun r => (bs.take 16, (bs.drop 16).take (upTo 8 len)) :: r)

/-- The field of a frame: its header's 16 bytes and its padded payload. -/
def fieldOf (f : Bytes × Bytes) : FieldFrame :=
  ⟨fieldAt f.1 0 1, fieldAt f.1 1 1, fieldAt f.1 2 2, f.2.take (fieldAt f.1 4 4)⟩

/-- Check 103: header CRCs, strictly rising NAME_IDs, zero pad bytes. -/
def headerFault : List (Bytes × Bytes) → Option Nat → Option RecordFault
  | [], _ => none
  | f :: rest, last =>
    let name := fieldAt f.1 2 2
    let low : Bool := match last with
      | some l => decide (name ≤ l)
      | none => false
    if fieldAt f.1 12 4 ≠ crc32c (f.1.take 12) ∨ low
        ∨ !(f.2.drop (fieldAt f.1 4 4)).all (· = 0) then some ⟨103, name⟩
    else headerFault rest (some name)

/-- PAYLOAD_CRC of a payload: 0 when it is empty (R151). -/
def payloadCrc (p : Bytes) : Nat := if p.isEmpty then 0 else crc32c p

/-- Check 104: payload CRCs. -/
def payloadFault (fs : List (Bytes × Bytes)) : Option RecordFault :=
  (fs.find? (fun f => decide (fieldAt f.1 8 4 ≠ payloadCrc (f.2.take (fieldAt f.1 4 4))))).map (fun f => ⟨104, fieldAt f.1 2 2⟩)

/-- Check 105: types and codecs. -/
def typeFault (fs : List FieldFrame) : Option RecordFault :=
  (fs.find? (fun f => !codecOk f.typ f.codec)).map (fun f => ⟨105, f.nameId⟩)

/-- Check 106: the descriptors of unwrapped tensors. -/
def shapeFault (fs : List FieldFrame) : Option RecordFault :=
  (fs.find? (fun f => decide (f.typ = 5) && decide (f.codec / 16 = 0) && (tensorOf f.payload).isNone)).map
    (fun f => ⟨106, f.nameId⟩)

/-- The front end's checks of a record in the order of R155: its fields, or the first failure. -/
def checkRecord (record : Nat) (bs : Bytes) : Except RecordFault (List FieldFrame) :=
  let n := fieldAt bs 8 2
  if bs.length < 16 ∨ fieldAt bs 12 4 ≠ crc32c (bs.take 12) ∨ fieldAt bs 0 6 ≠ record ∨ fieldAt bs 6 2 ≠ 0
      ∨ n < 1 ∨ 64 < n ∨ fieldAt bs 10 2 ≠ 0 then .error ⟨101, 0xFFFF⟩
  else match framesOf n (bs.drop 16) with
    | none => .error ⟨102, 0xFFFF⟩
    | some fs =>
      let fields := fs.map fieldOf
      match (headerFault fs none).orElse (fun _ => (payloadFault fs).orElse (fun _ =>
          (typeFault fields).orElse (fun _ => shapeFault fields))) with
      | some e => .error e
      | none => .ok fields

/-- A field frame's bytes (R151): what the Ingot writer builds. -/
def FieldFrame.bytes (f : FieldFrame) : Bytes :=
  let h := natLe 1 f.typ ++ natLe 1 f.codec ++ natLe 2 f.nameId ++ natLe 4 f.payload.length
    ++ natLe 4 (payloadCrc f.payload)
  h ++ natLe 4 (crc32c h) ++ f.payload ++ List.replicate (upTo 8 f.payload.length - f.payload.length) 0

/-- A record's bytes (R150). -/
def recordBytes (record : Nat) (fs : List FieldFrame) : Bytes :=
  let h := natLe 8 record ++ natLe 2 fs.length ++ natLe 2 0
  h ++ natLe 4 (crc32c h) ++ fs.flatMap FieldFrame.bytes

/-! ### Ingots (R148, R149) -/

/-- A record index as (offset, length) pairs (R149). -/
def indexOf (n : Nat) (bs : Bytes) : List (Nat × Nat) :=
  (List.range n).map (fun i => (fieldAt bs (16 * i) 5, fieldAt bs (16 * i + 8) 4))

/-- The entries' reserved bits and offsets hold (R149). -/
def indexEntriesOk (n : Nat) (bs : Bytes) : Bool :=
  (List.range n).all (fun i => zeroAt bs (16 * i + 5) 3 && zeroAt bs (16 * i + 12) 4
    && decide (fieldAt bs (16 * i) 5 % 8 = 0) && decide (32 ≤ fieldAt bs (16 * i + 8) 4)
    && decide (fieldAt bs (16 * i + 8) 4 ≤ 268435456))

/-- The three rules of a record index (R149). -/
def indexRules (dataOffset length : Nat) : List (Nat × Nat) → Bool
  | [] => true
  | [e] => decide (dataOffset ≤ e.1) && decide (e.1 + e.2 ≤ length)
  | e :: f :: rest => decide (dataOffset ≤ e.1) && decide (e.1 + e.2 ≤ f.1) && indexRules f.1 length (f :: rest)

/-- An Ingot header is valid (R148). -/
def ingotHeaderOk (bs : Bytes) : Bool :=
  decide (bs.take 4 = [0x49, 0x4E, 0x47, 0x54]) && decide (fieldAt bs 4 2 = 1) && zeroAt bs 6 2 && decide (fieldAt bs 8 8 ≠ 0)
    && zeroAt bs 22 2 && decide (1 ≤ fieldAt bs 24 4) && decide (fieldAt bs 24 4 ≤ 16777216) && zeroAt bs 28 4
    && decide (fieldAt bs 32 8 % 4096 = 0) && decide (64 + 16 * fieldAt bs 24 4 ≤ fieldAt bs 32 8)
    && decide (fieldAt bs 40 8 % 4096 = 0) && zeroAt bs 52 8 && decide (fieldAt bs 60 4 = crc32c (bs.take 60))

/-- An Ingot header's bytes (R148). -/
def ingotHeader (dataset first count dataOffset length indexCrc : Nat) : Bytes :=
  let h := [0x49, 0x4E, 0x47, 0x54] ++ natLe 2 1 ++ natLe 2 0 ++ natLe 8 dataset ++ natLe 8 first ++ natLe 4 count
    ++ natLe 4 0 ++ natLe 8 dataOffset ++ natLe 8 length ++ natLe 4 indexCrc ++ natLe 8 0
  h ++ natLe 4 (crc32c h)

/-! ### Manifests (R156) -/

/-- One manifest entry (R156). -/
structure ManifestEntry where
  startLba : Nat
  firstRecord : Nat
  count : Nat
  blocks : Nat
  headerCrc : Nat
  reservedOk : Bool
  deriving DecidableEq, Repr

/-- Entry n of a manifest. -/
def manifestEntry (bs : Bytes) (n : Nat) : ManifestEntry :=
  let o := 64 + 32 * n
  { startLba := fieldAt bs o 8, firstRecord := fieldAt bs (o + 8) 6, count := fieldAt bs (o + 16) 4,
    blocks := fieldAt bs (o + 20) 4, headerCrc := fieldAt bs (o + 24) 4,
    reservedOk := zeroAt bs (o + 14) 2 && zeroAt bs (o + 28) 4 }

/-- The entries of a manifest. -/
def manifestEntries (bs : Bytes) : List ManifestEntry := (List.range (fieldAt bs 24 4)).map (manifestEntry bs)

/-- The manifest's own validity (step 1 of R157): header, length, reserved fields and CRC. -/
def manifestOk (length : Nat) (bs : Bytes) : Bool :=
  decide (64 ≤ length) && decide (length = 64 + 32 * fieldAt bs 24 4) && decide (bs.take 4 = [0x49, 0x4E, 0x47, 0x4D])
    && decide (fieldAt bs 4 2 = 1) && zeroAt bs 6 2 && decide (fieldAt bs 8 8 ≠ 0) && decide (1 ≤ fieldAt bs 16 8)
    && decide (fieldAt bs 16 8 ≤ 2 ^ 48) && decide (1 ≤ fieldAt bs 24 4) && decide (fieldAt bs 24 4 ≤ 1048576) && zeroAt bs 28 32
    && decide (fieldAt bs 60 4 = crc32c (bs.take 60 ++ bs.drop 64))

/-- The first entry that breaks step 1 of R157: reserved bits, ascending ranges that do not overlap, below RECORD_TOTAL. -/
def entryFault (total : Nat) : List ManifestEntry → Nat → Nat → Option Nat
  | [], _, _ => none
  | e :: rest, n, next =>
    if !e.reservedOk ∨ e.count = 0 ∨ e.firstRecord < next ∨ total < e.firstRecord + e.count then some n
    else entryFault total rest (n + 1) (e.firstRecord + e.count)

/-- A manifest entry's 32 bytes (R156, R307). -/
def manifestEntryBytes (startLba first count blocks headerCrc : Nat) : Bytes :=
  natLe 8 startLba ++ natLe 8 first ++ natLe 4 count ++ natLe 4 blocks ++ natLe 4 headerCrc ++ natLe 4 0

end Sys2Proof.Machine
end

