-- ==== Sys2Proof/Machine/Text.lean ====
section
/-! DEFINITION. Text and tokens as pure functions (chapter 08): UTF-8, vocabulary files, tokenisation, detokenisation and
stop strings. -/

namespace Sys2Proof.Machine

/-! ### UTF-8 (R227, R228) -/

/-- A row of R227 by its first byte: length, and the range of the second byte. -/
def utf8Row (b : Nat) : Option (Nat × Nat × Nat) :=
  if b < 0x80 then some (1, 0, 0)
  else if b < 0xC2 then none
  else if b ≤ 0xDF then some (2, 0x80, 0xBF)
  else if b = 0xE0 then some (3, 0xA0, 0xBF)
  else if b = 0xED then some (3, 0x80, 0x9F)
  else if b ≤ 0xEF then some (3, 0x80, 0xBF)
  else if b = 0xF0 then some (4, 0x90, 0xBF)
  else if b ≤ 0xF3 then some (4, 0x80, 0xBF)
  else if b = 0xF4 then some (4, 0x80, 0x8F)
  else none

/-- U+FFFD. -/
def replacement : Nat := 0xFFFD

/-- The code point of a whole sequence. -/
def codePoint (bs : List Nat) : Nat :=
  match bs with
  | [a] => a
  | [a, b] => a % 32 * 64 + b % 64
  | [a, b, c] => a % 16 * 4096 + b % 64 * 64 + c % 64
  | [a, b, c, d] => a % 8 * 262144 + b % 64 * 4096 + c % 64 * 64 + d % 64
  | _ => replacement

/-- A decoded character, and whether it replaces an ill-formed subpart. -/
structure Chr where
  cp : Nat
  bad : Bool
  deriving DecidableEq, Repr

/-- One U+FFFD. -/
def badChr : Chr := ⟨replacement, true⟩

/-- A byte at the start of a sequence: the bytes now pending, and the characters completed. -/
def utf8First (b : Nat) : List Nat × List Chr :=
  match utf8Row b with
  | none => ([], [badChr])
  | some (1, _, _) => ([], [⟨b, false⟩])
  | some _ => ([b], [])

/-- One more byte with bytes pending (R227, R228). -/
def utf8Step (pending : List Nat) (b : Nat) : List Nat × List Chr :=
  match pending with
  | [] => utf8First b
  | p :: rest =>
    match utf8Row p with
    | none => utf8First b
    | some (n, lo, hi) =>
      let ok := if rest.isEmpty then decide (lo ≤ b) && decide (b ≤ hi) else decide (0x80 ≤ b) && decide (b ≤ 0xBF)
      if !ok then
        let (q, cs) := utf8First b
        (q, badChr :: cs)
      else if pending.length + 1 = n then ([], [⟨codePoint (pending ++ [b]), false⟩])
      else (pending ++ [b], [])

/-- Decode bytes from a pending state; bytes pending at the end form one ill-formed subpart. -/
def utf8From : List Nat → Bytes → List Chr
  | [], [] => []
  | _ :: _, [] => [badChr]
  | pending, b :: bs =>
    let (q, cs) := utf8Step pending b.toNat
    cs ++ utf8From q bs

/-- Decode a whole field. -/
def utf8Decode (bs : Bytes) : List Chr := utf8From [] bs

/-- The bytes are well-formed UTF-8. -/
def wellFormed (bs : Bytes) : Bool := (utf8Decode bs).all (fun c => !c.bad)

/-- The UTF-8 bytes of a code point. -/
def utf8Encode (c : Nat) : Bytes :=
  if c < 0x80 then natLe 1 c
  else if c < 0x800 then natLe 1 (0xC0 + c / 64) ++ natLe 1 (0x80 + c % 64)
  else if c < 0x10000 then natLe 1 (0xE0 + c / 4096) ++ natLe 1 (0x80 + c / 64 % 64) ++ natLe 1 (0x80 + c % 64)
  else natLe 1 (0xF0 + c / 262144) ++ natLe 1 (0x80 + c / 4096 % 64) ++ natLe 1 (0x80 + c / 64 % 64) ++ natLe 1 (0x80 + c % 64)

/-- The code points of well-formed bytes. -/
def codePoints (bs : Bytes) : List Nat := (utf8Decode bs).map (fun c => c.cp)

/-! ### Vocabulary files (R229 to R231) -/

/-- None: an ID of all ones (R229, R249). -/
def noToken : Nat := 0xFFFFFFFF

/-- TOKEN_COUNT V. -/
def vocabCount (v : Bytes) : Nat := fieldAt v 8 4

/-- ESCAPE_ID. -/
def vocabEscape (v : Bytes) : Nat := fieldAt v 20 4

/-- The bytes of a token (R230). -/
def tokenBytes (v : Bytes) (id : Nat) : Bytes :=
  (v.drop (fieldAt v 24 8 + fieldAt v (64 + 8 * id) 4)).take (fieldAt v (68 + 8 * id) 2)

/-- The token is special. -/
def tokenSpecial (v : Bytes) (id : Nat) : Bool := bitOf (fieldAt v (70 + 8 * id) 1) 0

/-- One merge (R230): its rank is its index. -/
structure Merge where
  left : Nat
  right : Nat
  result : Nat
  deriving DecidableEq, Repr

/-- Merge r of a vocabulary. -/
def mergeAt (v : Bytes) (r : Nat) : Merge :=
  let o := fieldAt v 32 8 + 12 * r
  ⟨fieldAt v o 4, fieldAt v (o + 4) 4, fieldAt v (o + 8) 4⟩

/-- The merges, rank 0 first. -/
def vocabMerges (v : Bytes) : List Merge := (List.range (fieldAt v 12 4)).map (mergeAt v)

/-- The special IDs, in list order. -/
def vocabSpecials (v : Bytes) : List Nat := (List.range (fieldAt v 16 2)).map (fun j => fieldAt v (fieldAt v 40 8 + 4 * j) 4)

/-- The first condition that fails. -/
def firstFault (l : List (Bool × Nat)) : Option Nat := (l.find? (fun c => c.1)).map (fun c => c.2)

/-- Rule 1 of R231. -/
def vocabRule1 (length : Nat) (v : Bytes) : Option Nat :=
  let n := vocabCount v
  let mc := fieldAt v 12 4
  let sc := fieldAt v 16 2
  let head := firstFault [
    (decide (length < 64), 0), (decide (fieldAt v 48 8 ≠ length) || decide (268435456 < fieldAt v 48 8), 48),
    (decide (v.take 4 ≠ [0x56, 0x4F, 0x43, 0x42]), 0), (decide (fieldAt v 4 2 ≠ 1), 4),
    (decide (fieldAt v 60 4 ≠ crc32c (v.take 60)), 60), (decide (fieldAt v 56 4 ≠ crc32c (v.drop 64)), 56),
    (decide (1 < fieldAt v 6 1), 6), (decide (3 < fieldAt v 7 1), 7), (decide (n < 257) || decide (1048576 < n), 8),
    (decide (n - 256 < mc), 12), (decide (1024 < sc), 16), (decide (fieldAt v 18 2 < 64) || decide (4096 < fieldAt v 18 2), 18),
    (decide (fieldAt v 32 8 < 64 + 8 * n), 32), (decide (fieldAt v 40 8 < fieldAt v 32 8 + 12 * mc), 40),
    (decide (fieldAt v 24 8 < fieldAt v 40 8 + 4 * sc) || decide (length < fieldAt v 24 8), 24)]
  head.orElse (fun _ => (List.range n).findSome? (fun i =>
    let o := 64 + 8 * i
    firstFault [(decide (fieldAt v (o + 4) 2 < 1) || decide (256 < fieldAt v (o + 4) 2), o + 4),
      (decide (2 ≤ fieldAt v (o + 6) 1), o + 6), (decide (fieldAt v (o + 7) 1 ≠ 0), o + 7)]))

/-- Rule 2 of R231. -/
def vocabRule2 (length : Nat) (v : Bytes) : Option Nat :=
  (List.range (vocabCount v)).findSome? (fun i =>
    let o := 64 + 8 * i
    firstFault [(decide (length < fieldAt v 24 8 + fieldAt v o 4 + fieldAt v (o + 4) 2), o),
      (decide (i < 256) && decide (tokenBytes v i ≠ [BitVec.ofNat 8 i]), o)])

/-- Rule 3 of R231, over the merges from rank r on; `made` holds the earlier results, `pairs` the earlier pairs. -/
def vocabRule3 (v : Bytes) : List Merge → Nat → List Nat → List (Nat × Nat) → Option Nat
  | [], _, _, _ => none
  | m :: rest, r, made, pairs =>
    let o := fieldAt v 32 8 + 12 * r
    let known (t : Nat) : Bool := decide (t < 256) || made.contains t
    (firstFault [(!known m.left, o), (!known m.right, o + 4),
      (decide (m.result < 256) || decide (vocabCount v ≤ m.result) || tokenSpecial v m.result || made.contains m.result
        || decide (tokenBytes v m.result ≠ tokenBytes v m.left ++ tokenBytes v m.right), o + 8),
      (pairs.contains (m.left, m.right), o + 4)]).orElse
      (fun _ => vocabRule3 v rest (r + 1) (m.result :: made) ((m.left, m.right) :: pairs))

/-- Rule 4 of R231 over the special list. -/
def vocabRule4 (v : Bytes) : List Nat → Nat → List Nat → Option Nat
  | [], _, seen =>
    ((List.range (vocabCount v)).find? (fun i => tokenSpecial v i && !seen.contains i)).map (fun i => 70 + 8 * i)
  | t :: rest, j, seen =>
    let b := tokenBytes v t
    if t < 256 ∨ vocabCount v ≤ t ∨ !tokenSpecial v t ∨ seen.contains t ∨ !wellFormed b ∨ 64 < b.length
        ∨ seen.any (fun u => decide (tokenBytes v u = b)) then some (fieldAt v 40 8 + 4 * j)
    else vocabRule4 v rest (j + 1) (t :: seen)

/-- Rule 5 of R231. -/
def vocabRule5 (v : Bytes) : Option Nat :=
  let e := vocabEscape v
  if e ≠ noToken ∧ (vocabCount v ≤ e ∨ tokenSpecial v e) then some 20 else none

/-- The byte offset at fault of a vocabulary file, the rules in order (R231, R639). -/
def vocabFault (length : Nat) (v : Bytes) : Option Nat :=
  ((((vocabRule1 length v).orElse (fun _ => vocabRule2 length v)).orElse
    (fun _ => vocabRule3 v (vocabMerges v) 0 [] [])).orElse (fun _ => vocabRule4 v (vocabSpecials v) 0 [])).orElse
    (fun _ => vocabRule5 v)

/-! ### Special spellings (R234, R235) -/

/-- A segment of a field: text, or a match of a special token. -/
inductive Segment where
  | text (cs : List Nat)
  | special (id : Nat) (cs : List Nat)
  deriving DecidableEq, Repr

/-- The special spellings as (ID, code points). -/
def spellings (v : Bytes) : List (Nat × List Nat) := (vocabSpecials v).map (fun t => (t, codePoints (tokenBytes v t)))

/-- The longest special spelling that begins a text. -/
def longestSpelling (sp : List (Nat × List Nat)) (cs : List Nat) : Option (Nat × List Nat) :=
  sp.foldl (fun best x =>
    if x.2.isPrefixOf cs ∧ (match best with | some b => b.2.length | none => 0) < x.2.length then some x else best) none

/-- Close the text gathered so far. -/
def closeText (cur : List Nat) : List Segment := if cur.isEmpty then [] else [.text cur]

/-- The scan of R234 from the left, by fuel: `cur` is the text gathered since the last match. -/
def scanFrom (sp : List (Nat × List Nat)) : Nat → List Nat → List Nat → List Segment
  | 0, cur, _ => closeText cur
  | _, cur, [] => closeText cur
  | n + 1, cur, c :: cs =>
    match longestSpelling sp (c :: cs) with
    | some (t, w) => closeText cur ++ [.special t w] ++ scanFrom sp n [] ((c :: cs).drop w.length)
    | none => scanFrom sp n (cur ++ [c]) cs

/-- The segments of a field's characters. -/
def scan (v : Bytes) (cs : List Nat) : List Segment := scanFrom (spellings v) (cs.length + 1) [] cs

/-! ### Chunks (R236) -/

/-- The classes of R236. -/
inductive CharClass where
  | l | n | w | o
  deriving DecidableEq, Repr

/-- A class from a number. -/
def scalarClass (k : Nat) : CharClass := match k % 4 with | 0 => .l | 1 => .n | 2 => .w | _ => .o

/-- The class of a character: the ASCII range as the Unicode Character Database gives it, the rest of the database
uninterpreted (log entry 5). -/
def charClass (c : Nat) : CharClass :=
  if c < 128 then
    if (65 ≤ c ∧ c ≤ 90) ∨ (97 ≤ c ∧ c ≤ 122) then .l
    else if 48 ≤ c ∧ c ≤ 57 then .n
    else if (9 ≤ c ∧ c ≤ 13) ∨ c = 32 then .w
    else .o
  else scalarClass (Config.unicodeClass c)

/-- A run of one class, with the space rule 2 moved before it. -/
structure Run where
  cls : CharClass
  lead : List Nat := []
  cs : List Nat
  deriving DecidableEq, Repr

/-- Rule 1: maximal runs of one class. -/
def runs : List Nat → List Run
  | [] => []
  | c :: cs =>
    match runs cs with
    | [] => [{ cls := charClass c, cs := [c] }]
    | r :: rest => if r.cls = charClass c then { r with cs := c :: r.cs } :: rest else { cls := charClass c, cs := [c] } :: r :: rest

/-- Rule 2: the final U+0020 of a W run moves to the front of the run that follows; an emptied run is dropped. `lead` is
what the run before gave up. -/
def moveSpaces (lead : List Nat) : List Run → List Run
  | [] => []
  | r :: rest =>
    let kept := r.cs.dropLast
    if r.cls = .w ∧ r.cs.getLast? = some 0x20 ∧ !rest.isEmpty then
      (if kept.isEmpty then [] else [{ r with lead := lead, cs := kept }]) ++ moveSpaces [0x20] rest
    else { r with lead := lead } :: moveSpaces [] rest

/-- Cut a list into groups of g from its left, by fuel. -/
def groupsOf (g : Nat) : Nat → List Nat → List (List Nat)
  | 0, _ => []
  | _, [] => []
  | n + 1, cs => cs.take g :: groupsOf g n (cs.drop g)

/-- Rule 3: digit groups; a moved space stays before the first. -/
def digitGroups (g : Nat) (r : Run) : List (List Nat) :=
  if r.cls = .n ∧ 0 < g then
    match groupsOf g r.cs.length r.cs with
    | [] => [r.lead]
    | x :: xs => (r.lead ++ x) :: xs
  else [r.lead ++ r.cs]

/-- Cut a chunk into pieces of at most `m` bytes at character boundaries, each the longest that fits. -/
def cutChunk (m : Nat) : List Nat → Bytes → List Bytes
  | [], cur => if cur.isEmpty then [] else [cur]
  | c :: cs, cur =>
    let b := utf8Encode c
    if cur.length + b.length ≤ m ∨ cur.isEmpty then cutChunk m cs (cur ++ b) else cur :: cutChunk m cs b

/-- The chunks of a text segment, as bytes (R236). -/
def chunks (v : Bytes) (cs : List Nat) : List Bytes :=
  let pieces := if fieldAt v 6 1 = 0 then [cs] else (moveSpaces [] (runs cs)).flatMap (digitGroups (fieldAt v 7 1))
  pieces.flatMap (fun p => cutChunk (fieldAt v 18 2) p [])

/-! ### Byte-pair merges (R237) -/

/-- The rank of a pair. -/
def rankOf (ms : List Merge) (a b : Nat) : Option Nat := ms.findIdx? (fun m => decide (m.left = a) && decide (m.right = b))

/-- The best pair: the lowest rank, the leftmost on equal rank, as (index, rank). -/
def bestPair (ms : List Merge) : List Nat → Nat → Option (Nat × Nat)
  | a :: b :: rest, i =>
    let later := bestPair ms (b :: rest) (i + 1)
    match rankOf ms a b, later with
    | some r, some (j, q) => if q < r then some (j, q) else some (i, r)
    | some r, none => some (i, r)
    | none, l => l
  | _, _ => none

/-- bpe(c, n) of R237, by fuel. -/
def bpeLoop (ms : List Merge) : Nat → List Nat → List Nat
  | 0, t => t
  | n + 1, t =>
    match bestPair ms t 0 with
    | none => t
    | some (i, r) => bpeLoop ms n (t.take i ++ [((ms.map (fun m => m.result)).getD r 0)] ++ t.drop (i + 2))

/-- The tokens of a chunk. -/
def bpe (ms : List Merge) (c : Bytes) : List Nat := bpeLoop ms c.length (c.map (fun b => b.toNat))

/-! ### A field (R228, R233, R238) -/

/-- A text descriptor (R249). -/
structure TextDesc where
  nameId : Nat
  mode : Nat
  flags : Nat
  maxBytes : Nat
  maxTokens : Nat
  prefixId : Nat
  suffixId : Nat
  deriving DecidableEq, Repr

/-- The tokens of a segment under SPECIAL_MODE (R235); a match rejects under mode 2. -/
def segmentTokens (v : Bytes) (mode : Nat) : Segment → List Nat
  | .text cs => (chunks v cs).flatMap (bpe (vocabMerges v))
  | .special t cs =>
    if mode = 3 then [t]
    else (if mode = 1 then [vocabEscape v] else []) ++ (chunks v cs).flatMap (bpe (vocabMerges v))

/-- An affix, where it is set. -/
def affix (t : Nat) : List Nat := if t = noToken then [] else [t]

/-- What tokenising a field gives: the tokens or a reason of R245, and the replacements counted. -/
structure Encoded where
  result : Except Nat (List Nat)
  replaced : Nat

/-- Tokenise a field (R233 to R238). -/
def encodeText (v : Bytes) (d : TextDesc) (bs : Bytes) : Encoded :=
  let cs := utf8Decode bs
  let replaced := (cs.filter (fun c => c.bad)).length
  if bitOf d.flags 0 ∧ 0 < replaced then ⟨.error 301, 1⟩
  else
    let cps := cs.map (fun c => c.cp)
    let cps := if bitOf d.flags 1 ∧ (cs.head?.map (fun c => (c.cp, c.bad))) = some (0xFEFF, false) then cps.drop 1 else cps
    let segs := scan v cps
    let isMatch (x : Segment) : Bool := match x with | .special _ _ => true | .text _ => false
    if d.mode = 2 ∧ segs.any isMatch then ⟨.error 302, replaced⟩
    else
      let body := segs.flatMap (segmentTokens v d.mode)
      let front := affix d.prefixId ++ body
      let all := front ++ affix d.suffixId
      if all.length ≤ d.maxTokens then ⟨.ok all, replaced⟩
      else if bitOf d.flags 2 then ⟨.ok (front.take (d.maxTokens - (affix d.suffixId).length) ++ affix d.suffixId), replaced⟩
      else ⟨.error 303, replaced⟩

/-- The token tensor (R238): rank 1, INT32. -/
def tokenTensor (ts : List Nat) : Tensor := ⟨Fmt.code .int32, [ts.length], ts.flatMap (fun t => natLe 4 t)⟩

/-! ### Detokenisation (R239 to R243) -/

/-- A detokenisation profile (R250). -/
structure Profile where
  flags : Nat
  maxNew : Nat
  stopIds : List Nat
  stops : List (List Nat)
  deriving DecidableEq, Repr

/-- Where a decode stream stands. -/
structure Detok where
  pending : List Nat := []
  out : List Nat := []
  replaced : Nat := 0
  consumed : Nat := 0
  /-- characters completed within the current token -/
  within_ : Nat := 0
  /-- the stop string that ended the stream -/
  hit : Option Nat := none
  deriving DecidableEq, Repr

/-- The stop string that ends at the last character: the longest, the lower entry on equal length (R241). -/
def stopAt (stops : List (List Nat)) (out : List Nat) : Option Nat :=
  let ends := (List.range stops.length).filter (fun i => (stops.getD i []).isSuffixOf out)
  let len (i : Nat) : Nat := (stops.getD i []).length
  ends.foldl (fun best i => match best with
    | some b => if len b < len i then some i else some b
    | none => some i) none

/-- Characters completed by the stream, one at a time; it stops at once on a stop string (R241). -/
def Detok.take (p : Profile) : Detok → List Chr → Detok
  | x, [] => x
  | x, c :: cs =>
    if x.hit.isSome then x
    else
      let out := x.out ++ [c.cp]
      let y := { x with out := out, replaced := x.replaced + c.bad.toNat }
      match stopAt p.stops out with
      | some i => { y with hit := some i }
      | none => Detok.take p { y with within_ := x.within_ + 1 } cs

/-- The bytes of a token through the UTF-8 decoder. -/
def Detok.bytes (p : Profile) : Detok → Bytes → Detok
  | x, [] => x
  | x, b :: bs =>
    if x.hit.isSome then x
    else
      let (q, cs) := utf8Step x.pending b.toNat
      Detok.bytes p (Detok.take p { x with pending := q } cs) bs

/-- One token (R239). -/
def Detok.token (v : Bytes) (p : Profile) (x : Detok) (t : Nat) : Detok :=
  let x := { x with within_ := 0, consumed := x.consumed + 1 }
  if tokenSpecial v t then
    let x := if x.pending.isEmpty then x else Detok.take p { x with pending := [] } [badChr]
    if bitOf p.flags 1 then Detok.bytes p x (tokenBytes v t) else x
  else Detok.bytes p x (tokenBytes v t)

/-- How a stream ends (R242). -/
inductive StopReason where
  | end_ | string (i : Nat) | id (i : Nat) | limit
  deriving DecidableEq, Repr

/-- The tokens of a message one by one: 311 on an unknown ID, else the end of the stream (R239, R242). -/
def detokLoop (v : Bytes) (p : Profile) : List Nat → Detok → Except Nat (Detok × StopReason)
  | [], x => .ok (x, .end_)
  | t :: ts, x =>
    if vocabCount v ≤ t then .error 311
    else match p.stopIds.findIdx? (fun i => decide (i = t)) with
      | some i => .ok ({ x with consumed := x.consumed + 1 }, .id i)
      | none =>
        let y := x.token v p t
        match y.hit with
        | some i => .ok (y, .string i)
        | none => if y.consumed = p.maxNew then .ok (y, .limit) else detokLoop v p ts y

/-- What a decode stream hands off (R243, R244). -/
structure Decoded where
  text : Bytes
  report : Bytes
  consumed : Nat
  reason : Nat
  replaced : Nat
  deriving DecidableEq, Repr

/-- The stop report (R243). -/
def stopReport (reason index consumed token offset chars replaced : Nat) : Bytes :=
  natLe 1 reason ++ natLe 1 index ++ natLe 2 0 ++ natLe 4 consumed ++ natLe 4 token ++ natLe 4 offset ++ natLe 4 chars
    ++ natLe 4 replaced

/-- Detokenise a message (R239 to R243). -/
def decodeTokens (v : Bytes) (p : Profile) (ts : List Nat) : Except Nat Decoded :=
  match detokLoop v p ts {} with
  | .error e => .error e
  | .ok (x, r) =>
    let finish (y : Detok) : Detok :=
      if y.pending.isEmpty then y else { y with out := y.out ++ [replacement], replaced := y.replaced + 1 }
    let pack (y : Detok) (reason index token offset : Nat) : Decoded :=
      ⟨y.out.flatMap utf8Encode, stopReport reason index y.consumed token offset y.out.length y.replaced, y.consumed, reason, y.replaced⟩
    match r with
    | .end_ => .ok (pack (finish x) 0 0xFF 0xFFFFFFFF 0)
    | .string i =>
      let keep := if bitOf p.flags 0 then x.out.length else x.out.length - (p.stops.getD i []).length
      .ok (pack { x with out := x.out.take keep } 1 i (x.consumed - 1) x.within_)
    | .id i => .ok (pack (finish x) 2 i (x.consumed - 1) 0)
    | .limit => .ok (pack (finish x) 3 0xFF (x.consumed - 1) 0)

end Sys2Proof.Machine
end

