-- ==== Sys2Proof/Machine/Recipe.lean ====
section
/-! DEFINITION. Recipes (R181, R217 to R220, R248 to R251, R276 to R278, R282, R283, R294): their sections as structures
and every offset at fault. -/

namespace Sys2Proof.Machine

/-- A loaded file under a handle, with its digest. -/
structure LoadedItem where
  handle : Nat
  digest : Bytes
  bytes : Bytes
  deriving DecidableEq, Repr

/-- A section: its type, the offset of its body, and its body's length (R181). -/
structure Section where
  typ : Nat
  at_ : Nat
  length : Nat
  deriving DecidableEq, Repr

/-- The sections of a recipe, walked from an offset while they lie below `end_`; and whether the walk reached its end. -/
def walkSections (bs : Bytes) (end_ : Nat) : Nat → Nat → List Section × Option Nat
  | 0, o => ([], some o)
  | n + 1, o =>
    if end_ < o + 8 ∨ end_ < o + 8 + fieldAt bs (o + 4) 4 then ([], none)
    else
      let (rest, stop) := walkSections bs end_ n (o + 8 + fieldAt bs (o + 4) 4)
      (⟨fieldAt bs o 2, o + 8, fieldAt bs (o + 4) 4⟩ :: rest, stop)

/-- A recipe's sections. -/
def sectionsOf (bs : Bytes) : List Section := (walkSections bs (fieldAt bs 8 4) (fieldAt bs 6 2) 64).1

/-- The section of a type. -/
def findSection (bs : Bytes) (t : Nat) : Option Section := (sectionsOf bs).find? (fun x => decide (x.typ = t))

/-! ### The decode section (R217 to R219) -/

/-- A field descriptor (R218), with its offset in the recipe. -/
structure DecodeDesc where
  at_ : Nat
  nameId : Nat
  typ : Nat
  flags : Nat
  maxWidth : Nat
  maxHeight : Nat
  maxPixels : Nat
  maxChannels : Nat
  colour : Nat
  maxFrames : Nat
  maxSamples : Nat
  sampleRate : Nat
  expMax : Nat
  buFactor : Nat
  buMax : Nat
  cropMode : Nat
  table : Nat
  outWidth : Nat
  outHeight : Nat
  patch : Nat
  outFormat : Nat
  cropX : Nat
  cropY : Nat
  cropW : Nat
  cropH : Nat
  aMin : Nat
  aMax : Nat
  rMin : Nat
  rMax : Nat
  pFlipH : Nat
  pFlipV : Nat
  frameCount : Nat
  frameMode : Nat
  frameStride : Nat
  audioLength : Nat
  audioMode : Nat
  rounding : Nat
  mean : List Nat
  scale : List Nat
  deriving DecidableEq, Repr

/-- The descriptor at an offset. -/
def decodeDescAt (bs : Bytes) (o : Nat) : DecodeDesc :=
  { at_ := o, nameId := fieldAt bs o 2, typ := fieldAt bs (o + 2) 1, flags := fieldAt bs (o + 3) 1,
    maxWidth := fieldAt bs (o + 4) 2, maxHeight := fieldAt bs (o + 6) 2, maxPixels := fieldAt bs (o + 8) 4,
    maxChannels := fieldAt bs (o + 12) 1, colour := fieldAt bs (o + 13) 1, maxFrames := fieldAt bs (o + 14) 2,
    maxSamples := fieldAt bs (o + 16) 4, sampleRate := fieldAt bs (o + 20) 4, expMax := fieldAt bs (o + 24) 2,
    buFactor := fieldAt bs (o + 26) 2, buMax := fieldAt bs (o + 28) 4, cropMode := fieldAt bs (o + 32) 1,
    table := fieldAt bs (o + 33) 1, outWidth := fieldAt bs (o + 34) 2, outHeight := fieldAt bs (o + 36) 2,
    patch := fieldAt bs (o + 38) 1, outFormat := fieldAt bs (o + 39) 1, cropX := fieldAt bs (o + 40) 2,
    cropY := fieldAt bs (o + 42) 2, cropW := fieldAt bs (o + 44) 2, cropH := fieldAt bs (o + 46) 2,
    aMin := fieldAt bs (o + 48) 4, aMax := fieldAt bs (o + 52) 4, rMin := fieldAt bs (o + 56) 4, rMax := fieldAt bs (o + 60) 4,
    pFlipH := fieldAt bs (o + 64) 4, pFlipV := fieldAt bs (o + 68) 4, frameCount := fieldAt bs (o + 72) 2,
    frameMode := fieldAt bs (o + 74) 1, frameStride := fieldAt bs (o + 75) 1, audioLength := fieldAt bs (o + 76) 4,
    audioMode := fieldAt bs (o + 80) 1, rounding := fieldAt bs (o + 81) 1,
    mean := (List.range 4).map (fun i => fieldAt bs (o + 84 + 4 * i) 4),
    scale := (List.range 4).map (fun i => fieldAt bs (o + 100 + 4 * i) 4) }

/-- The descriptors of a decode section body at `b`. -/
def decodeDescsAt (bs : Bytes) (b : Nat) : List DecodeDesc :=
  (List.range (fieldAt bs b 1)).map (fun i => decodeDescAt bs (b + 16 + 128 * i))

/-- The decode descriptors of a recipe. -/
def decodeDescs (bs : Bytes) : List DecodeDesc := ((findSection bs 1).map (fun x => decodeDescsAt bs x.at_)).getD []

/-- Offsets of the coefficient tables, and where the last ends: each is 8 + 128 x T bytes (R219). -/
def tableOffsets (bs : Bytes) : Nat → Nat → List Nat × Nat
  | 0, o => ([], o)
  | n + 1, o =>
    let (l, e) := tableOffsets bs n (o + 8 + 128 * fieldAt bs o 1)
    (o :: l, e)

/-- A coefficient table: its taps T and its coefficients, phase-major (R219). -/
structure CoefTable where
  taps : Nat
  coefs : List Int
  deriving DecidableEq, Repr

/-- Coefficient table k of a recipe. -/
def coefTable (bs : Bytes) (k : Nat) : Option CoefTable :=
  match findSection bs 1 with
  | none => none
  | some x =>
    let o := x.at_ + 16 + 128 * fieldAt bs x.at_ 1
    ((tableOffsets bs (fieldAt bs (x.at_ + 1) 1) o).1[k]?).map (fun t =>
      { taps := fieldAt bs t 1, coefs := (List.range (64 * fieldAt bs t 1)).map (fun i => signedOf 16 (fieldAt bs (t + 8 + 2 * i) 2)) })

/-- Output formats a Riffle or an embedding casts to (R215). -/
def castFormats : List Nat := [0x01, 0x02, 0x03, 0x04, 0x05, 0x09, 0x10, 0x11, 0x13]

/-- Faults of one descriptor with its own fields (R218, R220). Fields that its TYPE does not use are not checked (log entry
20). -/
def descFaults (bs : Bytes) (tables : Nat) (d : DecodeDesc) : List Nat :=
  let o := d.at_
  let out (v lo hi k : Nat) : Bool × Nat := (decide (v < lo) || decide (hi < v), o + k)
  let common : List (Bool × Nat) := [out d.typ 1 6 2, out d.flags 0 1 3, out d.expMax 1 1024 24, out d.buFactor 4 1024 26,
    out d.buMax 1 (2 ^ 31) 28]
  if 4 ≤ d.typ then
    faultsOf common ++ (if d.typ ≤ 6 then reservedBytes bs (o + 4) 20 ++ reservedBytes bs (o + 32) 96 else [])
  else
    let video := decide (d.typ = 2)
    let picture : List (Bool × Nat) := [
      out d.maxWidth 1 (if video then 4096 else 16384) 4, out d.maxHeight 1 (if video then 2304 else 16384) 6,
      out d.maxPixels 1 (if video then 9437184 else 67108864) 8,
      out d.maxChannels 1 (if video then 3 else 4) 12,
      (decide (3 < d.colour) || (video && (decide (d.colour = 1) || decide (d.colour = 3))), o + 13),
      out d.cropMode 0 3 32, (decide (tables ≤ d.table) && decide (d.table ≠ 0xFF), o + 33),
      out d.outWidth 0 16384 34, out d.outHeight 0 16384 36,
      (decide ((d.outWidth = 0) ≠ (d.outHeight = 0)), o + 36),
      (decide ((d.outWidth ≠ 0 ∧ d.outHeight ≠ 0) ≠ (d.table ≠ 0xFF)), o + 36),
      out d.patch 0 64 38,
      ((decide (d.cropMode = 1) || decide (d.cropMode = 2)) && decide (d.cropW < 1), o + 44),
      ((decide (d.cropMode = 1) || decide (d.cropMode = 2)) && decide (d.cropH < 1), o + 46),
      out d.aMin 1 65536 48, (decide (d.aMax < d.aMin) || decide (65536 < d.aMax), o + 52), (decide (d.rMin < 1), o + 56),
      (decide (d.rMax < d.rMin), o + 60)]
    let frames : List (Bool × Nat) := [(decide (d.maxFrames < 1), o + 14), out d.frameCount 1 256 72, out d.frameMode 0 1 74,
      out d.frameStride 1 255 75]
    let audio : List (Bool × Nat) := [out d.maxChannels 1 8 12, out d.maxSamples 1 134217728 16, out d.sampleRate 0 192000 20,
      (decide (d.patch ≠ 0), o + 38), (decide (d.maxSamples < d.audioLength), o + 76), out d.audioMode 0 1 80]
    let cast : List (Bool × Nat) := [(!castFormats.contains d.outFormat, o + 39), out d.rounding 0 2 81]
    faultsOf (common ++ cast ++ (if d.typ = 3 then audio else picture) ++ (if video then frames else []))
      ++ reservedBytes bs (o + 82) 2 ++ reservedBytes bs (o + 116) 12

/-- Later uses of a NAME_ID already used, by offset. -/
def repeated : List (Nat × Nat) → List Nat → List Nat
  | [], _ => []
  | (name, o) :: rest, seen => (if seen.contains name then [o] else []) ++ repeated rest (name :: seen)

/-- Faults of a coefficient table at an offset (R219): the phase sum is charged to the phase's last coefficient. -/
def tableFaults (bs : Bytes) (o : Nat) : List Nat :=
  let t := fieldAt bs o 1
  let sum (ph : Nat) : Int := ((List.range t).map (fun i => signedOf 16 (fieldAt bs (o + 8 + 2 * (t * ph + i)) 2))).sum
  (if t % 2 = 1 ∨ t < 2 ∨ 32 < t then [o]
   else (List.range 64).filterMap (fun ph => if sum ph = 16384 then none else some (o + 8 + 2 * (t * ph + t) - 2)))
  ++ reservedBytes bs (o + 1) 7

/-- Faults of a decode section (R217 to R220). -/
def decodeFaults (bs : Bytes) (x : Section) : List Nat :=
  let b := x.at_
  let n := fieldAt bs b 1
  let tc := fieldAt bs (b + 1) 1
  let ds := decodeDescsAt bs b
  let (ts, stop) := tableOffsets bs tc (b + 16 + 128 * n)
  let counts := decide (1 ≤ n) && decide (n ≤ 64) && decide (tc ≤ 8)
  faultsOf [(decide (n < 1) || decide (64 < n), b), (decide (8 < tc), b + 1), (decide (1 < fieldAt bs (b + 2) 1), b + 2),
    (decide (fieldAt bs (b + 3) 1 < 1) || decide (16 < fieldAt bs (b + 3) 1), b + 3),
    (decide (fieldAt bs (b + 4) 4 < 1) || decide (10000 < fieldAt bs (b + 4) 4), b + 4),
    (counts && decide (stop ≠ b + x.length), b - 4)]
  ++ reservedBytes bs (b + 8) 8
  ++ (if counts then ds.flatMap (descFaults bs tc) ++ repeated (ds.map (fun d => (d.nameId, d.at_))) [] ++ ts.flatMap (tableFaults bs)
      else [])

/-! ### The text section (R248 to R251) -/

/-- The text descriptor at an offset. -/
def textDescAt (bs : Bytes) (o : Nat) : TextDesc :=
  ⟨fieldAt bs o 2, fieldAt bs (o + 2) 1, fieldAt bs (o + 3) 1, fieldAt bs (o + 4) 4, fieldAt bs (o + 8) 4,
   fieldAt bs (o + 12) 4, fieldAt bs (o + 16) 4⟩

/-- The offsets of the text descriptors of a body at `b`. -/
def textOffsets (bs : Bytes) (b : Nat) : List Nat := (List.range (fieldAt bs b 1)).map (fun i => b + 48 + 32 * i)

/-- A recipe's text descriptors. -/
def textDescs (bs : Bytes) : List TextDesc := ((findSection bs 2).map (fun x => (textOffsets bs x.at_).map (textDescAt bs))).getD []

/-- VOCAB_DIGEST of a recipe, where it has a text section. -/
def vocabDigest (bs : Bytes) : Option Bytes := (findSection bs 2).map (fun x => sliceAt bs (x.at_ + 8) 32)

/-- DETOK_STREAMS of a recipe. -/
def detokStreams (bs : Bytes) : Nat := ((findSection bs 2).map (fun x => fieldAt bs (x.at_ + 2) 1)).getD 0

/-- Stop string k of a profile at an offset, as bytes. -/
def stopBytes (bs : Bytes) (o k : Nat) : Bytes := (sliceAt bs (o + 48 + 64 * k) 64).take (fieldAt bs (o + 40 + k) 1)

/-- Profile i of a recipe (R250). -/
def profile? (bs : Bytes) (i : Nat) : Option Profile :=
  match findSection bs 2 with
  | none => none
  | some x =>
    if fieldAt bs (x.at_ + 1) 1 ≤ i then none
    else
      let o := x.at_ + 48 + 32 * fieldAt bs x.at_ 1 + 560 * i
      some { flags := fieldAt bs (o + 2) 1, maxNew := fieldAt bs (o + 4) 4,
             stopIds := (List.range (fieldAt bs (o + 1) 1)).map (fun k => fieldAt bs (o + 8 + 4 * k) 4),
             stops := (List.range (fieldAt bs o 1)).map (fun k => codePoints (stopBytes bs o k)) }

/-- Faults of one profile (R250, R251). -/
def profileFaults (bs : Bytes) (v : Option Bytes) (o : Nat) : List Nat :=
  let sc := fieldAt bs o 1
  let ic := fieldAt bs (o + 1) 1
  let n := (v.map vocabCount).getD (2 ^ 32)
  faultsOf [(decide (8 < sc), o), (decide (8 < ic), o + 1), (decide (8 ≤ fieldAt bs (o + 2) 1), o + 2),
    (decide (fieldAt bs (o + 3) 1 ≠ 0), o + 3), (decide (fieldAt bs (o + 4) 4 < 1) || decide (16777216 < fieldAt bs (o + 4) 4), o + 4)]
  ++ (List.range 8).flatMap (fun k =>
    let len := fieldAt bs (o + 40 + k) 1
    let id := fieldAt bs (o + 8 + 4 * k) 4
    faultsOf [((decide (k < ic) && decide (n ≤ id)) || (decide (ic ≤ k) && decide (id ≠ 0)), o + 8 + 4 * k),
      ((decide (k < sc) && (decide (len < 1) || decide (64 < len))) || (decide (sc ≤ k) && decide (len ≠ 0)), o + 40 + k),
      (decide (k < sc) && (!wellFormed (stopBytes bs o k)
        || (List.range k).any (fun j => decide (stopBytes bs o j = stopBytes bs o k))), o + 48 + 64 * k)]
    ++ reservedBytes bs (o + 48 + 64 * k + len) (64 - len))

/-- Faults of a text section (R251); `v` is the loaded vocabulary that VOCAB_DIGEST names. -/
def textFaults (bs : Bytes) (x : Section) (v : Option Bytes) : List Nat :=
  let b := x.at_
  let dc := fieldAt bs b 1
  let pc := fieldAt bs (b + 1) 1
  let n := (v.map vocabCount).getD (2 ^ 32)
  let counts := decide (dc ≤ 64) && decide (pc ≤ 8)
  let media := decodeDescs bs
  faultsOf [(decide (64 < dc), b), (decide (8 < pc) || decide (dc + pc < 1), b + 1), (decide (12 < fieldAt bs (b + 2) 1), b + 2),
    (v.isNone, b + 8), (counts && decide (x.length ≠ 48 + 32 * dc + 560 * pc), b - 4)]
  ++ reservedBytes bs (b + 3) 5 ++ reservedBytes bs (b + 40) 8
  ++ (if counts then
        (textOffsets bs b).flatMap (fun o =>
          let d := textDescAt bs o
          faultsOf [(decide (3 < d.mode) || (decide (d.mode = 1) && decide (v.map vocabEscape = some noToken)), o + 2),
            (decide (8 ≤ d.flags), o + 3), (decide (d.maxBytes < 1) || decide (268435456 < d.maxBytes), o + 4),
            (decide (d.maxTokens < 1) || decide (16777216 < d.maxTokens), o + 8),
            (decide (n ≤ d.prefixId) && decide (d.prefixId ≠ noToken), o + 12),
            ((decide (n ≤ d.suffixId) && decide (d.suffixId ≠ noToken))
              || decide (d.maxTokens ≤ (affix d.prefixId).length + (affix d.suffixId).length), o + 16)]
          ++ reservedBytes bs (o + 20) 12
          ++ media.filterMap (fun m => if m.nameId = d.nameId ∧ m.typ ≠ 4 then some (max o m.at_) else none))
        ++ repeated ((textOffsets bs b).map (fun o => (fieldAt bs o 2, o))) []
        ++ (List.range pc).flatMap (fun i => profileFaults bs v (b + 48 + 32 * dc + 560 * i))
      else [])

/-! ### The filter section (R255, R276 to R278) -/

/-- A fixed rule (R255). -/
structure FixedRule where
  kind : Nat
  nameId : Nat
  lo : Nat
  hi : Nat
  deriving DecidableEq, Repr

/-- A scorer (R276). -/
structure Scorer where
  bias : Int
  least : Int
  weights : List Int
  deriving DecidableEq, Repr

/-- An embedding (R277), with the offsets of its descriptor and its weights. -/
structure Embedding where
  at_ : Nat
  nameId : Nat
  wFormat : Nat
  format : Nat
  k : Nat
  e : Nat
  scale : Nat
  deriving DecidableEq, Repr

/-- Bits of a weight. -/
def Embedding.bits (m : Embedding) : Nat := if m.wFormat = 0 then 8 else if m.wFormat = 1 then 4 else 2

/-- Bytes of an embedding's weights before padding. -/
def Embedding.weightBytes (m : Embedding) : Nat := (m.k * m.e * m.bits + 7) / 8

/-- The embedding at an offset. -/
def embeddingAt (bs : Bytes) (o : Nat) : Embedding :=
  ⟨o, fieldAt bs o 2, fieldAt bs (o + 2) 1, fieldAt bs (o + 3) 1, fieldAt bs (o + 4) 2, fieldAt bs (o + 6) 2, fieldAt bs (o + 12) 4⟩

/-- The filter section's parts (R276). -/
structure FilterSection where
  at_ : Nat
  rules : List FixedRule
  langs : List Bytes
  source : Nat
  dupMode : Nat
  threshold : Nat
  window : Nat
  sigName : Nat
  langName : Nat
  synthName : Nat
  dupDigest : Bytes
  maxInsns : Nat
  /-- offset of the projection table -/
  projAt : Nat
  scorers : Nat
  scorersAt : Nat
  embeddings : List Embedding
  /-- (offset of the first word, words) of each kernel, and where the last ends -/
  kernels : List (Nat × Nat)
  stop : Nat
  deriving DecidableEq, Repr

/-- The embeddings from an offset, and where they end. -/
def embeddingsFrom (bs : Bytes) : Nat → Nat → List Embedding × Nat
  | 0, o => ([], o)
  | n + 1, o =>
    let m := embeddingAt bs o
    let (l, e) := embeddingsFrom bs n (o + 16 + upTo 8 m.weightBytes)
    (m :: l, e)

/-- The kernels from an offset, and where they end. -/
def kernelsFrom (bs : Bytes) : Nat → Nat → List (Nat × Nat) × Nat
  | 0, o => ([], o)
  | n + 1, o =>
    let (l, e) := kernelsFrom bs n (o + 8 + 8 * fieldAt bs o 4)
    ((o + 8, fieldAt bs o 4) :: l, e)

/-- Read a filter section body at `b`. -/
def filterAt (bs : Bytes) (b : Nat) : FilterSection :=
  let rc := fieldAt bs b 1
  let lc := fieldAt bs (b + 1) 1
  let projAt := b + 64 + 16 * rc + 8 * lc
  let scorersAt := projAt + (if fieldAt bs (b + 4) 1 = 0 then 0 else 262144)
  let (embs, ko) := embeddingsFrom bs (fieldAt bs (b + 14) 1) (scorersAt + 1032 * fieldAt bs (b + 3) 1)
  let (ks, stop) := kernelsFrom bs (fieldAt bs (b + 2) 1) ko
  { at_ := b
    rules := (List.range rc).map (fun i =>
      let o := b + 64 + 16 * i
      ⟨fieldAt bs o 1, fieldAt bs (o + 2) 2, fieldAt bs (o + 4) 4, fieldAt bs (o + 8) 4⟩)
    langs := (List.range lc).map (fun i => sliceAt bs (b + 64 + 16 * rc + 8 * i) 8)
    source := fieldAt bs (b + 4) 1, dupMode := fieldAt bs (b + 5) 1, threshold := fieldAt bs (b + 6) 1,
    window := fieldAt bs (b + 7) 1, sigName := fieldAt bs (b + 8) 2, langName := fieldAt bs (b + 10) 2,
    synthName := fieldAt bs (b + 12) 2, dupDigest := sliceAt bs (b + 16) 32, maxInsns := fieldAt bs (b + 48) 4,
    projAt := projAt, scorers := fieldAt bs (b + 3) 1, scorersAt := scorersAt, embeddings := embs, kernels := ks, stop := stop }

/-- A recipe's filter section. -/
def filterSection? (bs : Bytes) : Option FilterSection := (findSection bs 3).map (fun x => filterAt bs x.at_)

/-- The words of kernel k. -/
def kernelWords (bs : Bytes) (f : FilterSection) (k : Nat) : List Nat :=
  match f.kernels[k]? with
  | some (o, n) => wordsOf n (bs.drop o)
  | none => []

/-- Bytes of the section's Anvil tables (R267, R278). -/
def FilterSection.anvilBytes (f : FilterSection) : Nat :=
  (if f.source = 0 then 0 else 262144) + 1024 * f.scorers + (f.embeddings.map Embedding.weightBytes).sum

/-- Channels a descriptor's output may have (R208): any up to MAX_CHANNELS under NATIVE. -/
def outChannels (d : DecodeDesc) : List Nat :=
  match d.colour with
  | 1 => [3]
  | 2 => [1]
  | 3 => [4]
  | _ => (List.range d.maxChannels).map (· + 1)

/-- An FP32 code is finite. -/
def finite32 (c : Nat) : Bool := decide (bitsOf c 30 23 ≠ 0xFF)

/-- Faults of one embedding (R277). -/
def embeddingFaults (bs : Bytes) (ds : List DecodeDesc) (m : Embedding) : List Nat :=
  let o := m.at_
  let own := faultsOf [(decide (2 < m.wFormat), o + 2), (!castFormats.contains m.format, o + 3),
    (decide (m.k < 1) || decide (16384 < m.k), o + 4), (decide (m.e < 1) || decide (4096 < m.e), o + 6), (!finite32 m.scale, o + 12)]
    ++ reservedBytes bs (o + 8) 4 ++ reservedBytes bs (o + 16 + m.weightBytes) (upTo 8 m.weightBytes - m.weightBytes)
  match ds.find? (fun d => decide (d.nameId = m.nameId)) with
  | none => o :: own
  | some d =>
    own ++ faultsOf [
      ((decide (d.typ ≠ 1) && decide (d.typ ≠ 2)) || decide (d.patch = 0), o),
      (!(outChannels d).any (fun c => decide (m.k = d.patch * d.patch * c)), max (o + 4) (d.at_ + 38)),
      (!([0x09, 0x11, 0x13] : List Nat).contains d.outFormat, max o (d.at_ + 39)),
      (decide (d.outFormat ≠ 0x09) && decide (m.k % 32 ≠ 0), max (o + 4) (d.at_ + 39))]

/-- The first byte of an allow-list entry that breaks R256. -/
def langFault (bs : Bytes) (o : Nat) : List Nat :=
  ((List.range 8).filter (fun i =>
    let c := fieldAt bs (o + i) 1
    (decide (0x41 ≤ c) && decide (c ≤ 0x5A)) || (decide (c ≠ 0) && (List.range i).any (fun j => decide (fieldAt bs (o + j) 1 = 0))))).map
    (fun i => o + i)

/-- Faults of a filter section (R276 to R278); `sets` holds the digests of the loaded reference sets. -/
def filterFaults (bs : Bytes) (x : Section) (sets : List Bytes) : List Nat :=
  let b := x.at_
  let f := filterAt bs b
  let rc := fieldAt bs b 1
  let lc := fieldAt bs (b + 1) 1
  let kc := fieldAt bs (b + 2) 1
  let ec := fieldAt bs (b + 14) 1
  let counts := decide (rc ≤ 16) && decide (lc ≤ 16) && decide (kc ≤ 8) && decide (f.scorers ≤ 4) && decide (ec ≤ 4)
    && decide (f.source ≤ 3)
  let kernelsOk := f.kernels.all (fun k => decide (1 ≤ k.2) && decide (k.2 ≤ 1024))
  faultsOf [(decide (16 < rc), b), (decide (16 < lc), b + 1), (decide (8 < kc), b + 2), (decide (4 < f.scorers), b + 3),
    (decide (3 < f.source) || (decide (f.source = 0) && decide (0 < f.scorers)), b + 4),
    (decide (8 ≤ f.dupMode) || (bitOf f.dupMode 2 && !bitOf f.dupMode 1) || (decide (f.dupMode ≠ 0) && decide (f.source = 0)), b + 5),
    (decide (128 < f.threshold), b + 6), (decide (4 < f.window), b + 7),
    (decide (lc = 0) && decide (f.langName ≠ 0xFFFF), b + 10), (decide (0xFFFD < f.synthName), b + 12), (decide (4 < ec), b + 14),
    (decide (fieldAt bs (b + 15) 1 ≠ 0), b + 15),
    (if bitOf f.dupMode 1 then !sets.contains f.dupDigest else !f.dupDigest.all (· = 0), b + 16),
    (decide (f.maxInsns < 1) || decide (65536 < f.maxInsns), b + 48),
    (counts && kernelsOk && decide (f.stop ≠ b + x.length), b - 4)]
  ++ reservedBytes bs (b + 52) 12
  ++ (if counts then
        (List.range rc).flatMap (fun i =>
          let o := b + 64 + 16 * i
          let r := f.rules.getD i ⟨0, 0, 0, 0⟩
          faultsOf [(decide (r.kind < 1) || decide (4 < r.kind), o), (decide (fieldAt bs (o + 1) 1 ≠ 0), o + 1),
            (decide (r.kind = 4) && decide (r.nameId ≠ 0), o + 2), (decide (r.kind = 1) && decide (r.lo ≠ 0), o + 4),
            (if r.kind = 1 then decide (r.hi ≠ 0) else decide (r.hi < r.lo), o + 8)]
          ++ reservedBytes bs (o + 12) 4)
        ++ (List.range lc).flatMap (fun i => langFault bs (b + 64 + 16 * rc + 8 * i))
        ++ f.embeddings.flatMap (embeddingFaults bs (decodeDescs bs))
        ++ (match f.embeddings.getLast? with
            | some m => if 16777216 < f.anvilBytes then [m.at_ + 6] else []
            | none => [])
        ++ f.kernels.flatMap (fun k =>
            (if k.2 < 1 ∨ 1024 < k.2 then [k.1 - 8]
             else ((programFault ⟨true, 1, 0⟩ (wordsOf k.2 (bs.drop k.1))).map (fun i => k.1 + i)).toList)
            ++ reservedBytes bs (k.1 - 4) 4)
      else [])

/-! ### The packing section (R282, R283, R294) -/

/-- The packing section (R282). -/
structure PackSection where
  at_ : Nat
  packName : Nat
  rows : Nat
  rowLen : Nat
  maxSegs : Nat
  width : Nat
  tensors : List Nat
  padId : Nat
  residueMax : Nat
  tensorBytes : Nat
  deriving DecidableEq, Repr

/-- Read a packing section body at `b`. -/
def packAt (bs : Bytes) (b : Nat) : PackSection :=
  { at_ := b, packName := fieldAt bs b 2, rows := fieldAt bs (b + 2) 2, rowLen := fieldAt bs (b + 4) 4,
    maxSegs := fieldAt bs (b + 8) 2, width := fieldAt bs (b + 10) 1,
    tensors := (List.range (fieldAt bs (b + 11) 1)).map (fun i => fieldAt bs (b + 64 + 2 * i) 2),
    padId := fieldAt bs (b + 12) 4, residueMax := fieldAt bs (b + 16) 4, tensorBytes := fieldAt bs (b + 20) 4 }

/-- A recipe's packing section. -/
def packSection? (bs : Bytes) : Option PackSection := (findSection bs 4).map (fun x => packAt bs x.at_)

/-- a64(x) of R291. -/
def a64 (n : Nat) : Nat := upTo 64 n

/-- The batch bound of R294. -/
def PackSection.bound (p : PackSection) : Nat :=
  64 + a64 (p.rows * p.rowLen * p.width) + a64 (p.rows * p.rowLen * 2) + a64 (p.rows * p.rowLen * 4) + a64 (4 * (p.rows + 1))
    + a64 (16 * p.rows * p.maxSegs) + a64 (16 * p.tensors.length * p.rows * p.maxSegs) + p.tensorBytes

/-- Faults of a packing section (R283). -/
def packFaults (bs : Bytes) (x : Section) (v : Option Bytes) : List Nat :=
  let b := x.at_
  let p := packAt bs b
  let tc := fieldAt bs (b + 11) 1
  let descs := ((findSection bs 2).map (fun t => (textOffsets bs t.at_).map (fun o => (o, textDescAt bs o)))).getD []
  let used := decide (p.packName ≠ 0xFFFF)
  let name (i : Nat) : Nat := fieldAt bs (b + 64 + 2 * i) 2
  faultsOf [(decide (x.length ≠ 80), b - 4),
    (used && !descs.any (fun d => decide (d.2.nameId = p.packName)), b),
    (decide (p.rows < 1) || decide (4096 < p.rows), b + 2),
    (decide (131072 < p.rowLen) || (decide (p.rowLen = 0) && used), b + 4),
    (decide (p.maxSegs < 1) || decide (4096 < p.maxSegs), b + 8),
    (decide (p.width ≠ 2 ∧ p.width ≠ 4) || (decide (p.width = 2) && decide (65536 < (v.map vocabCount).getD 0)), b + 10),
    (decide (8 < tc), b + 11),
    (used && v.isSome && decide ((v.map vocabCount).getD 0 ≤ p.padId), b + 12),
    (decide (65536 < p.residueMax), b + 16),
    (decide (1073741824 < p.tensorBytes) || decide (p.tensorBytes % 64 ≠ 0) || decide (1073741824 < p.bound), b + 20)]
  ++ reservedBytes bs (b + 24) 40
  ++ descs.filterMap (fun d => if used ∧ d.2.nameId = p.packName ∧ p.rowLen < d.2.maxTokens then some (max (b + 4) (d.1 + 8)) else none)
  ++ (List.range 8).filterMap (fun i =>
      if i < tc then
        (if name i = p.packName ∨ (List.range i).any (fun j => decide (name j = name i)) then some (b + 64 + 2 * i) else none)
      else if name i ≠ 0xFFFF then some (b + 64 + 2 * i) else none)

/-! ### The whole recipe (R181, R639, R642) -/

/-- Faults of the header and the section headers (R181). -/
def structureFaults (length : Nat) (bs : Bytes) : List Nat :=
  let len := fieldAt bs 8 4
  let cnt := fieldAt bs 6 2
  let signed := if bitOf (fieldAt bs 12 4) 0 then 64 else 0
  let (ss, stop) := walkSections bs (min len length) cnt 64
  let next := (ss.getLast?.map (fun x => x.at_ + x.length)).getD 64
  faultsOf [(decide (length < 64), 0), (decide (bs.take 4 ≠ [0x52, 0x43, 0x50, 0x45]), 0), (decide (fieldAt bs 4 2 ≠ 1), 4),
    (decide (cnt < 1) || decide (64 < cnt) || (stop.isSome && !ss.any (fun x => decide (x.typ = 4))), 6),
    (decide (length ≠ len + signed) || decide (stop ≠ some len ∧ stop.isSome), 8), (decide (2 ≤ fieldAt bs 12 4), 12),
    (stop.isNone && decide (min len length < next + 8), 8), (stop.isNone && decide (next + 8 ≤ min len length), next + 4)]
  ++ reservedBytes bs 16 48
  ++ ss.flatMap (fun x => faultsOf [(decide (x.typ < 1) || decide (4 < x.typ), x.at_ - 8)] ++ reservedBytes bs (x.at_ - 6) 2)
  ++ repeated (ss.map (fun x => (x.typ, x.at_ - 8))) []

/-- The loaded vocabulary a recipe names. -/
def vocabNamed (bs : Bytes) (vocabs : List LoadedItem) : Option Bytes :=
  match vocabDigest bs with
  | some d => (vocabs.find? (fun v => decide (v.digest = d))).map (fun v => v.bytes)
  | none => none

/-- Every offset at fault in a recipe of `length` bytes (R181, R642). -/
def recipeFaults (length : Nat) (bs : Bytes) (vocabs sets : List LoadedItem) : List Nat :=
  let v := vocabNamed bs vocabs
  structureFaults length bs
  ++ ((findSection bs 1).map (decodeFaults bs)).getD []
  ++ ((findSection bs 2).map (fun x => textFaults bs x v)).getD []
  ++ ((findSection bs 3).map (fun x => filterFaults bs x (sets.map (fun i => i.digest)))).getD []
  ++ ((findSection bs 4).map (fun x => packFaults bs x v)).getD []

/-- A field is named by the recipe (R185). -/
def namedBy (bs : Bytes) (name : Nat) : Bool :=
  (decodeDescs bs).any (fun d => decide (d.nameId = name)) || (textDescs bs).any (fun d => decide (d.nameId = name))
  || (match filterSection? bs with
      | some f => f.rules.any (fun r => decide (r.kind ≤ 3) && decide (r.nameId = name))
        || (decide (0 < f.langs.length) && decide (f.langName = name)) || (decide (f.source ≠ 0) && decide (f.sigName = name))
        || f.embeddings.any (fun m => decide (m.nameId = name))
      | none => false)
  || (match packSection? bs with
      | some p => (decide (p.packName ≠ 0xFFFF) && decide (p.packName = name)) || p.tensors.contains name
      | none => false)

end Sys2Proof.Machine
end

