-- ==== Sys2Proof/Machine/StatePipe.lean ====
section
/-! DEFINITION. The state of the data path: samples, Riffles, Drawplates, filters, the Anvil, packing, the feed and
the synthetic return path (chapters 07 to 10). Each field's docstring reads
`meaning | width | rule and chapter | reset value`. -/

namespace Sys2Proof.Machine

/-- One field of a sample on its way through the units (R185, R223). -/
structure PField where
  frame : FieldFrame
  /-- the bytes after any unwrapping, none until a wrapper is removed -/
  data : Option Bytes := none
  tensor : Option Tensor := none
  tokens : Option (List Nat) := none
  /-- an embedding product of R272 is still owed -/
  owes : Bool := false
  /-- the field has arrived at the stage (R199) -/
  arrived : Bool := false
  deriving DecidableEq, Repr

/-- Where a sample stands. -/
inductive SamplePhase where
  /-- its read or fetch waits for a buffer (R87) -/
  | unread
  /-- a read of the own Reservoir, or an arrived fetch, waits for the front end -/
  | reading
  /-- a fetch is outstanding (R172) -/
  | fetching
  /-- passed R155, waits for dispatch (R186) -/
  | checked
  /-- dispatched: its fields are in their units -/
  | units
  /-- complete in the resequencer: filter checks (R253) -/
  | screening
  /-- passed checks 1 to 4 -/
  | kept
  /-- every attempt failed (R197) -/
  | vacant
  deriving DecidableEq, Repr

/-- How far the checks of R253 have come. -/
inductive ScreenStep where
  | first
  /-- the feature vector waits for a row tile, or its tile runs (R268) -/
  | vector | tiled
  /-- signature and scores are known -/
  | scored
  /-- a kernel holds a filter-core context (R264) -/
  | kernel (k : Nat)
  deriving DecidableEq, Repr

/-- An entry of the sample report ring (R198), without its sequence number. -/
structure Report where
  step : Nat
  position : Nat
  attempt : Nat
  record : Nat
  reason : Nat
  nameId : Nat
  kind : Nat
  dest : Nat
  detail : Nat
  deriving DecidableEq, Repr

/-- What a returned synthetic message carries beside its fields (R275, R304). -/
structure SynthPart where
  tag : Nat
  profile : Nat
  tokens : List Nat
  report : Bytes := []
  /-- the receive buffer and its owner -/
  pointer : Option Nat := none
  owner : Nat := 0
  deriving DecidableEq, Repr

/-- One sample: a position of a step at an attempt (R168, R169), or a returned synthetic message (R275). -/
structure Sample where
  /-- the model's own name for it -/
  id : Nat
  step : Nat := 0
  dest : Nat := 0
  k : Nat := 0
  epoch : Nat := 0
  /-- primary position p; attempts read the record of R169 -/
  position : Nat := 0
  attempt : Nat := 0
  record : Nat := 0
  recipe : Nat := 0
  stage : Nat := 0
  phase : SamplePhase := .unread
  /-- the record's bytes and its index LENGTH -/
  bytes : Bytes := []
  length : Nat := 0
  /-- why the record cannot be delivered: 107, 108 or 110 -/
  lost : Option Nat := none
  fields : List PField := []
  /-- it holds a resequencer entry (R199, R200) -/
  entry : Bool := false
  /-- completion order (R199, fast mode) -/
  order : Nat := 0
  screen : ScreenStep := .first
  signature : Bytes := List.replicate 32 0
  dist : Nat := 0
  scores : List Int := []
  /-- when it first entered DECODE (R202) -/
  decodeAt : Option Nat := none
  slow : Bool := false
  deferred : Bool := false
  /-- carried by a checkpoint: it heads the first candidate list (R303) -/
  resumed : Bool := false
  /-- reports of kinds 0 to 2 not yet written (R198) -/
  reports : List Report := []
  /-- pool buffers it holds and their owner -/
  buffers : List Nat := []
  owner : Nat := 0
  synth : Option SynthPart := none
  deriving DecidableEq, Repr

/-- States of a slot (R187). -/
inductive SlotState where
  | free | header | alloc | decode | transform | done | reject
  deriving DecidableEq, Repr

/-- One slot context of a Riffle (R182, R187). -/
structure Slot where
  state : SlotState := .free
  /-- sample and field in progress -/
  sample : Nat := 0
  name : Nat := 0
  /-- decode engine 0 to 3 that works on it -/
  engine : Option Nat := none
  /-- budget units counted in this field -/
  consumed : Nat := 0
  /-- when it last recorded a unit or an output (R203) -/
  lastUnit : Nat := 0
  /-- working and output buffers of its fields -/
  buffers : List Nat := []
  deriving DecidableEq, Repr

/-- Operating state of a unit with spares or none (R221, R252, R280). -/
inductive UnitState where
  | active | reset | out
  deriving DecidableEq, Repr

/-- The value of a unit state (R221, R252, R280). -/
def UnitState.value : UnitState → Nat
  | .active => 0 | .reset => 1 | .out => 2

/-- One logical Riffle (R182, R221). -/
structure Riffle where
  state : UnitState := .reset
  slots : List Slot := List.replicate 24 {}
  /-- arbiter pointer of each of the six engines (R183) -/
  arbs : List Nat := [0, 0, 0, 0, 0, 0]
  completed : Nat := 0
  /-- samples completed since the last fault, none before the first (R205) -/
  sinceFault : Option Nat := none
  rejections : List (Nat × Nat) := []
  units : Nat := 0
  faults : Nat := 0
  /-- correctable ECC errors (R203) -/
  corrected : Nat := 0
  deriving DecidableEq, Repr

/-- What a Drawplate stream works on (R222). -/
inductive StreamUse where
  | encode (sample name : Nat)
  | decode (sample : Nat)
  deriving DecidableEq, Repr

/-- One busy stream of a Drawplate. -/
structure PlateStream where
  number : Nat
  use : StreamUse
  /-- when it last moved a byte (R246) -/
  lastByte : Nat
  deriving DecidableEq, Repr

/-- One Drawplate (R222, R252). -/
structure Drawplate where
  state : UnitState := .reset
  busy : List PlateStream := []
  fields : Nat := 0
  messages : Nat := 0
  bytesIn : Nat := 0
  bytesOut : Nat := 0
  replacements : Nat := 0
  rejections : List (Nat × Nat) := []
  /-- stop reasons by value (R242) -/
  stops : List (Nat × Nat) := []
  dropped : Nat := 0
  faults : Nat := 0
  sinceFault : Option Nat := none
  deriving DecidableEq, Repr

/-- One packer-and-filter stage (R253, R280, R281). -/
structure Stage where
  /-- resequencer entries reserved (R199) -/
  reserved : Nat := 0
  screened : Nat := 0
  kept : Nat := 0
  rejections : List (Nat × Nat) := []
  synthRejections : List (Nat × Nat) := []
  /-- per kernel: verdict histogram and instructions executed (R264) -/
  verdicts : List ((Nat × Nat) × Nat) := []
  insns : List (Nat × Nat) := []
  /-- feature vectors waiting for a row tile, oldest first, with the time queued (R268) -/
  vectors : List (Nat × Nat) := []
  deriving DecidableEq, Repr

/-- One Anvil job (R268, R269, R272). -/
inductive AnvilWork where
  | feature (samples : List Nat)
  | embedding (sample name : Nat)
  deriving DecidableEq, Repr

/-- The Anvil (R266 to R274). -/
structure Anvil where
  state : UnitState := .reset
  /-- it failed the self-test after a block reset: held in reset (R274) -/
  failed : Bool := false
  /-- jobs by queue: 0 S0 feature, 1 S0 embedding, 2 S1 feature, 3 S1 embedding (R269) -/
  jobs : List (Nat × AnvilWork) := []
  /-- arbiter pointer (R269) -/
  arb : Nat := 0
  /-- tile pairs per lane mode 8, 4, 2 bits, and jobs per queue -/
  pairs : List Nat := [0, 0, 0]
  done : List Nat := [0, 0, 0, 0]
  discards : Nat := 0
  faults : Nat := 0
  deriving DecidableEq, Repr

/-- A batch in construction (R286 to R288). -/
structure OpenBatch where
  step : Nat
  recipe : Nat
  /-- logical port of the destination at this step -/
  port : Nat := 0
  /-- samples released to it in release order -/
  cands : List Sample := []
  /-- positions settled: released, vacated or deferred -/
  settled : Nat := 0
  vacancies : Nat := 0
  /-- the last batch of the plan (R295) -/
  last : Bool := false
  /-- false while a resume rebuilds a window (R263): prepared through check 5 and not packed -/
  packs : Bool := true
  deriving DecidableEq, Repr

/-- A closed batch (R295): its payload, and its header with GENERATION and BATCH_INDEX zero. -/
structure Batch where
  step : Nat
  port : Nat := 0
  last : Bool
  header : Bytes
  payload : Bytes
  /-- BATCH_INDEX once its payload write has begun (R298) -/
  index : Option Nat := none
  /-- pool buffers that hold it, and their owner -/
  buffers : List Nat := []
  owner : Nat := 58
  deriving DecidableEq, Repr

/-- The packing and the queue of one destination (R286 to R297). -/
structure DestQueue where
  dest : Nat
  /-- the stage that serves its port (R281) -/
  stage : Nat := 0
  /-- the next step whose batch starts -/
  next : Nat := 0
  opens : List OpenBatch := []
  carry : List Sample := []
  /-- closed batches not yet credited, oldest first -/
  closed : List Batch := []
  /-- step and signature of the window's samples (R263) -/
  window : List (Nat × Bytes) := []
  /-- effective depth (R296) -/
  depth : Nat := 4
  armed : Bool := false
  lowWaterAt : Option Nat := none
  /-- the batch with FLAGS[3] set has closed -/
  ended : Bool := false
  /-- the carry list that entered each batch closed lately, as step and (step, k, attempt) of its samples (R303, R436) -/
  carried : List (Nat × List (Nat × Nat × Nat)) := []
  /-- the first step packed here: earlier ones only rebuild the window (R263, R507) -/
  packFrom : Nat := 0
  /-- the sample whose turn it is, as (step, k) released last plus one (R199, exact mode) -/
  head : Nat × Nat := (0, 0)
  deriving DecidableEq, Repr

/-- A feed ring (R298 to R302). -/
structure Ring where
  port : Nat
  qp : Nat
  baseVa : Nat
  rkey : Nat
  slots : Nat
  slotBytes : Nat
  tag : Nat
  /-- device address of the credit word, and its region index -/
  credit : Nat
  region : Nat
  /-- batches written since registration, and accepted CONSUMED -/
  written : Nat := 0
  accepted : Nat := 0
  /-- BATCH_INDEX of header writes acknowledged (R299 step 3) -/
  acked : List Nat := []
  lastRead : Option Nat := none
  ignoredRun : Nat := 0
  deriving DecidableEq, Repr

/-- A read-ahead of a record for another device's destination (R171). -/
structure ReadAhead where
  step : Nat
  dest : Nat
  k : Nat
  record : Nat
  deriving DecidableEq, Repr

/-- An Ingot being built (R306, R307). -/
structure BuildingIngot where
  first : Nat
  /-- the records' bytes in order -/
  records : List Bytes := []
  /-- pool buffers that hold them, under requester ID 61 -/
  buffers : List Nat := []
  deriving DecidableEq, Repr

/-- An Ingot appended and not yet durable (R307): the acceptance number of its write, and its manifest entry. -/
structure PendingIngot where
  staged : Nat
  entry : Bytes
  deriving DecidableEq, Repr

/-- The synthetic return path (R304 to R308). -/
structure SynthState where
  /-- SYNTH_CONFIG's settings: pool, DATASET_ID, first and last zone, INGOT_RECORDS, INGOT_BYTES | record | R308 10 | none -/
  config : Option (Nat × Nat × Nat × Nat × Nat × Nat) := none
  /-- next record number | 48 bits | R306 10 | 0 (DESIGN CHOICE 2) -/
  nextRecord : Nat := 0
  /-- current zone of the range | number | R307 10 | 0 (DESIGN CHOICE 2) -/
  zone : Nat := 0
  /-- the Ingot being built | record | R307 10 | none -/
  building : Option BuildingIngot := none
  /-- Ingots appended and not yet durable | list | R307 10 | empty -/
  pending : List PendingIngot := []
  /-- the writer is stopped | 1 bit | R307 10 | false -/
  stopped : Bool := false
  /-- SYNTH_FLUSH commands waiting, each with the Ingots appended when it is served (none: its Ingot is not appended yet) | list | R308 10 | empty -/
  flushes : List (Req × Option Nat) := []
  /-- messages received and kept, records and Ingots written | 64 bits each | R308 10 | 0 -/
  received : Nat := 0
  kept : Nat := 0
  records : Nat := 0
  ingots : Nat := 0
  /-- drops by reason | list | R305 10 | 0 -/
  drops : List (Nat × Nat) := []
  /-- when SYNTH_DROPPED was last raised | ACLK cycles | R305 10 | none -/
  droppedAt : Option Nat := none
  deriving DecidableEq, Repr

/-- The data path (chapters 07 to 10). -/
structure PipeState where
  /-- samples and synthetic messages in preparation | list | R171, R186 06 | empty -/
  samples : List Sample := []
  /-- the model's own: next sample name | counter | | 0 -/
  nextId : Nat := 0
  /-- next completion number (R199, fast mode) | counter | R199 07 | 0 -/
  nextOrder : Nat := 0
  /-- read-aheads issued | list | R171 06 | empty -/
  aheads : List ReadAhead := []
  /-- logical Riffles 0 to 7 | 8 records | R182 07 | ACTIVE, slots FREE -/
  riffles : List Riffle := List.replicate 8 {}
  /-- Drawplates of S0 and S1 | 2 records | R222 08 | ACTIVE, no stream busy -/
  plates : List Drawplate := List.replicate 2 {}
  /-- packer-and-filter stages | 2 records | R253 09 | empty -/
  stages : List Stage := List.replicate 2 {}
  /-- the Anvil | record | R266 09 | ACTIVE, no job -/
  anvil : Anvil := {}
  /-- the sample report ring | at most 65,536 entries | R198 07 | empty -/
  reports : List Report := []
  /-- sequence number of the next report | 64 bits | R198 07 | 0 (DESIGN CHOICE 2) -/
  reportSeq : Nat := 0
  /-- reports overwritten | 64 bits | R198 07 | 0 -/
  reportOverflow : Nat := 0
  /-- fields discarded because no recipe entry names them | 64 bits | R185 07 | 0 -/
  unnamed : Nat := 0
  /-- when SAMPLE_VACATED and SLOW_SAMPLE were last raised | ACLK cycles | R197, R202 07 | none -/
  vacatedAt : Option Nat := none
  slowAt : Option Nat := none
  /-- vocabularies by handle 0 to 3 | list | R232 08 | empty -/
  vocabs : List LoadedItem := []
  /-- reference sets by handle 0 and 1 | list | R279 09 | empty -/
  dupSets : List LoadedItem := []
  /-- the queues of this device's destinations | list | R296 10 | empty -/
  dests : List DestQueue := []
  /-- QUEUE_DEPTH and LOW_WATER of destinations set on their own | list | R308 10 | empty -/
  queueSets : List (Nat × Nat × Nat) := []
  /-- QUEUE_DEPTH for the others | 1 to 64 | R296 10 | 4 -/
  queueDepth : Nat := 4
  /-- LOW_WATER for the others | 0 to QUEUE_DEPTH | R296 10 | 2 -/
  lowWater : Nat := 2
  /-- the registered feed rings | list | R298 10 | empty -/
  rings : List Ring := []
  /-- the Weir with the start-of-feed action has opened | 1 bit | R299 10 | false -/
  feedStarted : Bool := false
  /-- accepted CONSUMED advances by port | 64 bits each | R613 23 | 0 -/
  consumed : List (Nat × Nat) := []
  /-- the synthetic path | record | R304 10 | not configured -/
  synth : SynthState := {}
  deriving DecidableEq, Repr

end Sys2Proof.Machine
end

