-- ==== Sys2Proof/Machine/StateRdma.lean ====
section
/-! DEFINITION. The state of the remote memory engine (chapter 17). Each field's docstring reads
`meaning | width | rule and chapter | reset value`. -/

namespace Sys2Proof.Machine

/-- Which internal user queued a work request, so that its end reaches it (R481, R488). -/
inductive WrUser where
  /-- payload or header write of a feed ring's slot: port, BATCH_INDEX, header (R299) -/
  | feed (port index : Nat) (header : Bool)
  /-- a fetch request of R172, by its queue pair and TAG -/
  | fetch (qp tag : Nat)
  /-- payload write or reply of an owner (R172) -/
  | owner
  /-- a source read of a launch: launch, participant (R402) -/
  | source (launch who chunk : Nat)
  /-- a result or status write of a launch to a participant (R407) -/
  | result (launch who : Nat)
  /-- collective data or a vote to another device: launch, device (R399, R406) -/
  | coll (launch device : Nat)
  /-- the managers' exchange over the twin links (R502) -/
  | manager
  deriving DecidableEq, Repr

/-- What a requester's message does (R469). -/
inductive WrKind where
  | send | write (va rkey : Nat) | writeImm (va rkey imm : Nat) | read (va rkey length : Nat)
  deriving DecidableEq, Repr

/-- A message queued by an internal user (R481). -/
structure Work where
  kind : WrKind
  data : Bytes := []
  user : WrUser
  deriving DecidableEq, Repr

/-- A packet sent and not yet acknowledged (R481). -/
structure SentPacket where
  psn : Nat
  /-- PSNs it takes: 1, or the response packets of a READ (R477) -/
  span : Nat := 1
  op : BthOp
  va : Nat := 0
  rkey : Nat := 0
  length : Nat := 0
  imm : Nat := 0
  payload : Bytes := []
  ackReq : Bool
  /-- its message, when it is the last packet of one -/
  ends : Option WrUser := none
  /-- send time in ns, none once retransmitted: no sample (R486) -/
  sentNs : Option Nat
  /-- time of the last transmission, ACLK cycles -/
  sentAt : Nat
  /-- a retransmission is due -/
  again : Bool := false
  /-- READ: bytes received of it -/
  got : Bytes := []
  deriving DecidableEq, Repr

/-- An inbound message being assembled (R472, R476). -/
inductive Assembling where
  | none
  | send (pointer : Nat) (limit : Nat) (bytes : Bytes)
  /-- MESH_COLL messages take no pool buffer: they go to firmware's own (R471) -/
  | plainSend (bytes : Bytes)
  | write (va rkey : Nat) (left : Nat) (start length : Nat)
  deriving DecidableEq, Repr

/-- The attribute block of R474. -/
structure QpAttr where
  pmtu : Nat := 0
  timeout : Nat := 0
  retry : Nat := 0
  rnrTimer : Nat := 0
  respDepth : Nat := 0
  initDepth : Nat := 0
  ccProfile : Nat := 0
  destQpn : Nat := 0
  sqPsn : Nat := 0
  rqPsn : Nat := 0
  vlan : Nat := 0
  destMac : Nat := 0
  destGid : Nat := 0
  sgid : Nat := 0
  hopLimit : Nat := 0
  pkey : Nat := 0
  deriving DecidableEq, Repr

/-- States of a queue pair (R474). -/
inductive QpState where
  | reset | init | rtr | rts | error
  deriving DecidableEq, Repr

/-- The value of a queue pair state (R474). -/
def QpState.value : QpState → Nat
  | .reset => 0 | .init => 1 | .rtr => 2 | .rts => 3 | .error => 4

/-- One RDMA queue pair and its context (R470 to R488). -/
structure Qp where
  index : Nat
  /-- 0 FEED, 1 COLL, 2 SYNTH, 3 PEER, 4 MESH_COLL (R471) -/
  service : Nat
  state : QpState := .reset
  pool : Nat := 0
  domain : Nat := 0
  pinned : Bool := false
  attr : QpAttr := {}
  /-- responder: expected PSN e (R477) -/
  expected : Nat := 0
  /-- a NAK PSN Sequence Error was sent and e has not arrived since -/
  nakSent : Bool := false
  /-- packets executed and not acknowledged, and when the last was (R479) -/
  unacked : Nat := 0
  unackedAt : Option Nat := none
  assembling : Assembling := .none
  /-- ingress port block that took the receive buffer (R472) -/
  rxBlock : Nat := 0
  /-- the last 64 atomics: (PSN, original value), newest first (R478) -/
  atomics : List (Nat × Nat) := []
  /-- requester: next PSN, work not yet wholly sent, bytes of its first message already sent -/
  nextPsn : Nat := 0
  queue : List Work := []
  offset : Nat := 0
  /-- packets since the last AckReq (R481) -/
  sinceAckReq : Nat := 0
  flight : List SentPacket := []
  retriesLeft : Nat := 0
  rnrLeft : Nat := 0
  /-- the RNR wait runs until this time -/
  rnrUntil : Option Nat := none
  cwnd : Nat := 0
  prev : Int := 0
  grad : Int := 0
  last : Nat := 0
  /-- when a CNP was last sent (R487) -/
  cnpAt : Option Nat := none
  cause : Nat := 0
  retries : Nat := 0
  rnrNaks : Nat := 0
  duplicates : Nat := 0
  deriving DecidableEq, Repr

/-- One entry of the memory region table (R485). -/
structure Region where
  index : Nat
  address : Nat := 0
  length : Nat := 0
  vaBase : Nat := 0
  domain : Nat := 0
  write : Bool := false
  read : Bool := false
  atomic : Bool := false
  firmware : Bool := false
  deriving DecidableEq, Repr

/-- One congestion profile (R486). -/
structure CcProfile where
  target : Nat := 6000
  ai : Nat := 4096
  beta : Nat := 64
  cwndMin : Nat := 4096
  cwndMax : Nat := 16777216
  cwndInit : Nat := 1048576
  cnpEnable : Nat := 1
  deriving DecidableEq, Repr

/-- A message received whole and waiting for its consumer (R472, R473). -/
structure Inbound where
  /-- logical port it came in on -/
  port : Nat := 0
  qp : Nat
  /-- pool buffer that holds it, with its owner -/
  pointer : Option Nat := none
  owner : Nat := 0
  bytes : Bytes
  /-- an immediate delivered on PEER or MESH_COLL (R471) -/
  imm : Option Nat := none
  deriving DecidableEq, Repr

/-- One entry of the on-chip context cache (R482). -/
structure CacheEntry where
  qp : Nat
  refBit : Bool := true
  dirty : Bool := false
  /-- its fetch is outstanding -/
  loading : Bool := false
  deriving DecidableEq, Repr

/-- The remote memory engine (chapter 17). -/
structure RdmaState where
  /-- device MAC | 48 bits | R475 17 | the fused MAC, 0 (DESIGN CHOICE 2) -/
  mac : Nat := 0
  /-- source GIDs 0 to 3, 0 unused | 4 x 128 bits | R475 17 | 0 (DESIGN CHOICE 2) -/
  gids : List Nat := [0, 0, 0, 0]
  /-- QPC_STORE | 1 bit | R482 17 | 0 (DESIGN CHOICE 2) -/
  storeSel : Nat := 0
  /-- context store address in the host window | 64 bits | R482 17 | 0 (DESIGN CHOICE 2) -/
  storeAddr : Nat := 0
  /-- queue pairs that exist | list | R470 17 | empty -/
  qps : List Qp := []
  /-- memory regions registered | at most 16,384 | R485 17 | empty -/
  regions : List Region := []
  /-- key byte of each index that was ever registered | 8 bits each | R485 17 | 0 (DESIGN CHOICE 2) -/
  keys : List (Nat × Nat) := []
  /-- congestion profiles 0 to 7 | 8 records | R486 17 | defaults -/
  profiles : List CcProfile := List.replicate 8 {}
  /-- on-chip context cache, entry by entry | at most 4,096 | R482 17 | empty -/
  cache : List CacheEntry := []
  /-- rotating victim pointer | 0 to 4095 | R482 17 | 0 (DESIGN CHOICE 2) -/
  victim : Nat := 0
  /-- context fetches outstanding | at most 256 | R482 17 | empty -/
  fetching : List Nat := []
  /-- context misses waiting for an entry or a fetch place | list | R482 17 | empty -/
  missWait : List Nat := []
  /-- miss-buffered packets with their ingress port, in arrival order | at most 16 per port block | R483 17 | empty -/
  missed : List (Nat × RdmaPacket) := []
  /-- miss-buffer occupancy peaks by port block | list | R491 17 | 0 -/
  peaks : List (Nat × Nat) := []
  /-- messages received whole, by arrival | list | R472 17 | empty -/
  inbox : List Inbound := []
  /-- cache hits, misses, write-backs | 64 bits each | R491 17 | 0 -/
  hits : Nat := 0
  misses : Nat := 0
  writeBacks : Nat := 0
  /-- CNPs sent and received | 64 bits each | R487 17 | 0 -/
  cnpsSent : Nat := 0
  cnpsReceived : Nat := 0
  /-- QP_ERROR counts by cause | list | R491 17 | 0 -/
  errors : List (Nat × Nat) := []
  /-- immediates counted and discarded | 64 bits | R471 17 | 0 -/
  immediates : Nat := 0
  /-- the model's own: packets sent, as (index, packet), newest last | list | log entry 6 | empty -/
  out : List (Nat × RdmaPacket) := []
  deriving DecidableEq, Repr

end Sys2Proof.Machine
end

