-- ==== Sys2Proof/Machine/StateSwitch.lean ====
section
/-! DEFINITION. The state of Confluence, its ports and its scheduler (chapter 16). Each field's docstring reads
`meaning | width | rule and chapter | reset value`. -/

namespace Sys2Proof.Machine

/-- A token bucket (R454): its level is in bytes times 800 times the clock bin, the unit in which a rate of 1 Mb/s
accrues 1 per ACLK cycle. -/
structure Bucket where
  /-- RATE in Mb/s, 0 for no shaping -/
  rate : Nat := 0
  burst : Nat := 2048
  level : Int := 0
  /-- time the level holds for -/
  at_ : Nat := 0
  deriving DecidableEq, Repr

/-- A frame in an egress queue. -/
structure QFrame where
  /-- the stored frame -/
  id : Nat
  length : Nat
  /-- channel of collective traffic, for the rotation of R414 -/
  channel : Option Nat := none
  /-- leaves with CE set (R456), and with DEI set (R455) -/
  ce : Bool := false
  dei : Bool := false
  deriving DecidableEq, Repr

/-- One egress queue (R452, R453, R456). -/
structure EgressQueue where
  params : QueueParams := {}
  shaper : Bucket := {}
  deficit : Nat := 0
  frames : List QFrame := []
  deriving DecidableEq, Repr

/-- A gate list in force on a port (R464, R465). -/
structure GateInForce where
  handle : Nat
  origin : Nat
  deriving DecidableEq, Repr

/-- One configured port (R443 to R446). -/
structure Port where
  logical : Nat
  kind : PortKind
  block : Nat
  firstLane : Nat := 0
  width : Nat := 1
  index : Nat := 0
  mtu : Nat := 9216
  txInvert : Nat := 0
  rxInvert : Nat := 0
  laneOrder : Nat := 0
  trust : Nat := 0
  defaultTc : Nat := 0
  up : Bool := false
  maps : ClassMap := {}
  queues : List EgressQueue := (List.range 16).map (fun q => { params := { prio := if q = 10 then 7 else 0 } })
  shaper : Bucket := {}
  overhead : Nat := 20
  gate : Option GateInForce := none
  /-- OPEN -/
  openMask : BitVec 16 := 0xFFFF#16
  /-- the queue the deficit round robin last visited, per PRIO -/
  turns : List Nat := List.replicate 8 15
  /-- frames that failed their FCS (R448) -/
  fcsErrors : Nat := 0
  deriving DecidableEq, Repr

/-- A stored frame (R457, R461). -/
structure Stored where
  id : Nat
  plane : Nat
  cells : Nat
  ingress : Nat
  /-- copies still to leave -/
  copies : Nat
  length : Nat
  deriving DecidableEq, Repr

/-- A stamped frame between admission and its egress resequencer, or held there (R458, R459). -/
structure Stamped where
  ingress : Nat
  egress : Nat
  number : Nat
  queue : Nat
  frame : QFrame
  /-- FCLK cycle it arrived at the resequencer -/
  since : Nat := 0
  deriving DecidableEq, Repr

/-- A residue entry: the ports a multicast frame still waits for (R461). -/
structure Residue where
  id : Nat
  plane : Nat
  ingress : Nat
  /-- (port, queue) pairs -/
  waiting : List (Nat × Nat)
  frame : QFrame
  deriving DecidableEq, Repr

/-- A policer (R455): buckets in the unit of `Bucket`. -/
structure Policer where
  num : Nat
  params : PolicerParams
  /-- committed bucket, and excess or peak bucket -/
  c : Int
  e : Int
  at_ : Nat
  deriving DecidableEq, Repr

/-- A loaded gate list (R463). -/
structure GateList where
  handle : Nat
  cycle : Nat
  ports : BitVec 256
  /-- (STEP_OFFSET, MARK, OPEN), ascending -/
  entries : List (Nat × Nat × Nat)
  deriving DecidableEq, Repr

/-- Confluence (chapter 16). -/
structure SwitchState where
  /-- configured ports | at most 256 | R443 16 | none: the factory default of R47 to R49 is applied by CONFIG_APPLY -/
  ports : List Port := []
  /-- endpoint table, non-empty entries by number | 65,536 entries | R449 16 | empty -/
  endpoints : List (Nat × Endpoint) := []
  /-- multicast groups, non-empty ones | 4,096 x 256 bits | R451 16 | empty (DESIGN CHOICE 2) -/
  groups : List (Nat × BitVec 256) := []
  /-- policers set | 4,096 | R455 16 | none -/
  policers : List Policer := []
  /-- gate lists by handle 0 to 63 | list | R463 16 | empty -/
  gateLists : List GateList := []
  /-- free cells of planes 0 to 3 | 4 x 327,680 | R457 16 | all free -/
  freeCells : List Nat := [327680, 327680, 327680, 327680]
  /-- stored frames | list | R457 16 | empty -/
  stored : List Stored := []
  /-- the identity the next stored frame takes | the model's own | R457 16 | 0 -/
  nextFrame : Nat := 0
  /-- stamped frames in transit | at most 512 per pair | R458 16 | empty -/
  transit : List Stamped := []
  /-- frames held at the ports' resequencers | at most 4,096 per port | R459 16 | empty -/
  held : List Stamped := []
  /-- next stamp of each (ingress, egress) pair | 16 bits | R458 16 | 0 (DESIGN CHOICE 2) -/
  nextStamp : List ((Nat × Nat) × Nat) := []
  /-- expected number of each pair | 16 bits | R459 16 | 0 (DESIGN CHOICE 2) -/
  expected : List ((Nat × Nat) × Nat) := []
  /-- gaps skipped at the resequencers | 64 bits | R459 16 | 0 -/
  gaps : Nat := 0
  /-- residue entries, oldest first | 4,096 per plane | R461 16 | empty -/
  residue : List Residue := []
  /-- frames from internal ports, or past 512 in transit, waiting at ingress: (ingress, egress, queue, frame) | list | R456, R458 16 | empty -/
  waiting : List (Nat × Nat × Nat × QFrame) := []
  /-- AUDIT_INTERVAL in us | 100 to 1,000,000 | R462 16 | 1,000 -/
  auditInterval : Nat := 1000
  /-- cells found ownerless in the last pass, as (plane, cell) | list | R462 16 | empty -/
  suspects : List (Nat × Nat) := []
  /-- LEAKED_CELLS | 64 bits | R462 16 | 0 -/
  leaked : Nat := 0
  /-- corrupt free-list entries counted | 64 bits | R462 16 | 0 -/
  auditFaults : Nat := 0
  /-- when BUFFER_LEAK was last raised | ACLK cycles | R462 16 | none -/
  leakAt : Option Nat := none
  /-- frames the ports sent, as (port, queue, stored frame, CE, DEI), newest last | list | R453 16 | empty -/
  out : List (Nat × Nat × Nat × Bool × Bool) := []
  /-- frames to the device MAC handed to the remote memory engine | 64 bits | R448 16 | 0 -/
  toRdma : Nat := 0
  /-- ring pieces handed to the ring logic | 64 bits | R445 16 | 0 -/
  toRing : Nat := 0
  /-- Gauge frames handed to the Gauge logic | 64 bits | R448 16 | 0 -/
  toGauge : Nat := 0
  /-- channel WEIGHTs that differ from 16 | 1 to 255 | R414 14 | all 16 -/
  channelWeight : List (Nat × Nat) := []
  /-- channel last visited per (port, queue) | list | R414 14 | empty -/
  channelTurn : List ((Nat × Nat) × Nat) := []
  /-- per-channel deficits of each link's collective traffic: ((port, channel), deficit) | list | R414 14 | empty -/
  channelDeficit : List ((Nat × Nat) × Nat) := []
  deriving DecidableEq, Repr

end Sys2Proof.Machine
end

