-- ==== Sys2Proof/Machine/State.lean ====
section
/-! DEFINITION. The state of the block, the reasons a step can stop, and the state after reset. -/

namespace Sys2Proof.Machine

/-- Why the block faults. -/
inductive Fault where
  /-- Raised by LPDDR6_UE where the address lies beyond the memory of the enabled channels, which the spec says does
  not exist (R44, R583). Safe: the model stops. -/
  | noSuchAddress (address : Nat)
  deriving DecidableEq, Repr

/-- Why the block refuses a command. -/
inductive Refusal where
  /-- Raised by an arm of `exec` whose command has no meaning yet. Safe: the model stops. -/
  | notModelled (mnemonic : String)
  deriving DecidableEq, Repr

/-- The whole block: one Flothiton. -/
structure State where
  /-- the Gauge and the Weir (chapter 02) -/
  gauge : GaugeState := {}
  /-- buffer pools (chapter 03) -/
  pools : PoolState := {}
  /-- the Reservoir (chapter 04) -/
  media : MediaState := {}
  /-- storage queues (chapter 05) -/
  queues : QueueState := {}
  /-- datasets and the epoch plan (chapter 06) -/
  plan : PlanState := {}
  /-- the data path (chapters 07 to 10) -/
  pipe : PipeState := {}
  /-- the Ngayx executors (chapter 12) -/
  ngayx : NgayxState := {}
  /-- collectives (chapter 14) -/
  coll : CollState := {}
  /-- exact mode, the determinism record, checkpoints (chapter 15) -/
  det : DetState := {}
  /-- the remote memory engine (chapter 17) -/
  rdma : RdmaState := {}
  /-- Confluence (chapter 16) -/
  switch : SwitchState := {}
  /-- the group (chapter 18) -/
  group : GroupState := {}
  /-- the Lockkeeper and mailboxes (chapter 19) -/
  lock : LockState := {}
  /-- settings, security, firmware (chapter 20) -/
  nor : NorState := {}
  /-- fuses -/
  fuse : Fuses := {}
  /-- the host link (chapter 21) -/
  link : LinkState := {}
  /-- reset, power domains, clocks (chapter 22) -/
  power : PowerState := {}
  /-- logs, counters, telemetry (chapter 23) -/
  tel : TelemetryState := {}
  /-- the disabled-unit map | record | R38 01 | as fused, assigned under R35 -/
  units : UnitMap := {}
  /-- LPDDR6 contents | 768 GB | R583 21 | nothing listed: every byte reads 0 (DESIGN CHOICE 3) -/
  mem : Memory := []
  /-- wall-clock time in ACLK cycles since reset | unbounded | R42, R637 01 | 0 (DESIGN CHOICE 1) -/
  now : Nat := 0
  /-- the model's own: the next free value | counter | log entry 4 | 0 (DESIGN CHOICE 4) -/
  freeCtr : Nat := 0
  /-- the model's own: what the block sent, newest last | list | log entry 6 | empty -/
  sent : List Sent := []
  /-- commands waiting, first in first out -/
  pending : List Instr := []
  deriving DecidableEq, Repr

/-- The machine right after reset: step 1 of R595 after a POWER_ON event. -/
def State.reset : State := {}

/-- What a step answers. -/
abbrev Out := Host.Outcome State Fault Refusal

end Sys2Proof.Machine
end

