-- ==== Sys2Proof/Machine/Ops.lean ====
section
/-! DEFINITION. The named operations every family uses: association lists, time, free values, LPDDR6, counters, sticky
logs, MB7, mailbox answers, held objects, ring pieces and distribution. -/

namespace Sys2Proof.Machine

/-! ### Association lists -/

/-- The value of a key, or a default. -/
def lookupD {α β : Type} [DecidableEq α] (l : List (α × β)) (k : α) (d : β) : β :=
  match l.find? (fun p => decide (p.1 = k)) with
  | some p => p.2
  | none => d

/-- The value of a key. -/
def lookup? {α β : Type} [DecidableEq α] (l : List (α × β)) (k : α) : Option β :=
  (l.find? (fun p => decide (p.1 = k))).map (·.2)

/-- Set a key's value, in place where it stands and last where it is new. -/
def assign {α β : Type} [DecidableEq α] : List (α × β) → α → β → List (α × β)
  | [], k, v => [(k, v)]
  | p :: ps, k, v => if p.1 = k then (k, v) :: ps else p :: assign ps k v

/-- Remove a key. -/
def erase {α β : Type} [DecidableEq α] (l : List (α × β)) (k : α) : List (α × β) :=
  l.filter (fun p => decide (p.1 ≠ k))

/-- Replace the first element a test finds. -/
def updateFirst {α : Type} (p : α → Bool) (f : α → α) : List α → List α
  | [] => []
  | x :: xs => if p x then f x :: xs else x :: updateFirst p f xs

/-- The greatest element of a list, or a default. -/
def maxD (l : List Nat) (d : Nat) : Nat := l.foldl max d

/-- The lowest number below `n` (counting from `k`) that a test accepts (R643). -/
def lowestFree (taken : Nat → Bool) : Nat → Nat → Option Nat
  | 0, _ => none
  | n + 1, k => if taken k then lowestFree taken n (k + 1) else some k

/-! ### Rotating-priority arbitration (R92) -/

/-- The winner: the first ready index at or above the pointer, else the lowest ready index of all. -/
def arbWinner (ptr : Nat) (ready : List Nat) : Option Nat :=
  match (ready.filter (fun i => decide (ptr ≤ i))).min? with
  | some i => some i
  | none => ready.min?

/-- The pointer after a grant. -/
def arbNext (n winner : Nat) : Nat := (winner + 1) % n

/-! ### Time -/

/-- ACLK cycles per microsecond: 2,700 or 2,400 by the clock bin (R2, R42). -/
def State.usCycles (s : State) : Nat := 100 * s.fuse.clockBin

/-- A number of microseconds in ACLK cycles. -/
def State.us (s : State) (n : Nat) : Nat := n * s.usCycles

/-- A number of milliseconds in ACLK cycles. -/
def State.ms (s : State) (n : Nat) : Nat := s.us (1000 * n)

/-- A number of seconds in ACLK cycles. -/
def State.seconds (s : State) (n : Nat) : Nat := s.us (1000000 * n)

/-- The FCLK cycle: ACLK divided by 2 (R42). -/
def State.fclk (s : State) : Nat := s.now / 2

/-- A stretch of ACLK cycles in ns. -/
def State.cyclesNs (s : State) (n : Nat) : Nat := n * 1000 / s.usCycles

/-- UPTIME_US: microseconds since the last cold reset (R611). -/
def State.uptimeUs (s : State) : Nat := (s.now - s.power.coldAt) / s.usCycles

/-- True when `last` lies less than `gap` cycles back: a limit of one in `gap` holds. -/
def State.within (s : State) (last : Option Nat) (gap : Nat) : Bool :=
  match last with
  | none => false
  | some t => decide (s.now < t + gap)

/-! ### Free values (log entry 4) -/

/-- The next free value. -/
def State.free (s : State) : Nat := Config.freeNat s.freeCtr

/-- The state once the next free value is used. -/
def State.used (s : State) : State := { s with freeCtr := s.freeCtr + 1 }

/-! ### LPDDR6 (R44, R575, R583) -/

/-- WINDOW_BASE (R568). -/
def windowBase : Nat := 0x5F80000000

/-- WINDOW_SIZE (R568). -/
def windowSize : Nat := 0x1000000000

/-- A range lies wholly in the host window (R575). -/
def inWindow (a n : Nat) : Bool := decide (windowBase ≤ a) && decide (a + n ≤ windowBase + windowSize)

/-- Read `n` bytes of LPDDR6. -/
def State.memRead (s : State) (a n : Nat) : Bytes := s.mem.readBytes a n

/-- Write bytes to LPDDR6; a host-window line is back-invalidated first (R577). -/
def State.memWrite (s : State) (a : Nat) (bs : Bytes) : State :=
  let s := { s with mem := s.mem.writeBytes a bs }
  if inWindow a bs.length && !bs.isEmpty then
    { s with link := { s.link with backInvalidates := s.link.backInvalidates + 1 } }
  else s

/-! ### Counters (R612) -/

/-- A 64-bit counter stops at 2^64 - 1 (R612). -/
def satAdd (a b : Nat) : Nat := min (a + b) (2 ^ 64 - 1)

/-- A counter's value. -/
def State.counter (s : State) (c : Counter) : Nat := lookupD s.tel.counters c 0

/-- Add to a counter. -/
def State.count (s : State) (c : Counter) (n : Nat := 1) : State :=
  { s with tel := { s.tel with counters := assign s.tel.counters c (satAdd (s.counter c) n) } }

/-! ### Sticky logs (R610, R611) -/

/-- The identifier of a log (R610). -/
def LogId.value : LogId → Nat
  | .resetHistory => 1 | .critical => 2 | .memory => 3 | .unit => 4 | .pool => 5 | .config => 6 | .link => 7
  | .thermal => 8 | .media => 0x10

/-- CAPACITY of a log (R610). -/
def LogId.capacity : LogId → Nat
  | .resetHistory | .critical => 64
  | .memory | .unit | .pool => 1024
  | .config | .link | .thermal => 256
  | .media => 4096

/-- Put one entry into a log: a full ring overwrites its oldest, but CRITICAL keeps its first (R610). -/
def Log.push (l : Log) (e : LogEntry) : Log :=
  let full := decide (l.id.capacity ≤ l.entries.length)
  let kept :=
    if full then
      (match l.id, l.entries with
       | .critical, first :: rest => first :: rest.drop 1
       | _, es => es.drop 1)
    else l.entries
  { l with entries := kept ++ [e], overflow := if full then l.overflow + 1 else l.overflow, nextSeq := l.nextSeq + 1 }

/-- The log of an identifier. -/
def State.log (s : State) (i : LogId) : Log :=
  (s.tel.logs.find? (fun l => decide (l.id = i))).getD { id := i }

/-- The committed step as the logs carry it: 0 while no plan is active (R611). -/
def State.logStep (s : State) : Nat := if s.plan.active.isSome then s.gauge.committed.step else 0

/-- Enter a line in a sticky log (R611). -/
def State.logEntry (s : State) (i : LogId) (code subject : Nat) (detail : List Nat) : State :=
  let e (l : Log) : LogEntry := ⟨l.nextSeq, s.uptimeUs, s.logStep, code, subject, detail⟩
  { s with tel := { s.tel with logs := updateFirst (fun l => decide (l.id = i)) (fun l => l.push (e l)) s.tel.logs } }

/-! ### MB7 (R528, R572, R574) -/

/-- The mask bit of a vector in the MSI-X table, set until the host writes it (R568; PCI Express; log entry 12). -/
def LinkState.masked (l : LinkState) (v : Nat) : Bool := (lookupD l.msixTable (16 * v + 12) (1 : Byte)).getLsbD 0

/-- Send an MSI-X message (R574); that of a masked vector waits as a pending bit (R568; log entry 12). -/
def State.msix (s : State) (v : Nat) : State :=
  if s.link.masked v then { s with link := { s.link with pba := s.link.pba ||| BitVec.twoPow 32 v } }
  else { s with link := { s.link with msix := s.link.msix ++ [v] } }

/-- Change MB7. -/
def State.setMb7 (s : State) (m : Mb7) : State := { s with lock := { s.lock with mb7 := m } }

/-- Queue a message on MB7 (R528): when the 256 places or earlier waiting messages leave no room, a non-critical event
is discarded and counted, and a completion or critical event waits in the reserve. -/
def State.mb7Push (s : State) (m : Message) : State :=
  let q := s.lock.mb7
  if q.queue.length < 256 ∧ q.reserve.isEmpty ∧ q.lost = 0 then
    let s' := s.setMb7 { q with queue := q.queue ++ [m] }
    if q.queue.isEmpty then s'.msix 0 else s'
  else if m.event && !m.critical then
    s.setMb7 { q with lost := q.lost + 1, lostTotal := q.lostTotal + 1 }
  else
    s.setMb7 { q with reserve := q.reserve ++ [m] }

/-- This device's ID and side as answers carry them (R520). -/
def State.signed (s : State) (m : Message) : Message :=
  { m with device := s.group.set.deviceId, side := s.group.set.side }

/-- Raise an event on MB7 (R528, R529): a masked non-critical event is counted and not queued. -/
def State.raise (s : State) (e : Event) (subject : Nat := 0) (payload : Bytes := []) : State :=
  let q := s.lock.mb7
  if !e.critical && q.mask.contains e.value then
    s.setMb7 { q with masked := q.masked + 1 }
  else
    let m : Message := s.signed { command := e.value, event := true, critical := e.critical, seq := q.seq,
                                  result := subject, payload := payload }
    (s.setMb7 { q with seq := (q.seq + 1) % 2 ^ 16 }).mb7Push m

/-! ### Mailboxes (R517, R521, R524, R525) -/

/-- The mailbox of an index. -/
def State.box (s : State) (i : Nat) : Mailbox := s.lock.boxes.getD i {}

/-- Change one mailbox. -/
def State.setBox (s : State) (i : Nat) (b : Mailbox) : State :=
  { s with lock := { s.lock with boxes := s.lock.boxes.set i b } }

/-- Put a response on a mailbox; MB0 to MB3 show it through the host link and send vector 1 + n when it becomes the
windowed one (R572, R574). -/
def State.postResponse (s : State) (i : Nat) (m : Message) : State :=
  let b := s.box i
  let s' := s.setBox i { b with responses := b.responses ++ [m], respReady := b.respReady || decide (i < 4) }
  if i < 4 ∧ b.responses.isEmpty then s'.msix (1 + i) else s'

/-- Count a rejection by status on a mailbox (R531). -/
def State.countRejection (s : State) (i : Nat) (st : Status) : State :=
  let b := s.box i
  s.setBox i { b with rejections := assign b.rejections st.value (lookupD b.rejections st.value 0 + 1) }

/-- Release everything a request holds (R526). -/
def State.release (s : State) (r : Req) : State :=
  { s with lock := { s.lock with held := s.lock.held.filter (fun h => decide (h.2 ≠ r)) } }

/-- Hold an object until a request completes (R526). -/
def State.hold (s : State) (h : Held) (r : Req) : State :=
  { s with lock := { s.lock with held := s.lock.held ++ [(h, r)] } }

/-- An object is held by a command in progress (R526). -/
def State.isHeld (s : State) (h : Held) : Bool := s.lock.held.any (fun x => decide (x.1 = h))

/-- Send a ring piece on a privileged channel: it takes the channel's next number, and waits while 64 pieces of the
channel have not returned intact (R392). -/
def State.sendPiece (s : State) (ch : Nat) (body : Body) : State :=
  let g := s.group
  let n := lookupD g.nextSeq ch 0
  let p : Piece := ⟨g.set.deviceId, ch, n, body⟩
  let inFlight := (g.flying.filter (fun x => decide (x.1.channel = ch))).length
  let waiting := g.queued.any (fun x => decide (x.channel = ch))
  let g := { g with nextSeq := assign g.nextSeq ch ((n + 1) % 2 ^ 16) }
  if inFlight < 64 ∧ waiting = false then
    { s with group := { g with flying := g.flying ++ [(p, s.now, 0)] }, sent := s.sent ++ [.piece p] }
  else
    { s with group := { g with queued := g.queued ++ [p] } }

/-- The outstanding entry of a request. -/
def State.outstanding? (s : State) (r : Req) : Option Outstanding :=
  (s.box r.mb).outstanding.find? (fun o => decide (o.req = r))

/-- Take a request off its mailbox's outstanding list. -/
def State.dropOutstanding (s : State) (r : Req) : State :=
  let b := s.box r.mb
  s.setBox r.mb { b with outstanding := b.outstanding.filter (fun o => decide (o.req ≠ r)) }

/-- Mark a request as answered IN_PROGRESS (R524). -/
def State.markInProgress (s : State) (r : Req) : State :=
  let b := s.box r.mb
  let out := updateFirst (fun o => decide (o.req = r)) (fun o => { o with inProgress := true, started := true })
    b.outstanding
  s.setBox r.mb { b with outstanding := out }

/-- This device holds the manager role: for its side, or for both as acting manager (R493, R506). -/
def State.isManager (s : State) : Bool := decide (s.group.manager = s.group.set.deviceId) && !s.group.actedFor

/-- A member's answer to a forwarded command: to its manager over the ring, and from side B's manager to side A's over the
twin links (R501, R519). -/
def State.mb5Reply (s : State) (code : Nat) (st : Status) (result : Nat) : State :=
  let b : Body := .mb5 code st.value result
  if s.isManager then { s with sent := s.sent ++ [.twin b] } else s.sendPiece 4 b

/-- Record how the configuration entry being executed ended (R542; log entry 61). -/
def State.noteEntry (s : State) (st : Status) (result : Nat) : State :=
  { s with lock := { s.lock with entry := some (st, result) } }

/-- The response of a request, and its place in the repeat cache (R521, R524). A configuration entry's command has no mailbox:
its outcome is noted (R542). -/
def State.respond (s : State) (r : Req) (code : Nat) (st : Status) (result : Nat) (payload : Bytes)
    (values : List Nat) : State :=
  if r.mb = 7 then s.noteEntry st result else
  let m : Message := s.signed { command := code, status := st.value, tag := r.tag, origin := r.mb, response := true,
                                seq := r.seq, result := result, payload := payload, values := values }
  let b := s.box r.mb
  let s := s.setBox r.mb { b with cache := (((r.seq, r.tag), m) :: b.cache).filter (fun x => b.accepted.contains x.1) }
  let s := if st = .ok ∨ st = .inProgress then s else s.countRejection r.mb st
  let s := s.postResponse r.mb m
  if r.mb = 5 then s.mb5Reply code st result else s

/-- A completion on MB7, with its copies (R525). -/
def State.complete (s : State) (r : Req) (code : Nat) (st : Status) (result : Nat) (payload : Bytes)
    (values : List Nat) : State :=
  let m : Message := s.signed { command := code, status := st.value, tag := r.tag, origin := r.mb, response := true,
                                completion := true, seq := r.seq, result := result, payload := payload, values := values }
  if r.mb = 7 then (s.release r).noteEntry st result else
  let s := ((s.dropOutstanding r).release r).mb7Push m
  if r.mb = 4 ∨ r.mb = 6 then s.postResponse r.mb m
  else if r.mb = 5 then s.mb5Reply code st result
  else s

/-- End a request with its final status: a response, or a completion when IN_PROGRESS has been answered (R524). -/
def State.answer (s : State) (r : Req) (code : Nat) (st : Status) (result : Nat := 0) (payload : Bytes := [])
    (values : List Nat := []) : State :=
  match s.outstanding? r with
  | some o =>
    if o.inProgress then s.complete r code st result payload values
    else ((s.dropOutstanding r).release r).respond r code st result payload values
  | none => (s.release r).respond r code st result payload values

/-- Answer IN_PROGRESS (R524); the request stays outstanding and what it names is held (R526). -/
def State.answerInProgress (s : State) (r : Req) (code : Nat) (held : List Held) : State :=
  let b := s.box r.mb
  let s := if (s.outstanding? r).isSome then s
    else s.setBox r.mb { b with outstanding := b.outstanding ++
      [{ req := r, command := code, arrived := s.now, started := true }] }
  let s := match s.outstanding? r with
    | some o => if o.inProgress then s else (s.respond r code .inProgress 0 [] []).markInProgress r
    | none => s
  held.foldl (fun s h => s.hold h r) s

/-- Answer IN_PROGRESS and, in the same step, complete: work whose duration the spec leaves open (R637). -/
def State.answerLong (s : State) (r : Req) (code : Nat) (st : Status) (result : Nat := 0) (payload : Bytes := [])
    (values : List Nat := []) : State :=
  (s.answerInProgress r code []).complete r code st result payload values

/-! ### Checks of a command -/

/-- A failed check: its status and RESULT (R523). -/
structure Reject where
  status : Status
  result : Nat := 0
  deriving DecidableEq, Repr

/-- The first failing check decides (R523). -/
def firstReject : List (Bool × Reject) → Option Reject
  | [] => none
  | (bad, e) :: rest => if bad then some e else firstReject rest

/-- A parameter out of range: BAD_PARAM with the byte offset of the field (R523). -/
def badParam (offset : Nat) : Reject := ⟨.badParam, offset⟩

/-- A number lies outside an inclusive range. -/
def outside (v lo hi : Nat) : Bool := decide (v < lo) || decide (hi < v)

/-- The payload of a request as it arrived, or of the configuration entry being executed; none for a command that neither
carried. -/
def State.payloadOf (s : State) (r : Req) : Option Bytes :=
  if r.mb = 7 then s.lock.entryPayload else (s.outstanding? r).bind (fun o => o.payload)

/-- A check that R523 puts before LENGTH: NOT_MANAGER and BUSY. -/
def Reject.early (e : Reject) : Bool := decide (e.status = .notManager) || decide (e.status = .busy)

/-- A parameter check that fails before a padding byte at an offset. -/
def Reject.before (e : Reject) (pad : Nat) : Bool := decide (e.status = .badParam) && decide (e.result < pad)

/-- The first failure of a request: the checks of its payload's form have their place among the command's own (R523, R640). -/
def State.verdict (s : State) (r : Req) (code : Nat) (check : Option Reject) : Option Reject := match s.payloadOf r with
  | none => check
  | some bs =>
    if (check.map (·.early)).getD false then check
    else match lengthFault code bs, padFault code bs with
      | some n, _ => some ⟨.badLength, n⟩
      | none, some o => if (check.map (fun e => e.before o)).getD false then check else some (badParam o)
      | none, none => check

/-- End a command: a failed check answers its status and changes nothing else (R14, R523); otherwise the effect. -/
def State.finish (s : State) (r : Req) (code : Nat) (check : Option Reject) (effect : State) : State :=
  match s.verdict r code check with
  | some e => s.answer r code e.status e.result
  | none => effect

/-- This device is the manager that leads: in a twin, side A's (R501) or an acting manager (R506). -/
def State.leads (s : State) : Bool :=
  s.isManager && (!s.group.set.twin || decide (s.group.set.side = 0) || s.group.acting)

/-- NOT_MANAGER: a manager command on a worker, unless it came from the manager on MB5 (R519) or stands in the
configuration (R542). -/
def State.notManager (s : State) (r : Req) : Bool × Reject :=
  (decide (r.mb ≠ 5) && decide (r.mb ≠ 7) && !s.leads, ⟨.notManager, s.group.manager⟩)

/-- BUSY: an object the command names is held by a command in progress (R526). -/
def State.heldBusy (s : State) (h : Held) : Bool × Reject := (s.isHeld h, ⟨.busy, 0⟩)

/-! ### Distribution (R500, R501) -/

/-- The members whose acknowledgement a distribution awaits (R500): this side's other ACTIVE, SERVICE_LOST or JOINING
members, and in a twin led by this device the other side's manager, written as its ID plus 128 (R501); an acting manager
awaits the other side's members themselves (R506). -/
def State.audience (s : State) : List Nat :=
  let live (m : Nat × MemberStatus) : Bool := decide (m.2 = .active) || decide (m.2 = .serviceLost) || decide (m.2 = .joining)
  let here := (s.group.members.filter (fun m => decide (m.1 ≠ s.group.set.deviceId) && live m)).map (·.1)
  if s.group.acting then here ++ (s.group.peers.filter live).map (fun m => 128 + m.1)
  else if s.group.set.twin ∧ s.group.set.side = 0 ∧ !s.group.split ∧ !s.group.peers.isEmpty then here ++ [128 + s.group.manager] else here

/-- The bytes of an item, over which its digest is taken (R500). -/
def itemBytes : Item → Bytes
  | .catalogue d t es => natLe 1 0 ++ natLe 8 d ++ natLe 8 t ++ es.flatMap (fun e => natLe 8 (e.1 + e.2 * 2 ^ 48))
  | .plan h bs => natLe 1 1 ++ natLe 2 h ++ bs
  | .recipe h bs => natLe 1 2 ++ natLe 2 h ++ bs
  | .vocab h bs => natLe 1 3 ++ natLe 2 h ++ bs
  | .program h bs => natLe 1 4 ++ natLe 2 h ++ bs
  | .dupSet h bs => natLe 1 5 ++ natLe 2 h ++ bs
  | .armEvent e => natLe 1 6 ++ natLe 4 e.handle ++ natLe 1 e.kind.value ++ natLe 1 e.target.mark
      ++ natLe 8 e.target.step ++ natLe 2 e.item
  | .cancelEvent h => natLe 1 7 ++ natLe 4 h
  | .weir t _ => natLe 1 8 ++ natLe 8 t.step ++ natLe 1 t.mark
  | .fence st => natLe 1 9 ++ natLe 8 st
  | .membership r => natLe 1 10 ++ r
  | .command c d => natLe 1 11 ++ natLe 2 c ++ d
  | .ckptDone st => natLe 1 12 ++ natLe 8 st
  | .ckptFailed st => natLe 1 13 ++ natLe 8 st
  | .proxy back d st c => natLe 1 14 ++ natLe 1 back.toNat ++ natLe 4 (d.port + d.device * 2 ^ 8 + d.side * 2 ^ 15) ++ natLe 8 st
      ++ c.flatMap (fun x => natLe 8 x.1 ++ natLe 4 x.2.1 ++ natLe 4 x.2.2)
  | .join d st p rc ex => natLe 1 15 ++ natLe 1 d ++ natLe 8 st ++ ((p.map (fun x => natLe 2 x.1 ++ x.2)).getD [])
      ++ natLe 2 (rc.getD 0xFFFF) ++ natLe 1 ex.toNat

/-- The digest of an item (R500). -/
def itemDigest (i : Item) : Bytes := sha256 (itemBytes i)

/-- The privileged channel that carries an item (R391). -/
def itemChannel : Item → Nat
  | .weir _ _ => 2
  | .membership _ => 5
  | .ckptDone _ | .ckptFailed _ => 3
  | _ => 0

/-- Send an item to every other member of the side, and over the twin links where the other side is awaited too (R391, R500,
R501). Nothing is sent where the device has no members to send to. -/
def State.spread (s : State) (i : Item) : State :=
  let far : Bool := s.audience.any (fun d => decide (128 ≤ d))
  let s1 := if s.audience.any (fun d => decide (d < 128)) then s.sendPiece (itemChannel i) (.item i) else s
  if far then { s1 with sent := s1.sent ++ [.twin (.item i)] } else s1

/-- Distribute an item for a request: with no other member the request is answered at once, otherwise when every
member has acknowledged (R500). A request on MB5 is a forwarded one: a member answers it to its manager at once, side B's
manager when its own side has acknowledged (R501). -/
def State.distribute (s : State) (r : Req) (code : Nat) (i : Item) (goal : QuorumGoal) (result : Nat := 0)
    (payload : Bytes := []) (values : List Nat := []) : State :=
  if (r.mb = 5 ∧ !s.isManager) ∨ r.mb = 7 ∨ s.audience.isEmpty then s.answer r code .ok result payload values
  else
    let q : Quorum := ⟨itemDigest i, code, s.audience, goal, false⟩
    { s.spread i with group := { (s.spread i).group with quorums := (s.spread i).group.quorums ++ [q] } }

/-- Distribute a manager command as a whole: the members carry it out on MB5 and acknowledge (R500, R501, R519). -/
def State.forward (s : State) (r : Req) (code : Nat) (params : Bytes) (result : Nat := 0)
    (payload : Bytes := []) (values : List Nat := []) : State :=
  s.distribute r code (.command code (sha256 params)) (.answer r code result payload values) result payload values

/-! ### Units -/

/-- A unit's entry in the disabled-unit map changed: the retirement record is due within 5 s (R548). -/
def State.mapChanged (s : State) : State := { s with nor := { s.nor with retireDue := some s.now } }

end Sys2Proof.Machine
end

