-- ==== Sys2Proof/Machine/DetOps.lean ====
section
/-! DEFINITION. The determinism record and what enters it: the disabled-unit map, the membership record, the programs and
the tree plan (chapter 15). -/

namespace Sys2Proof.Machine

/-- The 64 bytes of the disabled-unit map (R38). -/
def UnitMap.bytes (u : UnitMap) : Bytes :=
  let site (o : Option Nat) : Bytes := natLe 1 (o.getD 0xFF)
  natLe 4 u.crucibleOff.toNat ++ natLe 2 u.riffleOff.toNat ++ natLe 1 u.drawplateOff.toNat ++ [0]
    ++ natLe 8 u.portBlockOff.toNat ++ natLe 8 u.lpddr6Off.toNat ++ natLe 8 u.nandOff.toNat
    ++ u.crucibleMap.flatMap site ++ u.riffleMap.flatMap site ++ natLe 8 0

/-- Crucibles served: logical numbers that are not vacant (R411). -/
def State.served (s : State) : Nat := (s.units.crucibleMap.filter (fun o => o.isSome)).length

/-- G of the tree plan: 16 when pinned, else the Crucibles served (R411, R429). -/
def State.treeG (s : State) : Nat := if s.det.treePolicy = 0 then 16 else s.served

/-- TREE_PLAN: POLICY in [7:0], G in [15:8] (R411, R429). -/
def State.treePlan (s : State) : Nat := s.det.treePolicy + s.treeG * 2 ^ 8

/-- Members whose bit is set in a membership record (R499). -/
def memberBits (l : List (Nat × MemberStatus)) : Nat :=
  ((l.filter (fun m => decide (m.2 = .active) || decide (m.2 = .serviceLost) || decide (m.2 = .joining))).map
    (fun m => 2 ^ m.1)).sum

/-- The 64-byte membership record (R499). -/
def State.membership (s : State) : Bytes :=
  let g := s.group
  let here := memberBits g.members
  let there := if g.set.twin then memberBits g.peers else 0
  let (a, b) := if g.set.side = 0 then (here, there) else (there, here)
  natLe 2 1 ++ natLe 1 g.set.twin.toNat ++ natLe 1 s.fuse.clockBin ++ natLe 4 0 ++ natLe 8 g.set.groupId
    ++ natLe 16 a ++ natLe 16 b ++ natLe 16 0

/-- PROGRAMS_DIGEST (R426). -/
def State.programsDigest (s : State) : Bytes :=
  let digest (h : Nat) : Bytes := match lookup? s.ngayx.programs h with
    | some bs => sha256 bs
    | none => natLe 32 0
  let bound (c : Nat) : Bytes := natLe 2 (if c < 8 then 0xFFFF else lookupD s.ngayx.bindings c 0xFFFF)
  sha256 ((List.range 64).flatMap digest ++ (List.range 1024).flatMap bound)

/-- The job key: SHA-256 of the seed record, all zero before JOB_SEED (R165, R329). -/
def State.jobKey (s : State) : Bytes := match s.plan.seed with
  | some r => sha256 r
  | none => List.replicate 32 0

/-- The bytes of a loaded recipe (R181). -/
def State.recipeBytes (s : State) (h : Nat) : Bytes := lookupD s.plan.recipes h []

/-- The digest of the recipe in force, zero when none (R425). -/
def State.recipeDigest (s : State) : Bytes := match s.plan.recipe with
  | some h => sha256 (s.recipeBytes h)
  | none => natLe 32 0

/-- The record the device would hold now, from a step (R425). -/
def State.detNow (s : State) (fromStep : Nat) : DetRecord :=
  { mode := if s.det.exact then 0 else 1, datapathRev := s.nor.fw.datapathRev, fwVersion := s.nor.fw.version, fromStep := fromStep
    seed := if s.plan.seed.isSome then sha256 s.jobKey else natLe 32 0
    recipe := s.recipeDigest
    plan := match s.plan.active with | some (_, p) => p.digest | none => natLe 32 0
    format := sha256 numberFormats, membership := sha256 s.membership, map := sha256 s.units.bytes
    programs := s.programsDigest, treePlan := s.treePlan }

/-- The 256 bytes of a record (R425). -/
def DetRecord.bytes (d : DetRecord) : Bytes :=
  natLe 2 1 ++ natLe 1 d.mode ++ [0] ++ natLe 4 d.datapathRev ++ natLe 8 d.fwVersion ++ natLe 8 d.fromStep ++ d.seed ++ d.recipe
    ++ d.plan ++ d.format ++ d.membership ++ d.map ++ d.programs ++ natLe 8 d.treePlan

/-- The record digest (R425). -/
def DetRecord.digest (d : DetRecord) : Bytes := sha256 d.bytes

/-- Issue a new record when a field other than FROM_STEP differs from the last one (R427). -/
def State.issueRecord (s : State) (fromStep : Nat) : State :=
  let r := s.detNow fromStep
  let same := match s.det.records.getLast? with
    | some old => decide ({ old with fromStep := fromStep } = r)
    | none => false
  if same then s
  else
    let all := s.det.records ++ [r]
    ({ s with det := { s.det with records := all.drop (all.length - 64) } }).raise .detRecordChanged 0 r.digest

/-- A change that governs from the device's committed step (R427). -/
def State.recordNow (s : State) : State := s.issueRecord s.gauge.committed.step

/-- The record that governs a step (R427): the newest whose FROM_STEP is at or before it. -/
def State.recordAt (s : State) (step : Nat) : Option DetRecord :=
  (s.det.records.filter (fun r => decide (r.fromStep ≤ step))).getLast?

/-- The disabled-unit map changed: a retirement record is due (R548), and the determinism record changes (R39, R427). -/
def State.mapDiffers (s : State) : State := s.mapChanged.recordNow

end Sys2Proof.Machine
end

