-- ==== Sys2Proof/Machine/Media.lean ====
section
/-! DEFINITION. The Reservoir (chapter 04): geometry, zones, the logical contents, staging, the journal, relocation,
wear, refresh, retirement, and the media commands. -/

namespace Sys2Proof.Machine

/-! ### Geometry (R95, R99 to R101, R104) -/

/-- Change the Reservoir. -/
def State.setMedia (s : State) (m : MediaState) : State := { s with media := m }

/-- A staged write holds the block: a read gives its data. -/
def State.isStaged (s : State) (b : Nat) : Bool :=
  s.media.staged.any (fun w => decide (w.lba ≤ b) && decide (b < w.lba + w.data.length / 4096))

/-- Native bytes of a superblock: 16 multi-plane blocks (R100). -/
def Geometry.native (g : Geometry) : Nat := 16 * g.blockBytes

/-- Data capacity of a superblock in 4 KiB blocks: 15 of its 16 blocks (R100, R101). -/
def Geometry.dataBlocks (g : Geometry) : Nat := 15 * g.blockBytes / 4096

/-- The zone size in 4 KiB blocks: the next power of two (R101). -/
def Geometry.zoneSize (g : Geometry) : Nat := 2 ^ (Nat.log2 (g.dataBlocks - 1) + 1)

/-- Raw capacity in bytes: 128 GB for each Tb of density of each enrolled die (R95). -/
def State.rawCapacity (s : State) : Nat := s.media.dies.length * s.media.geometry.density * 128000000000

/-- Blocks of conventional space: CONV_SIZE over 4 KiB (R104). -/
def State.convBlocks (s : State) : Nat := s.media.convSuperblocks * s.media.geometry.dataBlocks

/-- ZONED_BASE: the first multiple of the zone size at or above the end of conventional space (R104). -/
def State.zonedBase (s : State) : Nat :=
  let z := s.media.geometry.zoneSize
  (s.convBlocks + z - 1) / z * z

/-- The exclusive end of zoned extent space (R641). -/
def State.zonedEnd (s : State) : Nat := s.zonedBase + s.media.zoneCount * s.media.geometry.zoneSize

/-- The zone of a logical block of zoned space (R105). -/
def State.zoneOf (s : State) (lba : Nat) : Nat := (lba - s.zonedBase) / s.media.geometry.zoneSize

/-- First logical block of a zone (R105). -/
def State.zoneStart (s : State) (z : Nat) : Nat := s.zonedBase + z * s.media.geometry.zoneSize

/-- A zone's state (R105). -/
def State.zone (s : State) (z : Nat) : Zone := lookupD s.media.zones z {}

/-- Set a zone's state; an EMPTY zone with nothing written is left out of the map. -/
def State.setZone (s : State) (n : Nat) (z : Zone) : State :=
  s.setMedia { s.media with zones := if z = {} then erase s.media.zones n else assign s.media.zones n z }

/-- The largest CONV_SIZE in superblocks: within 4 % of raw capacity (R104). -/
def State.convMax (s : State) : Nat := s.rawCapacity * 4 / 100 / (s.media.geometry.dataBlocks * 4096)

/-! ### Superblocks -/

/-- The superblock of a number. -/
def State.superblock? (s : State) (n : Nat) : Option Superblock :=
  s.media.superblocks.find? (fun b => decide (b.num = n))

/-- Change one superblock. -/
def State.setSuperblock (s : State) (b : Superblock) : State :=
  s.setMedia { s.media with superblocks := updateFirst (fun x => decide (x.num = b.num)) (fun _ => b) s.media.superblocks }

/-- Superblocks of the free pool. -/
def State.freeSuperblocks (s : State) : List Superblock := s.media.superblocks.filter (fun b => decide (b.usage = .free))

/-- Free conventional superblocks (R116). -/
def State.freeConv (s : State) : List Superblock := s.media.superblocks.filter (fun b => decide (b.usage = .convFree))

/-- Native capacity of all unallocated superblocks (R109). -/
def State.freeNative (s : State) : Nat :=
  (s.freeSuperblocks.length + s.freeConv.length) * s.media.geometry.native

/-- slc_size of R109 for a raw and a free capacity, in whole superblocks. -/
def slcSuperblocks (raw free native : Nat) : Nat := (25 * raw + 175 * free) / 10000 / native

/-- slc_size in bytes (R109). -/
def State.slcSize (s : State) : Nat :=
  slcSuperblocks s.rawCapacity s.freeNative s.media.geometry.native * s.media.geometry.native

/-- Which free superblock an allocation takes is open: a free value among them. -/
def State.pickSuperblock (s : State) (l : List Superblock) : Option Superblock := l[s.free % l.length]?

/-! ### Logical contents: what is durable, overlaid with what is staged (R107, R136) -/

/-- Bytes of a range of logical blocks as the durable contents hold them; unwritten blocks read as zeros (R136). -/
def State.durableRead (s : State) (lba n : Nat) : Bytes := Memory.readBytes s.media.data (lba * 4096) (n * 4096)

/-- Lay a staged write over bytes read from `lba`. -/
def overlay (lba : Nat) (bs : Bytes) (w : Staged) : Bytes :=
  let lo := w.lba * 4096
  let at_ := lba * 4096
  let one (i : Nat) (b : Byte) : Byte :=
    let a := at_ + i
    if lo ≤ a ∧ a < lo + w.data.length then w.data.getD (a - lo) 0 else b
  bs.mapIdx one

/-- Bytes of a range of logical blocks: staged data is served from the staging buffer (R136). -/
def State.logicalRead (s : State) (lba n : Nat) : Bytes := s.media.staged.foldl (overlay lba) (s.durableRead lba n)

/-- Make a range of logical blocks read as zeros, staged data included (R106, R138). -/
def State.clearBlocks (s : State) (lba n : Nat) : State :=
  let blank (w : Staged) : Staged :=
    { w with data := w.data.mapIdx (fun i b =>
        let a := w.lba * 4096 + i
        if lba * 4096 ≤ a ∧ a < (lba + n) * 4096 then 0 else b) }
  s.setMedia { s.media with
    data := Memory.clear s.media.data (lba * 4096) (n * 4096)
    staged := s.media.staged.map blank
    unreadable := s.media.unreadable.filter (fun b => decide (b < lba) || decide (lba + n ≤ b))
    superblocks := s.media.superblocks.map (fun b =>
      { b with valid := b.valid.filter (fun v => decide (v < lba) || decide (lba + n ≤ v)) }) }

/-- Loaded Ingots of a zone are lost: DATASET_DEGRADED once per Ingot (R159). -/
def State.loseZone (s : State) (z : Nat) : State :=
  let hits := s.plan.datasets.flatMap (fun d => (d.ingots.filter (fun i => decide (i.zone = z) && !i.lost)).map (fun i => (d.id, i.firstRecord)))
  let mark (i : LoadedIngot) : LoadedIngot := if i.zone = z then { i with lost := true } else i
  let s := { s with plan := { s.plan with
    datasets := s.plan.datasets.map (fun d => { d with ingots := d.ingots.map mark }) } }
  hits.foldl (fun s h => s.raise .datasetDegraded h.1 (natLe 8 h.2)) s

/-! ### The journal (R112) -/

/-- Enter an operation in the journal, not yet committed. -/
def State.journalAdd (s : State) (op : JournalOp) : State :=
  s.setMedia { s.media with journalOpen := s.media.journalOpen ++ [(s.media.journalSeq, op)],
                            journalSeq := s.media.journalSeq + 1 }

/-- Queue a superblock for erase and return to its free pool (the erase phase of R111). -/
def State.eraseLater (s : State) (n : Nat) : State :=
  s.setMedia { s.media with relocations := s.media.relocations ++ [{ src := n, dst := n, cause := .reset, phase := .erase }] }

/-- Move what the maps hold in a relocation's source to its destination (R111, R114): only the logical blocks that still
lie in the source move. -/
def State.commitRelocation (s : State) (src dst : Nat) : State :=
  match s.superblock? src, s.superblock? dst with
  | some a, some b =>
    let s := s.setSuperblock { b with usage := a.usage, valid := a.valid, filled := a.filled }
    let zones := s.media.zones.map (fun z => if z.2.superblock = some src then (z.1, { z.2 with superblock := some dst }) else z)
    let relocs := s.media.relocations.map (fun r => if r.src = src ∧ r.dst = dst then { r with phase := .erase } else r)
    let fix (o : Option Nat) : Option Nat := if o = some src then some dst else o
    (s.setMedia { s.media with zones := zones, relocations := relocs, convOpen := fix s.media.convOpen,
                               slcOpen := fix s.media.slcOpen })
  | _, _ => s

/-- Apply a committed journal entry (R107, R111, R117). -/
def State.applyJournal (s : State) : JournalOp → State
  | .write n =>
    s.setMedia { s.media with
      staged := updateFirst (fun w => decide (w.seq = n)) (fun w => { w with committed := true }) s.media.staged }
  | .zoneReset _ => s
  | .relocate src dst => s.commitRelocation src dst
  | .trim _ _ => s

/-- Both copies of the oldest open entry program with pass status (R112): the entry is committed and takes effect. -/
def State.commitJournal (s : State) : State :=
  match s.media.journalOpen with
  | [] => s
  | (n, op) :: rest =>
    (s.setMedia { s.media with journalOpen := rest, journal := s.media.journal ++ [(n, op)],
                               journalBytes := s.media.journalBytes + 1 }).applyJournal op

/-- JOURNAL_SNAPSHOT (R112): recovery starts from here; the health counters are kept with it (R125). -/
def execJournalSnapshot (s : State) : Out :=
  .next (s.setMedia { s.media with snapshotSeq := some s.media.journalSeq, journal := [], journalBytes := 0 })

/-! ### Retirement of blocks and dies (R98, R103, R120 to R122) -/

/-- The die of a channel and target. -/
def State.die? (s : State) (c t : Nat) : Option NandDie :=
  s.media.dies.find? (fun d => decide (d.channel = c) && decide (d.target = t))

/-- Change one die. -/
def State.setDie (s : State) (d : NandDie) : State :=
  s.setMedia { s.media with
    dies := updateFirst (fun x => decide (x.channel = d.channel) && decide (x.target = d.target)) (fun _ => d) s.media.dies }

/-- The stripe set of a die position: 16g + t for channel group g (R99). -/
def stripeSetOf (channel target : Nat) : Nat := 16 * (channel / 16) + target

/-- Change the health counters. -/
def State.health (s : State) (f : MediaCounters → MediaCounters) : State :=
  s.setMedia { s.media with counters := f s.media.counters }

/-- A superblock cannot be made whole (R121): in zoned space its zone becomes READ_ONLY or OFFLINE; in conventional
space its data is queued for relocation and capacity falls by one superblock. MEDIA_CAPACITY is raised. -/
def State.retireSuperblock (s : State) (n : Nat) : State :=
  match s.superblock? n with
  | none => s
  | some b =>
    let s := match b.usage with
      | .zone z =>
        let lost := s.media.unreadable.any (fun l => decide (s.zonedBase ≤ l) && decide (s.zoneOf l = z))
        s.setZone z { s.zone z with status := if lost then .offline else .readOnly }
      | .free | .convFree => s.setSuperblock { b with usage := .retired }
      | _ => s.setSuperblock { b with refresh := true }
    (s.logEntry .media Event.mediaCapacity.value b.stripeSet [n]).raise .mediaCapacity n

/-- Retire a block of a superblock on a die (R120): a spare of the same die replaces it, or the superblock is retired
(R121). -/
def State.retireBlock (s : State) (c t superblock block : Nat) : State :=
  let s := (s.health (fun h => { h with growBad := h.growBad + 1 })).logEntry .media Status.mediaError.value c [t, superblock, block]
  match s.die? c t with
  | none => s
  | some d =>
    if 0 < d.spares then s.setDie { d with spares := d.spares - 1, bad := d.bad + 1 }
    else (s.setDie { d with bad := d.bad + 1 }).retireSuperblock superblock

/-- When every die of a channel has failed, the channel is retired: its NAND_OFF bit is set (R38, R122). -/
def State.checkChannel (s : State) (c : Nat) : State :=
  let dies := s.media.dies.filter (fun d => decide (d.channel = c))
  if !dies.isEmpty && dies.all (·.failed) then
    ({ s with units := { s.units with nandOff := s.units.nandOff ||| BitVec.twoPow 48 c } }).mapDiffers
  else s

/-- Fail a die (R122): its stripe set is rebuilt. -/
def State.failDie (s : State) (d : NandDie) : State :=
  let set := stripeSetOf d.channel d.target
  let s := (s.setDie { d with failed := true }).health (fun h => { h with diesFailed := h.diesFailed + 1 })
  let s := s.setMedia { s.media with
    rebuilding := if s.media.rebuilding.contains set then s.media.rebuilding else s.media.rebuilding ++ [set] }
  (s.logEntry .media 0 d.channel [d.target]).checkChannel d.channel

/-- One more failed operation on a die: three in a row fail it (R98, R122). -/
def State.opFailed (s : State) (c t : Nat) : State :=
  match s.die? c t with
  | none => s
  | some d =>
    let d := { d with failRun := d.failRun + 1 }
    if 3 ≤ d.failRun ∧ !d.failed then s.failDie d else s.setDie d

/-- An operation that passed ends the run of failures (R122). -/
def State.opPassed (s : State) (c t : Nat) : State :=
  match s.die? c t with
  | none => s
  | some d => s.setDie { d with failRun := 0 }

/-- The block's erase count (R118). -/
def State.blockErases (s : State) (superblock : Nat) : Nat := ((s.superblock? superblock).map (·.erases)).getD 0

/-- Count a page read of a block (R119): 32 bits, stopping at the maximum. -/
def State.countRead (s : State) (superblock block : Nat) : State :=
  match s.superblock? superblock with
  | none => s
  | some b => s.setSuperblock { b with reads := b.reads.modify block (fun n => min (n + 1) (2 ^ 32 - 1)) }

/-- Queue a superblock for refresh (R102, R119). -/
def State.queueRefresh (s : State) (superblock : Nat) : State :=
  match s.superblock? superblock with
  | none => s
  | some b => s.setSuperblock { b with refresh := true }

/-- Act on the recovery step of a read (R102, R103, R120): steps 2 and 3 corrected, 4 and 5 rebuilt, 0 unrecovered;
steps 3 and 4 queue a refresh; a second step 4 within 1,000 erases, or an unrecovered codeword, retires the block. -/
def State.readEnded (s : State) (c t lba superblock block step : Nat) : State :=
  let s := s.countRead superblock block
  match step with
  | 2 => s.health (fun h => { h with correctedCw := h.correctedCw + 1 })
  | 3 => (s.health (fun h => { h with correctedCw := h.correctedCw + 1 })).queueRefresh superblock
  | 4 =>
    let s := (s.health (fun h => { h with rebuiltCw := h.rebuiltCw + 1 })).queueRefresh superblock
    let e := s.blockErases superblock
    match s.superblock? superblock with
    | none => s
    | some b =>
      match lookup? b.rebuilds block with
      | some first =>
        if e < first + 1000 then s.retireBlock c t superblock block
        else s.setSuperblock { b with rebuilds := assign b.rebuilds block e }
      | none => s.setSuperblock { b with rebuilds := assign b.rebuilds block e }
  | 5 => s.health (fun h => { h with rebuiltCw := h.rebuiltCw + 1 })
  | 0 =>
    let s := s.health (fun h => { h with unrecoveredCw := h.unrecoveredCw + 1 })
    let s := s.setMedia { s.media with
      unreadable := if s.media.unreadable.contains lba then s.media.unreadable else s.media.unreadable ++ [lba] }
    s.retireBlock c t superblock block
  | _ => s

/-- The free usage a superblock returns to: conventional superblocks stay conventional (R116). -/
def freeUsage : SbUse → SbUse
  | .conv | .convFree => .convFree
  | _ => .free

/-- A superblock's erase is complete (R111, R117 to R119): counters, its free pool, and the move that caused it. -/
def State.erased (s : State) (n : Nat) : State :=
  let reloc := s.media.relocations.find? (fun r => decide (r.src = n) && decide (r.phase = .erase))
  let s := match s.superblock? n with
    | none => s
    | some b =>
      let use : SbUse := if b.usage = SbUse.retired then SbUse.retired else freeUsage b.usage
      let wiped : Superblock := { b with usage := use, erases := b.erases + 1, reads := List.replicate 16 0, valid := [],
                                         filled := 0, refresh := false }
      s.setSuperblock wiped
  let s := match reloc with
    | none => s
    | some r => s.health (fun h => match r.cause with
      | .gc => { h with gcMoves := h.gcMoves + 1 }
      | .wear => { h with wlMoves := h.wlMoves + 1 }
      | .refresh => { h with refreshMoves := h.refreshMoves + 1 }
      | _ => h)
  s.setMedia { s.media with relocations := s.media.relocations.filter (fun r => decide (r.src ≠ n ∨ r.phase ≠ RelocPhase.erase)) }

/-- Garbage collection stops when the free conventional superblocks reach GC_STOP (R116), static wear levelling when the
spread has fallen (R118). -/
def State.eraseSpread (s : State) : Nat :=
  let e := (s.media.superblocks.filter (fun b => decide (b.usage ≠ .retired))).map (·.erases)
  maxD e 0 - (e.min?).getD 0

/-- The stop conditions of garbage collection and static wear levelling (R116, R118). -/
def State.checkStops (s : State) : State :=
  let k := s.media.policy
  s.setMedia { s.media with
    gcActive := s.media.gcActive && decide (s.freeConv.length < k.gcStop)
    wlActive := s.media.wlActive && decide (k.wlSpread - k.wlSpread / 5 < s.eraseSpread) }

/-- A program ended (R111, R115): the last of a relocation's copy opens its journal entry; a failed one retires the
block, and the copy of that die's pages starts again in the replacement. -/
def State.programEnded (s : State) (c t superblock block : Nat) (last pass : Bool) : State :=
  if !pass then (s.opFailed c t).retireBlock c t superblock block
  else
    let s := s.opPassed c t
    let s := s.health (fun h => { h with mediaBytes := satAdd h.mediaBytes 16384 })
    match s.media.relocations.find? (fun r => decide (r.dst = superblock) && decide (r.phase = .copy)) with
    | none => s
    | some r =>
      if !last then s
      else
        let moved := updateFirst (fun x => decide (x = r)) (fun x => { x with phase := .journal }) s.media.relocations
        let s := s.setMedia { s.media with relocations := moved }
        s.journalAdd (.relocate r.src r.dst)

/-- A NAND operation ends with pass or fail (R98, R102, R103, R111, R115, R119 to R122). -/
def State.nandEnded (s : State) (c t : Nat) (op : NandOp) (pass : Bool) : State :=
  match op with
  | .read lba sb block step =>
    (if pass then s.opPassed c t else s.opFailed c t).readEnded c t lba sb block step
  | .program sb block last => s.programEnded c t sb block last pass
  | .erase sb block last =>
    let s := if pass then s.opPassed c t else (s.opFailed c t).retireBlock c t sb block
    if last then (s.erased sb).checkStops else s

/-- A suspended or finished operation no longer counts suspensions (R97). -/
def State.clearSuspensions (s : State) (c t : Nat) : State :=
  s.setMedia { s.media with suspensions := s.media.suspensions.filter (fun x => decide (x.1 ≠ 16 * c + t)) }

/-- A read of a die suspends the program or erase in progress there, at most 8 times (R97). -/
def State.suspendFor (s : State) (c t : Nat) : State :=
  let k := 16 * c + t
  s.setMedia { s.media with suspensions := assign s.media.suspensions k (min 8 (lookupD s.media.suspensions k 0 + 1)) }

/-! ### Relocation (R111, R114) -/

/-- A relocation of a superblock is in progress. -/
def State.relocating (s : State) (n : Nat) : Bool := s.media.relocations.any (fun r => decide (r.src = n))

/-- Begin the copy of a superblock into a destination (R111). -/
def State.beginCopy (s : State) (b d : Superblock) (cause : RelocCause) : State :=
  let s := s.setSuperblock { d with usage := if d.usage = .convFree then .conv else d.usage }
  s.setMedia { s.media with relocations := s.media.relocations ++
    [{ src := b.num, dst := d.num, cause := cause, blocks := b.valid }] }

/-- Free superblocks a source of a use may move to, not already a destination. -/
def State.destinations (s : State) (b : Superblock) : List Superblock :=
  let pool := match b.usage with
    | .conv => s.freeConv
    | _ => s.freeSuperblocks
  pool.filter (fun d => !s.media.relocations.any (fun r => decide (r.dst = d.num)))

/-- Start the relocation of a superblock to a destination that a free value picks (R111), unless it is moving already or
none is free. -/
def State.startRelocation (s : State) (n : Nat) (cause : RelocCause) : State :=
  match s.superblock? n with
  | none => s
  | some b =>
    if s.relocating n then s
    else match s.pickSuperblock (s.destinations b) with
      | none => s
      | some d => s.used.beginCopy b d cause

/-- RELOCATION_START (R111, R119): a superblock queued for refresh begins its copy, one per stripe set at a time. -/
def execRelocationStart (superblock : Nat) (s : State) : Out :=
  match s.superblock? superblock with
  | none => .next s
  | some b =>
    let same (r : Relocation) : Bool := decide (r.cause = .refresh)
      && decide (((s.superblock? r.src).map (·.stripeSet)) = some b.stripeSet)
    if !b.refresh ∨ s.media.relocations.any same then .next s
    else .next (s.startRelocation superblock .refresh)

/-- Abandon a relocation of a zone's superblock before its journal commit (R114): the destination is erased. -/
def State.abandonRelocation (s : State) (src : Nat) : State :=
  match s.media.relocations.find? (fun r => decide (r.src = src) && decide (r.phase ≠ .erase)) with
  | none => s
  | some r =>
    (s.setMedia { s.media with
      relocations := s.media.relocations.filter (fun x => decide (x ≠ r))
      journalOpen := s.media.journalOpen.filter (fun j => decide (j.2 ≠ .relocate r.src r.dst)) }).eraseLater r.dst

/-- GC_START (R116): garbage collection runs while the free conventional superblocks are at or below GC_START; its
victim holds the fewest valid logical blocks, the lower number on a tie. -/
def execGcStart (s : State) : Out :=
  let victims := s.media.superblocks.filter (fun b => decide (b.usage = .conv) && !s.relocating b.num
    && decide (s.media.convOpen ≠ some b.num))
  let fewest := (victims.map (fun b => b.valid.length)).min?
  if s.media.policy.gcStart < s.freeConv.length then .next s
  else
    let s := s.setMedia { s.media with gcActive := true }
    match victims.find? (fun b => decide (some b.valid.length = fewest)) with
    | none => .next s
    | some b => .next (s.startRelocation b.num .gc)

/-- WEAR_LEVEL_START (R118): above WL_SPREAD the least-worn superblock that holds data, OPEN zones excluded, moves to
the most-worn free superblock. -/
def execWearLevelStart (s : State) : Out :=
  let openZone (b : Superblock) : Bool := match b.usage with
    | .zone z => decide ((s.zone z).status = .open)
    | _ => false
  let holds (b : Superblock) : Bool := match b.usage with
    | .zone _ | .conv | .slc => true
    | _ => false
  let sources := s.media.superblocks.filter (fun b => holds b && !openZone b && !s.relocating b.num)
  let least := (sources.map (·.erases)).min?
  if s.eraseSpread ≤ s.media.policy.wlSpread then .next s
  else
    let s := s.setMedia { s.media with wlActive := true }
    match sources.find? (fun b => decide (some b.erases = least)) with
    | none => .next s
    | some b =>
      let ds := s.destinations b
      let most := maxD (ds.map (·.erases)) 0
      match ds.find? (fun d => decide (d.erases = most)) with
      | none => .next s
      | some d => .next (s.beginCopy b d .wear)

/-- The read threshold of a block (R119). -/
def State.readThreshold (s : State) (pe : Nat) : Nat :=
  let k := s.media.policy
  let age := min 1000 (1000 * pe / s.media.geometry.peRated)
  let base := if s.media.geometry.cellBits = 3 then k.rdBaseTlc else k.rdBaseQlc
  base * max k.rdFloor (1000 - age) / 1000

/-- READ_COUNT_REFRESH (R119): a block whose counter has reached its threshold queues its superblock. -/
def execReadCountRefresh (superblock block : Nat) (s : State) : Out :=
  match s.superblock? superblock with
  | none => .next s
  | some b =>
    if s.readThreshold b.erases ≤ b.reads.getD block 0 then .next (s.queueRefresh superblock) else .next s

/-- SLC_FOLD (R110): the data of an SLC superblock is folded into a native one. -/
def execSlcFold (superblock : Nat) (s : State) : Out :=
  match s.superblock? superblock with
  | some b => .next (if b.usage = .slc then s.startRelocation superblock .fold else s)
  | none => .next s

/-- DIE_REBUILD_COMPLETE (R122): FLAGS[0] clears once no rebuild is left. -/
def execDieRebuildComplete (stripeSet : Nat) (s : State) : Out :=
  .next (s.setMedia { s.media with rebuilding := s.media.rebuilding.filter (fun x => decide (x ≠ stripeSet)) })

/-! ### Staging and programming (R107, R109, R110, R123) -/

/-- Stage a write with its descriptor (R107); HOST_BYTES counts it (R125). -/
def State.stage (s : State) (lba : Nat) (data : Bytes) (source : Option (Nat × Nat × Nat × Nat × Nat)) (through : Bool) : State :=
  let w : Staged := { seq := s.media.stageSeq, lba := lba, data := data, source := source, through := through }
  (s.setMedia { s.media with staged := s.media.staged ++ [w], stageSeq := s.media.stageSeq + 1 }).health
    (fun h => { h with hostBytes := satAdd h.hostBytes data.length })

/-- Blocks left in the conventional superblock being filled. -/
def State.convRoom (s : State) : Nat :=
  match s.media.convOpen.bind s.superblock? with
  | some b => s.media.geometry.dataBlocks - b.filled
  | none => 0

/-- A conventional WRITE of `n` blocks finds room: in the open superblock, or a free one (R116). -/
def State.convFits (s : State) (n : Nat) : Bool := decide (n ≤ s.convRoom) || !s.freeConv.isEmpty

/-- Point the map at new places for `n` conventional blocks (R106): older places become invalid, and a full superblock
gives way to a free one, which a free value picks. -/
def State.placeConv (s : State) (lba n : Nat) : State :=
  let fresh := List.range' lba n
  let drop (b : Superblock) : Superblock := { b with valid := b.valid.filter (fun v => !fresh.contains v) }
  let s := s.setMedia { s.media with superblocks := s.media.superblocks.map drop }
  let s :=
    if n ≤ s.convRoom then s
    else match s.pickSuperblock s.freeConv with
      | none => s
      | some b => (s.used.setSuperblock { b with usage := .conv, filled := 0 }).setMedia
          { (s.used.setSuperblock { b with usage := .conv, filled := 0 }).media with convOpen := some b.num }
  match s.media.convOpen.bind s.superblock? with
  | none => s
  | some b => s.setSuperblock { b with valid := b.valid ++ fresh, filled := b.filled + n }

/-- Where staged data goes (R110): into SLC while the occupied native capacity is below slc_size, otherwise native. -/
def State.programSlc (s : State) : State :=
  if s.slcSize ≤ s.media.slcUsed then s
  else
    let s := match s.media.slcOpen with
      | some _ => s
      | none => match s.pickSuperblock s.freeSuperblocks with
        | none => s
        | some b =>
          let s := s.used.setSuperblock { b with usage := .slc }
          s.setMedia { s.media with slcOpen := some b.num, slcUsed := s.media.slcUsed + s.media.geometry.native }
    s

/-- STAGE_PROGRAM (R107, R110, R123): the oldest staged write not yet programmed goes to SLC or native superblocks and
its journal entry opens; a conventional write that finds no superblock even after garbage collection puts the Reservoir
into read-only mode. -/
def execStageProgram (s : State) : Out :=
  match s.media.staged.find? (fun w => !w.programmed) with
  | none => .next s
  | some w =>
    let n := w.data.length / 4096
    let conv := decide (w.lba < s.convBlocks)
    if conv && !s.convFits n && !s.media.gcActive then .next (s.setMedia { s.media with readOnly := true })
    else if conv && !s.convFits n then .next s
    else
      let s := s.programSlc
      let s := if conv then s.placeConv w.lba n else s
      let s := s.health (fun h => { h with mediaBytes := satAdd h.mediaBytes w.data.length })
      let s := s.setMedia { s.media with
        staged := updateFirst (fun x => decide (x.seq = w.seq)) (fun x => { x with programmed := true }) s.media.staged }
      .next (s.journalAdd (.write w.seq))

/-- Move one durable staged write into the contents (R107). -/
def State.settle (s : State) (w : Staged) : State :=
  s.setMedia { s.media with
    data := Memory.writeBytes s.media.data (w.lba * 4096) w.data
    staged := s.media.staged.filter (fun x => decide (x.seq ≠ w.seq))
    unreadable := s.media.unreadable.filter (fun b => decide (b < w.lba) || decide (w.lba + w.data.length / 4096 ≤ b)) }

/-- A new STAGE_SIZE takes effect when the buffer is empty (R124). -/
def State.applyStageSize (s : State) : State :=
  match s.media.stagePending with
  | some g => if s.media.staged.isEmpty
      then s.setMedia { s.media with policy := { s.media.policy with stageGiB := g }, stagePending := none } else s
  | none => s

/-! ### Formatting (R104, R120, R124, R641) -/

/-- Good multi-plane blocks of a die after SPARE_RESERVE, and in stripe sets 0 and 32 after the journal (R641). -/
def State.usableBlocks (s : State) (spare : Nat) (d : NandDie) : Nat :=
  let g := s.media.geometry.blocks - d.bad
  let set := stripeSetOf d.channel d.target
  g - s.media.geometry.blocks * spare / 100 - (if set = 0 ∨ set = 32 then Config.journalBlocks else 0)

/-- Superblocks a stripe set forms (R641): the least count among its 16 dies, none where a die is missing. -/
def State.setCount (s : State) (spare set : Nat) : Nat :=
  let dies := s.media.dies.filter (fun d => decide (stripeSetOf d.channel d.target = set) && !d.failed)
  if dies.length < 16 then 0 else ((dies.map (s.usableBlocks spare)).min?).getD 0

/-- The superblocks after a format: numbered through the stripe sets, erase counts kept and raised by the erase. -/
def State.formSuperblocks (s : State) (spare : Nat) : List Superblock :=
  let per := (List.range 48).flatMap (fun set => List.replicate (s.setCount spare set) set)
  per.mapIdx (fun i set => { num := i, stripeSet := set, reads := List.replicate 16 0,
                             erases := s.blockErases i + 1 })

/-- Format the Reservoir (R104, R120, R124, R641): everything is erased, CONV_SIZE, SPARE_RESERVE and ZONE_COUNT are
fixed, read-only mode ends. -/
def State.format (s : State) (convSize spare : Nat) : State :=
  let g := s.media.geometry
  let conv := convSize / (g.dataBlocks * 4096)
  let sbs := s.formSuperblocks spare
  let c := conv + s.media.policy.gcStop
  let l := slcSuperblocks s.rawCapacity (sbs.length * g.native) g.native
  let sbs := sbs.mapIdx (fun i b => if i < c then { b with usage := .convFree } else b)
  let lost := (s.plan.datasets.flatMap (fun d => d.ingots.map (·.zone))).eraseDups
  let s := lost.foldl (fun s z => s.loseZone z) s
  let dies := s.media.dies.map (fun d => { d with spares := g.blocks * spare / 100, failRun := 0 })
  (s.setMedia { s.media with
    data := [], unreadable := [], convSuperblocks := conv, spareReserve := spare, zoneCount := sbs.length - c - l,
    zones := [], superblocks := sbs, dies := dies, staged := [], waitingWrites := [], journalOpen := [], journal := [],
    journalBytes := 0, relocations := [], gcActive := false, wlActive := false, readOnly := false, slcUsed := 0,
    convOpen := none, slcOpen := none }).health
      (fun h => { h with factoryBad := (dies.map (·.bad)).sum - h.growBad })

/-- MEDIA_FORMAT (R104, R124, R641): IN_PROGRESS; a CONV_SIZE above the largest fails with BAD_PARAM. -/
def execMediaFormat (r : Req) (convSize spareReserve : Nat) (s : State) : Out :=
  .next (s.finish r 0x0804
    (firstReject [s.heldBusy .media, (decide (s.convMax * (s.media.geometry.dataBlocks * 4096) < convSize), badParam 0),
      (outside spareReserve 1 5, badParam 8)])
    ((s.format convSize spareReserve).answerLong r 0x0804 .ok))

/-! ### Policy and health (R124, R125) -/

/-- The checks of MEDIA_POLICY_SET (R124). -/
def mediaPolicyCheck (k : PolicyParams) : Option Reject :=
  firstReject [(outside k.wlSpread 50 5000, badParam 0), (outside k.wlBw 1 10, badParam 2),
    (outside k.rdBaseTlc 10000 1000000, badParam 4), (outside k.rdBaseQlc 5000 1000000, badParam 8),
    (outside k.rdFloor 10 1000, badParam 12), (outside k.gcStart 4 64, badParam 14),
    (outside k.gcStop (k.gcStart + 4) 128, badParam 15), (outside k.stageGiB 1 16, badParam 16)]

/-- MEDIA_POLICY_SET (R124): STAGE_SIZE takes effect when the staging buffer is empty. -/
def execMediaPolicySet (r : Req) (policy : PolicyParams) (s : State) : Out :=
  let s' := (s.setMedia { s.media with policy := { policy with stageGiB := s.media.policy.stageGiB },
                                       stagePending := some policy.stageGiB }).applyStageSize
  .next (s.finish r 0x0801 (mediaPolicyCheck policy) (s'.answer r 0x0801 .ok))

/-- MEDIA_POLICY_GET (R124). -/
def execMediaPolicyGet (r : Req) (s : State) : Out :=
  let k := s.media.policy
  .next (s.finish r 0x0802 none (s.answer r 0x0802 .ok 0 [] [k.wlSpread, k.wlBw, k.rdBaseTlc, k.rdBaseQlc, k.rdFloor, k.gcStart, k.gcStop,
    k.stageGiB, s.media.convSuperblocks * (s.media.geometry.dataBlocks * 4096), s.media.spareReserve]))

/-- The 160 bytes of the media health log (R125). -/
def State.healthLog (s : State) : Bytes :=
  let m := s.media
  let h := m.counters
  let e := (m.superblocks.filter (fun b => decide (b.usage ≠ .retired))).map (·.erases)
  let mean := e.sum / max 1 e.length
  let spares := (m.dies.filter (fun d => !d.failed)).map (·.spares)
  let lostZones := (m.zones.filter (fun z => decide (z.2.status = .readOnly) || decide (z.2.status = .offline))).length
  let minSlc := slcSuperblocks s.rawCapacity 0 m.geometry.native * m.geometry.native
  let flags := (!m.rebuilding.isEmpty).toNat + 2 * m.readOnly.toNat + 4 * (decide (s.slcSize = minSlc)).toNat
  natLe 2 1 ++ natLe 2 flags ++ natLe 2 (m.dies.filter (fun d => !d.failed)).length
    ++ natLe 2 (m.dies.filter (·.failed)).length ++ natLe 8 s.rawCapacity ++ natLe 8 s.freeNative
    ++ natLe 8 s.slcSize ++ natLe 8 m.slcUsed ++ natLe 4 ((e.min?).getD 0) ++ natLe 4 (maxD e 0) ++ natLe 4 mean
    ++ natLe 4 m.geometry.peRated ++ natLe 4 (1000 * mean / m.geometry.peRated) ++ natLe 4 ((spares.min?).getD 0)
    ++ natLe 4 (min h.factoryBad (2 ^ 32 - 1)) ++ natLe 4 lostZones ++ natLe 8 h.growBad ++ natLe 8 h.hostBytes
    ++ natLe 8 h.mediaBytes ++ natLe 8 h.correctedCw ++ natLe 8 h.rebuiltCw ++ natLe 8 h.unrecoveredCw
    ++ natLe 8 h.refreshMoves ++ natLe 8 h.wlMoves ++ natLe 8 h.gcMoves ++ natLe 4 h.recoveries
    ++ natLe 4 h.warmReplays ++ natLe 8 0

/-- MEDIA_HEALTH (R125). -/
def execMediaHealth (r : Req) (s : State) : Out := .next (s.finish r 0x0803 none (s.answer r 0x0803 .ok 0 s.healthLog))

end Sys2Proof.Machine
end

