-- ==== Sys2Proof/Machine/Datasets.lean ====
section
/-! DEFINITION. Datasets, the catalogue, recipes, the job seed and plan handles (chapter 06). Parameter offsets follow
R522 (log entry 8): SOURCE at 0, ADDRESS or LBA at 8, LENGTH at 16. -/

namespace Sys2Proof.Machine

/-! ### Reading what a load names (R180) -/

/-- The lowest unreadable block of a range (R103). -/
def State.unreadableIn (s : State) (lba n : Nat) : Option Nat :=
  (s.media.unreadable.filter (fun b => decide (lba ≤ b) && decide (b < lba + n) && !s.isStaged b)).min?

/-- The bytes of a load's source: the host window, or conventional space by LBA (R180); an unreadable block ends the
command with MEDIA_ERROR and its LBA (R157). -/
def State.loadSource (s : State) (source address length : Nat) : Except Reject Bytes :=
  if source = 0 then
    if inWindow address length then .ok (s.memRead address length) else .error (badParam 8)
  else if source = 1 then
    let n := (length + 4095) / 4096
    if s.convBlocks < address + n then .error (badParam 8)
    else match s.unreadableIn address n with
      | some lba => .error ⟨.mediaError, lba⟩
      | none => .ok ((s.logicalRead address n).take length)
  else .error (badParam 0)

/-! ### Datasets (R157 to R159) -/

/-- The dataset of an identifier. -/
def State.dataset? (s : State) (id : Nat) : Option Dataset := s.plan.datasets.find? (fun d => decide (d.id = id))

/-- `n` bytes from a byte offset of an Ingot. -/
def State.ingotBytes (s : State) (startLba offset n : Nat) : Bytes :=
  let first := startLba + offset / 4096
  let blocks := (offset % 4096 + n + 4095) / 4096
  ((s.logicalRead first blocks).drop (offset % 4096)).take n

/-- Some block of a byte range of an Ingot is unreadable (R103). -/
def State.ingotUnreadable (s : State) (startLba offset n : Nat) : Bool :=
  (s.unreadableIn (startLba + offset / 4096) ((offset % 4096 + n + 4095) / 4096)).isSome

/-- Step 2 of R157: the Ingot lies wholly in one OPEN or FULL zone and ends at or before its write pointer. -/
def State.ingotPlaced (s : State) (e : ManifestEntry) : Bool :=
  let z := s.zone (s.zoneOf e.startLba)
  decide (s.zonedBase ≤ e.startLba) && decide (e.startLba + e.blocks ≤ s.zonedEnd)
    && (decide (z.status = .open) || decide (z.status = .full))
    && decide (e.startLba + e.blocks ≤ s.zoneStart (s.zoneOf e.startLba) + z.wp)

/-- Step 3 of R157: the header is readable, valid and agrees with the manifest entry. -/
def State.ingotHeaderAgrees (s : State) (dataset : Nat) (e : ManifestEntry) : Bool :=
  let h := s.ingotBytes e.startLba 0 64
  !s.ingotUnreadable e.startLba 0 64 && ingotHeaderOk h && decide (fieldAt h 8 8 = dataset)
    && decide (fieldAt h 16 6 = e.firstRecord) && decide (fieldAt h 24 4 = e.count)
    && decide (fieldAt h 40 8 = e.blocks * 4096) && decide (fieldAt h 60 4 = e.headerCrc)

/-- The record index of an Ingot (R149). -/
def State.readIndex (s : State) (e : ManifestEntry) : List (Nat × Nat) := indexOf e.count (s.ingotBytes e.startLba 64 (16 * e.count))

/-- Step 4 of R157: the record index is readable, passes its INDEX_CRC and the rules of R149. -/
def State.ingotIndexOk (s : State) (e : ManifestEntry) : Bool :=
  let h := s.ingotBytes e.startLba 0 64
  let bs := s.ingotBytes e.startLba 64 (16 * e.count)
  !s.ingotUnreadable e.startLba 64 (16 * e.count) && decide (fieldAt h 48 4 = crc32c bs) && indexEntriesOk e.count bs
    && indexRules (fieldAt h 32 8) (fieldAt h 40 8) (indexOf e.count bs)

/-- The first entry that breaks one of steps 2 to 4 of R157, step by step. -/
def State.loadFault (s : State) (dataset : Nat) (es : List ManifestEntry) : Option Nat :=
  let first (ok : ManifestEntry → Bool) : Option Nat := es.findIdx? (fun e => !ok e)
  (first s.ingotPlaced).orElse (fun _ => (first (s.ingotHeaderAgrees dataset)).orElse (fun _ => first s.ingotIndexOk))

/-- Records in the indexes of the loaded datasets (step 5 of R157). -/
def State.indexedRecords (s : State) : Nat := (s.plan.datasets.map (fun d => (d.ingots.map (fun i => i.recordCount)).sum)).sum

/-- The bytes of the index region: 16 GB less for each disabled LPDDR6 channel (R583). -/
def State.indexRegion (s : State) : Nat :=
  220391669760 - 16000000000 * ((List.range 48).filter (fun c => s.units.lpddr6Off.getLsbD c)).length

/-- A loaded Ingot of a manifest entry. -/
def State.loadedIngot (s : State) (e : ManifestEntry) : LoadedIngot :=
  { startLba := e.startLba, firstRecord := e.firstRecord, recordCount := e.count, lengthBlocks := e.blocks
    zone := s.zoneOf e.startLba, index := s.readIndex e }

/-- The outcome of a manifest's checks in the order of R157, with the test of R158 between steps 1 and 2. -/
def State.checkManifest (s : State) (length : Nat) (bs : Bytes) : Option Reject :=
  let es := manifestEntries bs
  if !manifestOk length bs then some ⟨.ingotInvalid, 0xFFFFFFFF⟩
  else match entryFault (fieldAt bs 16 8) es 0 0 with
    | some n => some ⟨.ingotInvalid, n⟩
    | none =>
      if 4 ≤ s.plan.datasets.length ∨ (s.dataset? (fieldAt bs 8 8)).isSome then some ⟨.inUse, 0⟩
      else match s.loadFault (fieldAt bs 8 8) es with
        | some n => some ⟨.ingotInvalid, n⟩
        | none =>
          if s.indexRegion < 16 * (s.indexedRecords + (es.map (fun e => e.count)).sum) then some ⟨.indexSpace, 0⟩ else none

/-- DATASET_LOAD (R157, R158, R639). -/
def execDatasetLoad (r : Req) (source address length : Nat) (s : State) : Out :=
  match s.loadSource source address length with
  | .error e => .next (s.finish r 0x0301 (some e) s)
  | .ok bs =>
    match s.checkManifest length bs with
    | some e => .next (s.finish r 0x0301 none (s.answerLong r 0x0301 e.status e.result))
    | none =>
      let d : Dataset := { id := fieldAt bs 8 8, total := fieldAt bs 16 8, ingots := (manifestEntries bs).map s.loadedIngot }
      .next (s.finish r 0x0301 none
        (({ s with plan := { s.plan with datasets := s.plan.datasets ++ [d] } }).answerLong r 0x0301 .ok))

/-- A loaded plan by handle. -/
def State.plan? (s : State) (h : Nat) : Option Plan := lookup? s.plan.plans h

/-- Armed events of a kind. -/
def State.armedOf (s : State) (k : EventKind) : List ArmedEvent := s.gauge.armed.filter (fun e => decide (e.kind = k))

/-- The plans in force or armed (R180). -/
def State.plansInUse (s : State) : List Plan :=
  ((s.plan.active.map (fun a => [a.2])).getD []) ++ (s.armedOf .planChange).filterMap (fun e => s.plan? e.item)

/-- DATASET_UNLOAD (R180): the device's copy of the catalogue goes with it. -/
def execDatasetUnload (r : Req) (dataset : Nat) (s : State) : Out :=
  let check := firstReject [s.heldBusy (.dataset dataset), ((s.dataset? dataset).isNone, ⟨.notFound, 0⟩),
    (s.plansInUse.any (fun p => decide (p.datasetId = dataset)), ⟨.inUse, 0⟩)]
  let p := { s.plan with datasets := s.plan.datasets.filter (fun d => decide (d.id ≠ dataset)),
                         catalogues := s.plan.catalogues.filter (fun c => decide (c.datasetId ≠ dataset)) }
  .next (s.finish r 0x0302 check (({ s with plan := p }).answer r 0x0302 .ok))

/-- The catalogue of a dataset. -/
def State.catalogue? (s : State) (dataset : Nat) : Option Catalogue :=
  s.plan.catalogues.find? (fun c => decide (c.datasetId = dataset))

/-- DATASET_READ (R180): records, Ingots, lost Ingots, then the catalogue digest, zero while none is built. -/
def execDatasetRead (r : Req) (dataset : Nat) (s : State) : Out :=
  match s.dataset? dataset with
  | none => .next (s.finish r 0x0303 (some ⟨.notFound, 0⟩) s)
  | some d =>
    let digest := match s.catalogue? dataset with | some c => sha256 c.bytes | none => natLe 32 0
    .next (s.finish r 0x0303 none (s.answer r 0x0303 .ok 0 digest [(d.ingots.map (fun i => i.recordCount)).sum, d.ingots.length,
      (d.ingots.filter (fun i => i.lost)).length]))

/-! ### The catalogue (R160, R161) -/

/-- Merge adjacent (first, count) ranges. -/
def mergeRanges : List (Nat × Nat) → List (Nat × Nat)
  | [] => []
  | (a, n) :: rest =>
    match mergeRanges rest with
    | (b, m) :: more => if a + n = b then (a, n + m) :: more else (a, n) :: (b, m) :: more
    | [] => [(a, n)]

/-- This device's merged record ranges of a dataset, with its RECORD_TOTAL (R161 step 1). -/
def State.ownRanges (s : State) (dataset : Nat) : Option (Nat × List (Nat × Nat)) :=
  (s.dataset? dataset).map (fun d => (d.total, mergeRanges (d.ingots.map (fun i => (i.firstRecord, i.recordCount)))))

/-- Put a (first, end, owner) range in ascending order of its first record. -/
def insertRange (x : Nat × Nat × Nat) : List (Nat × Nat × Nat) → List (Nat × Nat × Nat)
  | [] => [x]
  | y :: ys => if x.1 < y.1 then x :: y :: ys else y :: insertRange x ys

/-- The lowest record not covered exactly once (R161 step 2). -/
def coverFault (total : Nat) : List (Nat × Nat × Nat) → Nat → Option Nat
  | [], e => if e < total then some e else none
  | x :: xs, e => if e < x.1 then some e else if x.1 < e then some x.1 else coverFault total xs x.2.1

/-- Catalogue entries: adjacent ranges of one owner are one entry (R160). -/
def catalogueEntries : List (Nat × Nat × Nat) → Option Nat → List (Nat × Nat)
  | [], _ => []
  | x :: xs, prev => if prev = some x.2.2 then catalogueEntries xs prev else (x.1, x.2.2) :: catalogueEntries xs (some x.2.2)

/-- A catalogue from the members' reports (device, RECORD_TOTAL, ranges), or why it cannot be built (R161). -/
def buildCatalogue (dataset : Nat) (reports : List (Nat × Nat × List (Nat × Nat))) : Except Reject Catalogue :=
  match reports with
  | [] => .error ⟨.notFound, 0⟩
  | x :: rest =>
    let least := rest.foldl (fun m y => min m y.2.1) x.2.1
    let all := reports.flatMap (fun y => y.2.2.map (fun q => (q.1, q.1 + q.2, y.1)))
    let sorted := all.foldl (fun l q => insertRange q l) []
    if rest.any (fun y => decide (y.2.1 ≠ x.2.1)) then .error ⟨.catalogueGap, least⟩
    else match coverFault x.2.1 sorted 0 with
      | some n => .error ⟨.catalogueGap, n⟩
      | none =>
        let es := catalogueEntries sorted none
        if 4194304 < es.length then .error ⟨.catalogueFull, 0⟩
        else .ok { datasetId := dataset, total := x.2.1, entries := es }

/-- Store a catalogue, in place of an earlier one of the dataset. -/
def State.storeCatalogue (s : State) (c : Catalogue) : State :=
  { s with plan := { s.plan with
    catalogues := s.plan.catalogues.filter (fun x => decide (x.datasetId ≠ c.datasetId)) ++ [c] } }

/-- Steps 2 and 3 of R161 once every range is in: this device's own and those reported. -/
def State.finishCatalogue (s : State) (r : Req) (dataset : Nat) : State :=
  let own := match s.ownRanges dataset with
    | some (t, l) => [(s.group.set.deviceId, t, l)]
    | none => []
  let others := (s.plan.reports.filter (fun x => decide (x.2.1 = dataset))).map (fun x => (x.1, x.2.2.1, x.2.2.2))
  let s := { s with plan := { s.plan with building := none, reports := s.plan.reports.filter (fun x => decide (x.2.1 ≠ dataset)) } }
  match buildCatalogue dataset (own ++ others) with
  | .error e => s.answer r 0x0304 e.status e.result
  | .ok c => (s.storeCatalogue c).distribute r 0x0304 (.catalogue dataset c.total c.entries) (.build r dataset)

/-- CATALOGUE_BUILD (R161): collect every member's ranges over channel 0, then build and distribute. -/
def execCatalogueBuild (r : Req) (dataset : Nat) (s : State) : Out :=
  let here := s.audience.filter (fun d => decide (d < 128))
  let s' := s.answerInProgress r 0x0304 [.dataset dataset]
  .next (s.finish r 0x0304 (firstReject [s.notManager r, s.heldBusy (.dataset dataset)])
    (if here.isEmpty then s'.finishCatalogue r dataset
     else ({ s' with plan := { s'.plan with building := some (r, dataset, here) } }).sendPiece 0 (.collect dataset)))

/-- A member's answer to a collection (R161 step 1): it reports its ranges, or none. -/
def State.reportRanges (s : State) (dataset : Nat) : State :=
  match s.ownRanges dataset with
  | some (t, l) => s.sendPiece 0 (.ranges dataset t l)
  | none => s.sendPiece 0 (.ranges dataset 0 [])

/-- The manager takes a member's ranges; a member without the dataset reports none and takes no part (R161). -/
def State.takeRanges (s : State) (device dataset total : Nat) (l : List (Nat × Nat)) : State :=
  match s.plan.building with
  | none => s
  | some (r, d, waiting) =>
    if d ≠ dataset then s
    else
      let left := waiting.filter (fun x => decide (x ≠ device))
      let reports := if l.isEmpty then s.plan.reports else s.plan.reports ++ [(device, dataset, total, l)]
      let s := { s with plan := { s.plan with reports := reports, building := some (r, d, left) } }
      if left.isEmpty then s.finishCatalogue r dataset else s

/-! ### Recipes (R181) -/

/-- The least offset at fault, when there is one (R642). -/
def leastFault (l : List Nat) : Option Nat := l.min?

/-- The signature of a recipe is missing or does not verify under the enrolled owner key (R181): charged to FLAGS when
there is none, else to the signature. -/
def State.recipeSigFault (s : State) (bs : Bytes) : List Nat :=
  match s.nor.ownerKey with
  | none => []
  | some key =>
    let n := fieldAt bs 8 4
    if !bitOf (fieldAt bs 12 4) 0 then [12]
    else if Config.ecdsaVerify key (sha256 (bs.take n)) (sliceAt bs n 64) then [] else [n]

/-- The lowest free handle below `n` (R643). -/
def freeHandle (taken : List Nat) (n : Nat) : Option Nat := lowestFree (fun h => taken.contains h) n 0

/-- RECIPE_LOAD (R181, R639, R642, R643): distributed to every member. -/
def execRecipeLoad (r : Req) (source address length : Nat) (s : State) : Out :=
  match firstReject [s.notManager r], s.loadSource source address length with
  | some e, _ => .next (s.finish r 0x0310 (some e) s)
  | none, .error e => .next (s.finish r 0x0310 (some e) s)
  | none, .ok bs =>
    let body := bs.take (fieldAt bs 8 4)
    match leastFault (recipeFaults length bs s.pipe.vocabs s.pipe.dupSets ++ s.recipeSigFault bs),
        freeHandle (s.plan.recipes.map (fun x => x.1)) 16 with
    | some o, _ => .next (s.finish r 0x0310 none (s.answerLong r 0x0310 .recipeInvalid o))
    | none, none => .next (s.finish r 0x0310 none (s.answerLong r 0x0310 .inUse))
    | none, some h =>
      let s' := { s with plan := { s.plan with recipes := s.plan.recipes ++ [(h, body)] } }
      .next (s.finish r 0x0310 none ((s'.answerInProgress r 0x0310 [.recipe h]).distribute r 0x0310 (.recipe h body)
        (.answer r 0x0310 h (sha256 body) []) h (sha256 body)))

/-- RECIPE_DROP (R180). -/
def execRecipeDrop (r : Req) (recipe : Nat) (s : State) : Out :=
  let s' := { s with plan := { s.plan with recipes := erase s.plan.recipes recipe } }
  .next (s.finish r 0x0311 (firstReject [s.notManager r, s.heldBusy (.recipe recipe), (decide (15 < recipe), badParam 0), ((lookup? s.plan.recipes recipe).isNone, ⟨.notFound, 0⟩),
      (decide (s.plan.recipe = some recipe) || (s.armedOf .recipeChange).any (fun e => decide (e.item = recipe)), ⟨.inUse, 0⟩)])
    (s'.forward r 0x0311 (natLe 2 recipe)))

/-! ### The job seed and plan handles (R165, R167) -/

/-- JOB_SEED (R165, R180, R427). -/
def execJobSeed (r : Req) (seed : Bytes) (s : State) : Out :=
  let s' := ({ s with plan := { s.plan with seed := some seed } }).recordNow
  .next (s.finish r 0x0401 (firstReject [s.notManager r, (outside seed.length 32 256, badParam 0),
      (s.plan.active.isSome, ⟨.inUse, 0⟩)])
    (s'.forward r 0x0401 seed))

/-- A DEST names an accelerator port of a member, and side B only in a twin (R167). What ports another member has is the
uninterpreted `Config.memberPort` (log entry 5). -/
def State.destPortOk (s : State) (d : Dest) : Bool :=
  let g := s.group.set
  let known := if d.side = g.side then lookup? s.group.members d.device else lookup? s.group.peers d.device
  let member := match known with
    | some .active | some .serviceLost | some .joining => true
    | _ => decide (d.side = g.side) && decide (d.device = g.deviceId)
  let port := if d.side = g.side ∧ d.device = g.deviceId then
      (s.switch.ports.any (fun p => decide (p.logical = d.port) && decide (p.kind = .accel)))
    else Config.memberPort d.side d.device d.port
  (decide (d.side = 0) || g.twin) && member && port

/-- The faults of a plan as this device sees it (R166, R167, R642). -/
def State.planFaultsHere (s : State) (length : Nat) (bs : Bytes) : List Nat :=
  planFaults length bs ((s.catalogue? (fieldAt bs 8 8)).map (fun c => c.total)) s.destPortOk

/-- PLAN_LOAD (R166, R167, R639, R642, R643): distributed to every member. -/
def execPlanLoad (r : Req) (source address length : Nat) (s : State) : Out :=
  match firstReject [s.notManager r], s.loadSource source address length with
  | some e, _ => .next (s.finish r 0x0402 (some e) s)
  | none, .error e => .next (s.finish r 0x0402 (some e) s)
  | none, .ok bs =>
    match leastFault (s.planFaultsHere length bs), freeHandle (s.plan.plans.map (fun x => x.1)) 16 with
    | some o, _ => .next (s.finish r 0x0402 none (s.answerLong r 0x0402 .planInvalid o))
    | none, none => .next (s.finish r 0x0402 none (s.answerLong r 0x0402 .inUse))
    | none, some h =>
      let s' := { s with plan := { s.plan with plans := s.plan.plans ++ [(h, planOf bs)] } }
      .next (s.finish r 0x0402 none ((s'.answerInProgress r 0x0402 [.plan h]).distribute r 0x0402 (.plan h bs)
        (.answer r 0x0402 h (sha256 bs) []) h (sha256 bs)))

/-- PLAN_DROP (R180). -/
def execPlanDrop (r : Req) (plan : Nat) (s : State) : Out :=
  let s' := { s with plan := { s.plan with plans := erase s.plan.plans plan } }
  let active : Bool := match s.plan.active with | some (h, _) => decide (h = plan) | none => false
  .next (s.finish r 0x0407 (firstReject [s.notManager r, s.heldBusy (.plan plan), (decide (15 < plan), badParam 0), ((s.plan? plan).isNone, ⟨.notFound, 0⟩),
      (active || (s.armedOf .planChange).any (fun e => decide (e.item = plan)), ⟨.inUse, 0⟩)])
    (s'.forward r 0x0407 (natLe 2 plan)))

/-- PLAN_READ (R180): active handle (0xFFFF while none), current epoch, fence, SPE, W, M; the payload is the plan digest. -/
def execPlanRead (r : Req) (s : State) : Out :=
  match s.plan.active with
  | none => .next (s.finish r 0x0403 none (s.answer r 0x0403 .ok 0 (natLe 32 0) [0xFFFF, s.gauge.epoch, s.gauge.fence, 0, 0, 0]))
  | some (h, p) => .next (s.finish r 0x0403 none (s.answer r 0x0403 .ok 0 p.digest [h, s.gauge.epoch, s.gauge.fence, p.spe, p.window, p.reserve]))

/-- The answer of PLAN_QUERY for a position of an epoch (R180): epoch, position, record, owner and the substitutes. -/
def planAnswer (p : Plan) (c : Catalogue) (key : Bytes) (e pos : Nat) : List Nat :=
  let rec_ := p.record key e pos
  [e, pos, rec_, (c.owner rec_).getD 0xFFFF]
    ++ (List.range p.subTries).map (fun a => p.record key e (p.attemptPosition pos (a + 1)))

/-- The checks of PLAN_QUERY's operands by mode (R168, R180). -/
def planQueryRange (p : Plan) (mode a b c : Nat) : List (Bool × Reject) :=
  if mode = 0 then [(decide (a < p.startStep) || decide (p.lastStep < a), badParam 8),
      (decide (p.dests.length ≤ b), badParam 16), (decide (p.perDest ≤ c), badParam 20)]
  else [(decide (2 ^ 32 ≤ a), badParam 4), (decide (p.total ≤ b), badParam 8)]

/-- PLAN_QUERY (R164 to R169, R180): mode 0 step, d, k; mode 1 epoch, position; mode 2 epoch, record. -/
def execPlanQuery (r : Req) (plan mode a b c : Nat) (s : State) : Out :=
  let bad (e : Reject) : Out := .next (s.finish r 0x0404 (some e) s)
  if 15 < plan then bad (badParam 0)
  else if 2 < mode then bad (badParam 2)
  else match s.plan? plan with
    | none => bad ⟨.notFound, 0⟩
    | some p =>
      match firstReject (planQueryRange p mode a b c), s.catalogue? p.datasetId with
      | some e, _ => bad e
      | none, none => bad ⟨.notFound, 0⟩
      | none, some cat =>
        let vs := if mode = 0 then planAnswer p cat s.jobKey (p.epochOf a) (p.positionOf a b c)
          else if mode = 1 then planAnswer p cat s.jobKey a b
          else planAnswer p cat s.jobKey a (p.unrecord s.jobKey a b)
        .next (s.finish r 0x0404 none (s.answer r 0x0404 .ok 0 [] vs))

end Sys2Proof.Machine
end

