-- ==== Sys2Proof/Machine/Gauge.lean ====
section
/-! DEFINITION. The Gauge: filtering of frames, summaries, publication, hold, settings, arming of Weirs and the
timebase (chapter 02). What a publication or an opening fires is in `GaugeEvents`. -/

namespace Sys2Proof.Machine

/-! ### Ports and sources -/

/-- The configured port of a logical number (R443). -/
def State.port? (s : State) (p : Nat) : Option Port := s.switch.ports.find? (fun x => decide (x.logical = p))

/-- The port is an accelerator port, so a Gauge source (R55, R445). -/
def State.isAccel (s : State) (p : Nat) : Bool :=
  match s.port? p with
  | some x => decide (x.kind = .accel)
  | none => false

/-- Index of a port within its type: the `a` of R612's blocks. -/
def State.portIndex (s : State) (p : Nat) : Nat := ((s.port? p).map (·.index)).getD p

/-- The Gauge source of a port (R55). -/
def State.source (s : State) (p : Nat) : GaugeSource :=
  (s.gauge.sources.find? (fun x => decide (x.port = p))).getD { port := p }

/-- Put a source's state back. -/
def State.setSource (s : State) (x : GaugeSource) : State :=
  let known := s.gauge.sources.any (fun y => decide (y.port = x.port))
  let l := if known then updateFirst (fun y => decide (y.port = x.port)) (fun _ => x) s.gauge.sources
    else s.gauge.sources ++ [x]
  { s with gauge := { s.gauge with sources := l } }

/-- Seed a source with a Gauge (R56): the arrival time becomes minus infinity and the rejection count 0. -/
def seedSource (x : GaugeSource) (g : Gauge) (now : Nat) : GaugeSource :=
  { x with lastStep := g.step, lastMark := g.mark, lastTime := none, rejects := 0, lastAdvance := some now,
           stepInterval := none, measStep := g.step, measMark := g.mark }

/-- Seed every source with the job's start Gauge (R56, R438, R510). -/
def State.seedAll (s : State) (g : Gauge) : State :=
  { s with gauge := { s.gauge with sources := s.gauge.sources.map (fun x => seedSource x g s.now) } }

/-! ### Filtering (R57 to R59) -/

/-- The reasons of R58, with 0 for an accepted frame. -/
inductive GaugeVerdict where
  | malformed | wrongJob | rate | backward | jump | window | accepted (d mark : Nat)
  deriving DecidableEq, Repr

/-- The value of a rejection reason (R58). -/
def GaugeVerdict.reason : GaugeVerdict → Nat
  | .malformed => 1 | .wrongJob => 2 | .rate => 3 | .backward => 4 | .jump => 5 | .window => 6 | .accepted _ _ => 0

/-- gauge_frame of R57 up to its verdict, on the payload of R53. -/
def State.judgeFrame (s : State) (x : GaugeSource) (payload : Bytes) : GaugeVerdict :=
  let mark := fieldAt payload 1 1
  let stepLo := fieldAt payload 4 4
  let d := (stepLo + 2 ^ 32 - x.lastStep % 2 ^ 32) % 2 ^ 32
  if fieldAt payload 0 1 ≠ 1 ∨ mark ≥ 16 ∨ !((payload.drop 8).all (· = 0)) then .malformed
  else if fieldAt payload 2 2 ≠ s.gauge.jobTag ∨ s.gauge.jobTag = 0 then .wrongJob
  else if s.within x.lastTime (s.us 2) then .rate
  else if d = 2 ^ 31 then .window
  else if d > 2 ^ 31 then .backward
  else if d > s.gauge.maxJump then .jump
  else if d = 0 ∧ mark < x.lastMark then .backward
  else .accepted d mark

/-- The measurements of an accepted frame (R613): held while the source is excluded. -/
def State.measure (s : State) (x : GaugeSource) (d : Nat) : GaugeSource :=
  if x.excluded then x
  else if d = 0 then { x with measStep := x.lastStep, measMark := x.lastMark }
  else
    let t := s.cyclesNs (s.now - x.lastAdvance.getD s.now)
    let iv := match x.stepInterval with
      | none => t / d
      | some v => if v ≤ t / d then v + (t / d - v) / 16 else v - (v - t / d + 15) / 16
    { x with measStep := x.lastStep, measMark := x.lastMark, lastAdvance := some s.now, stepInterval := some iv }

/-- Accept a frame (R57): 64-bit reconstruction of the step, mark, arrival time, rejection count. -/
def State.acceptFrame (s : State) (x : GaugeSource) (d mark : Nat) : State :=
  let y := { x with lastStep := x.lastStep + d, lastMark := mark, lastTime := some s.now, rejects := 0 }
  s.setSource (s.measure y d)

/-- Reject a frame (R57, R58): the eighth consecutive rejection quarantines the source. -/
def State.rejectFrame (s : State) (x : GaugeSource) (reason : Nat) : State :=
  let s := s.count (.gauge (s.portIndex x.port) reason)
  let n := x.rejects + 1
  if n = 8 then
    (s.setSource { x with rejects := n, quarantined := true }).raise .gaugeSourceQuarantined x.port
  else s.setSource { x with rejects := n }

/-- A Gauge frame on a port (R53 to R59): on a port that is not an accelerator port it is dropped as GAUGE_PORT; a
quarantined source's is discarded and counted. -/
def State.takeGaugeFrame (s : State) (port : Nat) (payload : Bytes) : State :=
  if !s.isAccel port then s.count (.port port 10)
  else
    let x := s.source port
    if x.quarantined then s.count (.gauge (s.portIndex port) 7)
    else match s.judgeFrame x payload with
      | .accepted d mark => s.acceptFrame x d mark
      | v => s.rejectFrame x v.reason

/-- GAUGE_FRAME (R53 to R59). -/
def execGaugeFrame (port : Nat) (payload : Bytes) (s : State) : Out := .next (s.takeGaugeFrame port payload)

/-! ### Summaries and publication (R60 to R63) -/

/-- The earlier of two Gauges. -/
def Gauge.earlier (a b : Gauge) : Gauge := if Gauge.lt b a then b else a

/-- The later of two Gauges. -/
def Gauge.later (a b : Gauge) : Gauge := if Gauge.lt a b then b else a

/-- A source's last accepted Gauge. -/
def sourceGauge (x : GaugeSource) : Gauge := ⟨x.lastStep, x.lastMark⟩

/-- Local minimum and maximum over the sources that are not excluded; quarantined ones count (R60). -/
def State.summary (s : State) : Option (Gauge × Gauge) :=
  match s.gauge.sources.filter (fun x => !x.excluded && s.isAccel x.port) with
  | [] => none
  | x :: xs => some (xs.foldl (fun g y => Gauge.earlier g (sourceGauge y)) (sourceGauge x),
                     xs.foldl (fun g y => Gauge.later g (sourceGauge y)) (sourceGauge x))

/-- The manager takes a member's summary, or ignores and counts one that goes backward (R62). -/
def State.takeSummary (s : State) (device : Nat) (lo hi : Gauge) : State :=
  let g := s.gauge
  match g.summaries.find? (fun x => decide (x.device = device)) with
  | none => { s with gauge := { g with summaries := g.summaries ++ [{ device := device, lo := lo, hi := hi }] } }
  | some x =>
    let y := if Gauge.lt lo x.lo || Gauge.lt hi x.hi then { x with ignored := x.ignored + 1 }
      else { x with lo := lo, hi := hi }
    { s with gauge := { g with summaries := updateFirst (fun z => decide (z.device = device)) (fun _ => y) g.summaries } }

/-- DEVICE_SUMMARY_SEND (R60, R504): at most one summary per 1 us, when a value has changed or 1 ms has passed. The
manager's own goes straight into its reduction. -/
def execDeviceSummarySend (s : State) : Out :=
  match s.summary with
  | none => .next s
  | some (lo, hi) =>
    if s.within s.gauge.sentSummaryAt (s.us 1) then .next s
    else if s.gauge.sentSummary = some (lo, hi) ∧ s.within s.gauge.sentSummaryAt (s.ms 1) then .next s
    else
      let s' := { s with gauge := { s.gauge with sentSummary := some (lo, hi), sentSummaryAt := some s.now } }
      .next (if s.isManager then s'.takeSummary s.group.set.deviceId lo hi else s'.sendPiece 1 (.summary lo hi))

/-- SUMMARY_RECEIVE (R62, R504): on the manager only, and not from a member removed from the membership. -/
def execSummaryReceive (device : Nat) (lo hi : Gauge) (s : State) : Out :=
  if !s.isManager then .next s
  else
    let removed := s.gauge.summaries.any (fun x => decide (x.device = device) && x.removed)
    let s := { s with group := { s.group with heard := assign s.group.heard device s.now } }
    .next (if removed then s else s.takeSummary device lo hi)

/-- The minimum of minima and maximum of maxima of summaries. -/
def reduceOf : List Summary → Option (Gauge × Gauge)
  | [] => none
  | x :: xs => some (xs.foldl (fun g y => Gauge.earlier g y.lo) x.lo, xs.foldl (fun g y => Gauge.later g y.hi) x.hi)

/-- The manager's reduction over its side's members that are not removed (R61). -/
def State.reduced (s : State) : Option (Gauge × Gauge) :=
  reduceOf (s.gauge.summaries.filter (fun x => !x.removed && decide (x.device < 128)))

/-- An acting manager's reduction over the other side's members, whose summaries carry their ID plus 128 (R506). -/
def State.reducedFar (s : State) : Option (Gauge × Gauge) :=
  reduceOf (s.gauge.summaries.filter (fun x => !x.removed && decide (128 ≤ x.device)))

/-- The fence the manager publishes with a leading step (R175, R176): the greater of its previous value and the leading
step + PREP_HORIZON, held below the target of every event whose acknowledgements are awaited. -/
def State.nextFence (s : State) (leading : Nat) : Nat :=
  let want := max s.gauge.pubFence (leading + s.gauge.horizon)
  let cap := s.gauge.fenceHolds.foldl (fun m h => min m (h.2 - 1)) want
  max s.gauge.pubFence cap

/-- TWIN_LAG (R512): the side A manager raises it, at most once per 1 s, when a side's committed step leads by more than
the setting. -/
def State.checkTwinLag (s : State) : State :=
  match s.gauge.peerSide with
  | none => s
  | some (c, _) =>
    let mine := s.gauge.pubCommitted.step
    let gap := if mine ≤ c.step then c.step - mine else mine - c.step
    if s.group.set.twin ∧ s.group.set.side = 0 ∧ s.isManager ∧ gap > s.group.set.twinLag
        ∧ !s.within s.gauge.twinLagAt (s.seconds 1) then
      ({ s with gauge := { s.gauge with twinLagAt := some s.now } }).raise .twinLag gap
    else s

/-- Publish this side's values and fence when any has changed (R61, R175, R512). -/
def State.publishHere (s : State) : State := match s.reduced with
  | none => s
  | some (lo, hi) =>
    let c := Gauge.later s.gauge.pubCommitted lo
    let l := Gauge.later s.gauge.pubLeading hi
    let f := s.nextFence l.step
    if c = s.gauge.pubCommitted ∧ l = s.gauge.pubLeading ∧ f = s.gauge.pubFence then s
    else
      let s1 := { s with gauge := { s.gauge with pubCommitted := c, pubLeading := l, pubAt := some s.now, pubFence := f } }
      let s2 := if s.audience.any (fun d => decide (d < 128)) then (s1.sendPiece 1 (.publication c l f)).sendPiece 0 (.item (.fence f)) else s1
      let s3 := if s.group.set.twin ∧ !s.group.acting then { s2 with sent := s2.sent ++ [.twin (.publication c l f)] } else s2
      s3.checkTwinLag

/-- An acting manager publishes the other side's values and fence to its relay (R506, R512). -/
def State.publishFar (s : State) : State := match (if s.group.acting then s.reducedFar else none) with
  | none => s
  | some (lo, hi) =>
    let old := s.gauge.peerSide.getD (⟨0, 0⟩, ⟨0, 0⟩)
    let c := Gauge.later old.1 lo
    let l := Gauge.later old.2 hi
    let want := max s.gauge.peerFence (l.step + s.gauge.horizon)
    let f := max s.gauge.peerFence (s.gauge.fenceHolds.foldl (fun m h => min m (h.2 - 1)) want)
    if s.gauge.peerSide = some (c, l) ∧ f = s.gauge.peerFence then s
    else
      let s1 := { s with gauge := { s.gauge with peerSide := some (c, l), pubAt := some s.now, peerFence := f } }
      { s1 with sent := s1.sent ++ [.twin (.publication c l f), .twin (.item (.fence f))] }

/-- GAUGE_PUBLISH (R61, R175, R506, R512): the manager publishes both values and the fence when any has changed, at most once
per 1 us; no published value decreases. -/
def execGaugePublish (s : State) : Out :=
  .next (if !s.isManager ∨ s.within s.gauge.pubAt (s.us 1) then s else (s.publishHere).publishFar)

/-! ### Hold and settings (R64, R66) -/

/-- GAUGE_TIMEOUT_EXPIRY (R64): the device enters Gauge hold and raises GAUGE_HOLD. -/
def execGaugeTimeoutExpiry (s : State) : Out :=
  if s.gauge.hold then .next s
  else .next (({ s with gauge := { s.gauge with hold := true } }).raise .gaugeHold)

/-- The ranges of the Gauge settings (R66). -/
def gaugeConfigCheck (r : Req) (jobTag maxJump timeout horizon lead : Nat) (s : State) : Option Reject :=
  firstReject [s.notManager r,
    (outside jobTag 1 0xFFFF, badParam 0), (outside maxJump 1 1024, badParam 2),
    (outside timeout 1 3600, badParam 4), (outside horizon 1 64, badParam 8), (outside lead 2 1000, badParam 12)]

/-- GAUGE_CONFIG (R66): sets the five settings and distributes them. -/
def execGaugeConfig (r : Req) (jobTag maxJump timeout horizon lead : Nat) (s : State) : Out :=
  let s' := { s with gauge := { s.gauge with jobTag := jobTag, maxJump := maxJump, timeoutS := timeout,
                                             horizon := horizon, weirLead := lead } }
  .next (s.finish r 0x0410 (gaugeConfigCheck r jobTag maxJump timeout horizon lead s)
    (s'.forward r 0x0410 (natLe 2 jobTag ++ natLe 2 maxJump ++ natLe 4 timeout ++ natLe 2 horizon ++ natLe 4 lead)))

/-- What GAUGE_READ reports of one source (R58). -/
def State.sourceReport (s : State) (x : GaugeSource) : List Nat :=
  [x.port, x.lastStep, x.lastMark, x.rejects, x.quarantined.toNat, x.excluded.toNat]
    ++ (List.range 7).map (fun i => s.counter (.gauge (s.portIndex x.port) (i + 1)))

/-- GAUGE_READ (R58): the device's Gauge state and each source's state and counters. -/
def execGaugeRead (r : Req) (port : Nat) (s : State) : Out :=
  let chosen := s.gauge.sources.filter (fun x => decide (port = 0xFFFF) || decide (x.port = port))
  let g := s.gauge
  .next (s.finish r 0x0411
    (firstReject [(decide (255 < port) && decide (port ≠ 0xFFFF), badParam 0),
      (decide (port ≠ 0xFFFF) && !s.isAccel port, ⟨.notFound, 0⟩)])
    (s.answer r 0x0411 .ok 0 []
      ([g.committed.step, g.committed.mark, g.leading.step, g.leading.mark, g.fence, g.hold.toNat, g.jobTag, g.maxJump,
        g.timeoutS, g.horizon, g.weirLead] ++ chosen.flatMap s.sourceReport)))

/-- GAUGE_SOURCE_CTRL (R59): RELEASE seeds the source and resumes filtering; EXCLUDE removes it from the reconciliation.
Both end a quarantine. -/
def execGaugeSourceCtrl (r : Req) (port action mark step : Nat) (s : State) : Out :=
  let x := s.source port
  let y := if action = 0 then { seedSource x ⟨step, mark⟩ s.now with quarantined := false, excluded := false }
    else { x with excluded := true, quarantined := false, rejects := 0 }
  .next (s.finish r 0x0412
    (firstReject [(decide (255 < port), badParam 0), (decide (1 < action), badParam 2), (decide (15 < mark), badParam 3),
      (!s.isAccel port, ⟨.notFound, 0⟩)])
    ((s.setSource y).answer r 0x0412 .ok))

/-! ### Arming a Weir and its status (R77, R78) -/

/-- A Weir is armed and has not opened (R77). -/
def State.weirBusy (s : State) : Bool :=
  match s.gauge.weir with
  | none => false
  | some w => decide (w.phase = .armed) || decide (w.phase = .sent)

/-- The checks of WEIR_ARM (R77): ACTIONS [0] start of feed, [1] gate list, [2] release, [3] both sides. -/
def weirArmCheck (r : Req) (mark actions step gateList : Nat) (s : State) : Option Reject :=
  firstReject [s.notManager r,
    (decide (15 < mark), badParam 0),
    (decide (15 < actions) || (bitOf actions 3 && !s.group.set.twin), badParam 1),
    (bitOf actions 1 && decide (63 < gateList), badParam 16),
    (bitOf actions 1 && !s.switch.gateLists.any (fun l => decide (l.handle = gateList)), ⟨.notFound, 0⟩),
    (!Gauge.lt s.gauge.pubCommitted ⟨step, mark⟩, ⟨.gaugePast, 0⟩),
    (s.weirBusy, ⟨.weirBusy, 0⟩)]

/-- Arm a Weir here and on every member (R77, R78 step 1). -/
def State.armWeir (s : State) (target : Gauge) (a : WeirActions) : State :=
  { s with gauge := { s.gauge with weir := some { target := target, actions := a } } }

/-- WEIR_ARM (R77). -/
def execWeirArm (r : Req) (mark actions step gateList : Nat) (s : State) : Out :=
  let a : WeirActions := { startFeed := bitOf actions 0, gateList := if bitOf actions 1 then some gateList else none,
                           releasePipeline := bitOf actions 2, bothSides := bitOf actions 3 }
  .next (s.finish r 0x0420 (weirArmCheck r mark actions step gateList s)
    ((s.armWeir ⟨step, mark⟩ a).distribute r 0x0420 (.weir ⟨step, mark⟩ a) (.weir r 0x0420)))

/-- The members whose opening acknowledgement is still missing (R78 step 7). -/
def State.weirMissing (s : State) (w : Weir) : Bool :=
  s.audience.any (fun d => decide (d < 128) && !w.acks.any (fun a => decide (a.1 = d)))

/-- WEIR_STATUS (R78): 0 none, 1 armed, 2 sent, 3 opened here, 4 OPEN with every acknowledgement in; then target,
t_open and the greatest lateness. -/
def execWeirStatus (r : Req) (s : State) : Out :=
  match s.gauge.weir with
  | none => .next (s.finish r 0x0421 none (s.answer r 0x0421 .ok 0 [] [0]))
  | some w =>
    let st := match w.phase with
      | .armed => 1 | .sent => 2
      | .opened => if s.weirMissing w then 3 else 4
      | .reported => 4
    .next (s.finish r 0x0421 none (s.answer r 0x0421 .ok 0 []
      [st, w.target.step, w.target.mark, w.tOpen.getD 0, maxD (w.acks.map (·.2)) w.lateness]))

/-! ### The timebase (R74, R76) -/

/-- TIMEBASE_CORRECTION_SEND (R76): the manager sends its count, but in CLK_MODE 0b10 only while it
folds the ring (R503). -/
def execTimebaseCorrectionSend (s : State) : Out :=
  if s.isManager ∧ (s.power.clkMode ≠ 2#2 ∨ s.group.folded) then .next (s.sendPiece 2 (.correction s.gauge.timebase)) else .next s

/-- TIMEBASE_CORRECTION_RECEIVE (R74, R76, R592): a device that does not follow ring-in; the difference from the manager's count, moved by the measured ring delay,
is slewed from now on at 1 cycle per 4,096. -/
def execTimebaseCorrectionReceive (count : Nat) (s : State) : Out :=
  if s.isManager ∨ s.power.tbRing then .next s
  else
    let target : Int := count + s.gauge.delayPs * s.fuse.clockBin / 10000
    .next { s with gauge := { s.gauge with slew := target - s.gauge.timebase } }

/-- One ACLK cycle: wall-clock time and the timebase advance, the latter slewed by at most 1 cycle in 4,096 (R74, R76). -/
def State.tick (s : State) : State :=
  let g := s.gauge
  let due := decide (g.slewPhase + 1 = 4096)
  let d : Nat := if due && decide (0 < g.slew) then 2 else if due && decide (g.slew < 0) then 0 else 1
  { s with now := s.now + 1
           gauge := { g with timebase := (g.timebase + d) % 2 ^ 64
                             slewPhase := (g.slewPhase + 1) % 4096
                             slew := if due && decide (0 < g.slew) then g.slew - 1
                               else if due && decide (g.slew < 0) then g.slew + 1 else g.slew } }

end Sys2Proof.Machine
end

