-- ==== Sys2Proof/Machine/Pools.lean ====
section
/-! DEFINITION. The buffer pool manager (chapter 03): allocation, hand-off, return, the cache, and the pool commands. -/

namespace Sys2Proof.Machine

/-- The pool of a number (R80). -/
def State.pool? (s : State) (n : Nat) : Option Pool := s.pools.pools.find? (fun p => decide (p.num = n))

/-- Change one pool. -/
def State.setPool (s : State) (p : Pool) : State :=
  { s with pools := { s.pools with pools := updateFirst (fun q => decide (q.num = p.num)) (fun _ => p) s.pools.pools } }

/-- A reserved requester ID: its quota is always 0 (R84, R87). -/
def reservedRequester (q : Nat) : Bool := q = 62 || q = 63 || (192 ≤ q && q ≤ 239)

/-- Buffers a requester holds (R84). -/
def Pool.heldBy (p : Pool) (q : Nat) : Nat := (p.held.filter (fun h => decide (h.2 = q))).length

/-- A requester's quota (R84). -/
def Pool.quota (p : Pool) (q : Nat) : Nat := if reservedRequester q then 0 else lookupD p.quotas q 0

/-- Free pointers in ring and cache (R83). -/
def Pool.free (p : Pool) : Nat := p.count - p.held.length

/-- The `k`-th buffer index that no entry of `held` (indices rising, from `i`) names. -/
def kthFree : List (Nat × Nat) → Nat → Nat → Nat
  | [], i, k => i + k
  | (j, _) :: rest, i, k => if i + k < j then i + k else kthFree rest (j + 1) (k - (j - i))

/-- Enter a holder, keeping indices rising. -/
def insertHeld (i q : Nat) : List (Nat × Nat) → List (Nat × Nat)
  | [] => [(i, q)]
  | (j, r) :: rest => if i < j then (i, q) :: (j, r) :: rest else (j, r) :: insertHeld i q rest

/-- The pointer of buffer `i` of a pool (R80, R81). -/
def Pool.pointer (p : Pool) (i : Nat) : Nat :=
  (p.base + i * p.bufSize) % 2 ^ 40 + p.space * 2 ^ 40 + p.num * 2 ^ 41

/-- Outcome of an allocation (R83, R85). -/
inductive Alloc where
  | granted (pointer : Nat) | failed (st : Status) | waits
  deriving DecidableEq, Repr

/-- Count a failed allocation (R93, R612). -/
def State.allocFailed (s : State) (n q : Nat) (st : Status) : State :=
  let s := match s.pool? n with
    | some p => s.setPool { p with fails := assign p.fails q (lookupD p.fails q 0 + 1) }
    | none => s
  s.count (.pool n (if st = .poolEmpty then 1 else 2))

/-- Which free buffer a grant gives is open (R82 fixes no order): a free value among the free ones not returned in this
very cycle (R92). -/
def State.pickBuffer (s : State) (p : Pool) : Nat :=
  let barred := match p.lastReturn with
    | some (c, i) => if c = s.fclk then insertHeld i 0 p.held else p.held
    | none => p.held
  kthFree barred 0 (s.free % (p.count - barred.length))

/-- Free pointers that may be granted now: one returned in this cycle waits for the next (R92). -/
def State.grantable (s : State) (p : Pool) : Nat :=
  match p.lastReturn with
  | some (c, _) => if c = s.fclk then p.free - 1 else p.free
  | none => p.free

/-- An allocation that won arbitration (R83, R85). -/
def State.allocate (s : State) (n q : Nat) : State × Alloc :=
  match s.pool? n with
  | none => (s.allocFailed n q .quota, .failed .quota)
  | some p =>
    if p.quota q ≤ p.heldBy q then (s.allocFailed n q .quota, .failed .quota)
    else if s.grantable p = 0 then (s.allocFailed n q .poolEmpty, .failed .poolEmpty)
    else if p.cached = 0 then (s, .waits)
    else
      let i := s.pickBuffer p
      let p' := { p with held := insertHeld i q p.held, cached := p.cached - 1 }
      ((s.used.setPool p').count (.pool n 0), .granted (p.pointer i))

/-- Refill a pool's cache with up to 128 pointers of its ring, when it holds 64 or fewer and the ring is not empty
(R82). -/
def Pool.refill (p : Pool) : Pool :=
  let ring := p.free - p.cached
  if p.cached ≤ 64 ∧ 0 < ring then { p with cached := p.cached + min 128 ring } else p

/-- An engine's allocation inside another command: an empty cache is refilled first (R82, R83). -/
def State.allocateNow (s : State) (n q : Nat) : State × Alloc :=
  match s.pool? n with
  | some p => (if p.cached = 0 then s.setPool p.refill else s).allocate n q
  | none => s.allocate n q

/-- A requester type that retries on the next return to the pool (R87). -/
def retriesOnReturn (q : Nat) : Bool := q ≤ 61 || (128 ≤ q && q ≤ 191)

/-- Finish a host requester's allocation in its ALLOC block (R571). -/
def State.hostAlloc (s : State) (q : Nat) (st pointer : Nat) : State :=
  if 240 ≤ q ∧ q ≤ 254 then
    let h := q - 240
    let b := s.link.alloc.getD h {}
    let b' := { b with done := true, status := st, pointer := pointer, waitingPool := none }
    { s with link := { s.link with alloc := s.link.alloc.set h b' } }
  else s

/-- What follows an allocation for its requester (R83, R87, R571). -/
def State.afterAlloc (s : State) (n q : Nat) : Alloc → State
  | .granted ptr => s.hostAlloc q 0 ptr
  | .failed st =>
    let s := s.hostAlloc q st.value 0
    if retriesOnReturn q then { s with pools := { s.pools with waitReturn := s.pools.waitReturn ++ [(n, q)] } } else s
  | .waits => { s with pools := { s.pools with waitRefill := s.pools.waitRefill ++ [(n, q)] } }

/-- POOL_ALLOCATE (R83, R85, R87, R92): among the requesters ready for the pool the rotating-priority arbiter picks one,
and its allocation is decided. -/
def execPoolAllocate (pool : Nat) (ready : List Nat) (s : State) : Out :=
  let ptr := ((s.pool? pool).map (·.arb)).getD 0
  match arbWinner ptr (ready.filter (fun q => decide (q < 256))) with
  | none => .next s
  | some q =>
    let s1 := match s.pool? pool with
      | some p => s.setPool { p with arb := arbNext 256 q }
      | none => s
    let s2 := { s1 with pools := { s1.pools with retrying := s1.pools.retrying.erase (pool, q) } }
    let (s3, a) := s2.allocate pool q
    .next (s3.afterAlloc pool q a)

/-! ### Returns (R89 to R91) -/

/-- Check a returned pointer (R89): the reason value, or the buffer index. -/
def State.checkReturn (s : State) (q pointer : Nat) : Nat × Nat :=
  let n := bitsOf pointer 46 41
  let a := bitsOf pointer 39 0
  if pointer / 2 ^ 47 ≠ 0 then (1, 0)
  else match s.pool? n with
    | none => (2, 0)
    | some p =>
      if bitsOf pointer 40 40 ≠ p.space then (3, 0)
      else if a < p.base ∨ p.base + p.count * p.bufSize ≤ a then (4, 0)
      else if (a - p.base) % p.bufSize ≠ 0 then (5, 0)
      else
        let i := (a - p.base) / p.bufSize
        match lookup? p.held i with
        | none => (6, i)
        | some owner => if owner = q then (0, i) else (7, i)

/-- The three actions of a refused return (R90). -/
def State.refuseReturn (s : State) (q pointer reason : Nat) : State :=
  let n := bitsOf pointer 46 41
  let s := (s.count (.pool n (2 + reason))).logEntry .pool reason q [n, pointer, reason]
  match s.pool? n with
  | some p =>
    if s.within p.badReturnAt (s.ms 1) then s
    else (s.setPool { p with badReturnAt := some s.now }).raise .poolBadReturn n
  | none =>
    if s.within (lookup? s.pools.strayAt n) (s.ms 1) then s
    else ({ s with pools := { s.pools with strayAt := assign s.pools.strayAt n s.now } }).raise .poolBadReturn n

/-- Put an accepted buffer back: it enters the cache, and requests held for a return to the pool are presented again
(R82, R87, R92). -/
def State.freeBuffer (s : State) (n i : Nat) : State :=
  match s.pool? n with
  | none => s
  | some p =>
    let s := s.setPool { p with held := erase p.held i, cached := p.cached + 1, lastReturn := some (s.fclk, i) }
    let (mine, others) := s.pools.waitReturn.partition (fun w => decide (w.1 = n))
    { s with pools := { s.pools with waitReturn := others, retrying := s.pools.retrying ++ mine } }

/-- Return a pointer (R89, R90); the reason value is 0 when accepted. -/
def State.returnBuffer (s : State) (q pointer : Nat) : State × Nat :=
  let (reason, i) := s.checkReturn q pointer
  if reason = 0 then (s.freeBuffer (bitsOf pointer 46 41) i, 0)
  else (s.refuseReturn q pointer reason, reason)

/-- BUFFER_RETURN (R89, R90, R92). -/
def execBufferReturn (requester pointer : Nat) (s : State) : Out := .next (s.returnBuffer requester pointer).1

/-- BUFFER_HANDOFF (R40, R86): the owner moves to another requester ID and never fails on quota. A requester that does
not hold the buffer hands nothing off. -/
def execBufferHandoff (pointer holder receiver : Nat) (s : State) : Out :=
  match s.checkReturn holder pointer, s.pool? (bitsOf pointer 46 41) with
  | (0, i), some p => .next (s.setPool { p with held := assign p.held i receiver })
  | _, _ => .next s

/-- Return every buffer a requester ID owns, in every pool (R91). -/
def State.returnAllOf (s : State) (q : Nat) : State :=
  let one (p : Pool) : Pool :=
    let kept := p.held.filter (fun h => decide (h.2 ≠ q))
    { p with held := kept, cached := p.cached + (p.held.length - kept.length) }
  { s with pools := { s.pools with pools := s.pools.pools.map one } }

/-! ### The cache (R82) -/

/-- Serve the allocations that waited for a refill, oldest first (R83). -/
def State.serveRefill (s : State) (n : Nat) : List (Nat × Nat) → State
  | [] => s
  | (m, q) :: rest =>
    if m = n then
      let (s', a) := s.allocate n q
      (s'.afterAlloc n q a).serveRefill n rest
    else
      ({ s with pools := { s.pools with waitRefill := s.pools.waitRefill ++ [(m, q)] } }).serveRefill n rest

/-- POOL_CACHE_REFILL (R82, R83). -/
def execPoolCacheRefill (pool : Nat) (s : State) : Out :=
  match s.pool? pool with
  | none => .next s
  | some p =>
    let waiting := s.pools.waitRefill
    let s := s.setPool p.refill
    .next (({ s with pools := { s.pools with waitRefill := [] } }).serveRefill pool waiting)

/-- POOL_CACHE_SPILL (R82): at 448 entries or more, 128 go to the ring. -/
def execPoolCacheSpill (pool : Nat) (s : State) : Out :=
  match s.pool? pool with
  | some p => .next (if 448 ≤ p.cached then s.setPool { p with cached := p.cached - 128 } else s)
  | none => .next s

/-! ### Commands (R93) -/

/-- Start and end of the pool region of LPDDR6 (R583). -/
def poolRegionStart : Nat := 0x0F80000000
def poolRegionEnd : Nat := 0x5F80000000

/-- The least power of two not below `n` (ring entries of R80), by fuel. -/
def roundPow2 : Nat → Nat → Nat → Nat
  | 0, p, _ => p
  | f + 1, p, n => if n ≤ p then p else roundPow2 f (2 * p) n

/-- Bytes of a pool's buffers, free ring and held table (R80): (SPACE, start, length). -/
def Pool.extents (p : Pool) : List (Nat × Nat × Nat) :=
  [(p.space, p.base, p.count * p.bufSize), (0, p.ringBase, 8 * roundPow2 25 1 p.count), (0, p.heldBase, 2 * p.count)]

/-- Two extents share a byte. -/
def overlaps (a b : Nat × Nat × Nat) : Bool :=
  decide (a.1 = b.1) && decide (a.2.1 < b.2.1 + b.2.2) && decide (b.2.1 < a.2.1 + a.2.2)

/-- An extent lies wholly in its space's region: the pool region of LPDDR6, or the 32 MiB staging SRAM (R80, R584). -/
def extentInside (e : Nat × Nat × Nat) : Bool :=
  if e.1 = 0 then decide (poolRegionStart ≤ e.2.1) && decide (e.2.1 + e.2.2 ≤ poolRegionEnd)
  else decide (e.2.1 + e.2.2 ≤ 2 ^ 25)

/-- The structure of a new pool that overlaps another, by payload offset (R80). -/
def overlapOffset (p : Pool) (others : List (Nat × Nat × Nat)) : Option Nat :=
  let hit (e : Nat × Nat × Nat) : Bool := others.any (overlaps e)
  match p.extents with
  | [b, r, h] =>
    if hit b || overlaps b r || overlaps b h then some 16
    else if hit r || overlaps r h then some 24
    else if hit h then some 32
    else none
  | _ => none

/-- A power of two from 256 B to 16 MiB (R80). -/
def legalBufSize (n : Nat) : Bool := (List.range 17).any (fun k => decide (n = 2 ^ (k + 8)))

/-- The checks of POOL_CREATE (R80, R93, R584). -/
def poolCreateCheck (p : Pool) (s : State) : Option Reject :=
  firstReject [s.heldBusy (.pool p.num),
    (decide (63 < p.num), badParam 0), (decide (1 < p.space), badParam 2),
    (!legalBufSize p.bufSize, badParam 4), (outside p.count 1 16777216, badParam 8),
    (decide (p.base % p.bufSize ≠ 0) || !extentInside (p.space, p.base, p.count * p.bufSize), badParam 16),
    (decide (p.ringBase % 4096 ≠ 0) || !extentInside (0, p.ringBase, 8 * roundPow2 25 1 p.count), badParam 24),
    (decide (p.heldBase % 4096 ≠ 0) || !extentInside (0, p.heldBase, 2 * p.count), badParam 32),
    ((s.pool? p.num).isSome, ⟨.poolInUse, 0⟩),
    ((overlapOffset p (s.pools.pools.flatMap (·.extents))).isSome,
      badParam ((overlapOffset p (s.pools.pools.flatMap (·.extents))).getD 0))]

/-- Create a pool: held table clear, every pointer in the ring, every quota 0 (R84, R93). -/
def State.createPool (s : State) (p : Pool) : State :=
  { s with pools := { s.pools with pools := s.pools.pools ++ [p] } }

/-- POOL_CREATE (R80, R84, R93): IN_PROGRESS when COUNT exceeds 65,536. -/
def execPoolCreate (r : Req) (pool space bufSize count base ringBase heldBase : Nat) (s : State) : Out :=
  let p : Pool := { num := pool, space := space, bufSize := bufSize, count := count, base := base,
                    ringBase := ringBase, heldBase := heldBase }
  let s' := s.createPool p
  .next (s.finish r 0x0230 (poolCreateCheck p s)
    (if 65536 < count then s'.answerLong r 0x0230 .ok else s'.answer r 0x0230 .ok))

/-- Destroy a pool with its quotas (R84). -/
def State.destroyPool (s : State) (n : Nat) : State :=
  { s with pools := { s.pools with pools := s.pools.pools.filter (fun p => decide (p.num ≠ n)) } }

/-- POOL_DESTROY (R84, R93). -/
def execPoolDestroy (r : Req) (pool : Nat) (s : State) : Out :=
  .next (s.finish r 0x0231
    (firstReject [s.heldBusy (.pool pool), (decide (63 < pool), badParam 0), ((s.pool? pool).isNone, ⟨.notFound, 0⟩),
      (((s.pool? pool).map (fun p => !p.held.isEmpty)).getD false, ⟨.poolInUse, 0⟩)])
    ((s.destroyPool pool).answer r 0x0231 .ok))

/-- Offset of the first non-zero quota that names a reserved requester ID (R87, R93). -/
def reservedQuota : List Nat → Nat → Nat → Option Nat
  | [], _, _ => none
  | v :: vs, id, o => if v ≠ 0 && reservedRequester id then some o else reservedQuota vs (id + 1) (o + 4)

/-- Set quotas from a first ID on (R93); a quota of 0 is left out of the list. -/
def setQuotas : List (Nat × Nat) → Nat → List Nat → List (Nat × Nat)
  | q, _, [] => q
  | q, id, v :: vs => setQuotas (if v = 0 then erase q id else assign q id v) (id + 1) vs

/-- The checks of POOL_QUOTA_SET (R87, R93). -/
def poolQuotaCheck (pool first : Nat) (quotas : List Nat) (s : State) : Option Reject :=
  firstReject [s.heldBusy (.pool pool),
    (decide (63 < pool), badParam 0), (decide (255 < first), badParam 2), (outside quotas.length 1 256, badParam 4),
    ((s.pool? pool).isNone, ⟨.notFound, 0⟩),
    (decide (256 < first + quotas.length), badParam 4),
    ((reservedQuota quotas first 8).isSome, badParam ((reservedQuota quotas first 8).getD 0))]

/-- Give a pool new quotas. -/
def State.putQuotas (s : State) (pool first : Nat) (quotas : List Nat) : State :=
  match s.pool? pool with
  | some p => s.setPool { p with quotas := setQuotas p.quotas first quotas }
  | none => s

/-- POOL_QUOTA_SET (R84, R93). -/
def execPoolQuotaSet (r : Req) (pool first : Nat) (quotas : List Nat) (s : State) : Out :=
  .next (s.finish r 0x0232 (poolQuotaCheck pool first quotas s)
    ((s.putQuotas pool first quotas).answer r 0x0232 .ok))

/-- What POOL_READ reports (R93): free count, held count and failure count of requesters 0 to 255, refusals by reason. -/
def State.poolReport (s : State) (p : Pool) : List Nat :=
  [p.free] ++ (List.range 256).map (fun q => p.heldBy q) ++ (List.range 256).map (fun q => lookupD p.fails q 0)
    ++ (List.range 7).map (fun i => s.counter (.pool p.num (3 + i)))

/-- POOL_READ (R93). -/
def execPoolRead (r : Req) (pool : Nat) (s : State) : Out :=
  match s.pool? pool with
  | some p => .next (s.finish r 0x0233 (firstReject [(decide (63 < pool), badParam 0)])
      (s.answer r 0x0233 .ok 0 [] (s.poolReport p)))
  | none => .next (s.finish r 0x0233 (some (if 63 < pool then badParam 0 else ⟨.notFound, 0⟩)) s)

end Sys2Proof.Machine
end

