-- ==== Sys2Proof/Machine/RdmaOps.lean ====
section
/-! DEFINITION. What the internal users of the remote memory engine do with it: queue a message on a pair, register a
region, find a buffer's remote key (chapter 17). -/

namespace Sys2Proof.Machine

/-- The queue pair of an index (R470). -/
def State.rqp? (s : State) (i : Nat) : Option Qp := s.rdma.qps.find? (fun q => decide (q.index = i))

/-- Put a queue pair back. -/
def State.setRqp (s : State) (q : Qp) : State :=
  { s with rdma := { s.rdma with qps := updateFirst (fun x => decide (x.index = q.index)) (fun _ => q) s.rdma.qps } }

/-- The pair can carry its users' messages (R474). -/
def State.rqpReady (s : State) (i : Nat) : Bool := match s.rqp? i with
  | some q => decide (q.state = .rts)
  | none => false

/-- The pair is in the error state (R488). -/
def State.rqpFailed (s : State) (i : Nat) : Bool := match s.rqp? i with
  | some q => decide (q.state = .error)
  | none => false

/-- Queue a message at the end of a pair's send queue (R481). -/
def State.post (s : State) (i : Nat) (w : Work) : State := match s.rqp? i with
  | some q => s.setRqp { q with queue := q.queue ++ [w] }
  | none => s

/-- The remote key of a region: index and key byte (R485). -/
def State.rkeyOf (s : State) (index : Nat) : Nat := index * 256 + lookupD s.rdma.keys index 0

/-- Register a region at an index: its key byte advances by one (R485). -/
def State.register (s : State) (g : Region) : State :=
  { s with rdma := { s.rdma with regions := s.rdma.regions ++ [g],
                                 keys := assign s.rdma.keys g.index ((lookupD s.rdma.keys g.index 0 + 1) % 256) } }

/-- Deregister an index. -/
def State.deregister (s : State) (index : Nat) : State :=
  { s with rdma := { s.rdma with regions := s.rdma.regions.filter (fun g => decide (g.index ≠ index)) } }

/-- The region table is free at an index. -/
def State.regionFree (s : State) (index : Nat) : Bool := !s.rdma.regions.any (fun g => decide (g.index = index))

/-- The highest free index at or below `n` (R301). -/
def State.highestFree (s : State) : Nat → Option Nat
  | 0 => if s.regionFree 0 then some 0 else none
  | n + 1 => if s.regionFree (n + 1) then some (n + 1) else s.highestFree n

/-- The firmware region of a peer-fetch pool (R485), registered when a fetch first needs it, at the highest free index. -/
def State.poolRegion (s : State) (p : Pool) : State × Nat :=
  match s.rdma.regions.find? (fun g => g.firmware && decide (g.address = p.base) && decide (g.length = p.count * p.bufSize)) with
  | some g => (s, s.rkeyOf g.index)
  | none =>
    match s.highestFree 16383 with
    | none => (s, 0)
    | some i =>
      let s' := s.register { index := i, address := p.base, length := p.count * p.bufSize, vaBase := p.base, domain := 0xFFFF,
                             write := true, firmware := true }
      (s', s'.rkeyOf i)

/-- The queue pair of the mesh link to a device: 2m for peer fetch, 2m + 1 for collective data (R470, R49). -/
def meshQp (me device service : Nat) : Nat := 2 * (if device < me then device else device - 1) + service

/-- The peer-fetch or collective pair of the lowest-numbered twin port that is up (R470, R502). -/
def State.twinQp (s : State) (service : Nat) : Option Nat := s.group.twinUp.min?.map (fun n => 256 + 2 * n + service)

/-! ### Buffers of the internal stages (R87) -/

/-- Buffers of a pool that hold `n` bytes, at least one. -/
def buffersFor (p : Pool) (n : Nat) : Nat := max 1 ((n + p.bufSize - 1) / p.bufSize)

/-- Allocate `k` buffers one after another. -/
def State.takeMany (s : State) (pool q : Nat) : Nat → State × List Nat
  | 0 => (s, [])
  | k + 1 =>
    match s.allocateNow pool q with
    | (s', .granted p) =>
      let (s'', l) := s'.takeMany pool q k
      (s'', p :: l)
    | (s', _) => (s', [])

/-- A stage takes all the buffers that `n` bytes need from its pool, or none: a failed allocation is presented again on
the next return to the pool (R85, R87). -/
def State.takeBuffers (s : State) (q n : Nat) : State × Option (List Nat) :=
  let pool := Config.stagePool q % 64
  let fail (st : Status) : State × Option (List Nat) :=
    let s := s.allocFailed pool q st
    let again : Bool := s.pools.waitReturn.contains (pool, q)
    (if again then s else { s with pools := { s.pools with waitReturn := s.pools.waitReturn ++ [(pool, q)] } }, none)
  match s.pool? pool with
  | none => fail .quota
  | some p =>
    let k := buffersFor p n
    if p.quota q < p.heldBy q + k then fail .quota
    else if s.grantable p < k then fail .poolEmpty
    else
      let (s', l) := s.takeMany pool q k
      (s', some l)

/-- Return a stage's buffers. -/
def State.dropBuffers (s : State) (q : Nat) (l : List Nat) : State := l.foldl (fun s p => (s.returnBuffer q p).1) s

/-- Hand a buffer to another requester ID (R86). -/
def State.handOff (s : State) (pointer holder receiver : Nat) : State :=
  match s.checkReturn holder pointer, s.pool? (bitsOf pointer 46 41) with
  | (0, i), some p => s.setPool { p with held := assign p.held i receiver }
  | _, _ => s

/-- Hand buffers to another requester ID (R86). -/
def State.handOffAll (s : State) (l : List Nat) (holder receiver : Nat) : State :=
  l.foldl (fun s p => s.handOff p holder receiver) s

end Sys2Proof.Machine
end

