-- ==== Sys2Proof/Machine/Slots.lean ====
section
/-! DEFINITION. The units a sample can be in, and taking it out of them: Riffle slots and engines, Drawplate streams, Anvil
jobs (R183, R187, R188, R247, R271). -/

namespace Sys2Proof.Machine

/-- Change the data path. -/
def State.setPipe (s : State) (p : PipeState) : State := { s with pipe := p }

/-- A logical Riffle's record. -/
def State.riffle (s : State) (n : Nat) : Riffle := s.pipe.riffles.getD n { state := .out }

/-- Put a Riffle's record back. -/
def State.setRiffle (s : State) (n : Nat) (f : Riffle) : State := s.setPipe { s.pipe with riffles := s.pipe.riffles.set n f }

/-- One slot. -/
def State.slot (s : State) (n i : Nat) : Slot := (s.riffle n).slots.getD i {}

/-- Put a slot back. -/
def State.setSlot (s : State) (n i : Nat) (x : Slot) : State :=
  s.setRiffle n { s.riffle n with slots := (s.riffle n).slots.set i x }

/-! ### Engines (R183) -/

/-- Slots in DECODE that wait for an engine. -/
def Riffle.waiting (f : Riffle) : List Nat :=
  (List.range f.slots.length).filter (fun i =>
    decide ((f.slots.getD i {}).state = .decode) && (f.slots.getD i {}).engine.isNone)

/-- A free engine takes the next waiting slot by its arbiter (R92, R183). -/
def State.giveEngine (s : State) (n e : Nat) : State :=
  let f := s.riffle n
  match arbWinner (f.arbs.getD e 0) f.waiting with
  | none => s
  | some i =>
    (s.setRiffle n { f with arbs := f.arbs.set e (arbNext 24 i) }).setSlot n i { f.slots.getD i {} with engine := some e }

/-- The lowest decode engine that no slot holds. -/
def Riffle.freeEngine (f : Riffle) : Option Nat :=
  (List.range 4).find? (fun e => !f.slots.any (fun x => decide (x.engine = some e)))

/-- Free a slot, and give its engine on. -/
def State.freeSlot (s : State) (n i : Nat) : State :=
  let x := s.slot n i
  let s := s.setSlot n i {}
  match x.engine with
  | some e => s.giveEngine n e
  | none => s

/-! ### Taking a sample out of its units (R187, R188, R271) -/

/-- Free the Riffle slots that hold a sample: their buffers return. -/
def State.evictSlots (s : State) (id : Nat) : State :=
  let held : List (Nat × Nat) := (List.range 8).flatMap (fun n =>
    ((List.range 24).filter (fun i =>
      decide ((s.slot n i).state ≠ .free) && decide ((s.slot n i).sample = id))).map (fun i => (n, i)))
  held.foldl (fun s p => (s.dropBuffers (48 + p.1) (s.slot p.1 p.2).buffers).freeSlot p.1 p.2) s

/-- A stream works on a sample. -/
def StreamUse.sample : StreamUse → Nat
  | .encode i _ => i
  | .decode i => i

/-- Free the Drawplate streams that work on a sample. -/
def State.evictStreams (s : State) (id : Nat) : State :=
  let one (p : Drawplate) : Drawplate := { p with busy := p.busy.filter (fun b => decide (b.use.sample ≠ id)) }
  s.setPipe { s.pipe with plates := s.pipe.plates.map one }

/-- An Anvil job without a sample: none when nothing is left of it. -/
def AnvilWork.without (id : Nat) : AnvilWork → Option AnvilWork
  | .feature l => if l.filter (fun i => decide (i ≠ id)) = [] then none else some (.feature (l.filter (fun i => decide (i ≠ id))))
  | .embedding i name => if i = id then none else some (.embedding i name)

/-- An Anvil job computes for a sample. -/
def AnvilWork.concerns (id : Nat) : AnvilWork → Bool
  | .feature l => l.contains id
  | .embedding i _ => decide (i = id)

/-- Discard a sample's Anvil products (R271), counting them. -/
def State.evictAnvil (s : State) (id : Nat) : State :=
  let a := s.pipe.anvil
  let n := (a.jobs.filter (fun j => j.2.concerns id)).length
  let jobs := a.jobs.filterMap (fun j => (j.2.without id).map (fun w => (j.1, w)))
  let stage (g : Stage) : Stage := { g with vectors := g.vectors.filter (fun v => decide (v.1 ≠ id)) }
  s.setPipe { s.pipe with anvil := { a with jobs := jobs, discards := a.discards + n }, stages := s.pipe.stages.map stage }

/-- Free the filter-core contexts that run a sample's kernels. -/
def State.evictKernels (s : State) (id : Nat) : State :=
  let mine (c : NgCtx) : Bool := match c.run with
    | .kernel _ i _ => decide (i = id)
    | _ => false
  { s with ngayx := { s.ngayx with contexts := s.ngayx.contexts.filter (fun c => !mine c) } }

/-- Take a sample out of every unit. -/
def State.evict (s : State) (id : Nat) : State := (((s.evictSlots id).evictStreams id).evictAnvil id).evictKernels id

end Sys2Proof.Machine
end

