-- ==== Sys2Proof/Machine/Transform.lean ====
section
/-! DEFINITION. The Riffle's arithmetic (chapter 07): declared sizes, header checks and estimates on what the pre-pass
reads, and the transforms of R206 to R216, with the patch embeddings of R272. -/

namespace Sys2Proof.Machine

open Sys2Proof.Config (MediaHeader DecodeRun Picture PixelKind Clip)

/-! ### Draws (R216) -/

/-- Where a sample's draws come from: the job key, the epoch, the position and the attempt. -/
structure DrawKey where
  key : Bytes
  epoch : Nat
  position : Nat
  attempt : Nat
  deriving DecidableEq, Repr

/-- aug(e, p, a, o, kind, n) of R216. -/
def aug (k : DrawKey) (o kind n : Nat) : Nat :=
  genWord k.key 0x02 k.epoch k.position (k.attempt * 2 ^ 36 + o * 2 ^ 30 + kind * 2 ^ 24 + n)

/-- The stochastic-rounding word of output element i in exact mode, purpose 0x03 (R216) or 0x04 (R272). -/
def castWord (k : DrawKey) (purpose o i : Nat) : Nat :=
  genWordAt k.key purpose k.epoch k.position (k.attempt * 2 ^ 36 + o * 2 ^ 30 + i / 16) i

/-! ### Frame selection (R213) -/

/-- The selected frame indices. -/
def frameIndices (d : DecodeDesc) (k : DrawKey) (o shown : Nat) : List Nat :=
  let f := d.frameCount
  let span := (f - 1) * d.frameStride + 1
  if d.frameMode = 1 ∧ span ≤ shown then
    let start := aug k o 4 0 * (shown - span + 1) / 2 ^ 32
    (List.range f).map (fun j => start + j * d.frameStride)
  else (List.range f).map (fun j => (2 * j + 1) * shown / (2 * f))

/-- Shown frames Tn of a stream. -/
def shownFrames (h : MediaHeader) : Nat := (h.units.map (fun u => u.2.1)).sum

/-- The temporal unit that holds shown frame i, counting units from n. -/
def unitOf : List (Bool × Nat × Nat) → Nat → Nat → Nat
  | [], _, n => n
  | u :: us, i, n => if i < u.2.1 then n else unitOf us (i - u.2.1) (n + 1)

/-- Fd of R213: frame headers from the latest unit at or before the first index that begins with a shown key frame to the
unit of the last index. -/
def framesDecoded (h : MediaHeader) (idx : List Nat) : Nat :=
  let first := unitOf h.units (idx.headD 0) 0
  let last := unitOf h.units (idx.getLastD 0) 0
  let key := ((List.range (first + 1)).filter (fun n => (h.units.getD n (false, 0, 0)).1)).getLastD 0
  (((h.units.take (last + 1)).drop key).map (fun u => u.2.2)).sum

/-! ### Sizes, estimates, header checks (R191 to R195) -/

/-- ceil(x / 16). -/
def per16 (n : Nat) : Nat := (n + 15) / 16

/-- 8 x 8 blocks of a JPEG over all components, MCU padding included (R194). -/
def jpegBlocks (h : MediaHeader) : Nat :=
  let hm := maxOf (h.sampling.map (fun s => s.1))
  let vm := maxOf (h.sampling.map (fun s => s.2))
  ((h.width + 8 * hm - 1) / (8 * hm)) * ((h.height + 8 * vm - 1) / (8 * vm)) * ((h.sampling.map (fun s => s.1 * s.2)).sum)
where
  maxOf (l : List Nat) : Nat := l.foldl max 1

/-- Filtered bytes of a PNG, filter-type bytes included; over the Adam7 passes when interlaced (R194). -/
def pngFiltered (h : MediaHeader) : Nat :=
  let part (w r : Nat) : Nat := if w = 0 then 0 else r * (1 + (w * h.pixelBits + 7) / 8)
  if h.interlaced then
    (([(0, 0, 8, 8), (4, 0, 8, 8), (0, 4, 4, 8), (2, 0, 4, 4), (0, 2, 2, 4), (1, 0, 2, 2), (0, 1, 1, 2)]
      : List (Nat × Nat × Nat × Nat)).map (fun p =>
        part ((h.width + p.2.2.1 - 1 - p.1) / p.2.2.1) ((h.height + p.2.2.2 - 1 - p.2.1) / p.2.2.2))).sum
  else part h.width h.height

/-- The declared decoded size (R192); `fd` counts the frames decoded. -/
def declaredSize (typ codec : Nat) (h : MediaHeader) (fd : Nat) : Option Nat :=
  if codec / 16 ≠ 0 then h.declared
  else match typ with
    | 1 => some (h.width * h.height * h.channels * h.sampleBytes)
    | 2 =>
      let n := fd * h.width * h.height * h.sampleBytes
      some (if h.monochrome then n else n * 3 / 2)
    | 3 => some (h.samples * h.channels * h.sampleBytes)
    | _ => none

/-- The most a field may put out (R191, R192); L is its LENGTH. -/
def outputLimit (d : DecodeDesc) (declared : Option Nat) (wrapped : Bool) (l : Nat) : Nat :=
  if wrapped then min (declared.getD (d.expMax * l)) 268435456 else declared.getD 0

/-- The estimate E (R194). -/
def estimate (typ codec : Nat) (h : MediaHeader) (fd l out : Nat) : Nat :=
  if codec / 16 ≠ 0 then per16 l + per16 out
  else match typ, codec % 16 with
    | 1, 1 => 4 * jpegBlocks h + per16 l
    | 1, _ => per16 l + 2 * per16 (pngFiltered h)
    | 2, _ => per16 l + 2 * fd * per16 (h.width * h.height)
    | _, 1 => per16 l + per16 (h.samples * h.channels)
    | _, _ => per16 l

/-- The field's limit (R195). -/
def budgetLimit (d : DecodeDesc) (e : Nat) : Nat := min d.buMax (e * d.buFactor / 4)

/-- The device's width, height and pixel limits (R191). -/
def deviceLimits (typ : Nat) : Nat × Nat × Nat := if typ = 2 then (4096, 2304, 9437184) else (16384, 16384, 67108864)

/-- The channels a device takes (R191). -/
def channelsOk (typ codec n : Nat) : Bool :=
  match typ, codec % 16 with
  | 1, 1 => decide (n = 1) || decide (n = 3)
  | 1, _ => decide (1 ≤ n) && decide (n ≤ 4)
  | 2, _ => decide (n = 1) || decide (n = 3)
  | _, _ => decide (1 ≤ n) && decide (n ≤ 8)

/-- The checks of R193 in its order on what the pre-pass read: the reason, or none. -/
def headerReject (d : DecodeDesc) (typ codec l fd : Nat) (h : MediaHeader) : Option Nat :=
  let wrapped := decide (codec / 16 ≠ 0)
  let pic := !wrapped && decide (typ ≤ 2)
  let lim := deviceLimits typ
  let size := declaredSize typ codec h fd
  let e := estimate typ codec h fd l (outputLimit d size wrapped l)
  let checks : List (Bool × Nat) := [
    (h.malformed || decide (l = 0) || (!wrapped && decide (typ = 2) && !(h.units.head?.map (fun u => u.1)).getD false), 210),
    (h.unsupported, 208), (decide (typ ≠ d.typ), 211),
    (pic && (decide (min lim.1 d.maxWidth < h.width) || decide (min lim.2.1 d.maxHeight < h.height)), 201),
    (pic && decide (min lim.2.2 d.maxPixels < h.width * h.height), 202),
    (!wrapped && (!channelsOk typ codec h.channels || decide (d.maxChannels < h.channels)), 203),
    (!wrapped && decide (typ = 2) && decide (min 65535 d.maxFrames < shownFrames h), 204),
    (!wrapped && decide (typ = 3) && decide (min 134217728 d.maxSamples < h.samples), 206),
    (!wrapped && decide (typ = 3) && h.undeclared, 207),
    (!wrapped && decide (typ = 3) && decide (d.sampleRate ≠ 0) && decide (d.sampleRate ≠ h.rate), 209),
    (match size with | some n => decide (d.expMax * l < n) | none => false, 205),
    (decide (d.buMax < e), 230)]
  (checks.find? (fun c => c.1)).map (fun c => c.2)

/-- The count at which consumption first passes the limit (R196). -/
def passesAt (limit : Nat) : List Nat → Nat → Option Nat
  | [], _ => none
  | x :: xs, n => if limit < n + x then some (n + x) else passesAt limit xs (n + x)

/-! ### Upsampling and colour (R207, R208) -/

/-- up2 of R207 between two samples. -/
def up2 (c f : Nat) : Nat := (3 * c + f + 2) / 4

/-- The neighbour up2 takes for output i over `len` samples. -/
def up2Other (len i : Nat) : Nat := if i % 2 = 0 then i / 2 - 1 else min (i / 2 + 1) (len - 1)

/-- Upsample a row. -/
def upRow (c : List Nat) : List Nat :=
  (List.range (2 * c.length)).map (fun i => up2 (c.getD (i / 2) 0) (c.getD (up2Other c.length i) 0))

/-- Upsample a plane along its columns. -/
def upCols (rows : List (List Nat)) : List (List Nat) :=
  (List.range (2 * rows.length)).map (fun i =>
    List.zipWith up2 (rows.getD (i / 2) []) (rows.getD (up2Other rows.length i) []))

/-- A plane at full resolution: upsampled vertically, then horizontally, where it is subsampled, and cut to the picture. -/
def fullPlane (w h : Nat) (rows : List (List Nat)) : List (List Nat) :=
  let rows := if rows.length < h then upCols rows else rows
  ((rows.map (fun r => if r.length < w then upRow r else r)).take h).map (fun r => r.take w)

/-- A pixel is its channel values; an image is its rows of pixels. -/
abbrev Pixels := List (List (List Nat))

/-- The channels of a picture side by side. -/
def pixelsOf (p : Picture) : Pixels :=
  let planes := p.planes.map (fullPlane p.width p.height)
  (List.range p.height).map (fun y => (List.range p.width).map (fun x =>
    planes.map (fun pl => (pl.getD y []).getD x 0)))

/-- Clamp to 0 to m. -/
def clamp (v : Int) (m : Nat) : Nat := if v < 0 then 0 else min v.toNat m

/-- R, G and B of JPEG Y, Cb and Cr (R208). -/
def yccToRgb (y cb cr : Nat) : List Nat :=
  let b : Int := (cb : Int) - 128
  let r : Int := (cr : Int) - 128
  [clamp ((y : Int) + (91881 * r + 32768) / 65536) 255, clamp ((y : Int) + (-22554 * b - 46802 * r + 32768) / 65536) 255,
   clamp ((y : Int) + (116130 * b + 32768) / 65536) 255]

/-- The three channels of a pixel as RGB. -/
def toRgb (k : PixelKind) (px : List Nat) : List Nat :=
  let c (i : Nat) : Nat := px.getD i 0
  match k with
  | .grey | .greyAlpha | .mono => [c 0, c 0, c 0]
  | .rgb | .rgba | .rgbJpeg | .yuv => [c 0, c 1, c 2]
  | .ycc => yccToRgb (c 0) (c 1) (c 2)

/-- The one channel of a pixel as GRAY. -/
def toGrey (k : PixelKind) (px : List Nat) : Nat :=
  let c (i : Nat) : Nat := px.getD i 0
  match k with
  | .grey | .greyAlpha | .mono | .ycc | .yuv => c 0
  | .rgb | .rgba => (19595 * c 0 + 38470 * c 1 + 7471 * c 2 + 32768) / 65536
  | .rgbJpeg => Config.jpegRgbGrey (c 0) (c 1) (c 2) % 256

/-- Alpha of a pixel. -/
def alphaOf (k : PixelKind) (maxv : Nat) (px : List Nat) : Nat :=
  match k with
  | .greyAlpha => px.getD 1 0
  | .rgba => px.getD 3 0
  | _ => maxv

/-- COLOUR (R208). -/
def toColour (colour : Nat) (k : PixelKind) (maxv : Nat) (px : List Nat) : List Nat :=
  match colour with
  | 1 => toRgb k px
  | 2 => [toGrey k px]
  | 3 => toRgb k px ++ [alphaOf k maxv px]
  | _ => px

/-! ### Crop (R209) -/

/-- Set the bits of the floor of a square root from bit k - 1 down. -/
def isqrtFrom (n : Nat) : Nat → Nat → Nat
  | 0, r => r
  | k + 1, r => if (r + 2 ^ k) * (r + 2 ^ k) ≤ n then isqrtFrom n k (r + 2 ^ k) else isqrtFrom n k r

/-- isqrt of R209. -/
def isqrt (n : Nat) : Nat := isqrtFrom n (Nat.log2 n / 2 + 1) 0

/-- One try of random_crop on four draws: x0, y0, width, height (R209). -/
def cropTry (d : DecodeDesc) (w h u0 u1 u2 u3 : Nat) : Option (Nat × Nat × Nat × Nat) :=
  let f := d.aMin + u0 * (d.aMax - d.aMin) / 2 ^ 32
  let q := d.rMin + u1 * (d.rMax - d.rMin) / 2 ^ 32
  let cw := isqrt (w * h * f * q) / 65536
  let ch := isqrt (w * h * f / q)
  if 1 ≤ cw ∧ cw ≤ w ∧ 1 ≤ ch ∧ ch ≤ h then some (u2 * (w - cw + 1) / 2 ^ 32, u3 * (h - ch + 1) / 2 ^ 32, cw, ch) else none

/-- random_crop of R209. -/
def randomCrop (d : DecodeDesc) (w h : Nat) (k : DrawKey) (o : Nat) : Nat × Nat × Nat × Nat :=
  ((List.range 10).findSome? (fun t =>
    cropTry d w h (aug k o 1 (4 * t)) (aug k o 1 (4 * t + 1)) (aug k o 1 (4 * t + 2)) (aug k o 1 (4 * t + 3)))).getD (0, 0, w, h)

/-- The crop region, none for 231 GEOMETRY. -/
def cropRegion (d : DecodeDesc) (w h : Nat) (k : DrawKey) (o : Nat) : Option (Nat × Nat × Nat × Nat) :=
  match d.cropMode with
  | 1 => if w < d.cropX + d.cropW ∨ h < d.cropY + d.cropH then none else some (d.cropX, d.cropY, d.cropW, d.cropH)
  | 2 =>
    let cw := min d.cropW w
    let ch := min d.cropH h
    some ((w - cw) / 2, (h - ch) / 2, cw, ch)
  | 3 => some (randomCrop d w h k o)
  | _ => some (0, 0, w, h)

/-- Cut a region out of an image. -/
def cropPixels (r : Nat × Nat × Nat × Nat) (px : Pixels) : Pixels :=
  ((px.drop r.2.1).take r.2.2.2).map (fun row => (row.drop r.1).take r.2.2.1)

/-! ### Resize (R210) -/

/-- The sum of one output of a polyphase pass. -/
def polyphase (t : CoefTable) (nin nout x : Nat) (s : List Nat) : Int :=
  let c : Int := (((2 * x + 1) * nin * 2 ^ 15 / nout : Nat) : Int) - 2 ^ 15
  let base := c / 65536
  let ph := (c % 65536).toNat / 1024
  ((List.range t.taps).map (fun i =>
    t.coefs.getD (ph * t.taps + i) 0 * ((s.getD (clamp (base - (t.taps / 2 : Nat) + 1 + i) (nin - 1)) 0 : Nat) : Int))).sum

/-- The horizontal pass over one channel of a row: two fraction bits are kept. -/
def resizeRow (t : CoefTable) (nout maxv : Nat) (s : List Nat) : List Nat :=
  if s.length = nout then s.map (4 * ·)
  else (List.range nout).map (fun x => clamp ((polyphase t s.length nout x s + 2 ^ 11) / 2 ^ 12) (4 * maxv))

/-- The vertical pass over one channel of a column; an equal size rounds the fraction bits away. -/
def resizeCol (t : CoefTable) (nout maxv : Nat) (s : List Nat) : List Nat :=
  if s.length = nout then s.map (fun h => min ((h + 2) / 4) maxv)
  else (List.range nout).map (fun x => clamp ((polyphase t s.length nout x s + 2 ^ 15) / 2 ^ 16) maxv)

/-- Channel c of a row of pixels. -/
def channelOf (c : Nat) (row : List (List Nat)) : List Nat := row.map (fun p => p.getD c 0)

/-- Resize an image. -/
def resizePixels (t : CoefTable) (w h maxv : Nat) (px : Pixels) : Pixels :=
  let chans := ((px.headD []).headD []).length
  let plane (c : Nat) : List (List Nat) :=
    let rows := px.map (fun r => resizeRow t w maxv (channelOf c r))
    let cols := (List.range w).map (fun x => resizeCol t h maxv (rows.map (fun r => r.getD x 0)))
    (List.range h).map (fun y => cols.map (fun col => col.getD y 0))
  let planes := (List.range chans).map plane
  (List.range h).map (fun y => (List.range w).map (fun x => planes.map (fun pl => (pl.getD y []).getD x 0)))

/-! ### Flip, normalise, patchify, cast (R211 to R215) -/

/-- A flip of probability P happens on a draw (R211). -/
def flips (p draw : Nat) : Bool := decide (p = 0xFFFFFFFF) || decide (draw < p)

/-- Round to FP32 by nearest-even. -/
def toFp32 (v : Val) : Nat := (Fmt.fp32.round .rne 0 v).1

/-- y := rne(rne(x - MEAN) x SCALE) on FP32 codes (R212). -/
def normalise (mean scale : Nat) (x : Val) : Nat :=
  toFp32 (mulVal (Fmt.fp32.value (toFp32 (addVal x (negVal (Fmt.fp32.value mean))))) (Fmt.fp32.value scale))

/-- A native audio sample as an FP32 value (R212). -/
def clipValue (c : Clip) (s : Int) : Val :=
  if c.float then Fmt.fp32.value s.toNat
  else
    let v : Int := if c.offset then s - 128 else s
    match Fmt.fp32.value (toFp32 (Val.ofInt v)) with
    | .fin n x => .fin n (x.scale (1 - (c.bits : Int)))
    | y => y

/-- Elements of an image in the order of R214: rows of pixels, or patches of P x P; filled with +0.0. -/
def patchify (p : Nat) (px : Pixels) : List (Nat × Nat × Nat) :=
  let h := px.length
  let w := (px.headD []).length
  let c := ((px.headD []).headD []).length
  if p = 0 then
    (List.range h).flatMap (fun y => (List.range w).flatMap (fun x => (List.range c).map (fun k => (y, x, k))))
  else
    (List.range ((h + p - 1) / p)).flatMap (fun py => (List.range ((w + p - 1) / p)).flatMap (fun qx =>
      (List.range p).flatMap (fun dy => (List.range p).flatMap (fun dx => (List.range c).map (fun k =>
        (py * p + dy, qx * p + dx, k))))))

/-- The shape of one image (R214). -/
def imageShape (p : Nat) (px : Pixels) : List Nat :=
  let h := px.length
  let w := (px.headD []).length
  let c := ((px.headD []).headD []).length
  if p = 0 then [h, w, c] else [((h + p - 1) / p) * ((w + p - 1) / p), p * p * c]

/-- The normalised FP32 codes of an image in output order. -/
def imageCodes (d : DecodeDesc) (px : Pixels) : List Nat :=
  (patchify d.patch px).map (fun e =>
    match (px[e.1]?).bind (fun row => row[e.2.1]?) with
    | some q => normalise (d.mean.getD e.2.2 0) (d.scale.getD e.2.2 0) (Val.ofInt ((q.getD e.2.2 0 : Nat) : Int))
    | none => 0)

/-- Blocks of 32 of a list, the last filled with +0.0, by fuel (R215). -/
def blocksOf : Nat → List Nat → List (List Nat)
  | 0, _ => []
  | _, [] => []
  | n + 1, l => (l.take 32 ++ List.replicate (32 - (l.take 32).length) 0) :: blocksOf n (l.drop 32)

/-- Cast FP32 codes to a format (R215): the packed elements. `word i` is the stochastic-rounding word of element i. -/
def castTo (f : Fmt) (r : Rm) (word : Nat → Nat) (codes : List Nat) : Bytes :=
  match f.cls with
  | .blk => (blocksOf codes.length codes).mapIdx (fun n b =>
      packBlock f (quantise f r (b.map Fmt.fp32.value) ((List.range 32).map (fun i => word (32 * n + i)))).block) |>.flatten
  | _ => codes.mapIdx (fun i c => natLe (f.bits / 8) (f.round r (word i) (Fmt.fp32.value c)).1) |>.flatten

/-- A cast to a descriptor's format and rounding, as a tensor. -/
def castTensor (format rounding : Nat) (word : Nat → Nat) (dims codes : List Nat) : Tensor :=
  let f := (fmtOf format).getD .fp32
  ⟨format, dims, castTo f ((rmOf rounding).getD .rne) word codes⟩

/-- One picture through colour, crop, resize and flip; none is 231 GEOMETRY. -/
def picturePixels (bs : Bytes) (d : DecodeDesc) (k : DrawKey) (o : Nat) (p : Picture) : Option Pixels :=
  let px : Pixels := (pixelsOf p).map (fun row => row.map (toColour d.colour p.kind p.maxv))
  match cropRegion d p.width p.height k o with
  | none => none
  | some r =>
    let px := cropPixels r px
    let px := match coefTable bs d.table with
      | some t => if d.outWidth = 0 then px else resizePixels t d.outWidth d.outHeight p.maxv px
      | none => px
    let px := if flips d.pFlipH (aug k o 2 0) then px.map List.reverse else px
    some (if flips d.pFlipV (aug k o 3 0) then px.reverse else px)

/-- The audio window (R213), with its padding of zeros. -/
def clipWindow (d : DecodeDesc) (k : DrawKey) (o : Nat) (c : Clip) : List (List Int) :=
  if d.audioLength = 0 then c.samples
  else
    let s := c.samples.length
    let start := if d.audioMode = 1 ∧ d.audioLength ≤ s then aug k o 5 0 * (s - d.audioLength + 1) / 2 ^ 32 else 0
    let w := (c.samples.drop start).take d.audioLength
    w ++ List.replicate (d.audioLength - w.length) (List.replicate (c.samples.headD []).length 0)

/-- The output tensor of a decoded media field (R206 to R215); none is 231 GEOMETRY. -/
def mediaTensor (bs : Bytes) (d : DecodeDesc) (k : DrawKey) (o : Nat) (run : DecodeRun) (word : Nat → Nat) : Option Tensor :=
  match d.typ with
  | 1 =>
    match run.pictures.head?.bind (picturePixels bs d k o) with
    | some px => some (castTensor d.outFormat d.rounding word (imageShape d.patch px) (imageCodes d px))
    | none => none
  | 2 =>
    let frames := run.pictures.map (picturePixels bs d k o)
    if frames.any Option.isNone ∨ frames.isEmpty then none
    else
      let fs : List Pixels := frames.filterMap id
      some (castTensor d.outFormat d.rounding word (fs.length :: imageShape d.patch (fs.headD [])) (fs.flatMap (imageCodes d)))
  | _ =>
    let w := clipWindow d k o run.clip
    some (castTensor d.outFormat d.rounding word [w.length, (w.headD []).length]
      (w.flatMap (fun s => s.map (fun v => normalise (d.mean.getD 0 0) (d.scale.getD 0 0) (clipValue run.clip v)))))

/-! ### Patch embeddings (R272) -/

/-- The weight of row k, column c. -/
def weightAt (bs : Bytes) (m : Embedding) (k c : Nat) : Int :=
  let i := k * m.e + c
  let v := fieldAt bs (m.at_ + 16 + i * m.bits / 8) 1 / 2 ^ (i * m.bits % 8) % 2 ^ m.bits
  match m.wFormat with
  | 0 => signedOf 8 v
  | 1 => signedOf 4 v
  | _ => if v = 1 then 1 else if v = 3 then -1 else 0

/-- The rows of an input tensor as values: none where a block is non-finite. -/
def embedRows (t : Tensor) (k : Nat) : List (List (Option Val)) :=
  let n := product t.dims / k
  match fmtOf t.dtype with
  | some .int8 => (List.range n).map (fun r => (List.range k).map (fun i => some (Val.ofInt (signedOf 8 (fieldAt t.data (r * k + i) 1)))))
  | some f =>
    let size := 1 + f.elemBytes
    (List.range n).map (fun r => (List.range (k / 32)).flatMap (fun b =>
      match (readBlock f f (unpackBlock f ((t.data.drop ((r * (k / 32) + b) * size)).take size))).1 with
      | some vs => vs.map some
      | none => List.replicate 32 none))
  | none => []

/-- The exact product of a row and a column, EMB_SCALE included; none is NaN. -/
def embedCell (bs : Bytes) (m : Embedding) (row : List (Option Val)) (c : Nat) : Val :=
  if row.any Option.isNone then .nan
  else
    let term (i : Nat) (v : Option Val) : Val := mulVal (v.getD .nan) (Val.ofInt (weightAt bs m i c))
    match sumVals (row.mapIdx term) with
    | .fin n x => mulVal (.fin n x) (Fmt.fp32.value m.scale)
    | v => v

/-- The embedded tensor (R272): [n][K] becomes [n][E], [F][n][K] becomes [F][n][E]. -/
def embedTensor (bs : Bytes) (m : Embedding) (rounding : Nat) (word : Nat → Nat) (t : Tensor) : Tensor :=
  let codes := (embedRows t m.k).flatMap (fun r => (List.range m.e).map (fun c => toFp32 (embedCell bs m r c)))
  castTensor m.format rounding word (t.dims.dropLast ++ [m.e]) codes

end Sys2Proof.Machine
end

