-- ==== Sys2Proof/Machine/UnitOps.lean ====
section
/-! DEFINITION. Faults, block resets, spares and vacancies of units (R34 to R37, R599, R600, R610). -/

namespace Sys2Proof.Machine

/-- Hold a block in reset (R599, R600): the release and the self-test are commands of their own. -/
def State.blockReset (s : State) (target : Nat) (waiter : Option Req := none) : State :=
  let known : Bool := s.power.blocks.any (fun b => decide (b.target = target))
  let join (b : BlockReset) : BlockReset := { b with waiter := b.waiter.orElse (fun _ => waiter) }
  let all : List BlockReset := if known then updateFirst (fun b => decide (b.target = target)) join s.power.blocks
    else s.power.blocks ++ [{ target := target, waiter := waiter }]
  { s with power := { s.power with blocks := all } }

/-- A fault, retirement or vacancy of a unit: a UNIT log line and its event, whose payload gives the logical number and the
physical site (R529, R610). -/
def State.unitEvent (s : State) (e : Event) (logical site : Nat) : State :=
  (s.logEntry .unit e.value logical [site]).raise e logical (natLe 1 logical ++ natLe 1 site)

/-- Sites of the stream die that serves Riffle `n` (R34). -/
def riffleSites (n : Nat) : List Nat := if n < 4 then [0, 1, 2, 3, 4] else [5, 6, 7, 8, 9]

/-- The site of a logical Riffle, 0xFF when vacant. -/
def State.riffleSite (s : State) (n : Nat) : Nat := (s.units.riffleMap.getD n none).getD 0xFF

/-- A block reset of a target is in progress (R600). -/
def State.blockHeld (s : State) (target : Nat) : Bool := s.power.blocks.any (fun b => decide (b.target = target))

/-! ### Power domains (R601 to R604) -/

/-- A power domain. -/
def State.domain (s : State) (d : Nat) : Domain := s.power.domains.getD d {}

def State.setDomain (s : State) (d : Nat) (x : Domain) : State :=
  { s with power := { s.power with domains := s.power.domains.set d x } }

/-- The domain of a Riffle site (R601). -/
def siteDomain (site : Nat) : Nat := if site < 5 then 8 + site else 10 + site

/-- The domain of a Crucible site (R601). -/
def bankDomain (site : Nat) : Nat := if site < 9 then 4 else 5

/-- Start the power-up of a domain, or queue it behind a power-down (R604, R606). -/
def State.powerUp (s : State) (d : Nat) : State :=
  let x := s.domain d
  match x.status with
  | .off | .failed => s.setDomain d { x with status := .poweringOn, phase := .idle, good := false }
  | .poweringOff => s.setDomain d { x with status := .pendingOn }
  | .poweringOn | .on | .pendingOn | .pendingOff => s

/-- The work of a Crucible cannot run: its block is in reset, or its bank has failed (R600, R603). -/
def State.crucibleDown (s : State) (n : Nat) : Bool :=
  s.blockHeld (0x0100 + n) || decide ((s.domain (bankDomain (((s.units.crucibleMap.getD n none).getD 0)))).status = .failed)

/-! ### Retirement -/

/-- Retire a Riffle's site and give its number to the lowest spare of its stream die, or leave it vacant (R36, R37, R205). The
spare's domain powers up first, and the Riffle takes samples from the moment it is ON (R602). -/
def State.retireRiffle (s : State) (n : Nat) : State :=
  let site := s.riffleSite n
  let off := s.units.riffleOff ||| BitVec.twoPow 10 site
  let spare := (riffleSites n).find? (fun x => !off.getLsbD x && !s.units.riffleMap.contains (some x))
  let s := ({ s with units := { s.units with riffleOff := off, riffleMap := s.units.riffleMap.set n spare } }).unitEvent
    .riffleRetired n site
  let f := s.pipe.riffles.getD n {}
  let st : UnitState := match spare with
    | some x => if (s.domain (siteDomain x)).status = .on then .active else .reset
    | none => .out
  let s := match spare with | some x => s.powerUp (siteDomain x) | none => s
  let s := { s with pipe := { s.pipe with riffles := s.pipe.riffles.set n { f with state := st, sinceFault := none } } }
  (if spare.isSome then s else s.unitEvent .unitVacant n site).mapDiffers

/-- The site of a logical Crucible, 0xFF when vacant. -/
def State.crucibleSite (s : State) (n : Nat) : Nat := (s.units.crucibleMap.getD n none).getD 0xFF

/-- Retire a Crucible's site and give its number to the lowest spare, or leave it vacant (R36, R37, R416). -/
def State.retireCrucible (s : State) (n : Nat) : State :=
  let site := s.crucibleSite n
  let off := s.units.crucibleOff ||| BitVec.twoPow 18 site
  let spare := (List.range 18).find? (fun x => !off.getLsbD x && !s.units.crucibleMap.contains (some x))
  let s := ({ s with units := { s.units with crucibleOff := off, crucibleMap := s.units.crucibleMap.set n spare } }).unitEvent
    .crucibleRetired n site
  (if spare.isSome then s else s.unitEvent .unitVacant n site).mapDiffers

end Sys2Proof.Machine
end

