-- ==== Sys2Proof/Machine/Samples.lean ====
section
/-! DEFINITION. Samples: the plan and recipe in force at a step, the record a position reads, reading and fetching it,
rejection, substitution and reports (R155, R169 to R173, R177 to R179, R197, R198, R281). -/

namespace Sys2Proof.Machine

/-! ### The plan and the recipe in force at a step (R177 to R179) -/

/-- Event `a` fires before event `b` (R68): target Gauge, then kind; equal ones keep the order armed. -/
def firesBefore (a b : ArmedEvent) : Bool :=
  Gauge.lt a.target b.target || (decide (a.target = b.target) && decide (a.kind.value < b.kind.value))

/-- Put an event in firing order. -/
def insertEvent (e : ArmedEvent) : List ArmedEvent → List ArmedEvent
  | [] => [e]
  | x :: xs => if firesBefore e x then e :: x :: xs else x :: insertEvent e xs

/-- Events in firing order (R68). -/
def firingOrder (l : List ArmedEvent) : List ArmedEvent := l.foldl (fun acc e => insertEvent e acc) []

/-- Apply an armed event to a plan segment: a PLAN_CHANGE brings its plan, an EPOCH_ROLLOVER the next epoch (R177, R178). -/
def State.segmentAfter (s : State) (seg : Nat × Plan) (e : ArmedEvent) : Nat × Plan :=
  match e.kind with
  | .planChange => match s.plan? e.item with
    | some p => (e.item, p)
    | none => seg
  | .epochRollover => (seg.1, { seg.2 with startStep := e.target.step, startEpoch := seg.2.epochOf e.target.step + 1 })
  | _ => seg

/-- Armed events whose target is at or before a step, in firing order. -/
def State.eventsUpTo (s : State) (step : Nat) : List ArmedEvent :=
  firingOrder (s.gauge.armed.filter (fun e => decide (e.target.step ≤ step)))

/-- The plan segment in force at a step, with its handle (R179). -/
def State.segmentAt (s : State) (step : Nat) : Option (Nat × Plan) :=
  s.plan.active.map (fun a => (s.eventsUpTo step).foldl s.segmentAfter a)

/-- The recipe in force at a step (R179). -/
def State.recipeAt (s : State) (step : Nat) : Option Nat :=
  ((s.eventsUpTo step).filter (fun e => decide (e.kind = .recipeChange))).foldl (fun _ e => some e.item) s.plan.recipe

/-! ### This device's destinations (R281, R507) -/

/-- Destination index `d` of a plan is prepared here: its port is this device's and not handed over, or this device is
its proxy. -/
def State.preparesDest (s : State) (x : Dest) : Bool :=
  let mine : Bool := decide (x.device = s.group.set.deviceId) && decide (x.side = s.group.set.side)
  (mine && !s.group.handedOver.any (fun p => decide (p.dest = x))) || s.group.proxyFor.any (fun p => decide (p.dest = x))

/-- The indices of this device's destinations. -/
def State.localDests (s : State) (p : Plan) : List Nat :=
  (List.range p.dests.length).filter (fun d => s.preparesDest (p.dests.getD d ⟨0, 0, 0⟩))

/-- The packer-and-filter stage that serves a logical port: S0 for lanes on P0 or P1, S1 on P2 or P3 (R281). -/
def State.stageOfPort (s : State) (port : Nat) : Nat := match s.port? port with
  | some p => if p.block < 32 then 0 else 1
  | none => 0

/-- The queue of a destination. -/
def State.destQ? (s : State) (d : Nat) : Option DestQueue := s.pipe.dests.find? (fun q => decide (q.dest = d))

/-- Put a destination's queue back. -/
def State.setDestQ (s : State) (q : DestQueue) : State :=
  s.setPipe { s.pipe with dests := updateFirst (fun x => decide (x.dest = q.dest)) (fun _ => q) s.pipe.dests }

/-! ### Samples -/

/-- A sample by its name. -/
def State.sample? (s : State) (id : Nat) : Option Sample := s.pipe.samples.find? (fun x => decide (x.id = id))

/-- Put a sample back. -/
def State.setSample (s : State) (x : Sample) : State :=
  s.setPipe { s.pipe with samples := updateFirst (fun y => decide (y.id = x.id)) (fun _ => x) s.pipe.samples }

/-- Take a sample out of preparation. -/
def State.removeSample (s : State) (id : Nat) : State :=
  s.setPipe { s.pipe with samples := s.pipe.samples.filter (fun y => decide (y.id ≠ id)) }

/-- A stage's record. -/
def State.stageOf (s : State) (n : Nat) : Stage := s.pipe.stages.getD n {}

/-- Put a stage's record back. -/
def State.setStage (s : State) (n : Nat) (x : Stage) : State :=
  s.setPipe { s.pipe with stages := s.pipe.stages.set n x }

/-- Where a sample's draws come from (R216). -/
def State.drawKey (s : State) (x : Sample) : DrawKey := ⟨s.jobKey, x.epoch, x.position, x.attempt⟩

/-- Count in a list of counters. -/
def bump (l : List (Nat × Nat)) (k : Nat) (n : Nat := 1) : List (Nat × Nat) := assign l k (lookupD l k 0 + n)

/-! ### Reports (R198) -/

/-- Write an entry into the sample report ring: a full ring overwrites its oldest. -/
def State.writeReport (s : State) (e : Report) : State :=
  let p := s.pipe
  let full : Bool := decide (65536 ≤ p.reports.length)
  s.setPipe { p with reports := (if full then p.reports.drop 1 else p.reports) ++ [e], reportSeq := p.reportSeq + 1,
                     reportOverflow := if full then p.reportOverflow + 1 else p.reportOverflow }

/-- A report about a sample. -/
def Sample.report (x : Sample) (kind reason nameId detail : Nat) : Report :=
  { step := x.step, position := x.position, attempt := x.attempt, record := x.record, reason := reason, nameId := nameId
    kind := kind, dest := x.dest, detail := detail }

/-- Record an event of kind 0 to 2: in exact mode it is written when the position is released (R198). -/
def State.noteReport (s : State) (x : Sample) (e : Report) : State :=
  if s.det.exact then s.setSample { x with reports := x.reports ++ [e] } else (s.setSample x).writeReport e

/-! ### Reading and fetching (R155, R159, R171 to R173) -/

/-- The loaded Ingot that holds a record. -/
def Dataset.ingot? (d : Dataset) (record : Nat) : Option LoadedIngot :=
  d.ingots.find? (fun i => decide (i.firstRecord ≤ record) && decide (record < i.firstRecord + i.recordCount))

/-- What a device finds when it reads a record of its own: STATUS of R172 as 1, 2 or 4, or the record's bytes. -/
def State.readRecord (s : State) (dataset record : Nat) : Except Nat Bytes :=
  match (s.dataset? dataset).bind (fun d => d.ingot? record) with
  | none => .error 1
  | some i =>
    let (o, n) := i.index.getD (record - i.firstRecord) (0, 0)
    let offline : Bool := decide ((s.zone i.zone).status = .offline)
    if i.lost then .error 4
    else if offline ∨ s.ingotUnreadable i.startLba o n then .error 2
    else .ok (s.ingotBytes i.startLba o n)

/-- The 32-byte fetch request (R172). -/
def fetchRequest (record offset maxLength va rkey tag : Nat) : Bytes :=
  natLe 8 record ++ natLe 4 offset ++ natLe 4 maxLength ++ natLe 8 va ++ natLe 4 rkey ++ natLe 2 tag ++ natLe 2 0

/-- A TAG no fetch outstanding on the pair uses, counted on from the last one (R172). -/
def State.freeTag (s : State) (qp : Nat) : Nat :=
  (lowestFree (fun t => s.plan.fetches.any (fun f => decide (f.qp = qp) && decide (f.tag = (s.plan.nextTag + t) % 65536))) 65536 0).getD 0

/-- Send the request for the next piece of a fetch into its buffer (R172). -/
def State.askPiece (s : State) (f : Fetch) : State :=
  match s.pool? (bitsOf f.pointer 46 41) with
  | none => s
  | some p =>
    let (s, key) := s.poolRegion p
    s.post f.qp { kind := .send, data := fetchRequest f.record f.received.length (min p.bufSize 16777216) (bitsOf f.pointer 39 0) key f.tag,
                  user := .fetch f.qp f.tag }

/-- The requester ID of peer fetch on a pair: mesh port m mod 64, twin pairs by their port number (R87). -/
def fetchRequester (qp : Nat) : Nat := 128 + (if qp < 256 then qp / 2 % 64 else (qp - 256) / 2)

/-- Begin a fetch on a pair (R172): a buffer is taken first, and without one the fetch is deferred. -/
def State.beginFetch (s : State) (qp sample record : Nat) (kind : FetchKind) : State × Bool :=
  let q := fetchRequester qp
  if !s.rqpReady qp then (s, false)
  else match s.takeBuffers q 1 with
    | (s, some [ptr]) =>
      let tag := (s.plan.nextTag + s.freeTag qp) % 65536
      let f : Fetch := { tag := tag, qp := qp, sample := sample, record := record, pointer := ptr, owner := q, kind := kind }
      (({ s with plan := { s.plan with fetches := s.plan.fetches ++ [f], nextTag := (tag + 1) % 65536 } }).askPiece f, true)
    | (s, _) => (s, false)

/-- Read or fetch the record of a sample's position and attempt (R168, R169, R171). -/
def State.issueRead (s : State) (x : Sample) : State :=
  match s.segmentAt x.step with
  | none => s
  | some (_, p) =>
    let rec_ := p.record s.jobKey x.epoch (p.attemptPosition x.position x.attempt)
    let x := { x with record := rec_, phase := .unread, lost := none, fields := [], screen := .first }
    let me := s.group.set.deviceId
    match (s.catalogue? p.datasetId).bind (fun c => c.owner rec_) with
    | none => s.setSample { x with phase := .reading, lost := some 108 }
    | some o =>
      if o = me then
        match s.readRecord p.datasetId rec_ with
        | .ok bs => s.setSample { x with phase := .reading, bytes := bs, length := bs.length }
        | .error 4 => s.setSample { x with phase := .reading, lost := some 107 }
        | .error 2 =>
          match (if s.group.set.twin then s.twinQp 0 else none) with
          | some q =>
            let (s', ok) := s.beginFetch q x.id rec_ .mirror
            s'.setSample (if ok then { x with phase := .fetching } else { x with phase := .reading, lost := some 110 })
          | none => s.setSample { x with phase := .reading, lost := some 110 }
        | .error _ => s.setSample { x with phase := .reading, lost := some 108 }
      else
        let (s', ok) := s.beginFetch (meshQp me o 0) x.id rec_ .owner
        s'.setSample { x with phase := if ok then .fetching else .unread }

/-- Issue the work of a position (R168, R171). -/
def State.issuePosition (s : State) (step d k : Nat) : State :=
  match s.segmentAt step, s.recipeAt step with
  | some (_, p), some h =>
    let x : Sample := { id := s.pipe.nextId, step := step, dest := d, k := k, epoch := p.epochOf step, position := p.positionOf step d k
                        recipe := h, stage := s.stageOfPort (p.dests.getD d ⟨0, 0, 0⟩).port }
    (s.setPipe { s.pipe with samples := s.pipe.samples ++ [x], nextId := s.pipe.nextId + 1 }).issueRead x
  | _, _ => s

/-- Issue every position of a destination's step in ascending k. -/
def State.issueDest (s : State) (p : Plan) (step d : Nat) : State :=
  (List.range p.perDest).foldl (fun s k => s.issuePosition step d k) s

/-! ### Rejection and substitution (R197) -/

/-- The position is vacated: a report of kind 2 and SAMPLE_VACATED, at most once per 1 ms (R197). -/
def State.vacate (s : State) (x : Sample) : State :=
  let x := { x with phase := .vacant, fields := [], bytes := [] }
  let s := s.noteReport x (x.report 2 0 0xFFFF 0)
  if s.within s.pipe.vacatedAt (s.ms 1) then s
  else (s.setPipe { s.pipe with vacatedAt := some s.now }).raise .sampleVacated x.dest (natLe 8 x.step)

/-- Reject a sample (R197): its buffers return, the reason is recorded, and the next attempt of R169 is dispatched in its
place, or the position is vacated. -/
def State.rejectSample (s : State) (x : Sample) (reason nameId detail : Nat) : State :=
  let s := (s.evict x.id).dropBuffers x.owner x.buffers
  let x := { x with buffers := [], decodeAt := none, slow := false }
  let s := s.count (.sample reason)
  let e := x.report 0 reason nameId detail
  let s := s.noteReport x e
  let x := (s.sample? x.id).getD x
  let tries := match s.segmentAt x.step with | some (_, p) => p.subTries | none => 0
  if x.attempt < tries then
    let y := { x with attempt := x.attempt + 1 }
    (s.setSample y).issueRead y
  else s.vacate x

/-- Read or fetch a sample again, keeping its position, attempt and entry (R204, R246). -/
def State.redoSample (s : State) (x : Sample) : State :=
  let s := (s.evict x.id).dropBuffers x.owner x.buffers
  let y := { x with buffers := [], decodeAt := none }
  (s.setSample y).issueRead y

/-! ### The front end (R155, R185) -/

/-- The fields of a record the recipe names (R185). -/
def namedFields (recipe : Bytes) (fs : List FieldFrame) : List FieldFrame := fs.filter (fun f => namedBy recipe f.nameId)

/-- Take buffers for a record's bytes that are not yet in one: a local read takes them as its NAND channel (R87). -/
def State.recordBuffers (s : State) (x : Sample) : State × Option Sample :=
  if x.buffers.isEmpty then
    let q := Config.readChannel x.record % 48
    match s.takeBuffers q x.length with
    | (s, some l) => (s, some { x with buffers := l, owner := q })
    | (s, none) => (s, none)
  else (s, some x)

/-- RECORD_ARRIVAL (R155, R185): a record read or fetched whole is checked; a rejection is handled under R197, and a record
that passes waits for dispatch with its named fields. A deferred read or fetch is tried again (R87). -/
def execRecordArrival (sample : Nat) (s : State) : Out :=
  match s.sample? sample with
  | none => .next s
  | some x =>
    match x.phase with
    | .unread => .next (s.issueRead x)
    | .reading =>
      match x.lost with
      | some reason => .next (s.rejectSample x reason 0xFFFF 0)
      | none =>
        match s.recordBuffers x with
        | (s, none) => .next s
        | (s, some x) =>
          match checkRecord x.record x.bytes with
          | .error e => .next (s.rejectSample x e.reason e.nameId 0)
          | .ok fs =>
            let named := namedFields (s.recipeBytes x.recipe) fs
            let s := s.handOffAll x.buffers x.owner (58 + x.stage)
            let s := s.setPipe { s.pipe with unnamed := s.pipe.unnamed + (fs.length - named.length) }
            .next (s.setSample { x with phase := .checked, owner := 58 + x.stage, fields := named.map (fun f => { frame := f }) })
    | _ => .next s

/-! ### Beginning a step (R71, R171, R175) -/

/-- Read ahead what another device's destination is expected to fetch here (R171). -/
def State.readAheads (s : State) (p : Plan) (step : Nat) : List ReadAhead :=
  let e := p.epochOf step
  (List.range p.dests.length).flatMap (fun d =>
    if s.preparesDest (p.dests.getD d ⟨0, 0, 0⟩) then []
    else (List.range p.perDest).filterMap (fun k =>
      let rec_ := p.record s.jobKey e (p.positionOf step d k)
      let owner := (s.catalogue? p.datasetId).bind (fun c => c.owner rec_)
      if owner = some s.group.set.deviceId ∧ (p.dests.getD d ⟨0, 0, 0⟩).side = s.group.set.side then
        some { step := step, dest := d, k := k, record := rec_ } else none))

/-- A step is within the horizon and the fence (R67, R175). -/
def State.mayPrepare (s : State) (step : Nat) : Bool :=
  decide (step ≤ s.gauge.leading.step + s.gauge.horizon) && decide (step ≤ s.gauge.fence)

/-- Begin a step: its read-aheads, and its positions for destinations whose batch of the step has started. -/
def State.beginStep (s : State) (p : Plan) (step : Nat) : State :=
  let s := s.setPipe { s.pipe with aheads := s.pipe.aheads ++ s.readAheads p step }
  let s := { s with plan := { s.plan with nextStep := step + 1 } }
  (s.localDests p).foldl (fun s d =>
    match s.destQ? d with
    | some q => if step < q.next then s.issueDest p step d else s
    | none => s) s

/-- STEP_PREPARE (R71, R170, R171, R175): the next step is begun within horizon and fence; past the last step of epoch
0xFFFF_FFFF preparation stops and EPOCH_LIMIT is raised. -/
def execStepPrepare (s : State) : Out :=
  let step := s.plan.nextStep
  match s.segmentAt step with
  | none => .next s
  | some (_, p) =>
    if s.plan.epochLimit ∨ !s.mayPrepare step then .next s
    else if p.lastStep < step then
      .next (({ s with plan := { s.plan with epochLimit := true } }).raise .epochLimit)
    else .next (s.beginStep p step)

end Sys2Proof.Machine
end

