-- ==== Sys2Proof/Machine/Peer.lean ====
section
/-! DEFINITION. Peer fetch: an owner's answer to a request, a requester's handling of a reply, relays for the twin peer,
and what a failed pair means for its fetches (R172, R173, R509). -/

namespace Sys2Proof.Machine

/-- The first message of a length waiting on a pair: requests of R172 are 32 bytes, replies 16. -/
def State.inboxOf (s : State) (qp n : Nat) : Option Inbound :=
  s.rdma.inbox.find? (fun m => decide (m.qp = qp) && decide (m.bytes.length = n) && m.imm.isNone)

/-- Take a message off the inbox and return its receive buffer. -/
def State.consume (s : State) (m : Inbound) : State :=
  let s := { s with rdma := { s.rdma with inbox := s.rdma.inbox.erase m } }
  match m.pointer with
  | some p => (s.returnBuffer m.owner p).1
  | none => s

/-- The dataset a requested record belongs to: the first of the plans in force or armed whose dataset here holds it. -/
def State.datasetHolding (s : State) (record : Nat) : Nat :=
  match s.plansInUse.find? (fun p => ((s.dataset? p.datasetId).bind (fun d => d.ingot? record)).isSome) with
  | some p => p.datasetId
  | none => (s.plan.active.map (fun a => a.2.datasetId)).getD 0

/-- The 16-byte reply (R172). -/
def fetchReply (tag status length written : Nat) : Bytes :=
  natLe 2 tag ++ natLe 1 status ++ [0] ++ natLe 4 length ++ natLe 4 written ++ natLe 4 0

/-- Post a reply, after the payload write when there is one (R172 steps 1 and 2). -/
def State.replyFetch (s : State) (qp tag offset maxLength va rkey : Nat) : Except Nat Bytes → State
  | .error st => s.post qp { kind := .send, data := fetchReply tag st 0 0, user := .owner }
  | .ok bs =>
    if bs.length ≤ offset then s.post qp { kind := .send, data := fetchReply tag 3 bs.length 0, user := .owner }
    else
      let piece := (bs.drop offset).take maxLength
      (s.post qp { kind := .write va rkey, data := piece, user := .owner }).post qp
        { kind := .send, data := fetchReply tag 0 bs.length piece.length, user := .owner }

/-- PEER_FETCH_REQUEST (R172, R509): the owner writes the piece and replies; a request from the twin peer for a record
another member owns is fetched first, as any requester does. -/
def execPeerFetchRequest (qp : Nat) (s : State) : Out :=
  match s.inboxOf qp 32 with
  | none => .next s
  | some m =>
    let b := m.bytes
    let rec_ := fieldAt b 0 6
    let (o, n, va, key, tag) := (fieldAt b 8 4, fieldAt b 12 4, fieldAt b 16 8, fieldAt b 24 4, fieldAt b 28 2)
    let ds := s.datasetHolding rec_
    let owner := (s.catalogue? ds).bind (fun c => c.owner rec_)
    if fieldAt b 6 2 ≠ 0 ∨ fieldAt b 30 2 ≠ 0 then .next (s.consume m)
    else if 256 ≤ qp ∧ owner.isSome ∧ owner ≠ some s.group.set.deviceId then
      let (s', ok) := s.beginFetch (meshQp s.group.set.deviceId (owner.getD 0) 0) 0 rec_ (.relay qp tag o n va key)
      .next (if ok then s'.consume m else s')
    else
      let s := s.consume m
      let s := s.setPipe { s.pipe with aheads := s.pipe.aheads.filter (fun a => decide (a.record ≠ rec_)) }
      let data : Except Nat Bytes := if owner = some s.group.set.deviceId then s.readRecord ds rec_ else .error 1
      .next (s.replyFetch qp tag o n va key data)

/-- The fetch of a pair and TAG. -/
def State.fetch? (s : State) (qp tag : Nat) : Option Fetch :=
  s.plan.fetches.find? (fun f => decide (f.qp = qp) && decide (f.tag = tag))

/-- Remove a fetch. -/
def State.dropFetch (s : State) (f : Fetch) : State :=
  { s with plan := { s.plan with fetches := s.plan.fetches.filter (fun g => !(decide (g.qp = f.qp) && decide (g.tag = f.tag))) } }

/-- A fetch ends without its record (R173). -/
def State.failFetch (s : State) (f : Fetch) (reason : Nat) : State :=
  let s := (s.dropFetch f).dropBuffers f.owner [f.pointer]
  match f.kind with
  | .relay qp tag o n va key =>
    s.replyFetch qp tag o n va key (.error (match reason with | 110 => 2 | 107 => 4 | _ => 1))
  | .mirror => match s.sample? f.sample with
    | some x => s.rejectSample x (if reason = 107 then 107 else 110) 0xFFFF 0
    | none => s
  | _ => match s.sample? f.sample with
    | some x => s.rejectSample x reason 0xFFFF 0
    | none => s

/-- Every piece has arrived: the record is delivered (R173), or answered to the twin peer (R509). -/
def State.endFetch (s : State) (f : Fetch) (bs : Bytes) : State :=
  let s := s.dropFetch f
  match f.kind with
  | .relay qp tag o n va key => (s.dropBuffers f.owner [f.pointer]).replyFetch qp tag o n va key (.ok bs)
  | _ => match s.sample? f.sample with
    | some x => s.setSample { x with phase := .reading, bytes := bs, length := bs.length, buffers := [f.pointer], owner := f.owner }
    | none => s.dropBuffers f.owner [f.pointer]

/-- PEER_FETCH_REPLY (R172, R173): the requester delivers the record, asks for the next piece, or rejects. -/
def execPeerFetchReply (qp : Nat) (s : State) : Out :=
  match s.inboxOf qp 16 with
  | none => .next s
  | some m =>
    let b := m.bytes
    let s := s.consume m
    match s.fetch? qp (fieldAt b 0 2) with
    | none => .next s
    | some f =>
      let (st, len, n) := (fieldAt b 2 1, fieldAt b 4 4, fieldAt b 8 4)
      let faults := { s with plan := { s.plan with catalogueFaults := s.plan.catalogueFaults + 1 } }
      if st = 0 ∧ (n ≠ 0 ∨ len = f.received.length) then
        let f' := { f with received := f.received ++ s.memRead (bitsOf f.pointer 39 0) n }
        if f'.received.length < len then
          let l := updateFirst (fun g => decide (g.qp = f.qp) && decide (g.tag = f.tag)) (fun _ => f') s.plan.fetches
          .next (({ s with plan := { s.plan with fetches := l } }).askPiece f')
        else .next (s.endFetch f f'.received)
      else if st = 2 then .next (s.failFetch f 110)
      else if st = 4 then .next (s.failFetch f 107)
      else if st = 1 ∨ st = 3 then .next (faults.failFetch f 108)
      else .next (s.failFetch f 108)

/-- A pair entered the error state: each fetch on it is repeated from the owner's twin peer over the twin links, or fails
(R173). -/
def State.fetchPairFailed (s : State) (qp : Nat) : State :=
  (s.plan.fetches.filter (fun f => decide (f.qp = qp))).foldl (fun s f =>
    match f.kind, (if s.group.set.twin then s.twinQp 0 else none) with
    | .owner, some q =>
      if s.rqpReady q then
        let g := { f with qp := q, tag := (s.plan.nextTag + s.freeTag q) % 65536, kind := .twin, received := [] }
        let s := s.dropFetch f
        ({ s with plan := { s.plan with fetches := s.plan.fetches ++ [g], nextTag := (g.tag + 1) % 65536 } }).askPiece g
      else s.failFetch f 108
    | .mirror, _ => s.failFetch f 110
    | _, _ => s.failFetch f 108) s

end Sys2Proof.Machine
end

