-- ==== Sys2Proof/Machine/Riffle.lean ====
section
/-! DEFINITION. The Riffle decode clusters: dispatch, the life of a slot, engines, budgets, faults, the watchdog and their
status (chapter 07). The formats' own decoders are the uninterpreted `Config.mediaHeader` and `Config.decodeRun`. -/

namespace Sys2Proof.Machine

/-! ### Which fields go where (R185, R223) -/

/-- The decode descriptor of a field, with its ordinal in the section (R216, R218). -/
def descOf (recipe : Bytes) (name : Nat) : Option (Nat × DecodeDesc) :=
  let ds := decodeDescs recipe
  (ds.findIdx? (fun d => decide (d.nameId = name))).bind (fun i => (ds[i]?).map (fun d => (i, d)))

/-- The text descriptor of a field (R249). -/
def textDescOf (recipe : Bytes) (name : Nat) : Option TextDesc := (textDescs recipe).find? (fun d => decide (d.nameId = name))

/-- The embedding of a field, with its ordinal (R277). -/
def embeddingOf (recipe : Bytes) (name : Nat) : Option (Nat × Embedding) :=
  match filterSection? recipe with
  | none => none
  | some f => (f.embeddings.findIdx? (fun m => decide (m.nameId = name))).bind (fun i => (f.embeddings[i]?).map (fun m => (i, m)))

/-- A field takes a Riffle: an IMAGE, VIDEO, AUDIO or wrapped field with a decode descriptor (R185). -/
def isRiffleField (recipe : Bytes) (f : FieldFrame) : Bool :=
  (decide (f.typ ≤ 3) || decide (f.codec / 16 ≠ 0)) && (descOf recipe f.nameId).isSome

/-- A field goes to a Drawplate: TEXT with a text descriptor (R223). -/
def isTextField (recipe : Bytes) (f : FieldFrame) : Bool := decide (f.typ = 4) && (textDescOf recipe f.nameId).isSome

/-- A field as it stands at dispatch: one that needs no unit arrives at once (R185). -/
def fieldAtDispatch (recipe : Bytes) (f : FieldFrame) : PField :=
  if isRiffleField recipe f then { frame := f }
  else if f.typ = 4 then { frame := f, data := some f.payload, arrived := !isTextField recipe f }
  else if f.typ = 5 ∧ f.codec / 16 = 0 then { frame := f, data := some f.payload, tensor := tensorOf f.payload, arrived := true }
  else { frame := f, data := some f.payload, arrived := true }

/-- The Riffle fields of a sample in ascending NAME_ID. -/
def riffleFields (recipe : Bytes) (x : Sample) : List FieldFrame := (x.fields.map (fun p => p.frame)).filter (isRiffleField recipe)

/-- A field of a sample. -/
def Sample.field? (x : Sample) (name : Nat) : Option PField := x.fields.find? (fun p => decide (p.frame.nameId = name))

/-- Put a field back. -/
def Sample.setField (x : Sample) (p : PField) : Sample :=
  { x with fields := updateFirst (fun q => decide (q.frame.nameId = p.frame.nameId)) (fun _ => p) x.fields }

/-- A sample whose every field has arrived is complete and goes to screening (R199, R253). -/
def State.settleSample (s : State) (x : Sample) : State :=
  if x.fields.all (fun p => p.arrived) then
    let s := s.setPipe { s.pipe with nextOrder := s.pipe.nextOrder + 1 }
    s.setSample { x with phase := .screening, screen := .first, order := s.pipe.nextOrder }
  else s.setSample x

/-! ### Dispatch (R186, R199, R200) -/

/-- Free slots of a Riffle in service. -/
def Riffle.free (f : Riffle) : Nat := if f.state = .active then (f.slots.filter (fun x => decide (x.state = .free))).length else 0

/-- The Riffle of a die with the most free slots, the lower number on a tie; none without a free slot. -/
def State.riffleOfDie (s : State) (die : Nat) : Option Nat :=
  let ns := (List.range 4).map (fun i => 4 * die + i)
  let best := maxD (ns.map (fun n => (s.riffle n).free)) 0
  if best = 0 then none else ns.find? (fun n => decide ((s.riffle n).free = best))

/-- Riffle and slot for a sample of a stage: its own die, then the other (R186). -/
def State.pickSlot (s : State) (stage : Nat) : Option (Nat × Nat) :=
  ((s.riffleOfDie stage).orElse (fun _ => s.riffleOfDie (1 - stage))).bind (fun n =>
    ((s.riffle n).slots.findIdx? (fun x => decide (x.state = .free))).map (fun i => (n, i)))

/-- Sample `a` precedes `b` in the order of evaluation (R171). -/
def evaluatedBefore (a b : Sample) : Bool :=
  decide (a.step < b.step) || (decide (a.step = b.step) && (decide (a.dest < b.dest) || (decide (a.dest = b.dest) && decide (a.k < b.k))))

/-- Nothing of the stage that has no entry yet precedes the sample. -/
def State.itsTurn (s : State) (x : Sample) : Bool :=
  !s.pipe.samples.any (fun y => decide (y.stage = x.stage) && y.synth.isNone && !y.entry && evaluatedBefore y x)

/-- Reserve a resequencer entry where the sample has none (R186, R199). -/
def State.reserve (s : State) (x : Sample) : State × Sample :=
  if x.entry then (s, x)
  else
    let g := s.stageOf x.stage
    ((s.setStage x.stage { g with reserved := g.reserved + 1 }), { x with entry := true })

/-- Place a sample in a slot: its field bytes are handed to the Riffle (R86, R187). -/
def State.placeInSlot (s : State) (x : Sample) (n i name : Nat) : State :=
  let s := s.handOffAll x.buffers x.owner (48 + n)
  let s := s.setSlot n i { state := .header, sample := x.id, name := name, lastUnit := s.now }
  s.settleSample { x with owner := 48 + n }

/-- SAMPLE_DISPATCH (R185, R186, R199, R200): in the order of evaluation a sample that passed the front end takes a
resequencer entry and, when it has Riffle fields, a free slot; a position vacated before dispatch takes its entry too. -/
def execSampleDispatch (sample : Nat) (s : State) : Out :=
  match s.sample? sample with
  | none => .next s
  | some x =>
    let room : Bool := x.entry || (decide ((s.stageOf x.stage).reserved < 2048) && s.itsTurn x)
    if !room then .next s
    else if x.phase = .vacant then
      let (s', y) := s.reserve x
      .next (s'.setSample y)
    else if x.phase ≠ .checked then .next s
    else
      let recipe := s.recipeBytes x.recipe
      let ready := { x with phase := .units, fields := x.fields.map (fun p => fieldAtDispatch recipe p.frame) }
      match riffleFields recipe x with
      | [] =>
        let (s', y) := s.reserve ready
        .next (s'.settleSample y)
      | f :: _ =>
        match s.pickSlot x.stage with
        | none => .next s
        | some (n, i) =>
          let (s', y) := s.reserve ready
          .next (s'.placeInSlot y n i f.nameId)

/-! ### Rejection in a slot (R187, R193, R197) -/

/-- REJECT: every buffer returns, the slot is FREE again and substitution begins (R187, R197). -/
def State.rejectInSlot (s : State) (n i : Nat) (x : Sample) (reason detail : Nat) : State :=
  let f := s.riffle n
  let s := s.setRiffle n { f with rejections := bump f.rejections reason }
  s.rejectSample x reason (s.slot n i).name detail

/-! ### HEADER (R193 to R195) -/

/-- What the pre-pass finds of a field: its header, the selected frames and the frames a decoder decodes. -/
def State.headerOf (s : State) (x : Sample) (o : Nat) (d : DecodeDesc) (f : FieldFrame) : Config.MediaHeader × List Nat × Nat :=
  let h := Config.mediaHeader f.typ f.codec f.payload
  let idx := if f.typ = 2 then frameIndices d (s.drawKey x) o (shownFrames h) else []
  (h, idx, if f.typ = 2 then framesDecoded h idx else 0)

/-- The sample, field, ordinal and descriptor that a slot in a state works on. -/
def State.slotWork (s : State) (n i : Nat) (st : SlotState) : Option (Sample × FieldFrame × Nat × DecodeDesc) :=
  let sl := s.slot n i
  if sl.state ≠ st then none
  else match s.sample? sl.sample with
    | none => none
    | some x =>
      match x.field? sl.name, descOf (s.recipeBytes x.recipe) sl.name with
      | some p, some (o, d) => some (x, p.frame, o, d)
      | _, _ => none

/-- The field's limit in budget units (R194, R195). -/
def State.limitOf (s : State) (x : Sample) (o : Nat) (d : DecodeDesc) (f : FieldFrame) : Nat :=
  let (h, _, fd) := s.headerOf x o d f
  let size := declaredSize f.typ f.codec h fd
  budgetLimit d (estimate f.typ f.codec h fd f.payload.length (outputLimit d size (decide (f.codec / 16 ≠ 0)) f.payload.length))

/-- SLOT_HEADER_CHECK (R187, R191 to R195): the checks of R193 in order and the budget estimate; a field that passes moves
its slot to ALLOC, and one that fails rejects the sample before any other buffer is taken. -/
def execSlotHeaderCheck (riffle slot : Nat) (s : State) : Out :=
  match s.slotWork riffle slot .header with
  | none => .next s
  | some (x, f, o, d) =>
    let (h, _, fd) := s.headerOf x o d f
    match headerReject d f.typ f.codec f.payload.length fd h with
    | some reason => .next (s.rejectInSlot riffle slot x reason 0)
    | none => .next (s.setSlot riffle slot { s.slot riffle slot with state := .alloc })

/-- SLOT_ALLOC (R87, R187): the slot takes its working and output buffers, or stays in ALLOC and retries; then it is in
DECODE and takes a free engine when there is one. -/
def execSlotAlloc (riffle slot : Nat) (s : State) : Out :=
  match s.slotWork riffle slot .alloc with
  | none => .next s
  | some (x, f, o, d) =>
    let (h, _, fd) := s.headerOf x o d f
    let size := declaredSize f.typ f.codec h fd
    match s.takeBuffers (48 + riffle) (outputLimit d size (decide (f.codec / 16 ≠ 0)) f.payload.length) with
    | (s, none) => .next s
    | (s, some l) =>
      let sl := s.slot riffle slot
      let s := s.setSlot riffle slot { sl with state := .decode, consumed := 0, lastUnit := s.now, buffers := sl.buffers ++ l
                                               engine := (s.riffle riffle).freeEngine }
      .next (s.setSample { x with decodeAt := some (x.decodeAt.getD s.now) })

/-! ### DECODE (R183, R189 to R196) -/

/-- The decode of a field: the budget units it counts, what it meets and what it produces. -/
def State.runOf (s : State) (x : Sample) (o : Nat) (d : DecodeDesc) (f : FieldFrame) : Config.DecodeRun :=
  Config.decodeRun f.typ f.codec f.payload (s.headerOf x o d f).2.1

/-- What a finished decode fails with: an error of the stream, an output above its limit or its declared size, data after
the end under STRICT_TAIL (R189, R192, R193). -/
def State.decodeFault (s : State) (x : Sample) (o : Nat) (d : DecodeDesc) (f : FieldFrame) : Option (Nat × Nat) :=
  let (h, _, fd) := s.headerOf x o d f
  let run := s.runOf x o d f
  let limit := outputLimit d (declaredSize f.typ f.codec h fd) (decide (f.codec / 16 ≠ 0)) f.payload.length
  run.fault.orElse (fun _ =>
    if limit < run.produced then some (223, 0)
    else if run.tail ∧ bitOf d.flags 0 then some (224, 0) else none)

/-- Count budget units on a Riffle. -/
def State.addUnits (s : State) (n u : Nat) : State := s.setRiffle n { s.riffle n with units := (s.riffle n).units + u }

/-- DECODE_FIELD_END (R183, R187, R189, R192): a decode engine finishes a field within its limit and gives up its slot; the
slot moves to TRANSFORM, or the sample is rejected. -/
def execDecodeFieldEnd (riffle slot : Nat) (s : State) : Out :=
  match s.slotWork riffle slot .decode with
  | none => .next s
  | some (x, f, o, d) =>
    let sl := s.slot riffle slot
    let run := s.runOf x o d f
    match sl.engine, passesAt (s.limitOf x o d f) run.steps 0 with
    | some e, none =>
      let s := s.addUnits riffle (run.steps.sum - sl.consumed)
      match s.decodeFault x o d f with
      | some (reason, detail) => .next (s.rejectInSlot riffle slot x reason detail)
      | none =>
        let s := s.setSlot riffle slot { sl with state := .transform, engine := none, consumed := run.steps.sum, lastUnit := s.now }
        .next (s.giveEngine riffle e)
    | _, _ => .next s

/-- ENGINE_YIELD (R183): a decode engine that has consumed 65,536 budget units on a slot while another waits takes the
other. -/
def execEngineYield (riffle slot : Nat) (s : State) : Out :=
  match s.slotWork riffle slot .decode with
  | none => .next s
  | some (x, f, o, d) =>
    let sl := s.slot riffle slot
    match sl.engine with
    | none => .next s
    | some e =>
      if (s.riffle riffle).waiting.isEmpty ∨ (s.runOf x o d f).steps.sum < sl.consumed + 65536 then .next s
      else
        let s := (s.addUnits riffle 65536).giveEngine riffle e
        .next (s.setSlot riffle slot { sl with engine := none, consumed := sl.consumed + 65536, lastUnit := s.now })

/-- BUDGET_EXCEEDED (R194 to R197): a field's consumption passes its limit, and the sample fails with 230 BUDGET whose
DETAIL is the consumption. -/
def execBudgetExceeded (riffle slot : Nat) (s : State) : Out :=
  match s.slotWork riffle slot .decode with
  | none => .next s
  | some (x, f, o, d) =>
    match (s.slot riffle slot).engine, passesAt (s.limitOf x o d f) (s.runOf x o d f).steps 0 with
    | some _, some c => .next ((s.addUnits riffle (c - (s.slot riffle slot).consumed)).rejectInSlot riffle slot x 230 c)
    | _, _ => .next s

/-! ### TRANSFORM and DONE (R187, R206 to R216, R269, R271) -/

/-- The source of stochastic rounding words: the counter generator in exact mode, the free-running source in fast mode
(R216, R272, R334). -/
def State.castWords (s : State) (x : Sample) (purpose o : Nat) : Nat → Nat :=
  if s.det.exact then castWord (s.drawKey x) purpose o else fun i => Config.freeNat (s.freeCtr + i) % 2 ^ 32

/-- Use as many free values as a tensor has elements (fast mode). -/
def State.usedFor (s : State) (t : Tensor) : State :=
  if s.det.exact then s else { s with freeCtr := s.freeCtr + product t.dims }

/-- The field as its transforms leave it, or why the sample is rejected: 231, or 106 for a wrapped TENSOR. -/
def State.transformed (s : State) (x : Sample) (o : Nat) (d : DecodeDesc) (p : PField) : Except Nat PField :=
  let f := p.frame
  let recipe := s.recipeBytes x.recipe
  let run := s.runOf x o d f
  if f.typ ≤ 3 then
    match mediaTensor recipe d (s.drawKey x) o run (s.castWords x 0x03 o) with
    | none => .error 231
    | some t =>
      let owes := (embeddingOf recipe f.nameId).isSome
      .ok { p with tensor := some t, owes := owes, arrived := !owes }
  else if f.typ = 4 then .ok { p with data := some run.bytes, arrived := !isTextField recipe f }
  else if f.typ = 5 then
    match tensorOf run.bytes with
    | none => .error 106
    | some t => .ok { p with data := some run.bytes, tensor := some t, arrived := true }
  else .ok { p with data := some run.bytes, arrived := true }

/-- The Riffle field of a sample after a NAME_ID. -/
def nextRiffleField (recipe : Bytes) (x : Sample) (name : Nat) : Option Nat :=
  ((riffleFields recipe x).find? (fun f => decide (name < f.nameId))).map (fun f => f.nameId)

/-- DONE: the output tensors are handed to the stage, and each embedding owed becomes an Anvil job (R187, R269, R271). -/
def State.slotDone (s : State) (n i : Nat) (x : Sample) : State :=
  let sl := s.slot n i
  let stage := 58 + x.stage
  let s := s.handOffAll (x.buffers ++ sl.buffers) (48 + n) stage
  let f := s.riffle n
  let s := s.setRiffle n { f with completed := f.completed + 1, sinceFault := f.sinceFault.map (fun c => c + 1) }
  let s := s.setSlot n i {}
  let jobs := (x.fields.filter (fun p => p.owes)).map (fun p => (2 * x.stage + 1, AnvilWork.embedding x.id p.frame.nameId))
  let s := s.setPipe { s.pipe with anvil := { s.pipe.anvil with jobs := s.pipe.anvil.jobs ++ jobs } }
  s.settleSample { x with buffers := x.buffers ++ sl.buffers, owner := stage }

/-- TRANSFORM_DONE (R187, R206 stage R216): the pixel and output engines finish a field; the slot goes on to its sample's next
Riffle field, or is DONE. -/
def execTransformDone (riffle slot : Nat) (s : State) : Out :=
  match s.slotWork riffle slot .transform with
  | none => .next s
  | some (x, f, o, d) =>
    match s.transformed x o d ((x.field? f.nameId).getD { frame := f }) with
    | .error reason => .next (s.rejectInSlot riffle slot x reason 0)
    | .ok p =>
      let s := match p.tensor with
        | some t => if d.rounding = 2 ∧ f.typ ≤ 3 then s.usedFor t else s
        | none => s
      let y := x.setField p
      match nextRiffleField (s.recipeBytes x.recipe) y f.nameId with
      | some name =>
        .next ((s.setSample y).setSlot riffle slot { s.slot riffle slot with state := .header, name := name, lastUnit := s.now })
      | none => .next (s.slotDone riffle slot y)

/-! ### The watchdog (R201, R202) -/

/-- Byte offset of the decode section's body. -/
def decodeBody (recipe : Bytes) : Nat := ((findSection recipe 1).map (fun x => x.at_)).getD 0

/-- LATE_DEFER, LATE_LIMIT and WATCHDOG_MS (R217). -/
def lateDefer (recipe : Bytes) : Bool := bitOf (fieldAt recipe (decodeBody recipe + 2) 1) 0
def lateLimit (recipe : Bytes) : Nat := fieldAt recipe (decodeBody recipe + 3) 1
def watchdogMs (recipe : Bytes) : Nat := fieldAt recipe (decodeBody recipe + 4) 4

/-- SLOW_SAMPLE, at most once per 10 ms (R202). -/
def State.raiseSlow (s : State) (x : Sample) : State :=
  if s.within s.pipe.slowAt (s.ms 10) then s
  else (s.setPipe { s.pipe with slowAt := some s.now }).raise .slowSample x.dest (natLe 8 x.step)

/-- A position is settled in its batch (R288). -/
def State.settlePosition (s : State) (dest step : Nat) : State :=
  match s.destQ? dest with
  | none => s
  | some q =>
    s.setDestQ { q with opens := updateFirst (fun b => decide (b.step = step)) (fun b => { b with settled := b.settled + 1 }) q.opens }

/-- SAMPLE_WATCHDOG_EXPIRY (R202): a report of kind 3 and SLOW_SAMPLE; in fast mode with LATE_DEFER the sample is deferred
with a report of kind 4. The row itself says that WATCHDOG_MS has passed since the sample first entered DECODE. -/
def execSampleWatchdogExpiry (sample : Nat) (s : State) : Out :=
  match s.sample? sample with
  | none => .next s
  | some x =>
    let recipe := s.recipeBytes x.recipe
    let ms := watchdogMs recipe
    if x.decodeAt.isNone ∨ x.slow ∨ x.phase ≠ .units then .next s
    else if !s.det.exact ∧ lateDefer recipe then
      .next (((s.setSample { x with slow := true, deferred := true }).writeReport (x.report 4 0 0xFFFF ms)).settlePosition x.dest x.step)
    else .next (((s.setSample { x with slow := true }).writeReport (x.report 3 0 0xFFFF ms)).raiseSlow x)

/-! ### Faults (R203 to R205) -/

/-- The samples in a Riffle's slots. -/
def State.samplesIn (s : State) (n : Nat) : List Sample :=
  (s.riffle n).slots.filterMap (fun x => if x.state = .free then none else s.sample? x.sample)

/-- The actions of R204 that a fault and a block reset share: buffers return and every sample is dispatched again. -/
def State.emptyRiffle (s : State) (n : Nat) : State :=
  let xs := s.samplesIn n
  let s := s.returnAllOf (48 + n)
  let f := s.riffle n
  let s := s.setRiffle n { f with slots := List.replicate 24 {} }
  xs.foldl (fun s x => s.redoSample { x with buffers := [], decodeAt := none }) s

/-- A Riffle fault (R204, R205): a block reset, its samples dispatched again, RIFFLE_FAULT; a second fault before 1,048,576
samples retires it. -/
def State.riffleFault (s : State) (n : Nat) : State :=
  let f := s.riffle n
  if f.state = .out then s
  else
    let again : Bool := match f.sinceFault with | some c => decide (c < 1048576) | none => false
    let s := (s.emptyRiffle n).unitEvent .riffleFault n (s.riffleSite n)
    let s := s.setRiffle n { s.riffle n with state := .reset, faults := f.faults + 1, sinceFault := some 0 }
    if again then s.retireRiffle n else s.blockReset (0x0200 + n)

/-- RIFFLE_ECC_ERROR (R203 to R205). -/
def execRiffleEccError (riffle : Nat) (s : State) : Out := .next (if 8 ≤ riffle then s else s.riffleFault riffle)

/-- RIFFLE_STALL_TIMEOUT (R203): the row itself says that a slot in DECODE or TRANSFORM recorded no unit and no output for
10 ms. -/
def execRiffleStallTimeout (riffle slot : Nat) (s : State) : Out :=
  let st := (s.slot riffle slot).state
  .next (if st = .decode ∨ st = .transform then s.riffleFault riffle else s)

/-! ### Commands (R221) -/

/-- What RIFFLE_STATUS reports of a Riffle: site, state, busy slots, completed, units, faults, then (reason, count)
pairs. -/
def State.riffleReport (s : State) (n : Nat) : List Nat :=
  let f := s.riffle n
  [s.riffleSite n, f.state.value, (f.slots.filter (fun x => decide (x.state ≠ .free))).length, f.completed, f.units, f.faults,
    f.rejections.length] ++ f.rejections.flatMap (fun r => [r.1, r.2])

/-- RIFFLE_STATUS (R221): the Riffles named, then the entries reserved of each stage. -/
def execRiffleStatus (r : Req) (riffle : Nat) (s : State) : Out :=
  let ns := if riffle = 0xFF then List.range 8 else [riffle]
  .next (s.finish r 0x0320 (firstReject [(decide (7 < riffle) && decide (riffle ≠ 0xFF), badParam 0)])
    (s.answer r 0x0320 .ok 0 [] (ns.flatMap s.riffleReport ++ s.pipe.stages.map (fun g => g.reserved))))

/-- A report's 40 bytes (R198). -/
def Report.bytes (e : Report) : Bytes :=
  natLe 8 e.step ++ natLe 6 e.position ++ natLe 1 e.attempt ++ [0] ++ natLe 8 e.record ++ natLe 2 e.reason ++ natLe 2 e.nameId
    ++ natLe 1 e.kind ++ [0] ++ natLe 2 e.dest ++ natLe 4 e.detail ++ natLe 4 0

/-- SAMPLE_REPORT_READ (R221): up to COUNT entries from a sequence number; FLAGS[0] is set when the first requested was
overwritten. The answer's values are FLAGS, the next sequence number and the overflow count. -/
def execSampleReportRead (r : Req) (first count : Nat) (s : State) : Out :=
  let oldest := s.pipe.reportSeq - s.pipe.reports.length
  let from_ := max first oldest
  let got := (s.pipe.reports.drop (from_ - oldest)).take count
  .next (s.finish r 0x0321 (firstReject [(outside count 1 100, badParam 8)])
    (s.answer r 0x0321 .ok 0 (got.flatMap Report.bytes)
      [(decide (first < oldest)).toNat, from_ + got.length, s.pipe.reportOverflow]))

end Sys2Proof.Machine
end

