-- ==== Sys2Proof/Machine/Drawplate.lean ====
section
/-! DEFINITION. The Drawplates: streams, tokenising and detokenising, faults, vocabularies and probes (chapter 08). -/

namespace Sys2Proof.Machine

/-- A Drawplate's record. -/
def State.plate (s : State) (n : Nat) : Drawplate := s.pipe.plates.getD n { state := .out }

/-- Put a Drawplate's record back. -/
def State.setPlate (s : State) (n : Nat) (d : Drawplate) : State := s.setPipe { s.pipe with plates := s.pipe.plates.set n d }

/-- DETOK_STREAMS of the recipe in force (R222). -/
def State.detokNow (s : State) : Nat := match s.plan.recipe with
  | some h => detokStreams (s.recipeBytes h)
  | none => 0

/-- The lowest-numbered free stream of a direction: streams 24 - DETOK_STREAMS to 23 decode, the others encode (R222,
R223, R239). -/
def State.freeStream (s : State) (n : Nat) (decoding : Bool) : Option Nat :=
  let d := s.plate n
  let k := s.detokNow
  if d.state ≠ .active then none
  else (List.range 24).find? (fun i => (if decoding then decide (24 - k ≤ i) else decide (i < 24 - k))
    && !d.busy.any (fun b => decide (b.number = i)))

/-- A free stream on the die's Drawplate, else on the other (R223, R239). -/
def State.streamFor (s : State) (die : Nat) (decoding : Bool) : Option (Nat × Nat) :=
  match s.freeStream die decoding with
  | some i => some (die, i)
  | none => (s.freeStream (1 - die) decoding).map (fun i => (1 - die, i))

/-- Take a stream. -/
def State.takeStream (s : State) (n i : Nat) (u : StreamUse) : State :=
  let d := s.plate n
  s.setPlate n { d with busy := d.busy ++ [{ number := i, use := u, lastByte := s.now }] }

/-- Free a stream. -/
def State.freeStreamAt (s : State) (n i : Nat) : State :=
  let d := s.plate n
  s.setPlate n { d with busy := d.busy.filter (fun b => decide (b.number ≠ i)) }

/-- The stream's work. -/
def State.streamUse (s : State) (n i : Nat) : Option StreamUse :=
  ((s.plate n).busy.find? (fun b => decide (b.number = i))).map (fun b => b.use)

/-- Both Drawplates are disabled (R245, R247). -/
def State.noPlates (s : State) : Bool := s.pipe.plates.all (fun d => decide (d.state = .out))

/-- A TEXT field waits for a stream. -/
def State.waitingText (s : State) (x : Sample) (name : Nat) : Option (PField × TextDesc) :=
  match x.field? name, textDescOf (s.recipeBytes x.recipe) name with
  | some p, some d =>
    let streaming : Bool := s.pipe.plates.any (fun t => t.busy.any (fun b => decide (b.use = .encode x.id name)))
    if p.frame.typ = 4 ∧ p.data.isSome ∧ !p.arrived ∧ !streaming ∧ x.phase = .units then some (p, d) else none
  | _, _ => none

/-- TEXT_STREAM_ASSIGN (R222, R223, R245): the length is checked before a stream is taken; without a free stream the field
waits. -/
def execTextStreamAssign (sample name : Nat) (s : State) : Out :=
  match s.sample? sample with
  | none => .next s
  | some x =>
    match s.waitingText x name with
    | none => .next s
    | some (p, d) =>
      if s.noPlates then .next (s.rejectSample x 305 name 0)
      else if d.maxBytes < (p.data.getD []).length then .next (s.rejectSample x 304 name 0)
      else match s.streamFor x.stage false with
        | none => .next s
        | some (n, i) => .next (s.takeStream n i (.encode x.id name))

/-- The vocabulary a recipe names. -/
def State.vocabOf (s : State) (recipe : Bytes) : Bytes := (vocabNamed recipe s.pipe.vocabs).getD []

/-- Count a field a Drawplate completed. -/
def Drawplate.fieldDone (d : Drawplate) (bytes replaced : Nat) : Drawplate :=
  { d with fields := d.fields + 1, bytesIn := d.bytesIn + bytes, replacements := d.replacements + replaced
           sinceFault := d.sinceFault.map (fun c => c + 1) }

/-- TEXT_ENCODE_DONE (R223, R225 to R228, R233 to R238): the stream takes its output buffers, or pauses; its tokens are
handed to the stage, or the sample is rejected. -/
def execTextEncodeDone (plate stream : Nat) (s : State) : Out :=
  match s.streamUse plate stream with
  | some (.encode id name) =>
    match s.sample? id with
    | none => .next (s.freeStreamAt plate stream)
    | some x =>
      match x.field? name, textDescOf (s.recipeBytes x.recipe) name with
      | some p, some d =>
        let bs := p.data.getD []
        let e := encodeText (s.vocabOf (s.recipeBytes x.recipe)) d bs
        match e.result with
        | .error reason =>
          let s := s.freeStreamAt plate stream
          let g := s.plate plate
          let s := s.setPlate plate { g with rejections := bump g.rejections reason, replacements := g.replacements + e.replaced }
          .next (s.rejectSample x reason name 0)
        | .ok ts =>
          let t := tokenTensor ts
          match s.takeBuffers (56 + plate) t.bytes.length with
          | (s, none) => .next s
          | (s, some l) =>
            let s := (s.handOffAll l (56 + plate) x.owner).freeStreamAt plate stream
            let s := s.setPlate plate ((s.plate plate).fieldDone bs.length e.replaced)
            .next (s.settleSample ({ x with buffers := x.buffers ++ l }.setField { p with tokens := some ts, tensor := some t, arrived := true }))
      | _, _ => .next s
  | _ => .next s

/-! ### Returned synthetic messages (R239 to R244, R304, R305) -/

/-- Drop a synthetic message by reason (R305). -/
def State.dropSynth (s : State) (reason : Nat) : State :=
  let y := s.pipe.synth
  let s := (s.setPipe { s.pipe with synth := { y with drops := bump y.drops reason } }).count (.synth reason)
  if s.within s.pipe.synth.droppedAt (s.ms 1) then s
  else (s.setPipe { s.pipe with synth := { s.pipe.synth with droppedAt := some s.now } }).raise .synthDropped reason

/-- Drop a message that is already a sample: its receive buffer and its buffers return. -/
def State.dropSynthSample (s : State) (x : Sample) (reason : Nat) : State :=
  let s := ((s.evict x.id).dropBuffers x.owner x.buffers).removeSample x.id
  let s := match x.synth with
    | some y => (match y.pointer with | some p => (s.returnBuffer y.owner p).1 | none => s)
    | none => s
  s.dropSynth reason

/-- The first message waiting on a synthetic pair (R239, R304). -/
def State.synthMessage (s : State) : Option Inbound :=
  s.rdma.inbox.find? (fun m => match s.rqp? m.qp with | some q => decide (q.service = 2) | none => false)

/-- Why a message is dropped before it takes a stream (R245, R305). -/
def State.synthFault (s : State) (b : Bytes) : Option Nat :=
  let profile : Bool := match s.recipeAt s.gauge.committed.step with
    | some h => (profile? (s.recipeBytes h) (fieldAt b 2 1)).isSome
    | none => false
  if fieldAt b 0 2 ≠ 1 ∨ fieldAt b 3 1 ≠ 0 ∨ !zeroAt b 16 16 ∨ fieldAt b 4 4 = 0 then some 1
  else if b.length ≠ 32 + 4 * fieldAt b 4 4 then some 2
  else if !profile then some 3
  else if s.noPlates then some 4
  else none

/-- SYNTH_STREAM_ASSIGN (R239, R304, R305): the message takes the lowest-numbered free decode stream of its die's Drawplate,
else of the other, or waits in its receive buffer; a bad one is dropped. -/
def execSynthStreamAssign (s : State) : Out :=
  match s.synthMessage with
  | none => .next s
  | some m =>
    let got (s : State) : State :=
      s.setPipe { s.pipe with synth := { s.pipe.synth with received := s.pipe.synth.received + 1 } }
    match s.synthFault m.bytes with
    | some reason => .next ((got (s.consume m)).dropSynth reason)
    | none =>
      let die := s.stageOfPort m.port
      match s.streamFor die true with
      | none => .next s
      | some (n, i) =>
        let b := m.bytes
        let part : SynthPart := { tag := fieldAt b 8 8, profile := fieldAt b 2 1, pointer := m.pointer, owner := m.owner
                                  tokens := (List.range (fieldAt b 4 4)).map (fun t => fieldAt b (32 + 4 * t) 4) }
        let x : Sample := { id := s.pipe.nextId, recipe := (s.recipeAt s.gauge.committed.step).getD 0, stage := die, phase := .units
                            synth := some part, owner := 58 + die }
        let s := { s with rdma := { s.rdma with inbox := s.rdma.inbox.erase m } }
        let s := s.setPipe { s.pipe with samples := s.pipe.samples ++ [x], nextId := s.pipe.nextId + 1 }
        .next ((got s).takeStream n i (.decode x.id))

/-- SYNTH_NAME_ID of a recipe (R275). -/
def synthName (recipe : Bytes) : Nat := ((filterSection? recipe).map (fun f => f.synthName)).getD 0

/-- The fields a decoded message is screened and written with (R244, R275). -/
def synthFields (recipe : Bytes) (p : Profile) (ts : List Nat) (d : Decoded) : List PField :=
  let name := synthName recipe
  let used := ts.take d.consumed
  let text : PField := { frame := ⟨6, 0, name, d.text⟩, data := some d.text, arrived := true }
  let toks : PField := { frame := ⟨4, 1, name, []⟩, data := some [], tokens := some used, tensor := some (tokenTensor used), arrived := true }
  if bitOf p.flags 2 then [text, toks] else [text]

/-- DETOK_DONE (R239 to R245): the stream hands off its text and stop report for screening, or drops the message. -/
def execDetokDone (plate stream : Nat) (s : State) : Out :=
  match s.streamUse plate stream with
  | some (.decode id) =>
    match s.sample? id with
    | none => .next (s.freeStreamAt plate stream)
    | some x =>
      let recipe := s.recipeBytes x.recipe
      match x.synth, x.synth.bind (fun y => profile? recipe y.profile) with
      | some y, some p =>
        match decodeTokens (s.vocabOf recipe) p y.tokens with
        | .error reason =>
          let g := s.plate plate
          .next ((s.setPlate plate { g with rejections := bump g.rejections reason, dropped := g.dropped + 1 }).dropSynthSample x 4)
        | .ok d =>
          match s.takeBuffers (56 + plate) d.text.length with
          | (s, none) => .next s
          | (s, some l) =>
            let s := (s.handOffAll l (56 + plate) x.owner).freeStreamAt plate stream
            let g := s.plate plate
            let s := s.setPlate plate { g with messages := g.messages + 1, bytesOut := g.bytesOut + d.text.length
                                               replacements := g.replacements + d.replaced, stops := bump g.stops d.reason }
            let s := match y.pointer with | some q => (s.returnBuffer y.owner q).1 | none => s
            .next (s.settleSample { x with buffers := l, fields := synthFields recipe p y.tokens d
                                           synth := some { y with report := d.report, pointer := none } })
      | _, _ => .next s
  | _ => .next s

/-! ### Faults (R246, R247) -/

/-- The samples on a Drawplate's streams, encode and decode. -/
def State.onPlate (s : State) (n : Nat) : List Sample := (s.plate n).busy.filterMap (fun b => s.sample? b.use.sample)

/-- Steps 2 and 3 of R246, shared with a block reset: encode fields are dispatched again, messages are dropped. -/
def State.emptyPlate (s : State) (n : Nat) : State :=
  let xs := s.onPlate n
  let msgs := (xs.filter (fun x => x.synth.isSome)).length
  let s := s.returnAllOf (56 + n)
  let g := s.plate n
  let s := s.setPlate n { g with busy := [], dropped := g.dropped + msgs }
  xs.foldl (fun s x => if x.synth.isSome then s.dropSynthSample x 4 else s.redoSample x) s

/-- Disable a Drawplate (R247): its bit of the map is set and persisted. -/
def State.retirePlate (s : State) (n : Nat) : State :=
  let g := s.plate n
  let s := (s.setPlate n { g with state := .out }).unitEvent .drawplateRetired n n
  ({ s with units := { s.units with drawplateOff := s.units.drawplateOff ||| BitVec.twoPow 2 n } }).mapDiffers

/-- A Drawplate fault (R246, R247): a second one before 1,048,576 fields disables it. -/
def State.plateFault (s : State) (n : Nat) : State :=
  let g := s.plate n
  if g.state = .out then s
  else
    let again : Bool := match g.sinceFault with | some c => decide (c < 1048576) | none => false
    let s := (s.emptyPlate n).unitEvent .drawplateFault n n
    let s := s.setPlate n { s.plate n with state := .reset, faults := g.faults + 1, sinceFault := some 0 }
    if again then s.retirePlate n else s.blockReset (0x0300 + n)

/-- DRAWPLATE_ECC_ERROR (R246). -/
def execDrawplateEccError (plate : Nat) (s : State) : Out := .next (s.plateFault plate)

/-- DRAWPLATE_STALL_TIMEOUT (R246): the row itself says that a busy stream moved no byte for 10 ms. -/
def execDrawplateStallTimeout (plate stream : Nat) (s : State) : Out :=
  .next (if (s.streamUse plate stream).isSome then s.plateFault plate else s)

/-! ### Commands (R252) -/

/-- VOCAB_LOAD (R231, R639, R643): distributed to every member. -/
def execVocabLoad (r : Req) (source address length : Nat) (s : State) : Out :=
  match firstReject [s.notManager r], s.loadSource source address length with
  | some e, _ => .next (s.finish r 0x0330 (some e) s)
  | none, .error e => .next (s.finish r 0x0330 (some e) s)
  | none, .ok bs =>
    match vocabFault length bs, freeHandle (s.pipe.vocabs.map (fun v => v.handle)) 4 with
    | some o, _ => .next (s.finish r 0x0330 none (s.answerLong r 0x0330 .vocabInvalid o))
    | none, none => .next (s.finish r 0x0330 none (s.answerLong r 0x0330 .inUse))
    | none, some h =>
      let d := sha256 bs
      if s.pipe.vocabs.any (fun v => decide (v.digest = d)) then .next (s.finish r 0x0330 none (s.answerLong r 0x0330 .inUse))
      else
        let s' := s.setPipe { s.pipe with vocabs := s.pipe.vocabs ++ [⟨h, d, bs⟩] }
        .next (s.finish r 0x0330 none
          ((s'.answerInProgress r 0x0330 [.vocab h]).distribute r 0x0330 (.vocab h bs) (.answer r 0x0330 h d []) h d))

/-- VOCAB_DROP (R252). -/
def execVocabDrop (r : Req) (vocab : Nat) (s : State) : Out :=
  let named (v : LoadedItem) : Bool := s.plan.recipes.any (fun x => decide (vocabDigest x.2 = some v.digest))
  let s' := s.setPipe { s.pipe with vocabs := s.pipe.vocabs.filter (fun v => decide (v.handle ≠ vocab)) }
  .next (s.finish r 0x0331 (firstReject [s.notManager r, s.heldBusy (.vocab vocab), (decide (3 < vocab), badParam 0), (!s.pipe.vocabs.any (fun v => decide (v.handle = vocab)), ⟨.notFound, 0⟩),
      (s.pipe.vocabs.any (fun v => decide (v.handle = vocab) && named v), ⟨.inUse, 0⟩)])
    (s'.forward r 0x0331 (natLe 2 vocab)))

/-- What DRAWPLATE_STATUS reports of a Drawplate. -/
def State.plateReport (s : State) (n : Nat) : List Nat :=
  let g := s.plate n
  let enc := (g.busy.filter (fun b => match b.use with | .encode _ _ => true | _ => false)).length
  [g.state.value, enc, g.busy.length - enc, g.fields, g.messages, g.bytesIn, g.bytesOut, g.replacements, g.dropped, g.faults,
    g.rejections.length] ++ g.rejections.flatMap (fun r => [r.1, r.2]) ++ (List.range 4).map (fun i => lookupD g.stops i 0)

/-- DRAWPLATE_STATUS (R252). -/
def execDrawplateStatus (r : Req) (plate : Nat) (s : State) : Out :=
  let ns := if plate = 0xFF then [0, 1] else [plate]
  .next (s.finish r 0x0332 (firstReject [(decide (1 < plate) && decide (plate ≠ 0xFF), badParam 0)])
    (s.answer r 0x0332 .ok 0 [] (ns.flatMap s.plateReport)))

/-- The output of a probe: bytes and, for decode, the stop report; or the rejection's reason (R252). -/
def State.probe (s : State) (recipe : Bytes) (direction item : Nat) (input : Bytes) : Option (Except Nat (Bytes × Bytes)) :=
  let v := s.vocabOf recipe
  if direction = 0 then
    (textDescOf recipe item).map (fun d =>
      if d.maxBytes < input.length then .error 304
      else match (encodeText v d input).result with
        | .ok ts => .ok ((tokenTensor ts).bytes, [])
        | .error e => .error e)
  else
    (profile? recipe item).map (fun p =>
      match decodeTokens v p ((List.range (input.length / 4)).map (fun i => fieldAt input (4 * i) 4)) with
      | .ok d => .ok (d.text, d.report)
      | .error e => .error e)

/-- TEXT_PROBE (R252): the data path's output of an input, written to the host window. An input that the stream rejects
writes nothing: RESULT is 0 and the answer's value is the reason (log entry 31). -/
def execTextProbe (r : Req) (recipe direction item output limit : Nat) (input : Bytes) (s : State) : Out :=
  let bs := s.recipeBytes recipe
  let check := firstReject [(decide (15 < recipe), badParam 0), (decide (1 < direction), badParam 2),
    ((lookup? s.plan.recipes recipe).isNone, ⟨.notFound, 0⟩), ((s.probe bs direction item input).isNone, badParam 4),
    (!inWindow output limit, badParam 8), (decide (4000 < input.length) || (decide (direction = 1) && decide (input.length % 4 ≠ 0)), badParam 20)]
  .next (s.finish r 0x0333 check
    (match s.probe bs direction item input with
     | some (.ok (out, report)) =>
       if limit < out.length then s.answer r 0x0333 .badParam out.length
       else (s.memWrite output out).answer r 0x0333 .ok out.length report
     | some (.error reason) => s.answer r 0x0333 .ok 0 [] [reason]
     | none => s))

end Sys2Proof.Machine
end

