-- ==== Sys2Proof/Machine/Storage.lean ====
section
/-! DEFINITION. The storage queues (chapter 05): doorbells, fetching, the checks of an entry, completions, freezes, and
the I/O commands. The admin commands are in `StorageAdmin`. -/

namespace Sys2Proof.Machine

/-! ### Queue pairs -/

/-- The queue pair of a number. -/
def State.qp? (s : State) (q : Nat) : Option QueuePair := s.queues.pairs.find? (fun p => decide (p.num = q))

/-- Change one queue pair. -/
def State.setQp (s : State) (p : QueuePair) : State :=
  { s with queues := { s.queues with pairs := updateFirst (fun x => decide (x.num = p.num)) (fun _ => p) s.queues.pairs } }

/-- Entries of a ring of `depth` slots from `head` up to `tail`. -/
def ringCount (depth head tail : Nat) : Nat := (tail + depth - head) % depth

/-- The CQ holds depth - 1 entries that host software has not released (R132). -/
def QueuePair.cqFull (p : QueuePair) : Bool := decide (ringCount p.depth p.cqHead p.cqTail = p.depth - 1)

/-- What CAUSE_INFO and INFO carry (R144). -/
def infoOf (st : Status) (result info : Nat) : Nat :=
  match st with
  | .ok => result
  | .mediaError | .badParam => info
  | _ => 0

/-- Freeze a pair (R143): its cause is kept, the page begins anew with the completions that waited for a CQ slot, and
FREEZE_COUNT goes up. -/
def State.freeze (s : State) (p : QueuePair) (cause : ErrEntry) (post : List Completion) (doorbell : Bool) : State :=
  let withdrawn := p.waiting.map (fun c => (⟨c.cmdId, c.slot, c.status, c.opcode, c.effect, c.info⟩ : ErrEntry))
  let s := s.setQp { p with frozen := true, doorbellFault := doorbell, cause := some cause, errors := withdrawn,
                            waiting := post }
  { s with queues := { s.queues with
      freezeCounts := assign s.queues.freezeCounts p.num (lookupD s.queues.freezeCounts p.num 0 + 1) } }

/-- Record that a fetched command ended (R131, R143, R144): on a frozen pair, or one being reset, its outcome goes to the
error log page; otherwise its completion waits for a CQ slot, and a status other than OK freezes the pair. -/
def State.endCommand (s : State) (q slot : Nat) (e : SqEntry) (st : Status) (result info : Nat) : State :=
  match s.qp? q with
  | none => s
  | some p =>
    let p := { p with fetched := p.fetched.filter (fun f => decide (f.slot ≠ slot)) }
    let i := infoOf st result info
    let effect := if st = .ok then 1 else 0
    let r : ErrEntry := ⟨e.cmdId, slot, st.value, e.opcode, effect, i⟩
    let c : Completion := ⟨if st = .ok then result else 0, e.cmdId, st.value, slot, e.opcode, effect, i⟩
    if p.frozen ∨ p.resetting.isSome then s.setQp { p with errors := p.errors ++ [r] }
    else if st = .ok then s.setQp { p with waiting := p.waiting ++ [c] }
    else s.freeze p r [c] false

/-- The 32-byte header and the entries of a pair's QUEUE_ERROR page (R144). -/
def State.errorPage (s : State) (q : Nat) : Bytes :=
  let one (e : ErrEntry) : Bytes := natLe 2 e.cmdId ++ natLe 2 e.slot ++ natLe 2 e.status ++ natLe 1 e.opcode
    ++ natLe 1 e.effect ++ natLe 8 e.info
  match s.qp? q with
  | none => natLe 2 1 ++ natLe 1 q ++ List.replicate 29 0
  | some p =>
    let c := p.cause.getD ⟨0, 0, 0, 0, 0, 0⟩
    natLe 2 1 ++ natLe 1 q ++ natLe 1 (p.frozen.toNat + 2 * p.doorbellFault.toNat) ++ natLe 2 c.cmdId ++ natLe 2 c.slot
      ++ natLe 2 c.status ++ natLe 1 c.opcode ++ [0] ++ natLe 4 p.errors.length ++ natLe 8 c.info
      ++ natLe 8 (lookupD s.queues.freezeCounts q 0) ++ p.errors.flatMap one

/-- Hand a log to the host: `n` bytes from offset `o`, zeros past its end (R141). -/
def State.giveLog (s : State) (e : SqEntry) (log : Bytes) : State :=
  s.memWrite e.bufAddr (sliceAt log (e.params.getD 2 0 + e.params.getD 3 0 * 2 ^ 32) (e.params.getD 4 0))

/-- Complete the GET_LOG commands that waited for a frozen pair's commands to end (R144). -/
def State.serveLogs (s : State) (q : Nat) : List (Nat × SqEntry) → State
  | [] => s
  | (slot, e) :: rest => ((s.giveLog e (s.errorPage q)).endCommand 0 slot e .ok 0 0).serveLogs q rest

/-- The last steps of a pair's reset (R145): heads, tails, phase and freeze; DELETE_QUEUE then removes the pair. -/
def State.resetPair (s : State) (p : QueuePair) : State :=
  let withdrawn := p.waiting.map (fun c => (⟨c.cmdId, c.slot, c.status, c.opcode, c.effect, c.info⟩ : ErrEntry))
  s.setQp { p with sqHead := 0, sqTail := 0, cqHead := 0, cqTail := 0, phase := true, waiting := [], frozen := false,
                   doorbellFault := false, resetting := none, errors := p.errors ++ withdrawn }

/-- Remove a pair. -/
def State.dropPair (s : State) (q : Nat) : State :=
  { s with queues := { s.queues with pairs := s.queues.pairs.filter (fun p => decide (p.num ≠ q)) } }

/-- Once a pair has no fetched command left, what waited for that goes on: GET_LOG (R144) and the pair's reset (R145). -/
def State.pairDrained (s : State) (q : Nat) : State :=
  match s.qp? q with
  | none => s
  | some p =>
    if !p.fetched.isEmpty then s
    else
      let s := (s.setQp { p with logWaiters := [] }).serveLogs q p.logWaiters
      match p.resetting with
      | none => s
      | some w =>
        let s := s.resetPair ((s.qp? q).getD p)
        match w with
        | .storage slot e delete => (if delete then s.dropPair q else s).endCommand 0 slot e .ok 0 0
        | .mailbox r code => s.answer r code .ok

/-- End a command of a pair and let go what waited for it. -/
def State.endStorage (s : State) (q slot : Nat) (e : SqEntry) (st : Status) (result : Nat := 0) (info : Nat := 0) : State :=
  (s.endCommand q slot e st result info).pairDrained q

/-! ### Doorbells (R128, R573) -/

/-- Set bits of HL_ERROR; vector 5 is raised while any is set (R570). -/
def State.hlError (s : State) (bit : Nat) : State :=
  ({ s with link := { s.link with error := s.link.error ||| BitVec.twoPow 32 bit } }).msix 5

/-- A doorbell fault (R128, R143, R144): CMD_ID 0xFFFF and the flag; the slot, status and opcode of the cause are not
given and stay free (log entry 4). A pair already frozen keeps its cause. -/
def State.doorbellFault (s : State) (p : QueuePair) (value : Nat) : State :=
  if p.frozen then s.setQp { p with doorbellFault := true }
  else
    let c : ErrEntry := ⟨0xFFFF, Config.freeNat s.freeCtr % 2 ^ 16, Config.freeNat (s.freeCtr + 1) % 2 ^ 16,
      Config.freeNat (s.freeCtr + 2) % 2 ^ 8, 0, value⟩
    s.used.used.used.freeze p c [] true

/-- SQ_TAIL (R128, R573): a value at or above the depth, with a reserved bit, or that would leave the SQ holding more
than depth - 1 entries is a doorbell fault. -/
def execSqTail (qp value : Nat) (s : State) : Out :=
  match s.qp? qp with
  | none => .next (s.hlError 3)
  | some p =>
    let p := { p with sqDoorbell := value }
    if p.depth ≤ value ∨ ringCount p.depth p.sqHead value < ringCount p.depth p.sqHead p.sqTail then
      .next (s.doorbellFault p value)
    else .next (s.setQp { p with sqTail := value })

/-- CQ_HEAD (R128, R132, R573): a value at or above the depth, with a reserved bit, or past the posted entries is a
doorbell fault. -/
def execCqHead (qp value : Nat) (s : State) : Out :=
  match s.qp? qp with
  | none => .next (s.hlError 3)
  | some p =>
    let p := { p with cqDoorbell := value }
    if p.depth ≤ value ∨ ringCount p.depth p.cqHead p.cqTail < ringCount p.depth p.cqHead value then
      .next (s.doorbellFault p value)
    else .next (s.setQp { p with cqHead := value })

/-! ### The checks of an entry (R130, R133) -/

/-- A submission entry of 64 bytes (R130). -/
def entryOf (bs : Bytes) : SqEntry :=
  { opcode := fieldAt bs 0 1, flags := fieldAt bs 1 1, cmdId := fieldAt bs 2 2, reserved4 := fieldAt bs 4 4,
    bufAddr := fieldAt bs 8 8, slba := fieldAt bs 16 8, nlb := fieldAt bs 24 4, reserved28 := fieldAt bs 28 4,
    params := (List.range 8).map (fun k => fieldAt bs (32 + 4 * k) 4) }

/-- Which fields an opcode uses: admin, BUF_ADDR, SLBA, NLB, and how many parameters (R134, R139). -/
structure OpUse where
  admin : Bool
  buf : Bool := false
  slba : Bool := false
  nlb : Bool := false
  params : Nat := 0
  deriving DecidableEq, Repr

/-- The opcodes (R134, R139). -/
def opUse : Nat → Option OpUse
  | 0x01 | 0x02 | 0x03 => some { admin := false, buf := true, slba := true, nlb := true }
  | 0x04 | 0x05 => some { admin := false, slba := true }
  | 0x06 => some { admin := false, slba := true, nlb := true }
  | 0x07 => some { admin := false }
  | 0x81 => some { admin := true, buf := true, params := 1 }
  | 0x82 => some { admin := true, buf := true, params := 5 }
  | 0x83 => some { admin := true, params := 1 }
  | 0x84 => some { admin := true, params := 2 }
  | 0x85 => some { admin := true, buf := true, nlb := true, params := 1 }
  | 0x86 => some { admin := true, params := 1 }
  | 0x87 => some { admin := true, params := 6 }
  | 0x88 | 0x89 => some { admin := true, params := 1 }
  | _ => none

/-- The offset of the first reserved field that is not zero (R133). -/
def reservedFault (u : OpUse) (e : SqEntry) : Option Nat :=
  let ps := (List.range 8).filterMap (fun k => if u.params ≤ k ∧ e.params.getD k 0 ≠ 0 then some (32 + 4 * k) else none)
  let fs : List (Bool × Nat) := [(decide (e.flags ≠ 0), 1), (decide (e.reserved4 ≠ 0), 4), (!u.buf && decide (e.bufAddr ≠ 0), 8),
    (!u.slba && decide (e.slba ≠ 0), 16), (!u.nlb && decide (e.nlb ≠ 0), 24), (decide (e.reserved28 ≠ 0), 28)]
  ((fs.filter (fun x => x.1)).map (fun x => x.2) ++ ps).head?

/-- A storage command's failure: its status and the INFO of R144. -/
structure StorageFault where
  status : Status
  info : Nat := 0
  deriving DecidableEq, Repr

/-- The bytes a command moves to or from BUF_ADDR (R133, R139). -/
def moved (e : SqEntry) : Nat :=
  if e.opcode = 0x81 then 4096 else if e.opcode = 0x82 then e.params.getD 4 0 else e.nlb * 4096

/-- A range of blocks lies wholly inside one address space (R104, R133, R641). -/
def State.inOneSpace (s : State) (lba n : Nat) : Bool :=
  decide (lba + n ≤ s.convBlocks) || (decide (s.zonedBase ≤ lba) && decide (lba + n ≤ s.zonedEnd))

/-- SLBA is a zone start (R134). -/
def State.isZoneStart (s : State) (lba : Nat) : Bool :=
  decide (s.zonedBase ≤ lba) && decide (lba < s.zonedEnd) && decide ((lba - s.zonedBase) % s.media.geometry.zoneSize = 0)

/-- The checks of an entry, in the order of R133, up to the command's own parameters. -/
def State.checkEntry (s : State) (p : QueuePair) (e : SqEntry) : Option StorageFault :=
  match opUse e.opcode with
  | none => some ⟨.badCommand, 0⟩
  | some u =>
    if u.admin ≠ decide (p.num = 0) then some ⟨.badCommand, 0⟩
    else match reservedFault u e with
      | some o => some ⟨.badParam, o⟩
      | none =>
        if p.fetched.any (fun f => decide (f.entry.cmdId = e.cmdId)) || p.waiting.any (fun c => decide (c.cmdId = e.cmdId))
        then some ⟨.badParam, 2⟩
        else if u.nlb ∧ (e.nlb = 0 ∨ s.queues.maxXfer < e.nlb) then some ⟨.badParam, 24⟩
        else if u.buf ∧ (e.bufAddr % 64 ≠ 0 ∨ !inWindow e.bufAddr (moved e)) then some ⟨.badParam, 8⟩
        else if u.slba ∧ !s.inOneSpace e.slba (if u.nlb then e.nlb else 1) then some ⟨.lbaRange, 0⟩
        else if (e.opcode = 3 ∨ e.opcode = 4 ∨ e.opcode = 5) ∧ !s.isZoneStart e.slba then some ⟨.lbaRange, 0⟩
        else if e.opcode = 6 ∧ s.convBlocks < e.slba + e.nlb then some ⟨.lbaRange, 0⟩
        else none

/-! ### Fetching (R129) -/

/-- A pair may fetch: it holds entries, is not frozen or being reset, and its CQ has room with nothing waiting (R129,
R132, R143, R145); the admin pair waits for a management restart to end (R147). -/
def State.mayFetch (s : State) (p : QueuePair) : Bool :=
  decide (p.sqHead ≠ p.sqTail) && !p.frozen && p.resetting.isNone && !p.cqFull
    && (decide (p.num ≠ 0) || s.lock.restart.isNone)

/-- Fetch one entry of a pair and check it (R129, R133). -/
def State.fetchOne (s : State) (p : QueuePair) : State :=
  let e := entryOf (s.memRead (p.sqBase + 64 * p.sqHead) 64)
  let slot := p.sqHead
  let s := s.setQp { p with sqHead := (p.sqHead + 1) % p.depth, fetched := p.fetched ++ [{ slot := slot, entry := e }] }
  match s.checkEntry p e with
  | none => s
  | some f => s.endStorage p.num slot e f.status 0 f.info

/-- Fetch up to `n` entries of a pair. -/
def State.fetchUpTo (s : State) (q : Nat) : Nat → State
  | 0 => s
  | n + 1 =>
    match s.qp? q with
    | none => s
    | some p => if s.mayFetch p then (s.fetchOne p).fetchUpTo q n else s

/-- SQ_FETCH (R129): the admin SQ first; otherwise the arbiter of R92 over the I/O SQs, and up to ARB_BURST entries of
the winner. -/
def execSqFetch (s : State) : Out :=
  let ready := (s.queues.pairs.filter s.mayFetch).map (·.num)
  if ready.contains 0 then .next (s.fetchUpTo 0 1)
  else match arbWinner s.queues.arb ready with
    | none => .next s
    | some q =>
      .next (({ s with queues := { s.queues with arb := arbNext 256 q } }).fetchUpTo q s.queues.arbBurst)

/-! ### Posting (R131, R132, R142, R574) -/

/-- The 16 bytes of a completion entry (R131). -/
def completionBytes (p : QueuePair) (c : Completion) : Bytes :=
  natLe 8 c.result ++ natLe 2 p.sqHead ++ natLe 2 c.cmdId ++ natLe 2 c.status ++ natLe 1 p.num
    ++ natLe 1 (p.phase.toNat + if c.status = 0 then 0 else 2)

/-- Signal one more completion on a vector, or coalesce it (R142, R574). -/
def State.signal (s : State) (vector : Nat) : State :=
  let i := vector - 8
  let n := s.queues.unsignalled.getD i 0 + 1
  let send := decide (s.queues.coalCount ≤ n)
  let s := { s with queues := { s.queues with unsignalled := s.queues.unsignalled.set i (if send then 0 else n) } }
  if send then s.msix vector else s

/-- CQ_POST (R131, R132, R143): the oldest waiting completion goes into a free CQ slot; nothing is posted while the CQ is
full. A write whose completion is posted is from then on covered by a FLUSH (R137). -/
def execCqPost (qp : Nat) (s : State) : Out :=
  match s.qp? qp with
  | none => .next s
  | some p =>
    match p.waiting with
    | [] => .next s
    | c :: rest =>
      if p.cqFull then .next s
      else
        let tail := (p.cqTail + 1) % p.depth
        let s := s.memWrite (p.cqBase + 16 * p.cqTail) (completionBytes p c)
        let s := s.setQp { p with waiting := rest, cqTail := tail, phase := if tail = 0 then !p.phase else p.phase }
        let mark (w : Staged) : Staged := match w.source with
          | some x => if x.1 = qp ∧ x.2.1 = c.slot ∧ x.2.2.1 = c.cmdId then { w with posted := true } else w
          | none => w
        let s := s.setMedia { s.media with staged := s.media.staged.map mark }
        .next (s.signal (8 + qp % 24))

/-- COAL_TIME_EXPIRY (R142, R574): the completions not yet signalled on a vector are signalled. -/
def execCoalTimeExpiry (vector : Nat) (s : State) : Out :=
  if vector < 8 ∨ 31 < vector ∨ s.queues.unsignalled.getD (vector - 8) 0 = 0 then .next s
  else .next (({ s with queues := { s.queues with unsignalled := s.queues.unsignalled.set (vector - 8) 0 } }).msix vector)

/-! ### Beginning a command -/

/-- The SQ slot of a fetched command that begins now: commands of one SQ begin in fetch order (R129), so the entry is the
first fetched one that has not begun. Admin commands are held during a management restart (R147). -/
def State.beginning (s : State) (q : Nat) (e : SqEntry) : Option Nat :=
  match s.qp? q with
  | none => none
  | some p =>
    if q = 0 ∧ s.lock.restart.isSome then none
    else match p.fetched.find? (fun f => !f.begun) with
      | none => none
      | some f => if f.entry = e then some f.slot else none

/-- Mark a fetched command as begun (R145). -/
def State.begun (s : State) (q slot : Nat) : State :=
  match s.qp? q with
  | none => s
  | some p => s.setQp { p with fetched := updateFirst (fun f => decide (f.slot = slot)) (fun f => { f with begun := true }) p.fetched }

/-! ### READ (R136) -/

/-- The zones a range of zoned space touches. -/
def State.zonesOf (s : State) (lba n : Nat) : List Nat :=
  if lba < s.zonedBase ∨ n = 0 then [] else List.range' (s.zoneOf lba) (s.zoneOf (lba + n - 1) - s.zoneOf lba + 1)

/-- What stops a READ: an OFFLINE zone (R138), then the first unreadable block (R103, R136). -/
def State.readFault (s : State) (lba n : Nat) : Option StorageFault :=
  if (s.zonesOf lba n).any (fun z => decide ((s.zone z).status = .offline)) then some ⟨.zoneOffline, 0⟩
  else match (s.media.unreadable.filter (fun b => decide (lba ≤ b) && decide (b < lba + n) && !s.isStaged b)).min? with
    | some b => some ⟨.mediaError, b⟩
    | none => none

/-- Carry out a READ that has begun. -/
def State.readBlocks (s : State) (q slot : Nat) (e : SqEntry) : State :=
  match s.readFault e.slba e.nlb with
  | some f => s.endStorage q slot e f.status 0 f.info
  | none => (s.memWrite e.bufAddr (s.logicalRead e.slba e.nlb)).endStorage q slot e .ok

/-- READ (R134, R136). -/
def execRead (qp : Nat) (e : SqEntry) (s : State) : Out :=
  match s.beginning qp e with
  | none => .next s
  | some slot => .next ((s.begun qp slot).readBlocks qp slot e)

/-! ### WRITE and ZONE_APPEND (R135, R138) -/

/-- Zones that are OPEN (R138). -/
def State.openZones (s : State) : Nat := (s.media.zones.filter (fun z => decide (z.2.status = .open))).length

/-- The checks of a zoned write, in the order of R138; `at_` is the SLBA of a WRITE, which must equal the write pointer. -/
def State.zoneWriteFault (s : State) (z n : Nat) (at_ : Option Nat) : Option Status :=
  let x := s.zone z
  let cap := s.media.geometry.dataBlocks
  match x.status with
  | .full => some .zoneBoundary
  | .readOnly => some .zoneReadOnly
  | .offline => some .zoneOffline
  | .empty | .open =>
    if at_.any (fun l => decide (l ≠ s.zoneStart z + x.wp)) then some .zoneWritePointer
    else if cap < x.wp + n then some .zoneBoundary
    else if x.status = .empty ∧ (256 ≤ s.openZones ∨ s.freeSuperblocks.isEmpty) then some .zoneOpenLimit
    else none

/-- Open an EMPTY zone on a free superblock that a free value picks, and move the write pointer on by `n` blocks; the zone
is FULL when it reaches zone capacity (R138). -/
def State.advanceZone (s : State) (z n : Nat) : State :=
  let x := s.zone z
  let (s, x) :=
    if x.status = .empty then
      match s.pickSuperblock s.freeSuperblocks with
      | some b => (s.used.setSuperblock { b with usage := .zone z }, { x with superblock := some b.num })
      | none => (s, x)
    else (s, x)
  let wp := x.wp + n
  s.setZone z { x with wp := wp, status := if wp = s.media.geometry.dataBlocks then .full else .open }

/-- Bytes the staging buffer holds (R107). -/
def State.stagedBytes (s : State) : Nat := (s.media.staged.map (fun w => w.data.length)).sum

/-- A write of `n` blocks finds room in the staging buffer (R107), and in conventional space a superblock (R116). -/
def State.mayStage (s : State) (lba n : Nat) : Bool :=
  decide (s.stagedBytes + n * 4096 ≤ s.media.policy.stageGiB * 2 ^ 30) && (decide (s.convBlocks ≤ lba) || s.convFits n)

/-- Accept a write whole (R135): its data is staged; with WRITE_THROUGH at 0 it completes now. -/
def State.acceptWrite (s : State) (q slot : Nat) (e : SqEntry) (lba result : Nat) : State :=
  let through := decide (s.queues.writeThrough = 1)
  let s := (s.begun q slot).stage lba (s.memRead e.bufAddr (e.nlb * 4096)) (some (q, slot, e.cmdId, e.opcode, result)) through
  if through then s else s.endStorage q slot e .ok result

/-- Keep a write that finds no room: it waits and does not fail (R107, R116, R135). -/
def State.holdWrite (s : State) (q slot : Nat) (e : SqEntry) : State :=
  let x := (q, slot, e)
  if s.media.waitingWrites.contains x then s
  else s.setMedia { s.media with waitingWrites := s.media.waitingWrites ++ [x] }

/-- Carry out a WRITE or ZONE_APPEND (R135, R138). -/
def State.writeBlocks (s : State) (q slot : Nat) (e : SqEntry) : State :=
  if s.media.readOnly then s.endStorage q slot e .mediaReadOnly
  else if e.slba < s.convBlocks then
    if s.mayStage e.slba e.nlb then s.acceptWrite q slot e e.slba 0 else s.holdWrite q slot e
  else
    let z := s.zoneOf e.slba
    match s.zoneWriteFault z e.nlb (if e.opcode = 2 then some e.slba else none) with
    | some st => s.endStorage q slot e st
    | none =>
      if !s.mayStage e.slba e.nlb then s.holdWrite q slot e
      else
        let at_ := s.zoneStart z + (s.zone z).wp
        (s.advanceZone z e.nlb).acceptWrite q slot e at_ (if e.opcode = 3 then at_ else 0)

/-- A write that waits has begun in its SQ's order, but not its staging step (R145): it is marked by its place here. -/
def State.takeWrite (s : State) (q : Nat) (e : SqEntry) : State :=
  match s.beginning q e with
  | none => s
  | some slot => if s.media.waitingWrites.any (fun x => decide (x.1 = q)) then s else s.writeBlocks q slot e

/-- WRITE (R134, R135, R138). -/
def execWrite (qp : Nat) (e : SqEntry) (s : State) : Out := .next (s.takeWrite qp e)

/-- ZONE_APPEND (R134, R135, R138). -/
def execZoneAppend (qp : Nat) (e : SqEntry) (s : State) : Out := .next (s.takeWrite qp e)

/-- Try the writes that waited again, in order (R116). -/
def State.retryWrites (s : State) : List (Nat × Nat × SqEntry) → State
  | [] => s
  | (q, slot, e) :: rest => (s.writeBlocks q slot e).retryWrites rest

/-- Try every waiting write again. -/
def State.retryWaitingWrites (s : State) : State :=
  let l := s.media.waitingWrites
  (s.setMedia { s.media with waitingWrites := [] }).retryWrites l

/-! ### Zone commands, TRIM, FLUSH (R117, R134, R137, R138) -/

/-- Reset a zone (R114, R117, R138, R159): its data reads as zeros, staged data is discarded, a relocation of it is
abandoned, its superblock is queued for erase, and loaded Ingots in it are lost. -/
def State.resetZone (s : State) (z : Nat) : State :=
  let x := s.zone z
  let s := (s.clearBlocks (s.zoneStart z) s.media.geometry.zoneSize).journalAdd (.zoneReset z)
  let s := match x.superblock with
    | some b => (s.abandonRelocation b).eraseLater b
    | none => s
  (s.setZone z {}).loseZone z

/-- ZONE_RESET (R117, R138). -/
def execZoneReset (qp : Nat) (e : SqEntry) (s : State) : Out :=
  match s.beginning qp e with
  | none => .next s
  | some slot =>
    let z := s.zoneOf e.slba
    let s := s.begun qp slot
    match (s.zone z).status with
    | .readOnly => .next (s.endStorage qp slot e .zoneReadOnly)
    | .offline => .next (s.endStorage qp slot e .zoneOffline)
    | .empty => .next (s.endStorage qp slot e .ok)
    | .open | .full => .next ((s.resetZone z).endStorage qp slot e .ok)

/-- ZONE_FINISH (R114, R138): the zone becomes FULL with its write pointer at zone capacity; an EMPTY zone takes no
superblock; staged data is kept. -/
def execZoneFinish (qp : Nat) (e : SqEntry) (s : State) : Out :=
  match s.beginning qp e with
  | none => .next s
  | some slot =>
    let z := s.zoneOf e.slba
    let x := s.zone z
    let s := s.begun qp slot
    let full (s : State) : State := s.setZone z { x with status := .full, wp := s.media.geometry.dataBlocks }
    match x.status with
    | .readOnly => .next (s.endStorage qp slot e .zoneReadOnly)
    | .offline => .next (s.endStorage qp slot e .zoneOffline)
    | .full => .next (s.endStorage qp slot e .ok)
    | .empty => .next ((full s).endStorage qp slot e .ok)
    | .open =>
      let s := match x.superblock with
        | some b => s.abandonRelocation b
        | none => s
      .next ((full s).endStorage qp slot e .ok)

/-- TRIM (R106, R123, R134): the map entries are cleared and the blocks read as zeros. -/
def execTrim (qp : Nat) (e : SqEntry) (s : State) : Out :=
  match s.beginning qp e with
  | none => .next s
  | some slot =>
    let s := s.begun qp slot
    if s.media.readOnly then .next (s.endStorage qp slot e .mediaReadOnly)
    else .next (((s.clearBlocks e.slba e.nlb).journalAdd (.trim e.slba e.nlb)).endStorage qp slot e .ok)

/-- Superblocks whose last stripe is open: each gets an interim parity page when a FLUSH arrives (R107). -/
def State.openStripes (s : State) : Nat :=
  s.openZones + (if s.media.convOpen.isSome then 1 else 0) + (if s.media.slcOpen.isSome then 1 else 0)

/-- FLUSH (R137): it covers the writes whose completion has been posted, and completes when all of them are durable; in
read-only mode it fails when it finds staged data it cannot program. -/
def execFlush (qp : Nat) (e : SqEntry) (s : State) : Out :=
  match s.beginning qp e with
  | none => .next s
  | some slot =>
    let s := s.begun qp slot
    let covered := s.media.staged.filter (·.posted)
    if s.media.readOnly ∧ covered.any (fun w => !w.programmed) then .next (s.endStorage qp slot e .mediaReadOnly)
    else
      let s := s.setMedia { s.media with interimParity := s.media.interimParity + s.openStripes }
      if covered.isEmpty then .next (s.endStorage qp slot e .ok)
      else .next (s.setMedia { s.media with flushes := s.media.flushes ++ [(qp, slot, e.cmdId, covered.map (·.seq))] })

/-- The fetched entry of a slot. -/
def State.fetchedEntry (s : State) (q slot : Nat) : SqEntry :=
  (((s.qp? q).bind (fun p => p.fetched.find? (fun f => decide (f.slot = slot)))).map (·.entry)).getD {}

/-- Complete the FLUSH commands whose writes are all durable (R137). -/
def State.serveFlushes (s : State) : List (Nat × Nat × Nat × List Nat) → State
  | [] => s
  | (q, slot, id, seqs) :: rest =>
    if s.media.staged.any (fun w => seqs.contains w.seq) then
      (s.setMedia { s.media with flushes := s.media.flushes ++ [(q, slot, id, seqs)] }).serveFlushes rest
    else (s.endStorage q slot (s.fetchedEntry q slot) .ok).serveFlushes rest

/-- A staged write is durable: programmed, with its journal entry committed (R107). -/
def Staged.durable (w : Staged) : Bool := w.programmed && w.committed

/-- Move the durable writes at the front of the staging buffer into the contents; one staged under WRITE_THROUGH
completes (R107, R135). -/
def State.settleAll (s : State) : List Staged → State
  | [] => s
  | w :: rest =>
    if !w.durable then s
    else
      let s := s.settle w
      let s := match w.source with
        | some (q, slot, _, _, result) =>
          if w.through then s.endStorage q slot (s.fetchedEntry q slot) .ok result else s
        | none => s
      s.settleAll rest

/-- WRITE_DURABLE (R107, R124, R135, R137): writes that are programmed and journaled leave the staging buffer; commands
that waited for this complete. -/
def execWriteDurable (s : State) : Out :=
  let s := (s.settleAll s.media.staged).applyStageSize
  let l := s.media.flushes
  .next (((s.setMedia { s.media with flushes := [] }).serveFlushes l).retryWaitingWrites)

/-! ### NAND operations (R97, R98) -/

/-- The superblock an operation acts on. -/
def NandOp.superblock : NandOp → Nat
  | .read _ b _ _ | .program b _ _ | .erase b _ _ => b

/-- What follows the end of an operation: suspensions end, waiting writes are tried again (R97, R116). -/
def State.afterNand (s : State) (c t : Nat) : State := (s.clearSuspensions c t).retryWaitingWrites

/-- NAND_OP_COMPLETE (R97, R98): a read first suspends what is in progress on its die. -/
def execNandOpComplete (channel target : Nat) (op : NandOp) (pass : Bool) (s : State) : Out :=
  match op with
  | .read lba sb block step =>
    .next ((s.suspendFor channel target).nandEnded channel target (.read lba sb block step) pass)
  | o => .next ((s.nandEnded channel target o pass).afterNand channel target)

/-- NAND_OP_TIMEOUT (R98): an operation past its time limit has failed; a read of it is unrecovered. -/
def execNandOpTimeout (channel target : Nat) (op : NandOp) (s : State) : Out :=
  let failed : NandOp := match op with
    | .read lba sb block _ => .read lba sb block 0
    | o => o
  .next ((s.nandEnded channel target failed false).afterNand channel target)

end Sys2Proof.Machine
end

