-- ==== Sys2Proof/Machine/SynthOps.lean ====
section
/-! DEFINITION. The Ingot writer of the synthetic return path (R306, R307). -/

namespace Sys2Proof.Machine

/-- Change the synthetic path. -/
def State.setSynth (s : State) (y : SynthState) : State := s.setPipe { s.pipe with synth := y }

/-- The field frames of a kept message (R306). -/
def synthFrames (recipe : Bytes) (x : Sample) : List FieldFrame :=
  let name := synthName recipe
  let text : Bytes := ((x.fields.find? (fun p => decide (p.frame.typ = 6))).bind (fun p => p.data)).getD []
  let tokens : List FieldFrame := ((x.fields.find? (fun p => decide (p.frame.typ = 4))).bind (fun p => p.tensor)).toList.map
    (fun t => ⟨5, 1, name + 1, t.bytes⟩)
  let report : Bytes := match x.synth with
    | some y => y.report ++ natLe 8 y.tag
    | none => []
  [⟨4, 1, name, text⟩] ++ tokens ++ [⟨6, 0, name + 2, report⟩]

/-- DATA_OFFSET of an Ingot of `n` records: the least one R148 allows. -/
def dataOffset (n : Nat) : Nat := upTo 4096 (64 + 16 * n)

/-- LENGTH of an Ingot with these records (R148). -/
def ingotLength (records : List Bytes) : Nat := upTo 4096 (dataOffset records.length + (records.map (fun r => r.length)).sum)

/-- The record index of consecutive records from an offset (R149). -/
def indexBytes : Nat → List Bytes → Bytes
  | _, [] => []
  | o, r :: rest => natLe 8 o ++ natLe 4 r.length ++ natLe 4 0 ++ indexBytes (o + r.length) rest

/-- The Ingot's bytes (R148, R149). -/
def builtIngot (dataset : Nat) (b : BuildingIngot) : Bytes :=
  let n := b.records.length
  let index := indexBytes (dataOffset n) b.records
  let body := index ++ List.replicate (dataOffset n - 64 - 16 * n) 0 ++ b.records.flatten
  let all := ingotHeader dataset b.first n (dataOffset n) (ingotLength b.records) (crc32c index) ++ body
  all ++ List.replicate (ingotLength b.records - all.length) 0

/-- The Ingot being built must close: INGOT_RECORDS or INGOT_BYTES is reached, or a flush waits for it (R307). -/
def SynthState.due (y : SynthState) : Bool := match y.building, y.config with
  | some b, some (_, _, _, _, n, bytes) =>
    decide (n ≤ b.records.length) || decide (bytes ≤ ingotLength b.records) || y.flushes.any (fun f => f.2.isNone)
  | _, _ => false

/-- The Ingot writer takes a kept message (R306, R307): stopped or not configured it drops it with 6; while an Ingot must
close, or no buffer is free, the message waits. -/
def State.writerTake (s : State) (x : Sample) : State :=
  let y := s.pipe.synth
  if y.config.isNone ∨ y.stopped then s.dropSynthSample x 6
  else if y.due then s.setSample x
  else
    let bs := recordBytes y.nextRecord (synthFrames (s.recipeBytes x.recipe) x)
    match s.takeBuffers 61 bs.length with
    | (s, none) => s.setSample x
    | (s, some l) =>
      let y := s.pipe.synth
      let b : BuildingIngot := y.building.getD { first := y.nextRecord }
      let b : BuildingIngot := { b with records := b.records ++ [bs], buffers := b.buffers ++ l }
      let s := s.setSynth { y with building := some b, nextRecord := y.nextRecord + 1, kept := y.kept + 1, records := y.records + 1 }
      (s.dropBuffers x.owner x.buffers).removeSample x.id

/-! ### Closing an Ingot (R307) -/

/-- An Ingot of `n` blocks can be appended to a zone. -/
def State.zoneTakes (s : State) (z n : Nat) : Bool := (s.zoneWriteFault z n none).isNone

/-- The zone that takes an Ingot: the current one, else the next EMPTY zone of the range, those after the current one first. -/
def State.synthZone (s : State) (first last n : Nat) : Option Nat :=
  let cur := s.pipe.synth.zone
  let range := (List.range (last + 1 - first)).map (fun i => first + i)
  let order := range.filter (fun z => decide (cur < z)) ++ range.filter (fun z => decide (z ≤ cur))
  if s.zoneTakes cur n then some cur
  else order.find? (fun z => decide ((s.zone z).status = .empty) && s.zoneTakes z n)

/-- Finish the writer's zone as ZONE_FINISH does (R138, R307). -/
def State.finishZone (s : State) (z : Nat) : State :=
  let x := s.zone z
  match x.status with
  | .open =>
    let s := match x.superblock with
      | some b => s.abandonRelocation b
      | none => s
    s.setZone z { x with status := .full, wp := s.media.geometry.dataBlocks }
  | _ => s

/-- Append the Ingot being built to a zone: it is staged, its buffers return, and it is durable when its write is. -/
def State.appendIngot (s : State) (dataset z : Nat) (b : BuildingIngot) : State :=
  let y := s.pipe.synth
  let s := if z = y.zone then s else s.finishZone y.zone
  let bs := builtIngot dataset b
  let n := bs.length / 4096
  let lba := s.zoneStart z + (s.zone z).wp
  let entry := manifestEntryBytes lba b.first b.records.length n (fieldAt bs 60 4)
  let p : PendingIngot := { staged := s.media.stageSeq, entry := entry }
  let s := ((s.advanceZone z n).stage lba bs none false).dropBuffers 61 b.buffers
  let y := s.pipe.synth
  let flushes := y.flushes.map (fun f => (f.1, some (f.2.getD (y.ingots + 1))))
  s.setSynth { y with zone := z, building := none, pending := y.pending ++ [p], stopped := false, ingots := y.ingots + 1, flushes := flushes }

/-- Close the Ingot being built: it waits for room in the staging buffer; without a zone the writer stops and raises
SYNTH_SPACE. -/
def State.closeIngot (s : State) : State := match s.pipe.synth.building, s.pipe.synth.config with
  | some b, some (_, dataset, first, last, _, _) =>
    let n := ingotLength b.records / 4096
    if s.stagedBytes ≠ 0 ∧ !s.mayStage s.zonedBase n then s
    else match s.synthZone first last n with
      | some z => s.appendIngot dataset z b
      | none =>
        if s.pipe.synth.stopped then s
        else (s.setSynth { s.pipe.synth with stopped := true }).raise .synthSpace
  | _, _ => s

/-- A staged write is durable or has left the staging buffer. -/
def State.stageDurable (s : State) (n : Nat) : Bool := s.media.staged.all (fun w => decide (w.seq ≠ n) || w.durable)

/-- Complete the SYNTH_FLUSH commands whose Ingot, the `done` first ones being durable, is durable. -/
def State.serveSynthFlushes (s : State) (done : Nat) : List (Req × Option Nat) → State
  | [] => s
  | (r, some k) :: rest =>
    if k ≤ done then (s.complete r 0x0355 .ok 0 [] []).serveSynthFlushes done rest
    else (s.setSynth { s.pipe.synth with flushes := s.pipe.synth.flushes ++ [(r, some k)] }).serveSynthFlushes done rest
  | f :: rest => (s.setSynth { s.pipe.synth with flushes := s.pipe.synth.flushes ++ [f] }).serveSynthFlushes done rest

/-- SYNTH_INGOT_WRITTEN for each appended Ingot that has become durable, in order, and the flushes that waited (R307). -/
def State.synthDurable (s : State) : State :=
  let y := s.pipe.synth
  let done := y.pending.takeWhile (fun p => s.stageDurable p.staged)
  let left := y.pending.drop done.length
  let s := s.setSynth { y with pending := left, flushes := [] }
  let s := done.foldl (fun s p => s.raise .synthIngotWritten 0 p.entry) s
  s.serveSynthFlushes (y.ingots - left.length) y.flushes

/-- INGOT_CLOSE (R307). -/
def execIngotClose (s : State) : Out := .next (if s.pipe.synth.due then s.closeIngot.synthDurable else s)

/-- JOURNAL_COMMIT (R112): the oldest open entry is committed and takes effect; synthetic Ingots that are durable with it are
reported (R307). -/
def execJournalCommit (s : State) : Out := .next s.commitJournal.synthDurable

/-! ### Commands (R308) -/

/-- SYNTH_CONFIG (R308). -/
def execSynthConfig (r : Req) (pool dataset nextRecord firstZone lastZone records bytes : Nat) (s : State) : Out :=
  let check := firstReject [(decide (63 < pool), badParam 0), (decide (dataset = 0), badParam 8), (decide (2 ^ 48 ≤ nextRecord), badParam 16),
    (decide (s.media.zoneCount ≤ firstZone), badParam 24), (outside lastZone firstZone (s.media.zoneCount - 1), badParam 28),
    (outside records 1 16777216, badParam 32), (outside bytes 1048576 1073741824 || decide (bytes % 4096 ≠ 0), badParam 36),
    ((s.pool? pool).isNone, ⟨.notFound, 0⟩), (s.pipe.synth.building.isSome, ⟨.inUse, 0⟩)]
  let y := s.pipe.synth
  .next (s.finish r 0x0354 check
    ((s.setSynth { y with config := some (pool, dataset, firstZone, lastZone, records, bytes), nextRecord := nextRecord
                          zone := firstZone, stopped := false }).answer r 0x0354 .ok))

/-- SYNTH_FLUSH (R307, R308): the Ingot being built closes; the command completes when every Ingot is durable. -/
def execSynthFlush (r : Req) (s : State) : Out :=
  let s' := s.answerInProgress r 0x0355 []
  let y := s'.pipe.synth
  let target : Option Nat := if y.building.isSome then none else some y.ingots
  .next (s.finish r 0x0355 none ((s'.setSynth { y with flushes := y.flushes ++ [(r, target)] }).closeIngot.synthDurable))

/-- SYNTH_STATUS (R308). -/
def execSynthStatus (r : Req) (s : State) : Out :=
  let y := s.pipe.synth
  .next (s.finish r 0x0356 none (s.answer r 0x0356 .ok 0 [] ([y.received, y.kept] ++ (List.range 6).map (fun i => lookupD y.drops (i + 1) 0)
    ++ [y.records, y.ingots, y.nextRecord])))

end Sys2Proof.Machine
end

