-- ==== Sys2Proof/Machine/Filters.lean ====
section
/-! DEFINITION. The filter stages: fixed rules, feature vectors, signatures, scores, near duplicates, kernels and reference
sets (R253 to R265, R275, R279, R280). -/

namespace Sys2Proof.Machine

/-! ### Fixed rules and the language (R255, R256) -/

/-- The element count of a field as handed to the stage (R255). -/
def PField.count (p : PField) : Nat := match p.tensor with
  | some t => product t.dims
  | none => if p.frame.typ = 6 then (p.data.getD []).length else 0

/-- One fixed rule on a sample: its reason when it fails (R255, R257). -/
def FixedRule.fails (r : FixedRule) (x : Sample) : Option (Nat × Nat) :=
  let out (v : Nat) : Bool := outside v r.lo r.hi
  match r.kind, x.field? r.nameId with
  | 1, none => some (401, r.nameId)
  | 2, some p => if out p.frame.payload.length then some (402, r.nameId) else none
  | 3, some p => if out p.count then some (403, r.nameId) else none
  | 4, _ => if out x.length then some (404, 0xFFFF) else none
  | _, _ => none

/-- ASCII A to Z folded to a to z, zero-padded to 8 bytes (R256). -/
def foldLang (b : Bytes) : Bytes :=
  let fold (c : Byte) : Byte := if 0x41 ≤ c.toNat ∧ c.toNat ≤ 0x5A then c + 32 else c
  sliceAt (b.map fold) 0 8

/-- The folded language tag of a sample: a BYTES field of 1 to 8 bytes (R256). -/
def langOf (f : FilterSection) (x : Sample) : Option Bytes := match x.field? f.langName with
  | some p =>
    let b := p.data.getD []
    if p.frame.typ = 6 ∧ 1 ≤ b.length ∧ b.length ≤ 8 then some (foldLang b) else none
  | none => none

/-- Check 1 of R253: the rules in table order, then the language. -/
def fixedFault (f : FilterSection) (x : Sample) : Option (Nat × Nat) :=
  match f.rules.findSome? (fun r => r.fails x) with
  | some e => some e
  | none =>
    if f.langs.isEmpty then none
    else match langOf f x with
      | some t => if f.langs.contains t then none else some (405, f.langName)
      | none => some (405, f.langName)

/-! ### Feature vectors, signatures and scores (R258 to R260) -/

/-- The grams of a hashed source: every window of `n` items, or all of them where there are fewer and at least one. -/
def grams {α : Type} (n : Nat) (l : List α) : List (List α) :=
  if l.isEmpty then []
  else if l.length < n then [l]
  else (List.range (l.length - n + 1)).map (fun i => (l.drop i).take n)

/-- Add 1 at an index, stopping at 127 (R258). -/
def addGram (f : List Int) (g : Bytes) : List Int :=
  let i := crc32c g % 1024
  f.set i (min (f.getD i 0 + 1) 127)

/-- The hashed feature vector of grams (R258). -/
def hashGrams (gs : List Bytes) : List Int := gs.foldl addGram (List.replicate 1024 0)

/-- The feature vector of a sample; none for a source field of the wrong kind (R258). -/
def featureVector (f : FilterSection) (x : Sample) : Option (List Int) :=
  let fields := x.fields.filter (fun p => decide (p.frame.nameId = f.sigName))
  match f.source with
  | 1 => ((fields.find? (fun p => decide (p.frame.typ = 4))).bind (fun p => p.tokens)).map
      (fun ts => hashGrams ((grams 3 ts).map (fun g => g.flatMap (fun t => natLe 4 t))))
  | 2 => ((fields.find? (fun p => decide (p.frame.typ = 6))).bind (fun p => p.data)).map (fun b => hashGrams (grams 4 b))
  | 3 => ((fields.find? (fun p => decide (p.frame.typ = 5))).bind (fun p => p.tensor)).bind (fun t =>
      if t.dtype = Fmt.code .int8 ∧ product t.dims = 1024 then
        some ((List.range 1024).map (fun i => signedOf 8 (fieldAt t.data i 1)))
      else none)
  | _ => none

/-- An INT8 of a recipe's table. -/
def int8At (bs : Bytes) (o : Nat) : Int := signedOf 8 (fieldAt bs o 1)

/-- The sum of products of a vector with a column of a table: its first entry at `o`, its step `d`. -/
def dotColumn (bs : Bytes) (o d : Nat) (v : List Int) : Int := (v.mapIdx (fun i c => int8At bs (o + d * i) * c)).sum

/-- Bit j of the signature (R259). -/
def signatureBit (bs : Bytes) (f : FilterSection) (v : List Int) (j : Nat) : Bool := decide (0 < dotColumn bs (f.projAt + j) 256 v)

/-- The signature's 32 bytes (R259). -/
def signatureOf (bs : Bytes) (f : FilterSection) (v : List Int) : Bytes :=
  (List.range 32).flatMap (fun b =>
    natLe 1 (((List.range 8).map (fun i => if signatureBit bs f v (8 * b + i) then 2 ^ i else 0)).sum))

/-- SCORE[n] (R260). -/
def scoreOf (bs : Bytes) (f : FilterSection) (v : List Int) (n : Nat) : Int :=
  let o := f.scorersAt + 1032 * n
  let e := signedOf 32 (fieldAt bs o 4) + dotColumn bs (o + 8) 1 v
  if e < -2147483648 then -2147483648 else min e 2147483647

/-- SCORE_MIN[n] (R260, R276). -/
def scoreMin (bs : Bytes) (f : FilterSection) (n : Nat) : Int := signedOf 32 (fieldAt bs (f.scorersAt + 1032 * n + 4) 4)

/-! ### Near duplicates (R261 to R263) -/

/-- Set bits of a byte. -/
def popByte (b : Byte) : Nat := ((List.range 8).filter (fun i => b.getLsbD i)).length

/-- The number of bit positions in which two signatures differ (R261). -/
def distance (a b : Bytes) : Nat := ((List.range 32).map (fun i => popByte (a.getD i 0 ^^^ b.getD i 0))).sum

/-- At least one of the 16 bands is equal (R261). -/
def bandCandidate (a b : Bytes) : Bool := (List.range 16).any (fun k => decide (fieldAt a (2 * k) 2 = fieldAt b (2 * k) 2))

/-- The least distance to a band candidate of a set (R261, R262). -/
def leastDistance (x : Bytes) (l : List Bytes) : Option Nat := ((l.filter (bandCandidate x)).map (distance x)).min?

/-- A signature is a near duplicate of a set (R261). -/
def nearDuplicate (threshold : Nat) (x : Bytes) (l : List Bytes) : Bool := match leastDistance x l with
  | some d => decide (d ≤ threshold)
  | none => false

/-- The signatures of a reference set file (R279). -/
def setSignatures (bs : Bytes) : List Bytes := (List.range (fieldAt bs 8 4)).map (fun i => sliceAt bs (32 + 32 * i) 32)

/-- The reference set that a filter section names (R262, R276). -/
def State.dupSet (s : State) (f : FilterSection) : List Bytes := match s.pipe.dupSets.find? (fun d => decide (d.digest = f.dupDigest)) with
  | some d => setSignatures d.bytes
  | none => []

/-! ### The end of screening -/

/-- Count a sample screened by its stage. -/
def State.screened (s : State) (x : Sample) : State :=
  let g := s.stageOf x.stage
  s.setStage x.stage { g with screened := g.screened + 1 }

/-- A check rejects a sample: R197 handles it, and a synthetic message is dropped and counted (R253, R275). -/
def State.screenReject (s : State) (x : Sample) (reason nameId : Nat) : State :=
  let s := s.screened x
  let g := s.stageOf x.stage
  if x.synth.isSome then
    (s.setStage x.stage { g with synthRejections := bump g.synthRejections reason }).dropSynthSample x 5
  else (s.setStage x.stage { g with rejections := bump g.rejections reason }).rejectSample x reason nameId 0

/-- Checks 1 to 4 have passed: the sample waits for release; a message goes to the Ingot writer (R275). -/
def State.screenKeep (s : State) (x : Sample) : State :=
  let s := s.screened x
  let g := s.stageOf x.stage
  let y := { x with phase := .kept }
  let s := s.setStage x.stage { g with kept := g.kept + 1 }
  if x.synth.isSome then s.writerTake y else s.setSample y

/-! ### Kernels (R264, R265, R336, R339) -/

/-- A field summary of the feature block (R265). -/
def fieldSummary (p : PField) : Bytes :=
  let dims := match p.tensor with
    | some t => t.dims
    | none => []
  natLe 2 p.frame.nameId ++ natLe 1 p.frame.typ ++ natLe 1 dims.length ++ natLe 4 p.frame.payload.length ++ natLe 4 p.count
    ++ (List.range 4).flatMap (fun i => natLe 4 (dims.getD i 0)) ++ natLe 4 0

/-- The 512-byte feature block (R265). -/
def featureBlock (f : FilterSection) (x : Sample) : Bytes :=
  let score (i : Nat) : Bytes := natLe 4 (wrapTo 32 (x.scores.getD i 0))
  let head := natLe 8 x.step ++ natLe 8 x.position ++ natLe 8 x.record ++ natLe 2 x.dest ++ natLe 2 x.fields.length ++ natLe 4 x.length
    ++ ((if f.langs.isEmpty then none else langOf f x).getD (natLe 8 0)) ++ x.signature ++ natLe 2 x.dist ++ natLe 6 0
    ++ score 0 ++ score 1 ++ score 2 ++ score 3
  sliceAt (head ++ (x.fields.take 8).flatMap fieldSummary) 0 512

/-- The lowest free context of a stage's filter core (R336). -/
def State.freeKernelCtx (s : State) (stage : Nat) : Option Nat :=
  ((List.range 4).map (fun c => 128 + 4 * stage + c)).find? (fun i => !s.ngayx.contexts.any (fun c => decide (c.id = i)))

/-- Start kernel `k` of a sample, every register zero, its feature block on in0; without a free context it waits (R264). -/
def State.startKernel (s : State) (x : Sample) (f : FilterSection) (k : Nat) : State :=
  match s.freeKernelCtx x.stage with
  | none => s.setSample { x with screen := .scored }
  | some i =>
    let site : DrawSite := { kernel := true, step := x.step, epoch := x.epoch, position := x.position, attempt := x.attempt, kernelIndex := k }
    let c : NgCtx := { id := i, run := .kernel x.stage x.id k, prog := kernelWords (s.recipeBytes x.recipe) f k
                       ins := [{ bytes := featureBlock f x, ended := true }], budget := f.maxInsns, exact := s.det.exact, site := site }
    ({ s with ngayx := { s.ngayx with contexts := s.ngayx.contexts ++ [c] } }).setSample { x with screen := .kernel k }

/-- Kernel `k` and those after it, or the end of screening. -/
def State.kernelsFrom (s : State) (x : Sample) (f : FilterSection) (k : Nat) : State :=
  if k < f.kernels.length then s.startKernel x f k else s.screenKeep x

/-- A kernel has ended: the next one runs, or the sample is rejected (R264). -/
def State.kernelEnded (s : State) (c : NgCtx) : State :=
  let s := { s with ngayx := { s.ngayx with contexts := s.ngayx.contexts.filter (fun y => decide (y.id ≠ c.id)) } }
  match c.run with
  | .node _ _ _ _ _ => s
  | .kernel stage sample k =>
    let g := s.stageOf stage
    let s := s.setStage stage { g with insns := bump g.insns k c.executed }
    match s.sample? sample with
    | none => s
    | some x =>
      let verdict := c.s.getD 0 0
      if c.bound then s.screenReject x (460 + k) 0xFFFF
      else if c.fault ≠ 0 then s.screenReject x (450 + k) 0xFFFF
      else if verdict ≠ 0 then
        let g := s.stageOf stage
        let key := (k, verdict % 256)
        (s.setStage stage { g with verdicts := assign g.verdicts key (lookupD g.verdicts key 0 + 1) }).screenReject x (440 + k) 0xFFFF
      else match filterSection? (s.recipeBytes x.recipe) with
        | some f => s.kernelsFrom x f (k + 1)
        | none => s.screenKeep x

/-! ### SAMPLE_SCREEN (R253) -/

/-- Check 3: the reference set, then the score thresholds (R260, R262). -/
def State.setFault (s : State) (f : FilterSection) (x : Sample) : Option Nat :=
  if bitOf f.dupMode 2 ∧ nearDuplicate f.threshold x.signature (s.dupSet f) then some 410
  else ((List.range f.scorers).find? (fun n => decide (x.scores.getD n 0 < scoreMin (s.recipeBytes x.recipe) f n))).map (fun n => 420 + n)

/-- DUP_DIST (R262). -/
def State.dupDist (s : State) (f : FilterSection) (x : Sample) : Nat :=
  if bitOf f.dupMode 1 then (leastDistance x.signature (s.dupSet f)).getD 0xFFFF else 0

/-- Checks 3 and 4 on a sample whose signature and scores are known. -/
def State.screenScored (s : State) (f : FilterSection) (x : Sample) : State :=
  match s.setFault f x with
  | some e => s.screenReject x e 0xFFFF
  | none => s.kernelsFrom { x with dist := s.dupDist f x } f 0

/-- The first check, and the feature vector queued for the Anvil. -/
def State.screenFirst (s : State) (f : FilterSection) (x : Sample) : State :=
  match fixedFault f x with
  | some (e, name) => s.screenReject x e name
  | none =>
    let x := { x with signature := List.replicate 32 0, scores := [], dist := 0 }
    if f.source = 0 then s.kernelsFrom x f 0
    else match featureVector f x with
      | none => s.screenReject x 406 f.sigName
      | some _ =>
        let g := s.stageOf x.stage
        (s.setStage x.stage { g with vectors := g.vectors ++ [(x.id, s.now)] }).setSample { x with screen := .vector }

/-- SAMPLE_SCREEN (R253 to R262, R264, R275): the checks go on from where the sample stands; a message that waits for the
Ingot writer is offered to it again. -/
def execSampleScreen (sample : Nat) (s : State) : Out :=
  match s.sample? sample with
  | none => .next s
  | some x =>
    match x.phase, x.screen, filterSection? (s.recipeBytes x.recipe) with
    | .kept, _, _ => .next (if x.synth.isSome then s.writerTake x else s)
    | .screening, .first, none => .next (s.screenKeep x)
    | .screening, .first, some f => .next (s.screenFirst f x)
    | .screening, .scored, some f => .next (s.screenScored f x)
    | _, _, _ => .next s

/-! ### Reference sets and status (R279, R280) -/

/-- The lowest offset at fault of a reference set file (R279, R639, R642). -/
def dupSetFault (length : Nat) (bs : Bytes) : Option Nat :=
  if length < 32 then some 0
  else
    let n := fieldAt bs 8 4
    leastFault ([(decide (bs.take 4 ≠ [0x44, 0x55, 0x50, 0x53]), 0), (decide (fieldAt bs 4 2 ≠ 1), 4),
      (outside n 1 16777216 || decide (length ≠ 32 + 32 * n), 8), (decide (fieldAt bs 12 4 ≠ crc32c (bs.drop 32)), 12),
      (decide (fieldAt bs 28 4 ≠ crc32c (bs.take 28)), 28)].filterMap (fun c => if c.1 then some c.2 else none)
      ++ reservedBytes bs 6 2 ++ reservedBytes bs 16 12)

/-- DUP_SET_LOAD (R279, R280, R639, R643): distributed to every member. -/
def execDupSetLoad (r : Req) (source address length : Nat) (s : State) : Out :=
  match firstReject [s.notManager r], s.loadSource source address length with
  | some e, _ => .next (s.finish r 0x0340 (some e) s)
  | none, .error e => .next (s.finish r 0x0340 (some e) s)
  | none, .ok bs =>
    match dupSetFault length bs, freeHandle (s.pipe.dupSets.map (fun v => v.handle)) 2 with
    | some o, _ => .next (s.finish r 0x0340 none (s.answerLong r 0x0340 .ingotInvalid o))
    | none, none => .next (s.finish r 0x0340 none (s.answerLong r 0x0340 .inUse))
    | none, some h =>
      let d := sha256 bs
      if s.pipe.dupSets.any (fun v => decide (v.digest = d)) then .next (s.finish r 0x0340 none (s.answerLong r 0x0340 .inUse))
      else
        let s' := s.setPipe { s.pipe with dupSets := s.pipe.dupSets ++ [⟨h, d, bs⟩] }
        .next (s.finish r 0x0340 none
          ((s'.answerInProgress r 0x0340 [.dupSet h]).distribute r 0x0340 (.dupSet h bs) (.answer r 0x0340 h d []) h d))

/-- DUP_SET_DROP (R280). -/
def execDupSetDrop (r : Req) (set : Nat) (s : State) : Out :=
  let names (bs d : Bytes) : Bool := match filterSection? bs with
    | some f => bitOf f.dupMode 1 && decide (f.dupDigest = d)
    | none => false
  let named (v : LoadedItem) : Bool := s.plan.recipes.any (fun x => names x.2 v.digest)
  let s' := s.setPipe { s.pipe with dupSets := s.pipe.dupSets.filter (fun v => decide (v.handle ≠ set)) }
  .next (s.finish r 0x0341 (firstReject [s.notManager r, s.heldBusy (.dupSet set), (decide (1 < set), badParam 0), (!s.pipe.dupSets.any (fun v => decide (v.handle = set)), ⟨.notFound, 0⟩),
      (s.pipe.dupSets.any (fun v => decide (v.handle = set) && named v), ⟨.inUse, 0⟩)])
    (s'.forward r 0x0341 (natLe 2 set)))

/-- What FILTER_STATUS reports of a stage. -/
def State.filterReport (s : State) (n : Nat) : List Nat :=
  let g := s.stageOf n
  let pairs (l : List (Nat × Nat)) : List Nat := l.length :: l.flatMap (fun p => [p.1, p.2])
  let window := ((s.pipe.dests.filter (fun q => decide (q.stage = n))).map (fun q => q.window.length)).sum
  [g.screened, g.kept] ++ pairs g.rejections
    ++ (List.range 8).flatMap (fun k => (List.range 256).map (fun v => lookupD g.verdicts (k, v) 0) ++ [lookupD g.insns k 0])
    ++ [window] ++ pairs g.synthRejections

/-- FILTER_STATUS (R280). -/
def execFilterStatus (r : Req) (stage : Nat) (s : State) : Out :=
  let ns := if stage = 0xFF then [0, 1] else [stage]
  .next (s.finish r 0x0342 (firstReject [(decide (1 < stage) && decide (stage ≠ 0xFF), badParam 0)])
    (s.answer r 0x0342 .ok 0 [] (ns.flatMap s.filterReport)))

end Sys2Proof.Machine
end

