-- ==== Sys2Proof/Machine/Anvil.lean ====
section
/-! DEFINITION. The Anvil: row tiles, jobs, faults and status (R266 to R274, R280). -/

namespace Sys2Proof.Machine

/-- Change the Anvil. -/
def State.setAnvil (s : State) (a : Anvil) : State := s.setPipe { s.pipe with anvil := a }

/-! ### Row tiles (R268) -/

/-- The first 128 waiting vectors that share the oldest one's recipe: the rows of one feature job. -/
def State.rowTile (s : State) (stage : Nat) : List Nat :=
  let ids := (s.stageOf stage).vectors.map (fun v => v.1)
  let recipe (id : Nat) : Option Nat := (s.sample? id).map (fun x => x.recipe)
  (ids.filter (fun i => decide (recipe i = recipe (ids.getD 0 0)))).take 128

/-- Submit a row tile: a feature job on the stage's queue. -/
def State.submitTile (s : State) (stage : Nat) : State :=
  let ids := s.rowTile stage
  if ids.isEmpty then s
  else
    let g := s.stageOf stage
    let s := s.setStage stage { g with vectors := g.vectors.filter (fun v => !ids.contains v.1) }
    let s := s.setAnvil { s.pipe.anvil with jobs := s.pipe.anvil.jobs ++ [(2 * stage, .feature ids)] }
    ids.foldl (fun s i => match s.sample? i with
      | some x => s.setSample { x with screen := .tiled }
      | none => s) s

/-- ANVIL_ROW_TILE_SUBMIT (R268): when 128 vectors wait. -/
def execAnvilRowTileSubmit (stage : Nat) (s : State) : Out :=
  .next (if decide (stage < 2) && decide (128 ≤ (s.stageOf stage).vectors.length) then s.submitTile stage else s)

/-- ANVIL_ROW_TILE_TIMEOUT (R268): the row itself says that the oldest vector has waited 2,048 cycles. -/
def execAnvilRowTileTimeout (stage : Nat) (s : State) : Out := .next (if stage < 2 then s.submitTile stage else s)

/-! ### Jobs (R266, R267, R269 to R272) -/

/-- The lane mode of a product: 0 for 8 bits, 1 for 4, 2 for 2; the wider of its operands' widths (R266). -/
def laneMode (dtype wFormat : Nat) : Nat :=
  let input := if dtype = Fmt.code .int8 then 0 else if dtype = Fmt.code .b4i then 1 else 2
  min input wFormat

/-- Tile pairs of a product of `rows` by `k` by `cols` (R267). -/
def tilePairs (rows k cols : Nat) : Nat := ((rows + 127) / 128) * ((k + 255) / 256) * ((cols + 127) / 128)

/-- Count a job's tile pairs and its end. -/
def State.jobCounted (s : State) (queue mode pairs : Nat) : State :=
  let a := s.pipe.anvil
  s.setAnvil { a with pairs := a.pairs.set mode (a.pairs.getD mode 0 + pairs), done := a.done.set queue (a.done.getD queue 0 + 1)
                      arb := arbNext 4 queue }

/-- The signature and scores of one row (R259, R260). -/
def State.featureRow (s : State) (id : Nat) : State :=
  match s.sample? id with
  | none => s
  | some x =>
    let bs := s.recipeBytes x.recipe
    match filterSection? bs with
    | none => s
    | some f =>
      match featureVector f x with
      | none => s
      | some v => s.setSample { x with screen := .scored, signature := signatureOf bs f v
                                       scores := (List.range f.scorers).map (scoreOf bs f v) }

/-- Release an embedding: its output buffers are handed to the stage, or it waits for them (R87, R269, R271, R272). -/
def State.embedField (s : State) (x : Sample) (p : PField) (o : Nat) (m : Embedding) (rounding queue : Nat) (t : Tensor) :
    State × Bool :=
  let out := embedTensor (s.recipeBytes x.recipe) m rounding (s.castWords x 0x04 o) t
  match s.takeBuffers 60 out.bytes.length with
  | (s, none) => (s, false)
  | (s, some l) =>
    let s := s.handOffAll l 60 x.owner
    let s := if rounding = 2 then s.usedFor out else s
    let s := s.jobCounted queue (laneMode t.dtype m.wFormat) (tilePairs (product t.dims / m.k) m.k m.e)
    (s.settleSample ({ x with buffers := x.buffers ++ l }.setField { p with tensor := some out, owes := false, arrived := true }), true)

/-- The end of one job; false where it waits. -/
def State.endJob (s : State) (queue : Nat) : AnvilWork → State × Bool
  | .feature ids =>
    let cols := 256 + ((((ids.head?).bind s.sample?).bind (fun x => filterSection? (s.recipeBytes x.recipe))).map (fun f => f.scorers)).getD 0
    ((ids.foldl (fun s i => s.featureRow i) s).jobCounted queue 0 (tilePairs ids.length 1024 cols), true)
  | .embedding id name =>
    match s.sample? id with
    | none => (s, true)
    | some x =>
      let bs := s.recipeBytes x.recipe
      match x.field? name, embeddingOf bs name, descOf bs name with
      | some p, some (o, m), some (_, d) =>
        match p.tensor with
        | some t => s.embedField x p o m d.rounding queue t
        | none => (s, true)
      | _, _, _ => (s, true)

/-- ANVIL_JOB_COMPLETE (R269 to R272): the oldest job of a queue ends and its results are released; every job is of samples
whose source passed, since a failed source takes its job away (R271). -/
def execAnvilJobComplete (queue : Nat) (s : State) : Out :=
  let a := s.pipe.anvil
  match a.state, a.jobs.find? (fun j => decide (j.1 = queue)) with
  | .active, some j =>
    match s.endJob queue j.2 with
    | (s', true) => .next (s'.setAnvil { s'.pipe.anvil with jobs := s'.pipe.anvil.jobs.erase j })
    | (s', false) => .next s'
  | _, _ => .next s

/-! ### Faults (R273, R274) -/

/-- An Anvil fault: a block reset, and ANVIL_FAULT; the jobs stay and run again from their inputs (R273). -/
def State.anvilFault (s : State) : State :=
  let a := s.pipe.anvil
  if a.state = .out then s
  else ((s.setAnvil { a with state := .reset, faults := a.faults + 1 }).blockReset 0x0400).unitEvent .anvilFault 0 0

/-- ANVIL_ECC_ERROR (R273): an uncorrectable error of the weight store, the operand buffers or the cell state. -/
def execAnvilEccError (s : State) : Out := .next s.anvilFault

/-- ANVIL_TILE_TIMEOUT (R273): the row itself says that a tile pair has run for 10 ms; without a job none has. -/
def execAnvilTileTimeout (s : State) : Out := .next (if s.pipe.anvil.jobs.isEmpty then s else s.anvilFault)

/-- Bytes of the weight store in use: the tables of the recipe in force and of armed RECIPE_CHANGEs (R267, R280). -/
def State.weightBytes (s : State) : Nat :=
  let hs := s.plan.recipe.toList ++ ((s.gauge.armed.filter (fun e => decide (e.kind = .recipeChange))).map (fun e => e.item))
  ((hs.eraseDups).map (fun h => ((filterSection? (s.recipeBytes h)).map (fun f => f.anvilBytes)).getD 0)).sum

/-- ANVIL_STATUS (R280). -/
def execAnvilStatus (r : Req) (s : State) : Out :=
  let a := s.pipe.anvil
  .next (s.finish r 0x0343 none (s.answer r 0x0343 .ok 0 [] ([a.state.value] ++ a.pairs ++ a.done ++ [a.discards, a.faults, s.weightBytes])))

/-- KERNEL_BOUND_REACHED (R264, R371): a kernel that has executed KERNEL_MAX_INSNS instructions without halt sets BOUND and
its sample is rejected. -/
def execKernelBoundReached (ctx : Nat) (s : State) : Out :=
  match s.ngayx.contexts.find? (fun c => decide (c.id = ctx)) with
  | none => .next s
  | some c => match c.run with
    | .kernel _ _ _ => .next (if !c.ended && decide (c.budget ≤ c.executed) then s.kernelEnded { c with bound := true } else s)
    | .node _ _ _ _ _ => .next s

end Sys2Proof.Machine
end

