-- ==== Sys2Proof/Machine/Launch.lean ====
section
/-! DEFINITION. Collective launches: group specifications, fixed trees, launch descriptors, admission, votes and the status
record (R394 to R411). -/

namespace Sys2Proof.Machine

/-! ### Group specifications (R394) -/

/-- Sides a specification names. -/
def specSides (b : Bytes) : List Nat := (List.range 2).filter (fun i => bitOf (fieldAt b 0 1) i)

/-- `lo`, `lo + stride`, ... up to `hi`. -/
def axis (lo hi stride : Nat) : List Nat := (List.range ((hi - lo) / stride + 1)).map (fun i => lo + i * stride)

/-- The device axis and the port axis. -/
def specDevices (b : Bytes) : List Nat := axis (fieldAt b 1 1) (fieldAt b 2 1) (fieldAt b 3 1)
def specPorts (b : Bytes) : List Nat := axis (fieldAt b 4 1) (fieldAt b 5 1) (fieldAt b 6 1)

/-- Every participant in rank order: (side, device, port). -/
def specRanks (b : Bytes) : List (Nat × Nat × Nat) :=
  (specSides b).flatMap (fun s => (specDevices b).flatMap (fun d => (specPorts b).map (fun p => (s, d, p))))

/-- The participating devices, as (side, device). -/
def specMembers (b : Bytes) : List (Nat × Nat) := (specSides b).flatMap (fun s => (specDevices b).map (fun d => (s, d)))

/-- P and D (R394). -/
def specP (b : Bytes) : Nat := (specRanks b).length
def specD (b : Bytes) : Nat := (specDevices b).length

/-- The place of an element in a list. -/
def placeOf {α : Type} [DecidableEq α] (x : α) (l : List α) : Nat := (l.takeWhile (fun y => decide (y ≠ x))).length

/-! ### Fixed trees (R409, R410) -/

/-- A node of a fixed tree, with the logical Crucible number assigned to it. -/
structure TNode where
  k : Nat
  left : Opnd
  right : Opnd
  crucible : Nat
  deriving DecidableEq, Repr

/-- The largest power of two below `n`, for `n` above 1. -/
def powerBelow (n : Nat) : Nat → Nat → Nat
  | 0, g => g
  | fuel + 1, g => if 2 * g < n then powerBelow n fuel (2 * g) else g

/-- build of R409: the nodes in the order node() is called, the root, and the next node number. -/
def buildTree (crucible : Nat → Nat) : Nat → List Opnd → Nat → List TNode × Opnd × Nat
  | 0, leaves, k => ([], leaves.headD (.leaf 0), k)
  | fuel + 1, leaves, k =>
    if leaves.length ≤ 1 then ([], leaves.headD (.leaf 0), k)
    else
      let g := powerBelow leaves.length leaves.length 1
      let (ns, l, k) := buildTree crucible fuel (leaves.take g) k
      let (ms, r, k) := buildTree crucible fuel (leaves.drop g) k
      (ns ++ ms ++ [⟨k, l, r, crucible k⟩], .node k, k + 1)

/-- The sub-trees of the level-1 groups of R409: `left` groups still to form, the first `m` of them one leaf larger. -/
def buildGroups (q m : Nat) : Nat → Nat → List Opnd → Nat → List TNode × List Opnd × Nat
  | 0, _, _, k => ([], [], k)
  | left + 1, j, leaves, k =>
    let size := if j < m then q + 1 else q
    let (ns, root, k) := buildTree (fun _ => j % 16) size (leaves.take size) k
    let (ms, roots, k) := buildGroups q m left (j + 1) (leaves.drop size) k
    (ns ++ ms, root :: roots, k)

/-- `n` leaves. -/
def leavesOf (n : Nat) : List Opnd := (List.range n).map Opnd.leaf

/-- level1 of R409. -/
def level1Tree (n gg : Nat) : List TNode × Opnd :=
  if n ≤ gg ∨ gg = 0 then
    let (ns, root, _) := buildTree (· % 16) n (leavesOf n) 0
    (ns, root)
  else
    let (ns, roots, k) := buildGroups (n / gg) (n % gg) gg 0 (leavesOf n) 0
    let (ms, root, _) := buildTree (· % 16) gg roots k
    (ns ++ ms, root)

/-- The level-2 tree over the device axis. -/
def level2Tree (d : Nat) : List TNode × Opnd :=
  let (ns, root, _) := buildTree (· % 16) d (leavesOf d) 0
  (ns, root)

/-- The level-3 node. -/
def level3Tree : List TNode × Opnd := ([⟨0, .leaf 0, .leaf 1, 0⟩], .node 0)

/-- The tree of a level, for `n` local participants. -/
def treeOf (level n d gg : Nat) : List TNode × Opnd :=
  if level = 1 then level1Tree n gg else if level = 2 then level2Tree d else level3Tree

/-- The node index of R333 and s5 (R409). -/
def nodeIndex (level side device k : Nat) : Nat :=
  if level = 1 then side * 32768 + device * 256 + k else if level = 2 then side * 32768 + k else 0

/-! ### Descriptors (R396, R402) -/

/-- Fields of a descriptor. -/
def descKind (b : Bytes) : Nat := fieldAt b 4 1
def descFlags (b : Bytes) : Nat := fieldAt b 6 1
def descStep (b : Bytes) : Nat := fieldAt b 8 4
def descProgram (b : Bytes) : Nat := fieldAt b 12 2
def descCount (b : Bytes) : Nat := fieldAt b 16 8 % 2 ^ 40
def descChunk (b : Bytes) : Nat := if fieldAt b 24 4 = 0 then 65536 else fieldAt b 24 4
def descResidual (b : Bytes) : Nat := fieldAt b 28 2
def descRoot (b : Bytes) : Nat := fieldAt b 30 2
def descFeedback (b : Bytes) : Bool := bitOf (descFlags b) 2
def descRkey (b : Bytes) : Nat := fieldAt b 56 4
def descAux (b : Bytes) : Nat := fieldAt b 48 8

/-- The declared format: those of R309 but INT4. -/
def descFmt? (b : Bytes) : Option Fmt := match fmtOf (fieldAt b 5 1) with
  | some .int4 => none
  | f => f
def descFmt (b : Bytes) : Fmt := (descFmt? b).getD .fp32

/-- The descriptor with the fields that are not shared set to zero (R396, R399). -/
def sharedPart (b : Bytes) : Bytes := b.take 32 ++ List.replicate 28 0 ++ b.drop 60

/-- U_IN and U_MAX (R402). -/
def unitIn (f : Fmt) : Nat := if f.cls = .blk then 2 + f.elemBytes else f.bits / 8
def unitMax (f : Fmt) : Nat := if f.cls = .blk then 34 else f.bits / 8

/-- Elements of a unit: e of R402. -/
def unitElems (f : Fmt) : Nat := if f.cls = .blk then 32 else 1

/-- CU, units and chunks (R402). -/
def descCu (b : Bytes) : Nat := descChunk b / unitMax (descFmt b)
def descUnits (b : Bytes) : Nat := descCount b / unitElems (descFmt b)
def descChunks (b : Bytes) : Nat := (descUnits b + descCu b - 1) / descCu b

/-- Units, bytes and element offset of a chunk (R402). -/
def chunkUnits (b : Bytes) (n : Nat) : Nat := min (descCu b) (descUnits b - n * descCu b)
def chunkBytes (b : Bytes) (n : Nat) : Nat := chunkUnits b n * unitIn (descFmt b)
def chunkX0 (b : Bytes) (n : Nat) : Nat := n * descCu b * unitElems (descFmt b)

/-- The result stride S (R403). -/
def resultStride (b : Bytes) : Nat := descCu b * unitMax (descFmt b)

/-- A field of a descriptor lies out of range, or a reserved bit is not zero (R396, R398). The largest chunk is the
program's; `none` is a handle that holds no program. -/
def descFaulty (b : Bytes) (maxChunk : Option Nat) (p : Nat) : Bool :=
  let f := descFmt b
  let kind := descKind b
  let esc := fieldAt b 14 2
  decide (fieldAt b 0 2 ≠ 1) || decide (fieldAt b 2 2 < 8) || decide (1023 < fieldAt b 2 2) || decide (3 < kind)
    || (descFmt? b).isNone || decide (descFlags b % 4 = 3) || decide (7 < descFlags b) || !zeroAt b 7 1
    || (decide (2 ≤ kind) && decide (descProgram b ≠ 0xFFFF))
    || (decide (esc ≠ 0) && !decide (f = .b4) && !decide (f = .b4i) && !decide (f = .t2))
    || decide (descCount b = 0) || decide (2 ^ 40 ≤ fieldAt b 16 8) || decide (descCount b % unitElems f ≠ 0)
    || decide (descChunk b < 4096) || decide (1048576 < descChunk b) || decide (descChunk b % 4096 ≠ 0)
    || (match maxChunk with | some m => decide (m < descChunk b) | none => true)
    || (if descFeedback b then decide (63 < descResidual b) else decide (descResidual b ≠ 0xFFFF))
    || (if kind = 3 then decide (p ≤ descRoot b) else decide (descRoot b ≠ 0))
    || decide (descAux b % 64 ≠ 0) || !zeroAt b 60 4

/-- Error feedback that the launch may not ask for (R398). -/
def feedbackFaulty (b : Bytes) (p : Nat) : Bool :=
  descFeedback b && (decide (2 ≤ descKind b) || decide (descFmt b = .fp32) || decide (descFmt b = .int32)
    || decide (descFmt b = .int8) || decide (p < 2))

/-! ### Channels and launches -/

/-- A channel's record. -/
def State.channel (s : State) (c : Nat) : Channel :=
  (s.coll.channels.find? (fun x => decide (x.num = c))).getD { num := c }

/-- Replace the collective state. -/
def State.setColl (s : State) (c : CollState) : State := { s with coll := c }

/-- Put a channel's record back. -/
def State.setChannel (s : State) (c : Channel) : State :=
  let known : Bool := s.coll.channels.any (fun x => decide (x.num = c.num))
  s.setColl { s.coll with channels := if known then updateFirst (fun x => decide (x.num = c.num)) (fun _ => c) s.coll.channels
                                      else s.coll.channels ++ [c] }

/-- The launch of a number. -/
def State.launch? (s : State) (id : Nat) : Option Launch := s.coll.launches.find? (fun l => decide (l.id = id))

/-- Put a launch back. -/
def State.setLaunch (s : State) (l : Launch) : State :=
  s.setColl { s.coll with launches := updateFirst (fun x => decide (x.id = l.id)) (fun _ => l) s.coll.launches }

/-- Drop a launch. -/
def State.dropLaunch (s : State) (id : Nat) : State :=
  s.setColl { s.coll with launches := s.coll.launches.filter (fun l => decide (l.id ≠ id)) }

/-- This device as (side, device). -/
def State.self (s : State) : Nat × Nat := (s.group.set.side, s.group.set.deviceId)

/-- The local participants' ports of a launch, ascending. -/
def Launch.ports (l : Launch) : List Nat := specPorts l.spec

/-- The descriptor that stands for the shared fields: the lowest port's (R399). -/
def Launch.desc (l : Launch) : Bytes := (l.ports.filterMap (lookup? l.descs)).headD []

/-- The descriptor of a participant. -/
def Launch.descOf (l : Launch) (port : Nat) : Bytes := lookupD l.descs port l.desc

/-- The digest of a vote (R399). -/
def Launch.digest (l : Launch) : Bytes := sha256 (sharedPart l.desc)

/-- The declaration of the launch's program. -/
def Launch.declared (l : Launch) : Declared := if l.image.isEmpty then builtinDeclared else declaredOf l.image

/-- Both sides take part, so that level 3 has its node (R406). -/
def Launch.twin (l : Launch) : Bool := decide ((specSides l.spec).length = 2)

/-- D of the launch. -/
def Launch.d (l : Launch) : Nat := specD l.spec

/-- The highest level with a node (R406), 0 where there is none. -/
def Launch.topLevel (l : Launch) : Nat :=
  if l.twin then 3 else if 1 < l.d then 2 else if 1 < l.ports.length then 1 else 0

/-- The kind reduces: ALL_REDUCE or REDUCE_SCATTER. -/
def Launch.reduces (l : Launch) : Bool := decide (descKind l.desc < 2)

/-- The device at the index that owns a chunk (R405). -/
def Launch.owner (l : Launch) (n : Nat) : Nat := (specDevices l.spec).getD (n % l.d) 0

/-- Results every participant's device receives: chunks, for each rank under ALL_GATHER (R403). -/
def Launch.total (l : Launch) : Nat := descChunks l.desc * (if descKind l.desc = 2 then specP l.spec else 1)

/-- The image and handle a launch runs (R355, R357, R396): the one it names, else the channel's binding, else SUM; COPY for
ALL_GATHER and BROADCAST. An empty image is a built-in; `none` a handle that holds no program. -/
def State.programFor (s : State) (channel : Nat) (b : Bytes) : Nat × Option Bytes :=
  let h := if 2 ≤ descKind b then 67
    else if descProgram b = 0xFFFF then lookupD s.ngayx.bindings channel 64
    else descProgram b
  if 64 ≤ h ∧ h ≤ 67 then (h, some []) else (h, lookup? s.ngayx.programs h)

/-! ### Residual stores (R413) -/

/-- The store of a handle. -/
def State.store? (s : State) (h : Nat) : Option Residual := s.coll.stores.find? (fun x => decide (x.handle = h))

/-- Put a store back. -/
def State.setStore (s : State) (x : Residual) : State :=
  s.setColl { s.coll with stores := updateFirst (fun y => decide (y.handle = x.handle)) (fun _ => x) s.coll.stores }

/-- The binding key of a launch (R413). -/
def Launch.key (l : Launch) : Bytes × Nat × Nat × Nat :=
  (l.spec, fieldAt l.desc 5 1, descCount l.desc, descChunk l.desc)

/-- Elements the store must hold (R413). -/
def Launch.residualNeed (l : Launch) : Nat :=
  (descChunks l.desc + l.d - 1) / l.d * descCu l.desc * unitElems (descFmt l.desc)

/-- The residual store is missing, too small or bound to another key (R398, R413). -/
def State.residualFaulty (s : State) (l : Launch) : Bool :=
  if !descFeedback l.desc then false
  else match s.store? (descResidual l.desc) with
    | none => true
    | some x => decide (x.elems < l.residualNeed) || (match x.key with | some k => decide (k ≠ l.key) | none => false)

/-- The residual store is bound to another launch (R323, R398). -/
def State.residualBusy (s : State) (l : Launch) : Bool :=
  if !descFeedback l.desc then false
  else match s.store? (descResidual l.desc) with
    | some x => x.bound.isSome && decide (x.bound ≠ some l.id)
    | none => false

/-- Unbind what a launch has bound. -/
def State.unbind (s : State) (id : Nat) : State :=
  s.setColl { s.coll with stores := s.coll.stores.map (fun x => if x.bound = some id then { x with bound := none } else x) }

/-! ### What a device sends (R393, R407) -/

/-- The collective pair toward another device: the direct mesh link within the side, a twin link between the sides. -/
def State.collQp (s : State) (side device n : Nat) : Option Nat :=
  if side = s.group.set.side then some (meshQp s.group.set.deviceId device 1)
  else if s.group.twinUp.contains (n % 4) then some (257 + 2 * (n % 4)) else s.twinQp 1

/-- Queue a message for a launch's user: it is one more to be acknowledged (R401). A pair that cannot carry it takes
nothing. -/
def State.collPost (s : State) (id : Nat) (qp : Option Nat) (w : Work) : State :=
  match qp with
  | none => s
  | some q =>
    if !s.rqpReady q then s
    else
      let s := s.post q w
      match s.launch? id with
      | some l => s.setLaunch { l with unacked := l.unacked + 1 }
      | none => s

/-- The 4-byte chunk status (R408). -/
def Part.status (p : Part) : Bytes :=
  natLe 4 (p.flags % 2 ^ 8 + p.fault % 2 ^ 8 * 2 ^ 8 + p.events % 4 * 2 ^ 16 + p.failed.toNat * 2 ^ 18)

/-- Send a chunk's value to another device by RDMA WRITE with immediate (R393): the chunk status and the streams. Where it
is written and what its immediate holds are left open: free values (log entry 40). -/
def State.sendPart (s : State) (id side device n : Nat) (p : Part) : State :=
  let va := s.free
  let key := s.used.free
  let imm := s.used.used.free
  s.used.used.used.collPost id (s.collQp side device n)
    { kind := .writeImm va key imm, data := p.status ++ p.out0 ++ p.out1, user := .coll id device }

/-- The 48-byte vote (R399). -/
def voteBytes (s : State) (l : Launch) (outcome : Nat) : Bytes :=
  natLe 2 l.channel ++ natLe 2 l.ordinal ++ natLe 4 l.stepLo ++ natLe 2 outcome ++ natLe 1 s.group.set.deviceId
    ++ natLe 1 s.group.set.side ++ natLe 4 0 ++ l.digest

/-- The other participating devices. -/
def State.others (s : State) (l : Launch) : List (Nat × Nat) := (specMembers l.spec).filter (fun m => decide (m ≠ s.self))

/-- Send this device's vote to every other participating device (R399). -/
def State.sendVotes (s : State) (l : Launch) (outcome : Nat) : State :=
  (s.others l).foldl (fun s m => s.collPost l.id (s.collQp m.1 m.2 0)
    { kind := .send, data := voteBytes s l outcome, user := .coll l.id m.2 }) s

/-! ### The status record (R404) -/

/-- The status record of a launch with a RESULT. -/
def Launch.record (l : Launch) (result : Nat) (ran : Bool) : Bytes :=
  let first : Option Nat := (l.failures.map (fun f => f.1)).min?
  let fault : Nat := match first with | some n => lookupD l.failures n 0 | none => 0
  natLe 2 result ++ natLe 1 (if ran then l.flags else 0) ++ natLe 1 fault ++ natLe 2 l.channel ++ natLe 2 l.ordinal
    ++ natLe 4 l.stepLo ++ natLe 4 (if ran then descChunks l.desc else 0) ++ natLe 4 l.failures.length
    ++ natLe 4 (first.getD 0xFFFFFFFF) ++ natLe 1 (l.events % 4) ++ natLe 7 0

/-- The immediate of a status record (R404). -/
def Launch.imm (l : Launch) : Nat := l.channel % 2 ^ 10 + l.ordinal % 2 ^ 12 * 2 ^ 10

/-- Write to a participant's memory (R407). -/
def State.writeTo (s : State) (l : Launch) (port va : Nat) (bs : Bytes) : State :=
  s.collPost l.id (lookup? s.coll.ports port)
    { kind := .write va (descRkey (l.descOf port)), data := bs, user := .result l.id port }

/-- Write the status record to a participant, last, with immediate (R404). -/
def State.writeRecord (s : State) (l : Launch) (result : Nat) (ran : Bool) (port : Nat) : State :=
  s.collPost l.id (lookup? s.coll.ports port)
    { kind := .writeImm (descAux (l.descOf port)) (descRkey (l.descOf port)) l.imm, data := l.record result ran
      user := .result l.id port }

/-- Count a launch by its RESULT (R419). -/
def State.countResult (s : State) (channel result : Nat) : State :=
  let c := s.channel channel
  s.setChannel { c with results := assign c.results result (lookupD c.results result 0 + 1) }

/-- Release a launch's grant, and what it bound (R400, R401). -/
def State.releaseGrant (s : State) (id : Nat) : State :=
  match s.launch? id with
  | none => s
  | some l =>
    let s := s.setLaunch { l with blocks := 0, grant := [] }
    (s.setColl { s.coll with freeBlocks := s.coll.freeBlocks + l.blocks }).unbind id

/-- A launch ends without having run (R400, R418): its reservation is released and the status record alone is written to
every participant whose descriptor has come. It stays known while a descriptor of it is still to come. -/
def State.endUnrun (s : State) (id result : Nat) : State :=
  match s.launch? id with
  | none => s
  | some l =>
    let s := (s.releaseGrant id).countResult l.channel result
    let s := (l.descs.map (fun d => d.1)).foldl (fun s p => s.writeRecord l result false p) s
    match s.launch? id with
    | none => s
    | some l => if l.missing.isEmpty then s.dropLaunch id else s.setLaunch { l with phase := .ended, result := some result }

end Sys2Proof.Machine
end

