-- ==== Sys2Proof/Machine/Reduce.lean ====
section
/-! DEFINITION. A launch while it runs: chunks, source reads, the levels of the trees, built-in programs, results
(R336, R337, R344, R347 to R349, R355, R401 to R413). -/

namespace Sys2Proof.Machine

/-! ### Built-in programs (R355) -/

/-- SUM: SSUM over the bound ports until they end (R320, R322, R390). -/
def NgCtx.sumAll (key : Bytes) (w : Fields) (fresh : Nat) : Nat → NgCtx → NgCtx
  | 0, x => x
  | fuel + 1, x => if x.fault ≠ 0 ∨ x.ins.all (·.ended) then x else NgCtx.sumAll key w fresh fuel (x.ssum key Config.freeNat (fresh + x.summed) w)

/-- One register's worth of MAX or MIN: v0 takes in0, then VMAX or VMIN with each further port (R355, R377). -/
def NgCtx.pickStep (key : Bytes) (w : Fields) (least : Bool) (x : NgCtx) : NgCtx :=
  let f := Fields.fmt w
  let taken : List (Nat × Nat × InPort) := x.ins.map (fun p => readPort p f)
  let count := (taken.map (fun t => t.2.1)).foldl max 0
  let seen := orFlags (x.ins.map (fun p => portFlags p f))
  let x : NgCtx := NgCtx.flag { x with ins := taken.map (fun (t : Nat × Nat × InPort) => t.2.2) } seen
  let x := (x.setV 0 ((taken.map (fun t => t.1)).headD 0)).setS 12 (x.x0 + x.summed)
  let x := (taken.drop 1).foldl (fun x t => (x.setV 1 t.1).minmax key { w with a := 0, b := 1, c := 12, d := 0 } least) x
  let x := (x.setS 13 count).store { w with a := 0, b := 0, c := 13 }
  { x with summed := x.summed + (if f.cls = .blk then 32 * count else count) }

/-- MAX and MIN over the whole streams. -/
def NgCtx.pickAll (key : Bytes) (w : Fields) (least : Bool) : Nat → NgCtx → NgCtx
  | 0, x => x
  | fuel + 1, x => if x.fault ≠ 0 ∨ x.ins.all (·.ended) then x else NgCtx.pickAll key w least fuel (x.pickStep key w least)

/-- COPY: in0 to out0 unchanged. -/
def NgCtx.copyAll (x : NgCtx) : NgCtx :=
  { x with outs := x.outs.set 0 { (x.outs.getD 0 {}) with bytes := (x.inPort 0).bytes } }

/-- A built-in run from its ports to its halt. -/
def NgCtx.builtin (x : NgCtx) (key : Bytes) (fresh handle : Nat) (f : Fmt) (rm : Nat) : NgCtx :=
  let w : Fields := { f := f.code, rm := rm }
  let fuel := (x.inPort 0).bytes.length + 1
  let y := match handle with
    | 64 => NgCtx.sumAll key w fresh fuel x
    | 65 => NgCtx.pickAll key w false fuel x
    | 66 => NgCtx.pickAll key w true fuel x
    | _ => x.copyAll
  { y with halted := true }

/-! ### Chunks -/

/-- The chunk of a launch. -/
def Launch.chunk? (l : Launch) (n rank : Nat) : Option Chunk := l.chunks.find? (fun c => decide (c.n = n) && decide (c.rank = rank))

/-- Put a chunk back, or add it. -/
def Launch.setChunk (l : Launch) (c : Chunk) : Launch :=
  let same (x : Chunk) : Bool := decide (x.n = c.n) && decide (x.rank = c.rank)
  { l with chunks := if l.chunks.any same then updateFirst same (fun _ => c) l.chunks else l.chunks ++ [c] }

/-- A failed marker (R408, R418). -/
def failedPart (fault : Nat) : Part := { failed := true, fault := fault }

/-- The leaf of a local participant at level 1. -/
def Launch.leafOf (l : Launch) (port : Nat) (p : Part) : LevelOp :=
  { level := 1, part := p, src := .leaf (if l.reduces then placeOf port l.ports else 0) }

/-- A source block whose tag is escaped reads as malformed (R402): its tag is replaced by one no format has. -/
def markEscaped (size : Nat) : Nat → Bytes → Bytes
  | 0, bs => bs
  | _ + 1, [] => []
  | fuel + 1, b :: bs =>
    let tag : Byte := if b.toNat / 4 % 2 = 1 then 0xFF else b
    (tag :: bs.take (size - 1)) ++ markEscaped size fuel (bs.drop (size - 1))

/-- A contribution as its level-1 operand: its escaped tags are refused where a node will read it (R402). -/
def Launch.sourcePart (l : Launch) (bs : Bytes) : Part :=
  let f := descFmt l.desc
  if f.cls = .blk ∧ l.reduces ∧ l.topLevel ≠ 0 then { out0 := markEscaped (unitIn f) bs.length bs } else { out0 := bs }

/-- The ranks whose contributions this device handles, one chunk record for each: the reduction itself under rank 0, every
local participant under ALL_GATHER, the ROOT under BROADCAST where it is local (R403). -/
def State.ranksHere (s : State) (l : Launch) : List (Nat × List Nat) :=
  let rankOf (p : Nat) : Nat := placeOf (s.group.set.side, s.group.set.deviceId, p) (specRanks l.spec)
  if l.reduces then [(0, l.ports)]
  else if descKind l.desc = 2 then l.ports.map (fun p => (rankOf p, [p]))
  else (l.ports.filter (fun p => decide (rankOf p = descRoot l.desc))).map (fun p => (descRoot l.desc, [p]))

/-- Ask for the source reads of a chunk that have not been asked for (R87, R402): a read whose buffers cannot be had is
deferred; a participant whose queue pair failed gives a failed marker (R418). -/
def State.readSources (s : State) (id n rank : Nat) : List Nat → State
  | [] => s
  | p :: ps =>
    match s.launch? id, (s.launch? id).bind (fun l => l.chunk? n rank) with
    | some l, some c =>
      let rest := c.unread.filter (fun x => decide (x ≠ p))
      if l.dead.contains p then
        let c' : Chunk := { c with unread := rest, ops := c.ops ++ [l.leafOf p (failedPart 0)] }
        (s.setLaunch (l.setChunk c')).readSources id n rank ps
      else
        let q := 64 + ((s.switch.ports.find? (fun x => decide (x.logical = p))).map (fun x => x.block)).getD 0
        let b := l.descOf p
        match s.takeBuffers q (chunkBytes b n) with
        | (s', none) => s'.readSources id n rank ps
        | (s', some bufs) =>
          let c' : Chunk := { c with unread := rest, reading := c.reading ++ [p], buffers := c.buffers ++ bufs.map (fun x => (q, x)) }
          let va := fieldAt b 32 8 + n * descCu b * unitIn (descFmt b)
          ((s'.setLaunch (l.setChunk c')).collPost id (lookup? s.coll.ports p)
            { kind := .read va (descRkey b) (chunkBytes b n), user := .source id p n }).readSources id n rank ps
    | _, _ => s

/-- Bytes of one copy set (R347). -/
def Declared.copySet (d : Declared) : Nat := d.ctxCopies * d.perCopy * 8192

/-- Start a chunk on this device (R348): its copy set is zero. -/
def State.startChunk (s : State) (l : Launch) (n : Nat) : State :=
  let d := l.declared
  let l := { l with next := n + 1, grant := l.grant.clear (n % d.pipeDepth * d.copySet) d.copySet }
  let l := (s.ranksHere l).foldl (fun l r =>
    l.setChunk { (l.chunk? n r.1).getD { n := n, rank := r.1 } with started := true, unread := r.2 }) l
  s.setLaunch l

/-- Start every chunk that may start (R348, R402), in ascending order. -/
def State.startChunks (s : State) (id : Nat) : Nat → State
  | 0 => s
  | fuel + 1 =>
    match s.launch? id with
    | none => s
    | some l =>
      let blocked : Bool := l.chunks.any (fun c => c.started && !c.ended && decide (c.n + l.declared.pipeDepth ≤ l.next))
      if l.phase ≠ .running ∨ descChunks l.desc ≤ l.next ∨ blocked ∨ (s.ranksHere l).isEmpty then s
      else (s.startChunk l l.next).startChunks id fuel

/-- Ask for every source not yet asked for. -/
def State.readAll (s : State) (id : Nat) : State :=
  match s.launch? id with
  | none => s
  | some l => l.chunks.foldl (fun s c => if c.started then s.readSources id c.n c.rank c.unread else s) s

/-! ### Levels (R406, R410, R412) -/

/-- The tree of a level of a launch. -/
def Launch.tree (l : Launch) (level : Nat) : List TNode × Opnd := treeOf level l.ports.length l.d l.g

/-- No further operand is due at a level of a chunk: level 1's sources are read, levels 2 and 3 have had all of theirs. -/
def Launch.allPresent (l : Launch) (c : Chunk) (level : Nat) : Bool :=
  let leaves := if level = 1 then l.ports.length else if level = 2 then l.d else 2
  let gone := ((c.spent.filter (fun d => decide (d.1 = level))).map (fun d => d.2)).sum
  let held := (c.ops.filter (fun o => decide (o.level = level))).length
  let inRuns := (c.runs.filter (fun r => decide (r.level = level)))
  decide (leaves ≤ held + gone + (inRuns.map (fun r => r.inputs.length)).sum) && inRuns.isEmpty
    && (decide (level ≠ 1) || (c.unread.isEmpty && c.reading.isEmpty))

/-- The output of a level, once it has one: in exact mode its tree's root; in fast mode the one operand that remains. -/
def Launch.levelOutput (l : Launch) (c : Chunk) (level : Nat) : Option Part :=
  let here := c.ops.filter (fun o => decide (o.level = level))
  if !l.reduces then (here.find? (fun o => decide (o.src = .node 0))).map (fun o => o.part)
  else if l.exact then (here.find? (fun o => decide (o.src = (l.tree level).2))).map (fun o => o.part)
  else match here with
    | [o] => if l.allPresent c level then some o.part else none
    | _ => none

/-- Return the pool buffers that hold a chunk's sources. -/
def State.dropSources (s : State) (c : Chunk) : State := c.buffers.foldl (fun s b => (s.returnBuffer b.1 b.2).1) s

/-- Put an operand at a level. -/
def Chunk.put (c : Chunk) (level : Nat) (src : Opnd) (p : Part) : Chunk := { c with ops := c.ops ++ [⟨level, src, p⟩] }

/-- Take a level's operands out. -/
def Chunk.clearLevel (c : Chunk) (level : Nat) : Chunk := { c with ops := c.ops.filter (fun o => decide (o.level ≠ level)) }

/-- A device's partial is on its way to the owner: this device's runs of the chunk have ended. -/
def State.passOn (s : State) (l : Launch) (c : Chunk) (side device : Nat) (p : Part) : State :=
  let c' : Chunk := { c with ended := true, buffers := [] }
  ((s.dropSources c).setLaunch (l.setChunk c')).sendPart l.id side device c.n p

/-- The final output stands (R407): it waits for its commit. -/
def State.final (s : State) (l : Launch) (c : Chunk) (p : Part) : State :=
  let c' : Chunk := { c with ended := true, out := some p, buffers := [] }
  (s.dropSources c).setLaunch (l.setChunk c')

/-- Carry a chunk up the levels as far as its operands allow (R406). -/
def State.settleChunk (s : State) (id n rank : Nat) : Nat → State
  | 0 => s
  | fuel + 1 =>
    match s.launch? id, (s.launch? id).bind (fun l => l.chunk? n rank) with
    | some l, some c =>
      if c.ended || !c.started then s
      else if !l.reduces then
        (match l.levelOutput c 1 with
         | some p => s.final l (c.clearLevel 1) p
         | none => s)
      else
        let me := s.group.set.deviceId
        match l.levelOutput c 1, l.levelOutput c 2, l.levelOutput c 3 with
        | some p, _, _ =>
          let c := c.clearLevel 1
          if l.owner n = me then (s.setLaunch (l.setChunk (c.put 2 (.leaf (placeOf me (specDevices l.spec))) p))).settleChunk id n rank fuel
          else s.passOn l c s.group.set.side (l.owner n) p
        | none, some p, _ =>
          let c := c.clearLevel 2
          if !l.twin then s.final l c p
          else if s.group.set.side = 0 then (s.setLaunch (l.setChunk (c.put 3 (.leaf 0) p))).settleChunk id n rank fuel
          else s.passOn l c 0 me p
        | none, none, some p => s.final l (c.clearLevel 3) p
        | none, none, none => s
    | _, _ => s

/-- Bring a running launch forward: start chunks, ask for sources, carry chunks up. -/
def State.progress (s : State) (id : Nat) : State :=
  match s.launch? id with
  | none => s
  | some l =>
    let s := (s.startChunks id (descChunks l.desc + 1)).readAll id
    match s.launch? id with
    | none => s
    | some l => l.chunks.foldl (fun s c => s.settleChunk id c.n c.rank 4) s

/-! ### Node runs (R337, R344, R347) -/

/-- A logical Crucible number that is served, from `n` upward, wrapping from 15 to 0 (R410). -/
def State.servedFrom (s : State) (n : Nat) : Option Nat :=
  ((List.range 16).map (fun i => (n + i) % 16)).find? (fun k => (s.units.crucibleMap.getD k none).isSome)

/-- The lowest free context of a logical Crucible (R336). -/
def State.freeCtx (s : State) (crucible : Nat) : Option Nat :=
  ((List.range 8).map (fun i => 8 * crucible + i)).find? (fun k => !s.ngayx.contexts.any (fun x => decide (x.id = k)))

/-- The residuals a chunk's final node reads (R323, R413, R326). -/
def State.residualsOf (s : State) (l : Launch) (n : Nat) : Option (List Nat) :=
  match s.store? (descResidual l.desc) with
  | none => none
  | some x =>
    let j := n / l.d * descCu l.desc * unitElems (descFmt l.desc)
    some ((List.range (chunkUnits l.desc n * unitElems (descFmt l.desc))).map (fun i => leNat (s.memRead (x.base + 2 * (j + i)) 2)))

/-- The context of a run at its start (R337, R344, R347). -/
def State.nodeCtx (s : State) (l : Launch) (c : Chunk) (r : ActiveRun) (id : Nat) : NgCtx :=
  let b := l.desc
  let f := descFmt b
  let d := l.declared
  let index := nodeIndex r.level s.group.set.side s.group.set.deviceId r.k
  let regs : List Nat := [chunkX0 b c.n, chunkBytes b c.n, r.inputs.length, c.n % d.pipeDepth * d.copySet,
    d.pipeDepth * d.copySet, index, r.level, 0, fieldAt b 64 8, fieldAt b 72 8, fieldAt b 80 8, fieldAt b 88 8, 0, 0, 0, 0]
  { id := id, run := .node l.id c.n r.level r.k r.crucible, prog := wordsOf (fieldAt l.image 8 4) (l.image.drop 64), s := regs
    ins := r.inputs.map (fun o => { fmt := some f, bytes := o.part.out0, ended := o.part.out0.isEmpty })
    outs := [{ fmt := some f }, { fmt := none }], budget := d.budget, grant := l.grant, grantBytes := l.blocks * 8192
    maxChunk := d.maxChunk, escBound := fieldAt b 14 2, exact := l.exact, x0 := chunkX0 b c.n
    site := { step := l.stepLo, channel := l.channel, ordinal := l.ordinal, level := r.level, node := index }
    residuals := if r.final && descFeedback b then s.residualsOf l c.n else none }

/-- The context after a built-in has run; a loaded program runs instruction by instruction. -/
def State.readyCtx (s : State) (l : Launch) (x : NgCtx) : NgCtx :=
  if l.image.isEmpty then x.builtin s.jobKey s.freeCtr l.handle (descFmt l.desc) (descFlags l.desc % 4) else x

/-- Put a run in a context. -/
def State.startRun (s : State) (l : Launch) (c : Chunk) (r : ActiveRun) (id : Nat) : State :=
  let x := s.readyCtx l (s.nodeCtx l c r id)
  let r : ActiveRun := { r with ctx := some id, before := l.grant }
  let same (y : ActiveRun) : Bool := decide (y.level = r.level) && decide (y.k = r.k)
  let runs := if c.runs.any same then updateFirst same (fun _ => r) c.runs else c.runs ++ [r]
  let s := s.setLaunch (l.setChunk { c with runs := runs })
  { s with ngayx := { s.ngayx with contexts := s.ngayx.contexts ++ [x] }
           freeCtr := if l.exact then s.freeCtr else s.freeCtr + x.summed }

/-- The status of a node's output from its inputs' (R408). -/
def joinParts (ps : List Part) : Part :=
  { flags := orFlags (ps.map (fun p => p.flags)), events := orFlags (ps.map (fun p => p.events)),
    fault := ((ps.map (fun p => p.fault)).filter (fun f => decide (f ≠ 0))).min?.getD 0, failed := ps.any (fun p => p.failed) }

/-- A node's output joins its level, and its inputs leave their port buffers (R412, R416). -/
def Chunk.finish (c : Chunk) (r : ActiveRun) (p : Part) : Chunk :=
  { c with runs := c.runs.filter (fun y => !(decide (y.level = r.level) && decide (y.k = r.k))),
           done := c.done ++ [(r.level, r.k)], spent := c.spent ++ [(r.level, r.inputs.length - 1)], ops := c.ops ++ [⟨r.level, .node r.k, p⟩] }

/-- The node is the root of the highest level that has one (R406). In fast mode it is the run that leaves one operand. -/
def Launch.isFinal (l : Launch) (c : Chunk) (level k taken : Nat) : Bool :=
  decide (level = l.topLevel) &&
    (if l.exact then decide ((l.tree level).2 = .node k)
     else decide ((c.ops.filter (fun o => decide (o.level = level))).length = taken)
       && (c.runs.filter (fun r => decide (r.level = level))).isEmpty && l.allPresent c level)

/-- The run a node could make now: its operands, taken out of the level. In exact mode the tree names them (R410); in fast
mode it is up to four of those present, earliest first (R412). ALL_GATHER and BROADCAST have one COPY node. -/
def State.nodeRunOf (s : State) (l : Launch) (c : Chunk) (level node : Nat) : Option (ActiveRun × Chunk) :=
  let here := c.ops.filter (fun o => decide (o.level = level))
  let without (os : List LevelOp) : Chunk := { c with ops := c.ops.filter (fun o => !os.contains o) }
  if !l.reduces then
    (match here with
     | [o] => if level = 1 ∧ node = 0 ∧ o.src = .leaf 0 then
         some ({ level := 1, k := 0, inputs := [o], final := true, crucible := c.rank % 16 }, without [o]) else none
     | _ => none)
  else if l.exact then
    (match (l.tree level).1.find? (fun t => decide (t.k = node)) with
     | none => none
     | some t =>
       match here.find? (fun o => decide (o.src = t.left)), here.find? (fun o => decide (o.src = t.right)) with
       | some a, some b => some ({ level := level, k := node, inputs := [a, b], final := l.isFinal c level node 2
                                   crucible := t.crucible }, without [a, b])
       | _, _ => none)
  else
    let os := here.take 4
    let k := (c.done.filter (fun d => decide (d.1 = level))).length + (c.runs.filter (fun r => decide (r.level = level))).length
    let crucible := ((List.range 16).find? (fun n => (s.units.crucibleMap.getD n none).isSome && (s.freeCtx n).isSome)).getD 0
    if os.length < 2 then none
    else some ({ level := level, k := k, inputs := os, final := l.isFinal c level k os.length, crucible := crucible }, without os)

/-- With scratch, the run of a node on an earlier chunk has ended (R349). -/
def Launch.scratchReady (l : Launch) (n level node : Nat) : Bool :=
  decide (l.declared.scratch = 0)
    || l.chunks.all (fun c => decide (n ≤ c.n) || c.ended || c.done.contains (level, node))

/-! ### Results (R403, R404, R407) -/

/-- The slots of a result in a participant's area (R403): its primary slot, and the number of primary slots. -/
def Launch.slotOf (l : Launch) (rank n from_ : Nat) : Option (Nat × Nat) :=
  let chunks := descChunks l.desc
  let p := specP l.spec
  match descKind l.desc with
  | 0 => some (n, chunks)
  | 1 => if n % p = rank then some (n / p, (chunks + p - 1 - rank) / p) else none
  | 2 => some (from_ * chunks + n, chunks * p)
  | _ => some (n, chunks)

/-- Write a result and its length entry to one participant (R403, R404). -/
def State.writeResult (s : State) (l : Launch) (n from_ : Nat) (p : Part) (port : Nat) : State :=
  let rank := placeOf (s.group.set.side, s.group.set.deviceId, port) (specRanks l.spec)
  if l.dead.contains port then s
  else match l.slotOf rank n from_ with
    | none => s
    | some (slot, m) =>
      let b := l.descOf port
      let base := fieldAt b 40 8
      let stride := resultStride b
      let entry := descAux b + 64 + 8 * slot
      if p.failed then s.writeTo l port entry (List.replicate 8 0xFF)
      else
        let s := if p.out0.isEmpty then s else s.writeTo l port (base + slot * stride) p.out0
        let s := if p.out1.isEmpty ∨ !l.reduces then s else s.writeTo l port (base + (m + slot) * stride) p.out1
        s.writeTo l port entry (natLe 4 p.out0.length ++ natLe 4 p.out1.length)

/-- A launch's RESULT once every chunk is delivered (R404). -/
def Launch.outcomeResult (l : Launch) : Nat := if l.aborted then 108 else if l.failures.isEmpty then 0 else 107

/-- Write the status records, last (R404). -/
def State.report (s : State) (l : Launch) : State :=
  let s := (s.setLaunch { l with reported := true }).countResult l.channel l.outcomeResult
  (l.ports.filter (fun p => !l.dead.contains p)).foldl (fun s p => s.writeRecord l l.outcomeResult true p) s

/-- Deliver a final result to the local participants, and the status records after the last (R403, R404, R407). -/
def State.deliver (s : State) (id n from_ : Nat) (p : Part) : State :=
  match s.launch? id with
  | none => s
  | some l =>
    if l.delivered.contains (n, from_) then s
    else
      let fails := if p.failed then assign l.failures n (if lookupD l.failures n 0 = 0 then p.fault else min p.fault (lookupD l.failures n 0))
        else l.failures
      let l := { l with delivered := l.delivered ++ [(n, from_)], failures := fails, flags := l.flags ||| p.flags
                        events := l.events ||| p.events }
      let s := l.ports.foldl (fun s port => s.writeResult l n from_ p port) (s.setLaunch l)
      match s.launch? id with
      | none => s
      | some l => if l.delivered.length = l.total ∧ !l.reported then s.report l else s

/-- A result longer than its slot fails its chunk (R403). -/
def Launch.bounded (l : Launch) (p : Part) : Part :=
  let s := resultStride l.desc
  if !p.failed ∧ (s < p.out0.length ∨ s < p.out1.length) then
    { p with out0 := [], out1 := [], failed := true, fault := if p.fault = 0 then 3 else min p.fault 3, residuals := none }
  else p

/-- The full step of a STEP_LO, reconstructed against the committed Gauge (R72, R434). -/
def State.fullStep (s : State) (stepLo : Nat) : Nat :=
  let c := s.gauge.committed.step
  let d := (stepLo + 2 ^ 32 - c % 2 ^ 32) % 2 ^ 32
  if d < 2 ^ 31 then c + d else c + d - 2 ^ 32

/-- Write a committed chunk's new residuals (R326). -/
def State.writeResiduals (s : State) (l : Launch) (n : Nat) (p : Part) : State :=
  match p.residuals, s.store? (descResidual l.desc) with
  | some rs, some x =>
    let j := n / l.d * descCu l.desc * unitElems (descFmt l.desc)
    (s.setStore { x with lastStep := s.fullStep l.stepLo }).memWrite (x.base + 2 * j) (rs.flatMap (natLe 2))
  | _, _ => s

/-- Send a final result to every other participating device of this side, and across the twin (R407). -/
def State.multicast (s : State) (l : Launch) (n : Nat) (p : Part) (across : Bool) : State :=
  let me := s.group.set
  let here := (s.others l).filter (fun m => decide (m.1 = me.side))
  let s := here.foldl (fun s m => s.sendPart l.id m.1 m.2 n p) s
  if l.twin ∧ across then s.sendPart l.id (1 - me.side) me.deviceId n p else s

/-! ### Aborting (R418) -/

/-- A running launch ends with COLL_ABORTED: each chunk not yet delivered fails, and its grant is released. -/
def State.abortRunning (s : State) (l : Launch) : State :=
  let keys : List (Nat × Nat) := (List.range (descChunks l.desc)).flatMap (fun n =>
    (if descKind l.desc = 2 then List.range (specP l.spec) else if descKind l.desc = 3 then [descRoot l.desc] else [0]).map (fun r => (n, r)))
  let s := l.chunks.foldl (fun s c => s.dropSources c) s
  let keep (x : NgCtx) : Bool := match x.run with | .node id _ _ _ _ => decide (id ≠ l.id) | .kernel _ _ _ => true
  let s := { s with ngayx := { s.ngayx with contexts := s.ngayx.contexts.filter keep } }
  let s := s.setLaunch { l with aborted := true, chunks := [] }
  let s := keys.foldl (fun s k => s.deliver l.id k.1 k.2 (failedPart 0)) s
  (s.releaseGrant l.id).dropLaunch l.id

/-- A launch ends with COLL_ABORTED wherever it stands (R418, R432). -/
def State.abortLaunch (s : State) (id : Nat) : State :=
  match s.launch? id with
  | none => s
  | some l => match l.phase with
    | .running => s.abortRunning l
    | .ended => s
    | _ => s.endUnrun id 108

/-- The link to a participating device fails, or that device resets (R418). -/
def State.collLinkLost (s : State) (side device : Nat) : State :=
  (s.coll.launches.filter (fun l => (specMembers l.spec).contains (side, device))).foldl (fun s l => s.abortLaunch l.id) s

/-- A participant's collective queue pair enters the error state (R418): its sources not yet read give failed markers, and
the launch ends with COLL_ABORTED. -/
def State.collPortFailed (s : State) (port : Nat) : State :=
  (s.coll.launches.filter (fun l => decide (l.phase = .running) && l.ports.contains port)).foldl (fun s l =>
    match s.launch? l.id with
    | none => s
    | some l =>
      let mark (c : Chunk) : Chunk :=
        if c.reading.contains port then
          { c with reading := c.reading.filter (fun p => decide (p ≠ port)), ops := c.ops ++ [l.leafOf port (failedPart 0)] }
        else c
      (s.setLaunch { l with aborted := true, dead := l.dead ++ [port], chunks := l.chunks.map mark }).progress l.id) s

/-- A collective message's last packet is acknowledged (R401). -/
def State.collAcked (s : State) (id : Nat) : State :=
  match s.launch? id with
  | none => s
  | some l => s.setLaunch { l with unacked := l.unacked - 1 }

/-- A source read of a participant is complete (R402). -/
def State.sourceRead (s : State) (id port n : Nat) (bs : Bytes) : State :=
  let s := s.collAcked id
  match s.launch? id with
  | none => s
  | some l =>
    match l.chunks.find? (fun c => decide (c.n = n) && c.reading.contains port) with
    | none => s
    | some c =>
      let c' : Chunk := { c with reading := c.reading.filter (fun p => decide (p ≠ port))
                                 ops := c.ops ++ [l.leafOf port (l.sourcePart bs)] }
      (s.setLaunch (l.setChunk c')).progress id

end Sys2Proof.Machine
end

