-- ==== Sys2Proof/Machine/Collectives.lean ====
section
/-! DEFINITION. The rows of chapter 14: descriptors, votes, node runs, partials, results and the collective commands. -/

namespace Sys2Proof.Machine

/-! ### Launching (R397 to R400) -/

/-- STEP_LO lies at or after the step at which a checkpoint holds launches (R431). -/
def State.launchHeld (s : State) (stepLo : Nat) : Bool := match s.det.holdFrom with
  | none => false
  | some h => match serialCmp stepLo h 32 with
    | .equal | .after => true
    | _ => false

/-- Launches this device has admitted and not released (R398). -/
def State.admitted (s : State) : Nat :=
  (s.coll.launches.filter (fun l => decide (l.phase = .running) || (decide (l.phase = .voting) && decide (l.outcome = some 0)))).length

/-- This device is being admitted: it votes NO_CONTEXT (R511). -/
def State.joining (s : State) : Bool := decide (lookupD s.group.members s.group.set.deviceId .absent = .joining)

/-- This device's outcome for a launch that has every local descriptor (R398, R511). -/
def State.admission (s : State) (l : Launch) : Nat :=
  let p := specP l.spec
  let program := s.programFor l.channel l.desc
  let maxChunk := program.2.map (fun im => (if im.isEmpty then builtinDeclared else declaredOf im).maxChunk)
  let declared := match program.2 with
    | some im => if im.isEmpty then builtinDeclared else declaredOf im
    | none => builtinDeclared
  if l.misplaced || l.descs.any (fun d => descFaulty d.2 maxChunk p || feedbackFaulty d.2 p) || s.residualFaulty l then 3
  else if l.descs.any (fun d => decide (sharedPart d.2 ≠ sharedPart l.desc)) then 105
  else if s.residualBusy l then 96
  else if 256 ≤ s.admitted ∨ s.coll.freeBlocks < declared.demand ∨ s.served = 0 ∨ s.joining then 41
  else 0

/-- Reserve the launch's demand at once, and take G and the mode (R398, R411, R420). -/
def State.reserveLaunch (s : State) (l : Launch) : State :=
  let (h, im) := s.programFor l.channel l.desc
  let image := im.getD []
  let l := { l with handle := h, image := image, g := s.treeG, exact := s.det.exact }
  let n := l.declared.demand
  let s := s.setLaunch { l with blocks := n }
  let s := s.setColl { s.coll with freeBlocks := s.coll.freeBlocks - n }
  if descFeedback l.desc then
    match s.store? (descResidual l.desc) with
    | some x => s.setStore { x with bound := some l.id }
    | none => s
  else s

/-- The status a failed launch takes: the first of R400's order that a vote carries; unequal digests count as
LAUNCH_MISMATCH. None when every vote is ADMIT with equal digests. -/
def launchFailure (votes : List (Nat × Bytes)) : Option Nat :=
  let outs := votes.map (fun v => v.1)
  let same : Bool := match votes with
    | [] => true
    | v :: vs => vs.all (fun x => decide (x.2 = v.2))
  if outs.contains 105 ∨ !same then some 105
  else [3, 96, 106, 41].find? (fun st => outs.contains st)

/-- Data of a launch that came before it ran here. -/
def dataIsOf (d : CollData) (l : Launch) : Bool :=
  decide (d.channel = l.channel) && decide (d.ordinal = l.ordinal) && decide (d.stepLo = l.stepLo)

/-- The value another device sent. -/
def dataPart (d : CollData) : Part :=
  { out0 := d.out0, out1 := d.out1, flags := d.flags, fault := d.fault, events := d.events, failed := d.failed }

/-- Take a partial: a device partial at its owner, or the other side's result (R406). -/
def State.takePartial (s : State) (id : Nat) (d : CollData) : State :=
  match s.launch? id with
  | none => s
  | some l =>
    let c := (l.chunk? d.chunk d.rank).getD { n := d.chunk, rank := d.rank }
    let src : Opnd := if d.level = 3 then .leaf d.side else .leaf (placeOf d.device (specDevices l.spec))
    let l := { l with aborted := l.aborted || d.aborted }
    (s.setLaunch (l.setChunk (c.put d.level src (dataPart d)))).progress id

/-- Take a final result: a result from the other side goes on to this side's devices (R407). -/
def State.takeResult (s : State) (id : Nat) (d : CollData) : State :=
  match s.launch? id with
  | none => s
  | some l =>
    let l := { l with aborted := l.aborted || d.aborted }
    let s := s.setLaunch l
    let s := if d.side ≠ s.group.set.side then s.multicast l d.chunk (dataPart d) false else s
    (s.deliver id d.chunk d.rank (dataPart d)).progress id

/-- A launch begins to run (R400): its residual store takes its key at the first bound launch, its statistics begin, what
arrived early is taken. -/
def State.runLaunch (s : State) (id : Nat) : State :=
  match s.launch? id with
  | none => s
  | some l =>
    let s := s.setLaunch { l with phase := .running }
    let s := match (if descFeedback l.desc then s.store? (descResidual l.desc) else none) with
      | some x => if x.key.isNone then s.setStore { x with key := some l.key } else s
      | none => s
    let mine := s.coll.earlyData.filter (fun d => dataIsOf d.2 l)
    let s := s.setColl { s.coll with earlyData := s.coll.earlyData.filter (fun d => !dataIsOf d.2 l) }
    let s := s.progress id
    mine.foldl (fun s d => if d.1 then s.takeResult id d.2 else s.takePartial id d.2) s

/-- Decide a launch once every vote is in (R400). -/
def State.decideLaunch (s : State) (id : Nat) : State :=
  match s.launch? id with
  | none => s
  | some l =>
    let votes := (specMembers l.spec).map (fun m => lookup? l.votes m)
    if l.phase ≠ .voting ∨ votes.any (fun v => v.isNone) then s
    else match launchFailure (votes.filterMap (fun v => v)) with
      | some st => s.endUnrun id st
      | none => s.runLaunch id

/-- A vote's fields (R399). -/
def voteKey (v : Bytes) : Nat × Nat × Nat := (fieldAt v 0 2, fieldAt v 2 2, fieldAt v 4 4)

/-- Take a vote for the launch it names, or keep it (R399, R400). -/
def State.takeVote (s : State) (v : Bytes) : State :=
  match s.coll.launches.find? (fun l => decide ((l.channel, l.ordinal, l.stepLo) = voteKey v) && decide (l.phase ≠ .ended)) with
  | none => s.setColl { s.coll with earlyVotes := s.coll.earlyVotes ++ [v] }
  | some l =>
    let from_ : Nat × Nat := (fieldAt v 11 1, fieldAt v 10 1)
    if (specMembers l.spec).contains from_ then
      (s.setLaunch { l with votes := assign l.votes from_ (fieldAt v 8 2, sliceAt v 16 32) }).decideLaunch l.id
    else s

/-- Give this device's vote: its outcome goes to every other participating device (R399). -/
def State.castVote (s : State) (id outcome : Nat) : State :=
  match s.launch? id with
  | none => s
  | some l =>
    let l := { l with phase := .voting, outcome := some outcome, votes := assign l.votes s.self (outcome, l.digest) }
    let s := (s.setLaunch l).sendVotes l outcome
    let early := s.coll.earlyVotes.filter (fun v => decide ((l.channel, l.ordinal, l.stepLo) = voteKey v))
    let s := s.setColl { s.coll with earlyVotes := s.coll.earlyVotes.filter (fun v => decide ((l.channel, l.ordinal, l.stepLo) ≠ voteKey v)) }
    (early.foldl State.takeVote s).decideLaunch id

/-- Check a launch that has every local descriptor, unless a checkpoint holds it (R398, R431). -/
def State.checkLaunch (s : State) (id : Nat) : State :=
  match s.launch? id with
  | none => s
  | some l =>
    if l.phase ≠ .matching ∨ !l.missing.isEmpty ∨ s.launchHeld l.stepLo then s
    else
      let st := s.admission l
      (if st = 0 then s.reserveLaunch l else s).castVote id st

/-- Form a launch with a descriptor (R397). -/
def State.formLaunch (s : State) (c : Channel) (port : Nat) (b : Bytes) : State :=
  let step := descStep b
  let ordinal := match c.last with
    | some (st, o) => if st = step then o + 1 else 0
    | none => 0
  let before : Bool := match c.last with
    | some (st, _) => decide (serialCmp step st 32 = .before)
    | none => false
  let id := s.coll.nextLaunch
  let l : Launch := { id := id, channel := c.num, ordinal := ordinal, stepLo := step, misplaced := before || decide (4095 < ordinal)
                      spec := c.spec, descs := [(port, b)], missing := (specPorts c.spec).filter (fun p => decide (p ≠ port))
                      firstAt := s.now }
  let s := s.setChannel { c with last := some (step, ordinal) }
  (s.setColl { s.coll with launches := s.coll.launches ++ [l], nextLaunch := id + 1 }).checkLaunch id

/-- A descriptor joins its launch (R397): one that has ended without running writes its status record. -/
def State.joinLaunch (s : State) (l : Launch) (port : Nat) (b : Bytes) : State :=
  let l := { l with descs := l.descs ++ [(port, b)], missing := l.missing.filter (fun p => decide (p ≠ port)) }
  let s := s.setLaunch l
  match l.phase, l.result with
  | .ended, some st =>
    let s := s.writeRecord l st false port
    if l.missing.isEmpty then s.dropLaunch l.id else s
  | _, _ => s.checkLaunch l.id

/-- The port a queue pair serves as its collective pair. -/
def State.collPortOf (s : State) (qp : Nat) : Option Nat := (s.coll.ports.find? (fun x => decide (x.2 = qp))).map (fun x => x.1)

/-- LAUNCH_DESCRIPTOR (R391, R396, R397): the first message waiting on a collective queue pair. One that names a privileged
channel gets BAD_PARAM; one of another length, for no channel, or from a port that takes no part is dropped and counted. -/
def execLaunchDescriptor (qp : Nat) (s : State) : Out :=
  match s.rdma.inbox.find? (fun m => decide (m.qp = qp) && m.imm.isNone), s.collPortOf qp with
  | some m, some port =>
    let s := s.consume m
    let b := m.bytes
    let ch := fieldAt b 2 2
    let c := s.channel ch
    let member : Bool := !c.spec.isEmpty && (specMembers c.spec).contains s.self && (specPorts c.spec).contains port
    if b.length = 96 ∧ ch < 8 then
      let l : Launch := { id := s.coll.nextLaunch, channel := ch, ordinal := 0, stepLo := descStep b, spec := [0, 0, 0, 1, 0, 0, 1, 0]
                          descs := [(port, b)], firstAt := s.now }
      .next (s.writeRecord l 3 false port)
    else if b.length ≠ 96 ∨ 1023 < ch ∨ !member then .next (s.setChannel { c with dropped := c.dropped + 1 })
    else match s.coll.launches.find? (fun l => decide (l.channel = ch) && l.missing.contains port) with
      | some l => .next (s.joinLaunch l port b)
      | none => .next (s.formLaunch c port b)
  | _, _ => .next s

/-- LAUNCH_TIMEOUT_EXPIRY (R398): a descriptor is still missing, so the outcome is LAUNCH_TIMEOUT. A launch held at
admission is not waiting for descriptors (R431). -/
def execLaunchTimeoutExpiry (launch : Nat) (s : State) : Out :=
  match s.launch? launch with
  | none => .next s
  | some l => .next (if l.phase = .matching ∧ !l.missing.isEmpty then s.castVote launch 106 else s)

/-- VOTE_RECEIVE (R399, R400): the 48-byte message first in line on a collective pair of another device. -/
def execVoteReceive (qp : Nat) (s : State) : Out :=
  match s.inboxOf qp 48 with
  | none => .next s
  | some m => .next ((s.consume m).takeVote m.bytes)

/-! ### Runs (R410, R416) -/

/-- NODE_RUN (R337, R344, R347 to R349, R408, R410, R412): a node with its operands present takes a free context of the
Crucible assigned to it; a node with a failed input runs nothing and passes a failed marker on. -/
def execNodeRun (launch chunk rank level node : Nat) (s : State) : Out :=
  let s := s.progress launch
  match s.launch? launch, (s.launch? launch).bind (fun l => l.chunk? chunk rank) with
  | some l, some c =>
    let waiting := c.runs.find? (fun r => decide (r.level = level) && decide (r.k = node) && r.ctx.isNone)
    let found : Option (ActiveRun × Chunk) := match waiting with
      | some r => some (r, c)
      | none => s.nodeRunOf l c level node
    (match found with
     | none => .next s
     | some (r, c) =>
       if !c.started ∨ c.ended ∨ !l.scratchReady chunk level r.k then .next s
       else if r.inputs.any (fun o => o.part.failed) then
         .next ((s.setLaunch (l.setChunk (c.finish r (joinParts (r.inputs.map (fun o => o.part)))))).progress launch)
       else match s.servedFrom r.crucible with
         | none => .next s
         | some n => if s.crucibleDown n then .next s else match s.freeCtx n with
           | none => .next s
           | some id => .next (s.startRun l c { r with crucible := n } id))
  | _, _ => .next s

/-- The run a context carries: its launch, chunk and run. -/
def State.nodeOf (s : State) (ctx : Nat) : Option (Launch × Chunk × ActiveRun) :=
  s.coll.launches.findSome? (fun l => l.chunks.findSome? (fun c =>
    (c.runs.find? (fun r => decide (r.ctx = some ctx))).map (fun r => (l, c, r))))

/-- Free a context. -/
def State.dropCtx (s : State) (ctx : Nat) : State :=
  { s with ngayx := { s.ngayx with contexts := s.ngayx.contexts.filter (fun x => decide (x.id ≠ ctx)) } }

/-- Count a run of a Crucible's site: whether it needed a second run. -/
def State.countRun (s : State) (site : Nat) (second : Bool) : State :=
  let old := (s.coll.crucibles.find? (fun x => decide (x.site = site))).getD { site := site }
  let n := old.runs + 1
  let new : CrucibleCount := if second then
      { old with runs := n, mismatches := old.mismatches + 1, seconds := old.seconds + 1, recent := (n :: old.recent).take 16 }
    else { old with runs := n }
  let known : Bool := s.coll.crucibles.any (fun x => decide (x.site = site))
  s.setColl { s.coll with crucibles := if known then updateFirst (fun x => decide (x.site = site)) (fun _ => new) s.coll.crucibles
                                       else s.coll.crucibles ++ [new] }

/-- A site has needed a second run 16 times within 2^32 runs (R416). -/
def State.wornOut (s : State) (site : Nat) : Bool :=
  match s.coll.crucibles.find? (fun x => decide (x.site = site)) with
  | some x => decide (16 ≤ x.recent.length) && decide (x.runs < x.recent.getLastD 0 + 2 ^ 32)
  | none => false

/-- Put a run's record back in its chunk. -/
def State.putRun (s : State) (l : Launch) (c : Chunk) (r : ActiveRun) : State :=
  let same (y : ActiveRun) : Bool := decide (y.level = r.level) && decide (y.k = r.k)
  s.setLaunch (l.setChunk { c with runs := updateFirst same (fun _ => r) c.runs })

/-- The copy set of a chunk as it was before a run that is discarded (R352, R416); what the run wrote to scratch stands. -/
def Launch.restoreCopy (l : Launch) (n : Nat) (before : Memory) : Memory :=
  let d := l.declared
  let at_ := n % d.pipeDepth * d.copySet
  (l.grant.clear at_ d.copySet).writeBytes at_ (before.readBytes at_ d.copySet)

/-- Every run in flight on a logical Crucible is discarded and must be run again (R359, R416). -/
def State.discardRuns (s : State) (crucible : Nat) : State :=
  let on (x : NgCtx) : Bool := match x.run with | .node _ _ _ _ n => decide (n = crucible) | .kernel _ _ _ => false
  let ids := (s.ngayx.contexts.filter on).map (fun x => x.id)
  let again (r : ActiveRun) : ActiveRun := match r.ctx with
    | some i => if ids.contains i then { r with ctx := none } else r
    | none => r
  let chunkAgain (c : Chunk) : Chunk := { c with runs := c.runs.map again }
  let s := { s with ngayx := { s.ngayx with contexts := s.ngayx.contexts.filter (fun x => !on x) } }
  s.setColl { s.coll with launches := s.coll.launches.map (fun l => { l with chunks := l.chunks.map chunkAgain }) }

/-- The value a run that stands gives (R352, R408): a fault discards its outputs and fails the chunk. New residuals cover
the elements SSUM appended; the others keep theirs (R390). -/
def runPart (r : ActiveRun) (x : NgCtx) : Part :=
  let j := joinParts (r.inputs.map (fun o => o.part))
  let flags := j.flags ||| x.flags
  let events := j.events ||| r.events
  if x.fault ≠ 0 then
    { flags := flags, events := events, failed := true, fault := if j.fault = 0 then x.fault else min j.fault x.fault }
  else
    { out0 := (x.outs.getD 0 {}).bytes, out1 := if r.final then (x.outs.getD 1 {}).bytes else [], flags := flags, events := events
      fault := j.fault, residuals := x.residuals.map (fun old => x.newResiduals ++ old.drop x.newResiduals.length) }

/-- A run's outcome stands: its output is committed to its level (R416). -/
def State.commitRun (s : State) (l : Launch) (c : Chunk) (r : ActiveRun) (x : NgCtx) : State :=
  let r := if r.tries = 0 then r else { r with events := r.events ||| 1 }
  let s := (s.countRun (s.crucibleSite r.crucible) false).dropCtx x.id
  (s.setLaunch ({ l with stats := (l.stats.join x.stats).join { flags := x.flags }, grant := x.grant }.setChunk (c.finish r (runPart r x)))).progress l.id

/-- A run is discarded: the same node runs again, once, on the same Crucible, and after a second failure, or a sixteenth
second run, on the Crucible that takes the number of the retired one (R416). -/
def State.rerun (s : State) (l : Launch) (c : Chunk) (r : ActiveRun) (x : NgCtx) : State :=
  let site := s.crucibleSite r.crucible
  let s := (s.countRun site true).dropCtx x.id
  let l := { l with grant := l.restoreCopy c.n r.before }
  if r.tries = 0 ∧ !s.wornOut site then
    let r := { r with tries := 1, ctx := none }
    (s.putRun l c r).startRun (l.setChunk c) c r x.id
  else
    let s := (s.putRun l c { r with tries := 0, ctx := none, events := r.events ||| 2 }).discardRuns r.crucible
    s.retireCrucible r.crucible

/-- NODE_RUN_END (R326, R350, R352, R408, R415 to R417): a run that has ended is committed; one whose residues mismatch, or
that ends in HW_ERROR, runs again. HW_ERROR may end a run anywhere. -/
def execNodeRunEnd (ctx : Nat) (fate : NodeEnd) (s : State) : Out :=
  match s.ngayx.contexts.find? (fun x => decide (x.id = ctx)), s.nodeOf ctx with
  | some x, some (l, c, r) =>
    (match fate with
     | .hwError => .next (s.rerun l c r x)
     | .mismatch => .next (if x.ended then s.rerun l c r x else s)
     | .good => .next (if x.ended then s.commitRun l c r x else s))
  | _, _ => .next s

/-- PARTIAL_RECEIVE (R393, R406, R408): a device partial at the owner, or the other side's result. -/
def execPartialReceive (data : CollData) (s : State) : Out :=
  match s.coll.launches.find? (fun l => dataIsOf data l && decide (l.phase ≠ .ended)) with
  | some l => if l.phase = .running then .next (s.takePartial l.id data)
    else .next (s.setColl { s.coll with earlyData := s.coll.earlyData ++ [(false, data)] })
  | none => .next (s.setColl { s.coll with earlyData := s.coll.earlyData ++ [(false, data)] })

/-- CHUNK_COMMIT (R326, R403, R407): the final output is committed once, multicast and delivered here; then the new
residuals are written. -/
def execChunkCommit (launch chunk rank : Nat) (s : State) : Out :=
  match s.launch? launch, (s.launch? launch).bind (fun l => l.chunk? chunk rank) with
  | some l, some c =>
    (match c.out with
     | none => .next s
     | some p =>
       let p := l.bounded p
       let drop (l : Launch) : Launch := { l with chunks := l.chunks.filter (fun x => !(decide (x.n = chunk) && decide (x.rank = rank))) }
       let s := (s.setLaunch (drop l)).multicast l chunk p true
       .next (((s.writeResiduals l chunk p).deliver launch chunk rank p).progress launch))
  | _, _ => .next s

/-- RESULT_RECEIVE (R407): a device writes what it receives to its local participants. -/
def execResultReceive (data : CollData) (s : State) : Out :=
  match s.coll.launches.find? (fun l => dataIsOf data l && decide (l.phase ≠ .ended)) with
  | some l => if l.phase = .running then .next (s.takeResult l.id data)
    else .next (s.setColl { s.coll with earlyData := s.coll.earlyData ++ [(true, data)] })
  | none => .next (s.setColl { s.coll with earlyData := s.coll.earlyData ++ [(true, data)] })

/-- A launch's last run has ended and its last transfer and write are acknowledged (R401). -/
def Launch.finished (l : Launch) : Bool :=
  decide (l.phase = .running) && l.reported && decide (l.unacked = 0)
    && l.chunks.all (fun c => c.ended && c.out.isNone && c.runs.isEmpty)

/-- Release a finished launch: its grant, and its statistics to its channel (R328, R401). -/
def State.releaseLaunch (s : State) (l : Launch) : State :=
  let s := s.setChannel { s.channel l.channel with stats := l.stats }
  (s.releaseGrant l.id).dropLaunch l.id

/-- LAUNCH_RELEASE (R401): the launch's last run and writes are acknowledged. -/
def execLaunchRelease (launch : Nat) (s : State) : Out :=
  match s.coll.launches.find? (fun l => decide (l.id = launch)) with
  | some l => .next (if l.finished then s.releaseLaunch l else s)
  | none => .next s

/-! ### Commands (R395, R419) -/

/-- The participants a group specification names are not there: byte of the field at fault (R395). Ports of other members
are as the uninterpreted `Config.memberPort` says (log entry 5). -/
def State.specFault (s : State) (b : Bytes) : Option Nat :=
  let f (o : Nat) := fieldAt b o 1
  let g := s.group.set
  let range : List (Bool × Nat) := [(decide (f 0 = 0) || decide (3 < f 0), 0), (decide (127 < f 1), 1), (decide (f 2 < f 1) || decide (127 < f 2), 2),
    (outside (f 3) 1 127, 3), (decide (f 5 < f 4), 5), (outside (f 6) 1 255, 6), (decide (f 7 ≠ 0), 7)]
  let known (m : Nat × Nat) : Bool := match lookup? (if m.1 = g.side then s.group.members else s.group.peers) m.2 with
    | some .absent => false
    | some _ => true
    | none => decide (m = s.self)
  let hasPort (m : Nat × Nat) (p : Nat) : Bool := if m = s.self then s.isAccel p else Config.memberPort m.1 m.2 p
  match range.find? (fun c => c.1) with
  | some c => some c.2
  | none =>
    if (decide (f 0 = 3) && !g.twin) || (specSides b).any (fun x => !g.twin && decide (x ≠ g.side)) then some 0
    else if (specMembers b).any (fun m => !known m) then some 1
    else if (specMembers b).any (fun m => (specPorts b).any (fun p => !hasPort m p)) then some 4
    else none

/-- CHANNEL_CONFIG (R394, R395, R414, R419). -/
def execChannelConfig (r : Req) (channel weight timeout : Nat) (spec : Bytes) (s : State) : Out :=
  let s' := s.setChannel { s.channel channel with spec := spec, timeout := timeout }
  let s' := { s' with switch := { s'.switch with channelWeight := assign s'.switch.channelWeight channel weight } }
  .next (s.finish r 0x0510 (firstReject [s.notManager r, s.heldBusy (.channel channel), (outside channel 8 1023, badParam 0), (outside weight 1 255, badParam 2),
      (outside timeout 1 10000, badParam 4), ((s.specFault spec).isSome, badParam (8 + (s.specFault spec).getD 0)),
      (s.coll.launches.any (fun l => decide (l.channel = channel) && decide (l.phase ≠ .ended)), ⟨.inUse, 0⟩)])
    (s'.forward r 0x0510 (natLe 2 channel ++ natLe 1 weight ++ [0] ++ natLe 4 timeout ++ spec)))

/-- What CHANNEL_READ reports of a channel: WEIGHT, LAUNCH_TIMEOUT, program binding, current STEP_LO and ordinal,
descriptors dropped, then launches by RESULT value. -/
def State.channelReport (s : State) (c : Channel) : List Nat :=
  let (st, o) := c.last.getD (0, 0)
  [lookupD s.switch.channelWeight c.num 16, c.timeout, lookupD s.ngayx.bindings c.num 0xFFFF, st, o, c.dropped]
    ++ [0, 3, 41, 96, 105, 106, 107, 108].map (fun v => lookupD c.results v 0)

/-- CHANNEL_READ (R419). -/
def execChannelRead (r : Req) (channel : Nat) (s : State) : Out :=
  .next (s.finish r 0x0511 (firstReject [(decide (1023 < channel), badParam 0)])
    (s.answer r 0x0511 .ok 0 (s.channel channel).spec (s.channelReport (s.channel channel))))

/-- COLL_PORT_SET (R396, R418, R419): the queue pair must be one of service COLL. -/
def execCollPortSet (r : Req) (port qp : Nat) (s : State) : Out :=
  let serves : Bool := match s.rqp? qp with | some q => decide (q.service = 1) | none => false
  .next (s.finish r 0x0512 (firstReject [(!s.isAccel port, badParam 0), (!serves, badParam 2),
      (s.coll.launches.any (fun l => decide (l.phase = .running) && (specPorts l.spec).contains port), ⟨.inUse, 0⟩)])
    ((s.setColl { s.coll with ports := assign s.coll.ports port qp }).answer r 0x0512 .ok))

/-- The residual region (R583). -/
def residualStart : Nat := 0x6F80000000
def residualEnd : Nat := 0x7F80000000

/-- The lowest place of the residual region that holds `n` bytes: its start, or the end of a store. -/
def State.residualPlace (s : State) (n : Nat) : Option Nat :=
  let clear (a : Nat) : Bool := decide (a + n ≤ residualEnd)
    && s.coll.stores.all (fun (x : Residual) => decide (a + n ≤ x.base) || decide (x.base + 2 * x.elems ≤ a))
  (([residualStart] ++ s.coll.stores.map (fun (x : Residual) => x.base + 2 * x.elems)).filter clear).min?

/-- A residual store of all +0 (R323, R413). -/
def State.createStore (s : State) (h elems base : Nat) : State :=
  { s with mem := s.mem.clear base (2 * elems), coll := { s.coll with stores := s.coll.stores ++ [{ handle := h, base := base, elems := elems }] } }

/-- RESIDUAL_CREATE (R413, R419). -/
def execResidualCreate (r : Req) (store elems : Nat) (s : State) : Out :=
  let place := s.residualPlace (2 * elems)
  .next (s.finish r 0x0513 (firstReject [s.notManager r, s.heldBusy (.residual store), (decide (63 < store), badParam 0), (outside elems 1 (2 ^ 31), badParam 4),
      ((s.store? store).isSome, ⟨.inUse, 0⟩), (place.isNone, ⟨.residualSpace, 0⟩)])
    ((s.createStore store elems (place.getD 0)).forward r 0x0513 (natLe 2 store ++ natLe 2 0 ++ natLe 4 elems)))

/-- A running launch uses the store (R418). -/
def State.storeUsed (s : State) (h : Nat) : Bool := match s.store? h with
  | some x => x.bound.isSome
  | none => false

/-- RESIDUAL_RESET (R413, R418, R419): all elements +0, the key cleared. -/
def execResidualReset (r : Req) (store : Nat) (s : State) : Out :=
  let x : Residual := (s.store? store).getD { handle := store, base := residualStart, elems := 0 }
  let s' : State := { s with mem := s.mem.clear x.base (2 * x.elems) }
  .next (s.finish r 0x0514 (firstReject [s.notManager r, s.heldBusy (.residual store), (decide (63 < store), badParam 0), ((s.store? store).isNone, ⟨.notFound, 0⟩), (s.storeUsed store, ⟨.inUse, 0⟩)])
    ((s'.setStore { x with key := none }).forward r 0x0514 (natLe 2 store)))

/-- RESIDUAL_DROP (R418, R419). -/
def execResidualDrop (r : Req) (store : Nat) (s : State) : Out :=
  let s' := s.setColl { s.coll with stores := s.coll.stores.filter (fun x => decide (x.handle ≠ store)) }
  .next (s.finish r 0x0515 (firstReject [s.notManager r, s.heldBusy (.residual store), (decide (63 < store), badParam 0), ((s.store? store).isNone, ⟨.notFound, 0⟩), (s.storeUsed store, ⟨.inUse, 0⟩)])
    (s'.forward r 0x0515 (natLe 2 store)))

/-- TREE_PLAN_SET (R411, R427): for launches admitted afterwards. -/
def execTreePlanSet (r : Req) (policy : Nat) (s : State) : Out :=
  let s' := ({ s with det := { s.det with treePolicy := policy } }).recordNow
  .next (s.finish r 0x0516 (firstReject [s.notManager r, (decide (1 < policy), badParam 0)]) (s'.forward r 0x0516 (natLe 1 policy)))

/-- The 32 bytes of a statistics record (R328). -/
def NumStats.bytes (n : NumStats) : Bytes :=
  natLe 8 n.saturations ++ natLe 4 n.escapes ++ natLe 4 n.bumps ++ natLe 4 n.nanBlocks ++ natLe 4 n.residualSats
    ++ natLe 4 n.maxResidual ++ natLe 1 n.flags ++ natLe 3 0

/-- What COLLECTIVE_STATUS reports of the device: free XM blocks, admitted launches, and for each Crucible its logical
number, physical site (0xFF vacant), mismatches and second runs. -/
def State.crucibleReport (s : State) : List Nat :=
  [s.coll.freeBlocks, s.admitted] ++ (List.range 16).flatMap (fun n =>
    let x := (s.coll.crucibles.find? (fun x => decide (x.site = s.crucibleSite n))).getD { site := 0 }
    [n, s.crucibleSite n, x.mismatches, x.seconds])

/-- COLLECTIVE_STATUS (R328, R419). -/
def execCollectiveStatus (r : Req) (channel : Nat) (s : State) : Out :=
  let stats : Bytes := if channel = 0xFFFF then [] else (s.channel channel).stats.bytes
  .next (s.finish r 0x0517 (firstReject [(decide (1023 < channel) && decide (channel ≠ 0xFFFF), badParam 0)])
    (s.answer r 0x0517 .ok 0 stats s.crucibleReport))

end Sys2Proof.Machine
end

