-- ==== Sys2Proof/Machine/Packing.lean ====
section
/-! DEFINITION. Packing: the placement of candidates in rows, and the bytes of a batch (R284 to R295). -/

namespace Sys2Proof.Machine

/-! ### Placement (R285 to R287) -/

/-- A candidate: its sample, and whether it comes from the carry list. -/
structure Cand where
  sample : Sample
  carried : Bool
  deriving DecidableEq, Repr

/-- The tokens of a sample's packed field (R285). -/
def PackSection.tokensOf (p : PackSection) (x : Sample) : List Nat :=
  if p.packName = 0xFFFF then [] else (((x.field? p.packName).bind (fun f => f.tokens)).getD [])

/-- A field's bytes in the tensor area (R285). -/
def PField.packed (f : PField) : Option Bytes := match f.tensor with
  | some t => some t.bytes
  | none => if f.frame.typ = 6 then f.data else none

/-- The tensors a sample carries under the section, in TENSOR_NAMES order. -/
def PackSection.tensorsOf (p : PackSection) (x : Sample) : List (Nat × Option Bytes) :=
  p.tensors.map (fun n => (n, (x.field? n).bind (fun f => f.packed)))

/-- A sample's tensor bytes t (R285). -/
def PackSection.tensorSize (p : PackSection) (x : Sample) : Nat :=
  ((p.tensorsOf x).map (fun t => a64 ((t.2.getD []).length))).sum

/-- A candidate placed: row, SEG_ID and START (R287). -/
structure Placed where
  row : Nat
  seg : Nat
  start : Nat
  cand : Cand
  deriving DecidableEq, Repr

/-- Packing as it goes (R287). -/
structure Packer where
  used : List Nat
  segs : List Nat
  tused : Nat := 0
  placed : List Placed := []
  carry : List Sample := []
  /-- samples dropped, with their reason 501 or 502 -/
  drops : List (Sample × Nat) := []
  deriving DecidableEq, Repr

/-- The first row with room for n tokens and one more segment. -/
def PackSection.rowFor (p : PackSection) (k : Packer) (n : Nat) : Option Nat :=
  (List.range p.rows).find? (fun r => decide (k.used.getD r 0 + n ≤ p.rowLen) && decide (k.segs.getD r 0 < p.maxSegs))

/-- Place, carry or drop one candidate (R287). -/
def PackSection.pack1 (p : PackSection) (k : Packer) (c : Cand) : Packer :=
  let n := (p.tokensOf c.sample).length
  let t := p.tensorSize c.sample
  if p.tensorBytes < t then { k with drops := k.drops ++ [(c.sample, 502)] }
  else
    let row : Option Nat := if k.tused + t ≤ p.tensorBytes then p.rowFor k n else none
    match row with
    | some r =>
      let u := k.used.getD r 0
      let g := k.segs.getD r 0
      { k with used := k.used.set r (u + n), segs := k.segs.set r (g + 1), tused := k.tused + t
               placed := k.placed ++ [⟨r, g, u, c⟩] }
    | none =>
      if k.carry.length = p.residueMax then { k with drops := k.drops ++ [(c.sample, 501)] }
      else { k with carry := k.carry ++ [c.sample] }

/-- The procedure pack of R287. -/
def PackSection.pack (p : PackSection) (cands : List Cand) : Packer :=
  cands.foldl p.pack1 { used := List.replicate p.rows 0, segs := List.replicate p.rows 0 }

/-- What was placed in a row, in SEG_ID order. -/
def Packer.row (k : Packer) (r : Nat) : List Placed := k.placed.filter (fun x => decide (x.row = r))

/-- Everything placed, by row and then SEG_ID (R292). -/
def PackSection.ordered (p : PackSection) (k : Packer) : List Placed := (List.range p.rows).flatMap k.row

/-! ### The payload (R284, R291 to R293) -/

/-- Zero bytes up to a length. -/
def padTo (n : Nat) (b : Bytes) : Bytes := b ++ List.replicate (n - b.length) 0

/-- One row's token, segment-word and position bytes, one pair of each per position (R284). -/
def PackSection.rowCells (p : PackSection) (k : Packer) (r : Nat) : List (Nat × Nat × Nat) :=
  let cells := (k.row r).flatMap (fun x => (p.tokensOf x.cand.sample).mapIdx (fun i t => (t, x.seg, i)))
  cells ++ List.replicate (p.rowLen - cells.length) (p.padId, 0x8000, 0)

/-- The three planes' cells of every row. -/
def PackSection.cells (p : PackSection) (k : Packer) : List (Nat × Nat × Nat) := (List.range p.rows).flatMap (p.rowCells k)

/-- A segment table entry (R292). -/
def PackSection.segEntry (p : PackSection) (step : Nat) (x : Placed) : Bytes :=
  let y := x.cand.sample
  natLe 4 x.start ++ natLe 4 (p.tokensOf y).length ++ natLe 4 (step - y.step) ++ natLe 2 y.k
    ++ natLe 2 ((if 1 ≤ y.attempt then 1 else 0) + (if y.deferred then 2 else 0))

/-- FIRST[0] to FIRST[ROWS] (R292). -/
def PackSection.firsts (p : PackSection) (k : Packer) : List Nat :=
  (List.range (p.rows + 1)).map (fun r => (k.placed.filter (fun x => decide (x.row < r))).length)

/-- The part offsets of R291: token, segment-word and position planes, segment table, tensor index, tensor data. -/
structure Offsets where
  token : Nat
  seg : Nat
  pos : Nat
  table : Nat
  tensor : Nat
  data : Nat
  deriving DecidableEq, Repr

/-- The offsets for a number of samples (R291). -/
def PackSection.offsets (p : PackSection) (samples : Nat) : Offsets :=
  let cells := p.rows * p.rowLen
  let seg := 64 + a64 (cells * p.width)
  let pos := seg + a64 (cells * 2)
  let table := pos + a64 (cells * 4)
  let tensor := a64 (table + a64 (4 * (p.rows + 1)) + 16 * samples)
  ⟨64, seg, pos, table, tensor, a64 (tensor + 16 * p.tensors.length * samples)⟩

/-- The tensor index and the tensor data from an offset (R293). -/
def tensorParts : Nat → List (Nat × Option Bytes) → Bytes × Bytes
  | _, [] => ([], [])
  | o, (name, b) :: rest =>
    let (index, data) := tensorParts (o + a64 ((b.getD []).length)) rest
    let entry := natLe 4 (if b.isSome then o else 0) ++ natLe 4 ((b.getD []).length) ++ natLe 2 name ++ natLe 6 0
    (entry ++ index, padTo (a64 ((b.getD []).length)) (b.getD []) ++ data)

/-- The payload, bytes 64 to 64 + PAYLOAD_LENGTH - 1 (R291). -/
def PackSection.payload (p : PackSection) (step : Nat) (k : Packer) : Bytes :=
  let xs := p.ordered k
  let o := p.offsets xs.length
  let cells := p.cells k
  let part (n : Nat) (b : Bytes) : Bytes := padTo n b
  let tokens := part (o.seg - o.token) (cells.flatMap (fun c => natLe p.width c.1))
  let segs := part (o.pos - o.seg) (cells.flatMap (fun c => natLe 2 c.2.1))
  let poss := part (o.table - o.pos) (cells.flatMap (fun c => natLe 4 c.2.2))
  let firsts := part (a64 (4 * (p.rows + 1))) ((p.firsts k).flatMap (natLe 4))
  let table := part (o.tensor - o.table) (firsts ++ xs.flatMap (p.segEntry step))
  let (index, data) := tensorParts o.data (xs.flatMap (fun x => p.tensorsOf x.cand.sample))
  tokens ++ segs ++ poss ++ table ++ part (o.data - o.tensor) index ++ data

/-- FLAGS of the slot header (R295). -/
def headerFlags (vacancies : Nat) (last : Bool) (xs : List Placed) : Nat :=
  (if vacancies = 0 then 0 else 1) + (if xs.any (fun x => x.cand.carried) then 2 else 0)
    + (if xs.any (fun x => x.cand.sample.deferred) then 4 else 0) + (if last then 8 else 0)

/-- Bytes 0 to 59 of the slot header with a generation and a BATCH_INDEX (R295). -/
def PackSection.header (p : PackSection) (generation index dest : Nat) (b : OpenBatch) (k : Packer) (payload : Bytes) : Bytes :=
  let xs := p.ordered k
  let o := p.offsets xs.length
  natLe 2 generation ++ natLe 1 (if p.width = 4 then 1 else 0) ++ natLe 1 (headerFlags b.vacancies b.last xs) ++ natLe 4 b.step
    ++ natLe 4 index ++ natLe 2 dest ++ natLe 2 p.rows ++ natLe 4 p.rowLen ++ natLe 4 xs.length ++ natLe 4 o.token ++ natLe 4 o.seg
    ++ natLe 4 o.pos ++ natLe 4 o.table ++ natLe 4 o.tensor ++ natLe 4 payload.length ++ natLe 2 b.vacancies ++ natLe 1 p.tensors.length
    ++ natLe 1 0 ++ natLe 4 (crc32c payload) ++ natLe 4 0

/-- The 64 bytes of a slot header: GENERATION and BATCH_INDEX put into bytes 0 to 59, and HEADER_CRC (R295, R298). -/
def slotHeader (h : Bytes) (generation index : Nat) : Bytes :=
  let b := natLe 2 generation ++ sliceAt h 2 6 ++ natLe 4 index ++ sliceAt h 12 48
  b ++ natLe 4 (crc32c b)

end Sys2Proof.Machine
end

