-- ==== Sys2Proof/Machine/Feed.lean ====
section
/-! DEFINITION. The release of samples, batches, the batch queues and the feed rings (R199, R254, R263, R286 to R303, R308). -/

namespace Sys2Proof.Machine

/-! ### Steps ahead and the low-water alarm (R296, R297) -/

/-- QUEUE_DEPTH and LOW_WATER of a destination (R296). -/
def State.queueSet (s : State) (d : Nat) : Nat × Nat :=
  match s.pipe.queueSets.find? (fun q => decide (q.1 = d)) with
  | some q => q.2
  | none => (s.pipe.queueDepth, s.pipe.lowWater)

/-- The steps ahead: closed batches not yet credited (R297). -/
def DestQueue.ahead (q : DestQueue) : Nat := q.closed.length

/-- The alarm works: a plan runs, the next step's batch is within the horizon, and the last batch has not closed (R297). -/
def State.alarmLive (s : State) (q : DestQueue) : Bool := s.plan.active.isSome && s.mayPrepare q.next && !q.ended

/-- Arm the alarm when the steps ahead reach LOW_WATER; fire it when they fall below (R297). -/
def State.alarm (s : State) (d : Nat) : State :=
  match s.destQ? d with
  | none => s
  | some q =>
    let low := (s.queueSet d).2
    if low = 0 ∨ !s.alarmLive q then s
    else if low ≤ q.ahead then s.setDestQ { q with armed := true }
    else if !q.armed then s
    else
      let port := match s.segmentAt s.gauge.committed.step with
        | some (_, p) => (p.dests.getD d ⟨0, 0, 0⟩).port
        | none => 0
      let quiet := s.within q.lowWaterAt (s.ms 10)
      let s := (s.setDestQ { q with armed := false, lowWaterAt := if quiet then q.lowWaterAt else some s.now }).count (.feed d 1)
      if quiet then s else s.raise .feedLowWater d (natLe 1 port)

/-! ### Release (R199, R200, R254, R263, R286) -/

/-- A sample's turn at the head of its destination's release order has come and it can be released: a kept one or a vacancy
marker. Exact mode releases ascending (step, k), fast mode in the order of completion (R199). -/
def State.headOf (s : State) (q : DestQueue) : Option Sample :=
  let mine := s.pipe.samples.filter (fun x => decide (x.dest = q.dest) && x.synth.isNone)
  let ready (x : Sample) : Bool := decide (x.phase = .kept) || (decide (x.phase = .vacant) && x.entry)
  match mine.find? (fun x => x.resumed) with
  | some x => if ready x then some x else none
  | none =>
    if s.det.exact then (mine.find? (fun x => decide ((x.step, x.k) = q.head))).filter ready
    else
      let l := mine.filter ready
      (l.map (fun x => x.order)).min?.bind (fun o => l.find? (fun x => decide (x.order = o)))

/-- The signatures still in the window when a sample of a step is compared (R263). -/
def windowAt (f : FilterSection) (step : Nat) (w : List (Nat × Bytes)) : List (Nat × Bytes) :=
  w.filter (fun e => decide (step ≤ e.1 + f.window))

/-- Check 5: the window the sample leaves, or none when it is a near duplicate (R253, R263). -/
def windowCheck (f : FilterSection) (x : Sample) (w : List (Nat × Bytes)) : Option (List (Nat × Bytes)) :=
  let kept := windowAt f x.step w
  if !bitOf f.dupMode 0 then some kept
  else if nearDuplicate f.threshold x.signature (kept.map (fun e => e.2)) then none
  else some (kept ++ [(x.step, x.signature)])

/-- Write what a released position has to report (R198): kinds 0 to 2 in release order, and the substitute delivered. A window
that a resume rebuilds writes nothing. -/
def State.reportRelease (s : State) (x : Sample) (packs : Bool) : State :=
  if !packs then s
  else
    let s := x.reports.foldl (fun s e => s.writeReport e) s
    if x.phase = .kept ∧ 1 ≤ x.attempt then s.writeReport (x.report 1 0 0xFFFF 0) else s

/-- Give back a resequencer entry (R200). -/
def State.freeEntry (s : State) (x : Sample) : State :=
  if x.entry then
    let g := s.stageOf x.stage
    s.setStage x.stage { g with reserved := g.reserved - 1 }
  else s

/-- The head after a release in exact mode. -/
def State.nextHead (s : State) (h : Nat × Nat) : Nat × Nat :=
  let n := match s.segmentAt h.1 with | some (_, p) => p.perDest | none => 1
  if h.2 + 1 < n then (h.1, h.2 + 1) else (h.1 + 1, 0)

/-- The batch a released sample belongs to: its step's, or for a deferred one the first that has not closed. -/
def batchOf (q : DestQueue) (x : Sample) : Option OpenBatch :=
  if x.deferred then q.opens.head? else q.opens.find? (fun b => decide (b.step = x.step))

/-- A sample as it enters a candidate list. -/
def OpenBatch.take (b : OpenBatch) (x : Sample) : OpenBatch :=
  let settled := if x.deferred then b.settled else b.settled + 1
  if x.phase = .kept then { b with cands := b.cands ++ [{ x with reports := [], entry := false }], settled := settled }
  else { b with settled := settled, vacancies := b.vacancies + 1 }

/-- Release the head of a destination whose window check has passed: a carried sample of a checkpoint heads the carry list, a
vacancy of a deferred position whose batch has closed is dropped, any other joins its batch. -/
def State.releaseHead (s : State) (q : DestQueue) (x : Sample) (window : List (Nat × Bytes)) : State :=
  let s := (s.removeSample x.id).freeEntry x
  if x.resumed then
    (s.reportRelease x false).setDestQ (if x.phase = .kept then { q with carry := q.carry ++ [{ x with reports := [], entry := false }] } else q)
  else
    let home : Option OpenBatch := if x.phase = .vacant then q.opens.find? (fun b => decide (b.step = x.step)) else batchOf q x
    match home with
    | none => s.reportRelease x true
    | some b =>
      let opens := updateFirst (fun y => decide (y.step = b.step)) (fun y => y.take x) q.opens
      (s.reportRelease x b.packs).setDestQ { q with opens := opens, window := window, head := s.nextHead q.head }

/-- RESEQ_RELEASE (R198, R199, R253, R254, R263, R286): the sample, substitute or vacancy at the head of a destination's
release order passes the window check and goes to packing; a near duplicate keeps its entry and is substituted. -/
def execReseqRelease (dest : Nat) (s : State) : Out :=
  match s.destQ? dest with
  | none => .next s
  | some q =>
    match s.headOf q with
    | none => .next s
    | some x =>
      if x.phase = .kept ∧ !x.resumed ∧ (batchOf q x).isNone then .next s
      else match filterSection? (s.recipeBytes x.recipe) with
        | none => .next (s.releaseHead q x q.window)
        | some f =>
          if x.phase ≠ .kept ∨ x.resumed then .next (s.releaseHead q x q.window)
          else match windowCheck f x q.window with
            | some w => .next (s.releaseHead q x w)
            | none =>
              let g := s.stageOf x.stage
              let s := s.setDestQ { q with window := windowAt f x.step q.window }
              .next ((s.setStage x.stage { g with rejections := bump g.rejections 411 }).rejectSample x 411 0xFFFF 0)

/-! ### Starting and closing a batch (R286 to R290, R295, R296) -/

/-- The queue of a destination, a new one where the plan in force at its next step first names it. -/
def State.destQOrNew (s : State) (d : Nat) : Option DestQueue :=
  match s.destQ? d with
  | some q => some q
  | none =>
    (s.segmentAt s.plan.nextStep).bind (fun a =>
      if (s.localDests a.2).contains d then
        some { dest := d, next := a.2.startStep, depth := (s.queueSet d).1, head := (a.2.startStep, 0) }
      else none)

/-- The batches of a destination in construction, or closed and not yet written to the ring (R296). -/
def DestQueue.building (q : DestQueue) : Nat := q.opens.length + (q.closed.filter (fun b => b.index.isNone)).length

/-- Put a queue in, new or old. -/
def State.putDestQ (s : State) (q : DestQueue) : State :=
  if (s.destQ? q.dest).isSome then s.setDestQ q else s.setPipe { s.pipe with dests := s.pipe.dests ++ [q] }

/-- BATCH_START (R171, R289, R296): the next step's batch of a destination starts within horizon, fence and effective depth,
which is QUEUE_DEPTH (log entry 33); its positions are issued when the step has been prepared for. -/
def execBatchStart (dest : Nat) (s : State) : Out :=
  match s.destQOrNew dest with
  | none => .next s
  | some q =>
    match s.segmentAt q.next, s.recipeAt q.next with
    | some (_, p), some h =>
      let depth := (s.queueSet dest).1
      if !s.mayPrepare q.next ∨ p.lastStep < q.next ∨ depth ≤ q.building ∨ !(s.localDests p).contains dest then .next s
      else
        let port := (p.dests.getD dest ⟨0, 0, 0⟩).port
        let b : OpenBatch := { step := q.next, recipe := h, port := port, last := decide (q.next = p.lastStep)
                               packs := !decide (q.next < s.plan.startGauge.step) && decide (q.packFrom ≤ q.next) }
        let q := { q with next := q.next + 1, depth := depth, opens := q.opens ++ [b], stage := s.stageOfPort port }
        let s := s.putDestQ q
        .next (if b.step < s.plan.nextStep then s.issueDest p b.step dest else s)
    | _, _ => .next s

/-- LATE_LIMIT of a sample has come with the batch of a step (R202, R288). -/
def State.lateAt (s : State) (step : Nat) (x : Sample) : Bool :=
  decide (x.step + lateLimit (s.recipeBytes x.recipe) ≤ step)

/-- Abandon the deferred samples whose last batch has closed: a report of kind 5 (R202, R288). -/
def State.abandonLate (s : State) (dest step : Nat) : State :=
  (s.pipe.samples.filter (fun x => decide (x.dest = dest) && x.deferred && s.lateAt step x)).foldl (fun s x =>
    let s := ((s.evict x.id).dropBuffers x.owner x.buffers).removeSample x.id
    (s.freeEntry x).writeReport (x.report 5 0 0xFFFF (s.cyclesNs (s.now - (x.decodeAt.getD s.now)) / 1000000))) s

/-- Drop a sample in packing (R287): a report of kind 2 with its reason. -/
def State.packDrop (s : State) (x : Sample) (reason : Nat) : State :=
  let s := (s.dropBuffers x.owner x.buffers).count (.sample reason)
  (s.count (.feed x.dest (if reason = 501 then 3 else 4))).writeReport (x.report 2 reason 0xFFFF 0)

/-- Close a batch that is packed: its buffers are taken, or it waits for them (R87, R290). -/
def State.closePacked (s : State) (q : DestQueue) (b : OpenBatch) (p : PackSection) : State :=
  let cands := q.carry.map (fun x => ⟨x, true⟩) ++ b.cands.map (fun x => ⟨x, false⟩)
  let k := p.pack cands
  let payload := p.payload b.step k
  match s.takeBuffers (58 + q.stage) (64 + payload.length) with
  | (s, none) => s
  | (s, some l) =>
    let h := p.header 0 0 q.dest b k payload
    let done : Batch := { step := b.step, port := b.port, last := b.last, header := h, payload := payload, buffers := l, owner := 58 + q.stage }
    let carried := (b.step, q.carry.map (fun x => (x.step, x.k, x.attempt))) :: q.carried.take 1100
    let s := s.setDestQ { q with opens := q.opens.drop 1, carry := k.carry, closed := q.closed ++ [done], ended := q.ended || b.last
                                 carried := carried }
    let s := k.placed.foldl (fun s x => s.dropBuffers x.cand.sample.owner x.cand.sample.buffers) s
    let s := k.drops.foldl (fun s x => s.packDrop x.1 x.2) s
    (s.abandonLate q.dest b.step).alarm q.dest

/-- Every position of the batch's step has been released or deferred, and every sample that heads its list or joins it is there
(R288). -/
def State.batchSettled (s : State) (q : DestQueue) (b : OpenBatch) : Bool :=
  let n := match s.segmentAt b.step with | some (_, p) => p.perDest | none => 0
  decide (n ≤ b.settled) && !s.pipe.samples.any (fun x => decide (x.dest = q.dest) && x.synth.isNone
    && ((x.resumed && b.packs) || (x.deferred && decide (x.phase = .kept) && s.lateAt b.step x)))

/-- BATCH_CLOSE (R284 to R295, R297): the oldest batch in construction of a destination closes once its positions are settled;
a batch that only rebuilds a window is not packed (R263). -/
def execBatchClose (dest : Nat) (s : State) : Out :=
  match s.destQ? dest with
  | none => .next s
  | some q =>
    match q.opens with
    | [] => .next s
    | b :: rest =>
      if !s.batchSettled q b then .next s
      else if !b.packs then
        .next (b.cands.foldl (fun s x => s.dropBuffers x.owner x.buffers) (s.setDestQ { q with opens := rest }))
      else match packSection? (s.recipeBytes b.recipe) with
        | some p => .next (s.closePacked q b p)
        | none => .next s

/-! ### Writing to a ring (R298, R299, R303) -/

/-- The ring of a port. -/
def State.ring? (s : State) (port : Nat) : Option Ring := s.pipe.rings.find? (fun g => decide (g.port = port))

/-- Put a ring back. -/
def State.setRing (s : State) (g : Ring) : State :=
  s.setPipe { s.pipe with rings := updateFirst (fun x => decide (x.port = g.port)) (fun _ => g) s.pipe.rings }

/-- GENERATION of batch i (R298). -/
def generationOf (slots i : Nat) : Nat := i / slots % 65535 + 1

/-- The slot of the next batch is free, and its previous generation's header write is acknowledged (R299 steps 2 and 3). -/
def Ring.slotReady (g : Ring) : Bool :=
  decide (g.written - g.accepted < g.slots) && (decide (g.written < g.slots) || g.acked.contains (g.written - g.slots))

/-- Post the payload and the header of a batch as BATCH_INDEX i (R299 steps 4 and 5). -/
def State.postBatch (s : State) (g : Ring) (b : Batch) : State :=
  let i := g.written
  let slot := i % g.slots
  let va := g.baseVa + slot * g.slotBytes
  let gen := generationOf g.slots i
  let s := s.post g.qp { kind := .write (va + 64) g.rkey, data := b.payload, user := .feed g.port i false }
  let s := s.post g.qp { kind := .writeImm va g.rkey (slot + gen * 2 ^ 16), data := slotHeader b.header gen i, user := .feed g.port i true }
  s.setRing { g with written := i + 1 }

/-- The destination of a queue's next batch is one this device prepares for its twin peer (R507). -/
def State.proxied (s : State) (q : DestQueue) (b : Batch) : Bool := match s.segmentAt b.step with
  | some (_, p) => let x := p.dests.getD q.dest ⟨0, 0, 0⟩
                   decide (x.side ≠ s.group.set.side) || decide (x.device ≠ s.group.set.deviceId)
  | none => false

/-- Write a batch into the twin peer's batch queue (R507): the place there is a free value. -/
def State.postProxy (s : State) (q : DestQueue) (b : Batch) : State :=
  match s.twinQp 0 with
  | none => s
  | some t =>
    if !s.rqpReady t then s
    else
      let s := s.setDestQ { q with closed := q.closed.filter (fun x => decide (x ≠ b)) }
      ((s.post t { kind := .write s.free 0, data := b.header ++ b.payload, user := .owner }).used).dropBuffers b.owner b.buffers

/-- FEED_SLOT_WRITE (R298, R299, R507): the closed batch at the head of a destination's queue is written to its slot, or by a
proxy to the twin peer. -/
def execFeedSlotWrite (dest : Nat) (s : State) : Out :=
  match s.destQ? dest with
  | none => .next s
  | some q =>
    match q.closed.find? (fun b => b.index.isNone) with
    | none => .next s
    | some b =>
      if s.proxied q b then .next (s.postProxy q b)
      else match s.ring? b.port with
      | none => .next s
      | some g =>
        if !s.pipe.feedStarted ∨ !s.rqpReady g.qp ∨ !g.slotReady then .next s
        else
          let closed := updateFirst (fun x => x.index.isNone) (fun x => { x with index := some g.written }) q.closed
          .next (((s.setDestQ { q with closed := closed }).postBatch g b).count (.feed dest 0))

/-- A header write has been acknowledged (R299 step 3). -/
def State.feedAcked (s : State) (port index : Nat) : State := match s.ring? port with
  | some g => s.setRing { g with acked := g.acked ++ [index] }
  | none => s

/-- The queue pair of a feed ring entered the error state: FEED_RING_ERROR; its batches stay queued (R302). -/
def State.feedPairFailed (s : State) (qp : Nat) : State :=
  (s.pipe.rings.filter (fun g => decide (g.qp = qp))).foldl (fun s g => s.raise .feedRingError g.port) s

/-! ### Credits (R301) -/

/-- Why a new value of the credit word is ignored (R301): its tag, a count before A, or more than is outstanding. -/
def Ring.ignores (g : Ring) (v : Nat) : Bool :=
  let c := v % 2 ^ 32
  decide (v / 2 ^ 32 ≠ g.tag) || decide (serialCmp c g.accepted 32 = .before)
    || decide (g.written - g.accepted < (c + 2 ^ 32 - g.accepted % 2 ^ 32) % 2 ^ 32)

/-- Drop the batches credited on a port: their buffers return. -/
def State.creditBatches (s : State) (port accepted : Nat) : State :=
  let gone (b : Batch) : Bool := decide (b.port = port) && b.index.any (fun i => decide (i < accepted))
  s.pipe.dests.foldl (fun s q =>
    let l := q.closed.filter gone
    if l.isEmpty then s
    else
      let s := s.setDestQ { q with closed := q.closed.filter (fun b => !gone b) }
      (l.foldl (fun s b => s.dropBuffers b.owner b.buffers) s).alarm q.dest) s

/-- The destinations whose batches go to a port. -/
def State.destsOfPort (s : State) (port : Nat) : List Nat :=
  match s.segmentAt s.gauge.committed.step with
  | some (_, p) => (s.localDests p).filter (fun d => decide ((p.dests.getD d ⟨0, 0, 0⟩).port = port))
  | none => []

/-- CREDIT_READ (R301): a value other than the previous read's is accepted, or ignored and counted; 8 ignored in a row raise
FEED_CREDIT_FAULT once. -/
def execCreditRead (port : Nat) (s : State) : Out :=
  match s.ring? port with
  | none => .next s
  | some g =>
    let v := leNat (s.memRead g.credit 8)
    if g.lastRead = some v then .next s
    else if g.ignores v then
      let s := s.setRing { g with lastRead := some v, ignoredRun := g.ignoredRun + 1 }
      let s := (s.destsOfPort port).foldl (fun s d => s.count (.feed d 2)) s
      .next (if g.ignoredRun + 1 = 8 then s.raise .feedCreditFault port else s)
    else
      let n := (v % 2 ^ 32 + 2 ^ 32 - g.accepted % 2 ^ 32) % 2 ^ 32
      let s := s.setRing { g with lastRead := some v, ignoredRun := 0, accepted := g.accepted + n }
      let s := s.setPipe { s.pipe with consumed := bump s.pipe.consumed port n }
      .next (s.creditBatches port (g.accepted + n))

/-! ### Commands (R298, R301, R302, R308) -/

/-- The feed region (R583). -/
def feedRegion : Nat := 0x0140000000

/-- Words of 8 bytes in the feed region. -/
def feedWords : Nat := 0x40000000 / 8

/-- A place for a credit word that no ring uses (R301): counted on from a free value. -/
def State.creditPlace (s : State) : Nat :=
  let at_ (k : Nat) : Nat := feedRegion + 8 * ((s.free + k) % feedWords)
  at_ ((lowestFree (fun k => s.pipe.rings.any (fun g => decide (g.credit = at_ k))) 256 0).getD 0)

/-- The batch bounds that a ring must hold: the recipe in force and armed RECIPE_CHANGEs (R308). -/
def State.boundsInUse (s : State) : List Nat :=
  let hs := s.plan.recipe.toList ++ ((s.gauge.armed.filter (fun e => decide (e.kind = .recipeChange))).map (fun e => e.item))
  hs.map (fun h => ((packSection? (s.recipeBytes h)).map (fun p => p.bound)).getD 0)

/-- Remove a ring and its credit region. -/
def State.dropRing (s : State) (port : Nat) : State := match s.ring? port with
  | some g => (s.setPipe { s.pipe with rings := s.pipe.rings.filter (fun x => decide (x.port ≠ port)) }).deregister g.region
  | none => s

/-- Batches of a port are written again from the oldest uncredited one, and the alarm is disarmed (R297, R302). -/
def State.requeuePort (s : State) (port : Nat) : State :=
  s.pipe.dests.foldl (fun s q =>
    if q.closed.any (fun b => decide (b.port = port)) ∨ (s.destsOfPort port).contains q.dest then
      s.setDestQ { q with armed := false, closed := q.closed.map (fun b => if b.port = port then { b with index := none } else b) }
    else s) s

/-- Register a ring: its credit word is written and becomes a firmware region (R301). -/
def State.registerRing (s : State) (port qp baseVa rkey slots slotBytes tag index : Nat) : State :=
  let a := s.creditPlace
  let s := (s.used.memWrite a (natLe 4 0 ++ natLe 4 tag)).register
    { index := index, address := a, length := 8, vaBase := a, domain := 0xFFFF, write := true, firmware := true }
  let g : Ring := { port := port, qp := qp, baseVa := baseVa, rkey := rkey, slots := slots, slotBytes := slotBytes, tag := tag
                    credit := a, region := index, lastRead := some (tag * 2 ^ 32) }
  (s.setPipe { s.pipe with rings := s.pipe.rings ++ [g] }).requeuePort port

/-- FEED_RING_SET (R298, R301, R302, R308). -/
def execFeedRingSet (r : Req) (port qp baseVa rkey slots slotBytes tag : Nat) (s : State) : Out :=
  let live : Bool := match s.ring? port with
    | some g => !s.rqpFailed g.qp
    | none => false
  let s' := s.dropRing port
  let check := firstReject [(!s.isAccel port, badParam 0), (outside slots 2 256, badParam 20),
    (outside slotBytes 4096 1073741824 || decide (slotBytes % 4096 ≠ 0), badParam 24), (decide (tag = 0), badParam 28),
    ((s.rqp? qp).isNone, ⟨.notFound, 0⟩), (s.boundsInUse.any (fun b => decide (slotBytes < b)), ⟨.feedSlotSmall, 0⟩),
    (live, ⟨.inUse, 0⟩), ((s'.highestFree 16383).isNone, ⟨.tableFull, 0⟩)]
  let index := (s'.highestFree 16383).getD 0
  let done := s'.registerRing port qp baseVa rkey slots slotBytes tag index
  let word := match done.ring? port with | some g => g.credit | none => 0
  .next (s.finish r 0x0350 check (done.answer r 0x0350 .ok word (natLe 4 (done.rkeyOf index) ++ natLe 4 0)))

/-- The active plan, or the plan of an armed PLAN_CHANGE, has a destination on this port of this device (R308). -/
def State.portPlanned (s : State) (port : Nat) : Bool :=
  s.plansInUse.any (fun p => p.dests.contains ⟨port, s.group.set.deviceId, s.group.set.side⟩)

/-- FEED_RING_CLEAR (R301, R308). -/
def execFeedRingClear (r : Req) (port : Nat) (s : State) : Out :=
  .next (s.finish r 0x0351 (firstReject [(!s.isAccel port, badParam 0), ((s.ring? port).isNone, ⟨.notFound, 0⟩),
      (s.portPlanned port, ⟨.inUse, 0⟩)])
    ((s.dropRing port).answer r 0x0351 .ok))

/-- FEED_QUEUE_SET (R296, R308): kept, and in force from the next batch started. -/
def execFeedQueueSet (r : Req) (dest depth low : Nat) (s : State) : Out :=
  let check := firstReject [(decide (14335 < dest) && decide (dest ≠ 0xFFFF), badParam 0), (outside depth 1 64, badParam 2),
    (decide (depth < low), badParam 3)]
  let s' := if dest = 0xFFFF then s.setPipe { s.pipe with queueSets := [], queueDepth := depth, lowWater := low }
    else s.setPipe { s.pipe with queueSets := s.pipe.queueSets.filter (fun q => decide (q.1 ≠ dest)) ++ [(dest, depth, low)] }
  .next (s.finish r 0x0352 check (s'.answer r 0x0352 .ok))

/-- What FEED_STATUS reports of a destination. -/
def State.feedReport (s : State) (q : DestQueue) : List Nat :=
  let port := match s.segmentAt s.gauge.committed.step with
    | some (_, p) => (p.dests.getD q.dest ⟨0, 0, 0⟩).port
    | none => 0
  let g := s.ring? port
  [q.dest, q.ahead, q.depth, (g.map (fun x => x.written)).getD 0, (g.map (fun x => x.accepted % 2 ^ 32)).getD 0, q.carry.length,
    s.counter (.feed q.dest 3), s.counter (.feed q.dest 4), s.counter (.feed q.dest 1), s.counter (.feed q.dest 2)]

/-- FEED_STATUS (R308). -/
def execFeedStatus (r : Req) (dest : Nat) (s : State) : Out :=
  let qs := if dest = 0xFFFF then s.pipe.dests else (s.destQ? dest).toList
  .next (s.finish r 0x0353 (firstReject [(decide (14335 < dest) && decide (dest ≠ 0xFFFF), badParam 0),
      (decide (dest ≠ 0xFFFF) && qs.isEmpty, ⟨.notFound, 0⟩)])
    (s.answer r 0x0353 .ok 0 [] (qs.flatMap s.feedReport)))

end Sys2Proof.Machine
end

