-- ==== Sys2Proof/Machine/PlanRun.lean ====
section
/-! DEFINITION. Starting and stopping a plan (R56, R77, R180, R278, R296, R303, R308, R420). -/

namespace Sys2Proof.Machine

/-- A job starts or resumes at a Gauge: every source is seeded, and both published Gauges and the fence begin there (R56,
R175). -/
def State.startJob (s : State) (g : Gauge) : State :=
  let fence := g.step + s.gauge.horizon
  let s := s.seedAll g
  { s with gauge := { s.gauge with summaries := [], sentSummary := none, pubCommitted := g, pubLeading := g, pubFence := fence
                                   committed := g, leading := g, fence := fence, fenceHolds := [], hold := false } }

/-- An empty queue of a destination whose first batch is that of a step (R296, R297). -/
def State.freshQueue (s : State) (p : Plan) (step d : Nat) : DestQueue :=
  { dest := d, stage := s.stageOfPort (p.dests.getD d ⟨0, 0, 0⟩).port, next := step, depth := (s.queueSet d).1, head := (step, 0) }

/-- Put a plan and a recipe in force from a step: preparation begins there, every queue is empty, and nothing is written to a
ring before the Weir opens (R171, R299). -/
def State.runPlan (s : State) (h : Nat) (p : Plan) (recipe step : Nat) : State :=
  let s := { s with plan := { s.plan with active := some (h, p), recipe := some recipe, nextStep := step, epochLimit := false },
                    gauge := { s.gauge with epoch := p.epochOf step } }
  s.setPipe { s.pipe with dests := (s.localDests p).map (s.freshQueue p step), feedStarted := false }

/-- Arm the first Weir of a job with the start-of-feed action, on every member (R77). -/
def State.firstWeir (s : State) (r : Req) (g : Gauge) : State :=
  let a : WeirActions := { startFeed := true, bothSides := s.group.set.twin }
  let s := s.armWeir g a
  if r.mb = 5 then s else s.spread (.weir g a)

/-- The ports of this device that a plan names. -/
def State.planPorts (s : State) (p : Plan) : List Nat :=
  (p.dests.filter (fun d => decide (d.device = s.group.set.deviceId) && decide (d.side = s.group.set.side))).map (fun d => d.port)

/-- FEED_NO_RING and FEED_SLOT_SMALL of a plan with a recipe (R308, R437). -/
def State.ringChecks (s : State) (p : Plan) (recipe : Nat) : List (Bool × Reject) :=
  let bound := ((packSection? (s.recipeBytes recipe)).map (fun k => k.bound)).getD 0
  let ports := s.planPorts p
  [(ports.any (fun x => (s.ring? x).isNone), ⟨.feedNoRing, 0⟩),
   (ports.any (fun x => match s.ring? x with | some g => decide (g.slotBytes < bound) | none => false), ⟨.feedSlotSmall, 0⟩)]

/-- The window of a recipe is too large for a plan (R278). -/
def State.windowTooLarge (s : State) (p : Plan) (recipe : Nat) : Bool := match filterSection? (s.recipeBytes recipe) with
  | some f => decide (262144 < p.perDest * (f.window + 1))
  | none => false

/-- The checks of PLAN_START (R77, R180, R278, R308, R420). -/
def planStartCheck (r : Req) (plan recipe : Nat) (s : State) : Option Reject :=
  firstReject ([s.notManager r, s.heldBusy (.plan plan), s.heldBusy (.recipe recipe), (decide (15 < plan), badParam 0), (decide (15 < recipe), badParam 2), ((s.plan? plan).isNone, ⟨.notFound, 0⟩), ((lookup? s.plan.recipes recipe).isNone, ⟨.notFound, 0⟩),
    (s.plan.active.isSome, ⟨.inUse, 0⟩), (decide (r.mb ≠ 5) && s.weirBusy, ⟨.weirBusy, 0⟩),
    (s.group.set.twin && decide (s.group.peerExact ≠ s.det.exact), ⟨.detMismatch, 0⟩)]
    ++ (match s.plan? plan with
        | some p => (s.windowTooLarge p recipe, ⟨.filterSpace, 0⟩) :: s.ringChecks p recipe
        | none => []))

/-- PLAN_START (R56, R77, R180, R427): the plan and its recipe come into force from START_STEP:0. -/
def execPlanStart (r : Req) (plan recipe : Nat) (s : State) : Out :=
  match s.plan? plan with
  | none => .next (s.finish r 0x0405 (planStartCheck r plan recipe s) s)
  | some p =>
    let g : Gauge := ⟨p.startStep, 0⟩
    let s1 := { (s.startJob g) with plan := { s.plan with startGauge := g } }
    let s2 := (((s1.runPlan plan p recipe p.startStep).issueRecord p.startStep).firstWeir r g)
    .next (s.finish r 0x0405 (planStartCheck r plan recipe s) (s2.forward r 0x0405 (natLe 2 plan ++ natLe 2 recipe)))

/-! ### Stopping (R180, R303) -/

/-- Discard the samples of the plan: synthetic messages stay. -/
def State.dropSamples (s : State) : State :=
  let xs := s.pipe.samples.filter (fun x => x.synth.isNone)
  let s := xs.foldl (fun s x => ((s.evict x.id).dropBuffers x.owner x.buffers).removeSample x.id) s
  let stage (g : Stage) : Stage := { g with reserved := 0 }
  s.setPipe { s.pipe with stages := s.pipe.stages.map stage, aheads := [] }

/-- Discard the fetches of the plan: a relay for the twin peer stays. -/
def State.dropFetches (s : State) : State :=
  let mine (f : Fetch) : Bool := match f.kind with | .relay _ _ _ _ _ _ => false | _ => true
  let l := s.plan.fetches.filter mine
  let s := { s with plan := { s.plan with fetches := s.plan.fetches.filter (fun f => !mine f) } }
  l.foldl (fun s f => s.dropBuffers f.owner [f.pointer]) s

/-- Discard a queue's samples and batches: their buffers return. -/
def State.dropQueue (s : State) (q : DestQueue) : State :=
  let xs := q.carry ++ q.opens.flatMap (fun b => b.cands)
  let s := xs.foldl (fun s x => s.dropBuffers x.owner x.buffers) s
  q.closed.foldl (fun s b => s.dropBuffers b.owner b.buffers) s

/-- End preparation and delivery: a slot whose writes are posted is completed, the rest is discarded (R180, R303). -/
def State.endPreparation (s : State) : State :=
  let qs := s.pipe.dests
  let s := (s.dropSamples).dropFetches
  let s := qs.foldl (fun s q => s.dropQueue q) s
  s.setPipe { s.pipe with dests := [], feedStarted := false }

/-- An event that changes what a plan prepares: its end cancels them (R180). -/
def eventOfPlan (e : ArmedEvent) : Bool :=
  decide (e.kind = .planChange) || decide (e.kind = .recipeChange) || decide (e.kind = .epochRollover)

/-- The plan ends (R180, R303). -/
def State.stopPlan (s : State) : State :=
  let s1 := s.endPreparation
  { s1 with gauge := { s1.gauge with armed := s1.gauge.armed.filter (fun e => !eventOfPlan e), fenceHolds := [] },
            plan := { s1.plan with active := none, recipe := none }, ngayx := { s1.ngayx with otherBank := none } }

/-- PLAN_STOP (R180, R303, R427). -/
def execPlanStop (r : Req) (s : State) : Out :=
  .next (s.finish r 0x0406 (firstReject [s.notManager r, (s.plan.active.isNone, ⟨.notFound, 0⟩)])
    (s.stopPlan.recordNow.forward r 0x0406 []))

end Sys2Proof.Machine
end

