-- ==== Sys2Proof/Machine/Programs.lean ====
section
/-! DEFINITION. Program commands and the format table (R335, R353 to R359, R639, R642). -/

namespace Sys2Proof.Machine

/-- The digest of the format table (R335). -/
def formatDigest : Bytes := sha256 numberFormats

/-- FORMAT_TABLE_READ (R335, R638): the table and its digest. -/
def execFormatTableRead (r : Req) (s : State) : Out := .next (s.finish r 0x0110 none (s.answer r 0x0110 .ok 0 (numberFormats ++ formatDigest)))

/-- Instruction words the loaded programs occupy (R355). -/
def State.storeWords (s : State) : Nat := (s.ngayx.programs.map (fun p => fieldAt p.2 8 4)).sum

/-- The source of a load whose first parameter is a handle: SOURCE lies at byte 2 (R522). -/
def State.programSource (s : State) (source address length : Nat) : Except Reject Bytes :=
  if 1 < source then .error (badParam 2) else s.loadSource source address length

/-- Put a program image in both banks (R355): PROGRAMS_DIGEST changes (R426). -/
def State.storeProgram (s : State) (h : Nat) (image : Bytes) : State :=
  ({ s with ngayx := { s.ngayx with programs := assign s.ngayx.programs h image } }).recordNow

/-- PROGRAM_LOAD (R353 to R355, R358, R639): distributed to every member. -/
def execProgramLoad (r : Req) (program source address length : Nat) (s : State) : Out :=
  match firstReject [s.notManager r, s.heldBusy (.program program), (decide (63 < program), badParam 0)],
      s.programSource source address length with
  | some e, _ => .next (s.finish r 0x0501 (some e) s)
  | none, .error e => .next (s.finish r 0x0501 (some e) s)
  | none, .ok bs =>
    let image := bs.take (64 + 8 * fieldAt bs 8 4)
    match imageFault length bs with
    | some o => .next (s.finish r 0x0501 none (s.answerLong r 0x0501 .programInvalid o))
    | none =>
      if 8192 < s.storeWords + fieldAt bs 8 4 then .next (s.finish r 0x0501 none (s.answerLong r 0x0501 .programStoreFull))
      else if (lookup? s.ngayx.programs program).isSome then .next (s.finish r 0x0501 none (s.answerLong r 0x0501 .inUse))
      else
        let s' := s.storeProgram program image
        let free := 8192 - s'.storeWords
        .next (s.finish r 0x0501 none
          ((s'.answerInProgress r 0x0501 [.program program]).distribute r 0x0501 (.program program image)
          (.answer r 0x0501 0 (sha256 image) [free]) 0 (sha256 image) [free]))

/-- A launch that is active or queued names the program (R359). -/
def State.programLaunched (s : State) (h : Nat) : Bool :=
  s.coll.launches.any (fun l => decide (l.phase ≠ .ended)
    && (if l.phase = .matching then decide ((s.programFor l.channel l.desc).1 = h) else decide (l.handle = h)))

/-- PROGRAM_DROP (R358, R359). -/
def execProgramDrop (r : Req) (program : Nat) (s : State) : Out :=
  let s' := ({ s with ngayx := { s.ngayx with programs := erase s.ngayx.programs program } }).recordNow
  .next (s.finish r 0x0502 (firstReject [s.notManager r, s.heldBusy (.program program), (decide (63 < program), badParam 0), ((lookup? s.ngayx.programs program).isNone, ⟨.notFound, 0⟩),
      (s.programLaunched program || s.ngayx.bindings.any (fun b => decide (b.2 = program)), ⟨.inUse, 0⟩)])
    (s'.forward r 0x0502 (natLe 2 program)))

/-- A handle that names a loaded program or a built-in (R355). -/
def State.programKnown (s : State) (h : Nat) : Bool :=
  (decide (64 ≤ h) && decide (h ≤ 67)) || (lookup? s.ngayx.programs h).isSome

/-- Launches that run a handle. -/
def State.programRuns (s : State) (h : Nat) : Nat :=
  (s.coll.launches.filter (fun l => decide (l.phase = .running) && decide (l.handle = h))).length

/-- PROGRAM_READ (R358): the header, digest and active launches; for a built-in its declaration. -/
def execProgramRead (r : Req) (program : Nat) (s : State) : Out :=
  let image := lookupD s.ngayx.programs program []
  let d := builtinDeclared
  let (payload, values) := if 64 ≤ program then ([], [d.maxChunk, d.pipeDepth, d.ctxCopies, d.scratch, s.programRuns program])
    else (image.take 64 ++ sha256 image, [s.programRuns program])
  .next (s.finish r 0x0503 (firstReject [(decide (79 < program), badParam 0), (!s.programKnown program, ⟨.notFound, 0⟩)])
    (s.answer r 0x0503 .ok 0 payload values))

/-- CHANNEL_PROGRAM_SET (R357 to R359, R427). -/
def execChannelProgramSet (r : Req) (channel program : Nat) (s : State) : Out :=
  let bindings := if program = 0xFFFF then erase s.ngayx.bindings channel else assign s.ngayx.bindings channel program
  let s' := ({ s with ngayx := { s.ngayx with bindings := bindings } }).recordNow
  .next (s.finish r 0x0504 (firstReject [s.notManager r, s.heldBusy (.channel channel), s.heldBusy (.program program), (outside channel 8 1023, badParam 0),
      (decide (79 < program) && decide (program ≠ 0xFFFF), badParam 2), (decide (program ≠ 0xFFFF) && !s.programKnown program, ⟨.notFound, 0⟩)])
    (s'.forward r 0x0504 (natLe 2 channel ++ natLe 2 program)))

end Sys2Proof.Machine
end

