-- ==== Sys2Proof/Machine/Restart.lean ====
section
/-! DEFINITION. The start of a management restart (R432, R515, R516), and the entries of the RESET_HISTORY log (R610). -/

namespace Sys2Proof.Machine

/-- The 8 bytes of RESET_CAUSE (R589) for a source, a scope value, the SOURCE escalated and a detail. -/
def State.causeBytes (s : State) (source scope original detail : Nat) : Bytes :=
  natLe 1 source ++ natLe 1 scope
    ++ natLe 1 (s.power.bootSrc.toNat + 4 * s.power.clkMode.toNat + (if s.power.clkFault then 16 else 0))
    ++ natLe 1 original ++ natLe 4 detail

/-- Enter a reset event of any scope in the RESET_HISTORY log (R610): CODE is SOURCE, DETAIL the payload of R589. -/
def State.historyLine (s : State) (source scope original detail : Nat) : State :=
  s.logEntry .resetHistory source 0 ((s.causeBytes source scope original detail).map (·.toNat))

/-- Requests not yet answered IN_PROGRESS, in the order in which the rotating arbiter of R526 would start them, each
mailbox's in sequence order. -/
def startOrder : Nat → Nat → List (Nat × List Outstanding) → List Outstanding
  | 0, _, _ => []
  | n + 1, ptr, qs =>
    let ready := (qs.filter (fun q => !q.2.isEmpty)).map (·.1)
    match arbWinner ptr ready with
    | none => []
    | some i =>
      (lookupD qs i []).take 1 ++ startOrder n (arbNext 8 i) (assign qs i ((lookupD qs i []).drop 1))

/-- What the handover record lists (R516): every command in progress, then the requests not yet started. -/
def State.handoverList (s : State) : List Outstanding :=
  let all := s.lock.boxes.flatMap (fun b => b.outstanding)
  let waiting := s.lock.boxes.mapIdx (fun i b => (i, b.outstanding.filter (fun o => !o.started)))
  all.filter (fun o => o.started) ++ startOrder all.length s.lock.arb waiting

/-- The capture of a checkpoint, steps 2 to 4 of R432: on the manager until every member has acknowledged. -/
def State.capturing (s : State) : Bool := match s.det.ckpt with
  | none => false
  | some c => decide (c.phase = .capturing) || (decide (c.phase = .written) && s.isManager)

/-- A management restart begins (R516): the handover record is written, the mailbox arbiter returns to 0 (R92), the download
session's SRAM is lost (R556). -/
def State.beginRestart (s : State) (c : RestartCause) : State :=
  let lock : LockState := { s.lock with restart := some c, restartDue := none, handover := s.handoverList, arb := 0 }
  let nor : NorState := { s.nor with session := none, restartScheduled := false, restartCount := s.nor.restartCount + 1,
                                     restartsCold := s.nor.restartsCold + 1 }
  let s := { s with lock := lock, nor := nor }
  match c with
  | .command => s.historyLine Source.mailbox.value 2 0 0
  | .watchdog => s.historyLine Source.watchdog.value 2 0 0
  | .residue | .commit => s.used.historyLine (s.free % 2 ^ 16) 2 0 0

/-- A management restart falls due (R432): it waits while a checkpoint is captured, and one in progress takes
it in. -/
def State.mgmtRestart (s : State) (c : RestartCause) : State :=
  if s.lock.restart.isSome then s
  else if s.capturing then { s with lock := { s.lock with restartDue := some c } }
  else s.beginRestart c

/-- A restart that waited for a checkpoint begins once step 4 is complete (R432). -/
def State.startDue (s : State) : State := match s.lock.restartDue with
  | some c => if s.capturing ∨ s.lock.restart.isSome then s else s.beginRestart c
  | none => s

end Sys2Proof.Machine
end

