-- ==== Sys2Proof/Machine/Checkpoint.lean ====
section
/-! DEFINITION. Exact mode and the determinism record's commands; checkpoints: capture, acknowledgement, failure and resume
(R420, R427, R428, R430 to R438, R442). -/

namespace Sys2Proof.Machine

/-! ### The mode and the record (R420, R427, R428, R442) -/

/-- DET_MODE_SET (R420, R427). -/
def execDetModeSet (r : Req) (mode : Nat) (s : State) : Out :=
  let s' := ({ s with det := { s.det with exact := decide (mode = 0) } }).recordNow
  .next (s.finish r 0x0430 (firstReject [s.notManager r, (decide (1 < mode), badParam 0), (s.plan.active.isSome, ⟨.inUse, 0⟩)])
    (s'.forward r 0x0430 (natLe 1 mode)))

/-- The newest record: the current one. -/
def State.currentRecord (s : State) : DetRecord := s.det.records.getLastD (s.detNow s.gauge.committed.step)

/-- DET_RECORD_READ (R427, R442): the record that governs a step, or the current one, with its digest. -/
def execDetRecordRead (r : Req) (step : Nat) (s : State) : Out :=
  let found := if step = 2 ^ 64 - 1 then some s.currentRecord else s.recordAt step
  let d := found.getD s.currentRecord
  .next (s.finish r 0x0431 (firstReject [(found.isNone, ⟨.notFound, 0⟩)]) (s.answer r 0x0431 .ok 0 (d.bytes ++ d.digest)))

/-- A signature of the device identity key over bytes. -/
def State.identitySign (s : State) (bs : Bytes) : Bytes :=
  natLe 64 (Config.ecdsaSign (identityKey (s.fuse.seed.getD (List.replicate 32 0)) s.fuse.uid) s.free (sha256 bs))

/-- DET_RECORD_SIGN (R428): the record, the nonce, the signature over both. -/
def execDetRecordSign (r : Req) (nonce : Bytes) (s : State) : Out :=
  let d := s.currentRecord.bytes ++ nonce
  .next (s.finish r 0x0432 none (s.used.answer r 0x0432 .ok 0 (d ++ s.identitySign d)))

/-! ### Arming and holding (R430, R431) -/

/-- Hold every launch of a step or later at admission, and keep the checkpoint as armed (R431). -/
def State.armCkpt (s : State) (step : Nat) (p : CkptParams) : State :=
  { s with det := { s.det with ckpt := some { step := step, params := p }, holdFrom := some step } }

/-- A launch of a step or later has been admitted here (R431). -/
def State.admittedFrom (s : State) (step : Nat) : Bool :=
  s.coll.launches.any (fun l => (decide (l.phase = .running) || (decide (l.phase = .voting) && decide (l.outcome = some 0)))
    && (match serialCmp l.stepLo step 32 with | .equal | .after => true | _ => false))

/-- The holds are released: every held launch is checked (R431 to R433). -/
def State.releaseHolds (s : State) : State :=
  let s := { s with det := { s.det with holdFrom := none } }
  (s.coll.launches.map (fun l => l.id)).foldl (fun s i => s.checkLaunch i) s

/-- Launches held at admission (R442). -/
def State.heldLaunches (s : State) : List Launch :=
  s.coll.launches.filter (fun l => decide (l.phase = .matching) && l.missing.isEmpty && s.launchHeld l.stepLo)

/-! ### The image (R435, R436) -/

/-- The digest an event entry carries. -/
def State.eventDigest (s : State) (e : ArmedEvent) : Bytes := match e.kind with
  | .planChange => (s.plan? e.item).map (fun p => p.digest) |>.getD (natLe 32 0)
  | .recipeChange => sha256 (s.recipeBytes e.item)
  | _ => natLe 32 0

/-- What the checkpoint keeps when it fires. -/
def State.ckptSnap (s : State) (step : Nat) : CkptSnap :=
  let plan := s.plan.active.map (fun a => a.2)
  let later := (firingOrder s.gauge.armed).filter (fun e => eventOfPlan e && decide (step ≤ e.target.step))
  { record := ((s.recordAt step).getD s.currentRecord).bytes, epoch := s.gauge.epoch
    plan := (plan.map (fun p => p.bytes)).getD [], dests := (plan.map (fun p => s.localDests p)).getD []
    events := later.map (fun e => (e.kind.value, e.target.step, s.eventDigest e)) }

/-- The checkpoint fires (R432 step 1). -/
def State.fireCkpt (s : State) (step : Nat) : State := match s.det.ckpt with
  | some c => if c.phase = .armed ∧ c.step = step then
      { s with det := { s.det with ckpt := some { c with phase := .capturing, snap := some (s.ckptSnap step) } } } else s
  | none => s

/-- The carry list that entered the batch of a step, once it is known (R436). -/
def DestQueue.carryAt (q : DestQueue) (step : Nat) : Option (List (Nat × Nat × Nat)) :=
  match q.carried.find? (fun c => decide (c.1 = step)) with
  | some c => some c.2
  | none =>
    let here : Bool := match q.opens with
      | b :: _ => decide (b.step = step)
      | [] => decide (q.next = step)
    if here then some (q.carry.map (fun x => (x.step, x.k, x.attempt))) else none

/-- Pad a part to a multiple of 64 bytes. -/
def pad64 (bs : Bytes) : Bytes := bs ++ List.replicate ((64 - bs.length % 64) % 64) 0

/-- A carry list's part: DEST, COUNT and its entries (R303, R436). -/
def carryBytes (dest : Nat) (l : List (Nat × Nat × Nat)) : Bytes :=
  natLe 2 dest ++ natLe 2 0 ++ natLe 4 l.length
    ++ l.flatMap (fun x => natLe 8 x.1 ++ natLe 4 (x.2.1 % 2 ^ 16 + x.2.2 % 16 * 2 ^ 16) ++ natLe 4 0)

/-- The contents of a store. -/
def State.storeBytes (s : State) (x : Residual) : Bytes := s.memRead x.base (2 * x.elems)

/-- A residual entry (R436). -/
def residualEntry (x : Residual) (offset crc : Nat) : Bytes :=
  let (spec, fmt, count, chunk) := x.key.getD (natLe 8 0, 0, 0, 0)
  natLe 1 x.handle ++ natLe 1 fmt ++ natLe 2 0 ++ natLe 4 chunk ++ natLe 8 x.elems ++ natLe 8 x.lastStep ++ spec ++ natLe 8 count
    ++ natLe 8 offset ++ natLe 4 crc ++ natLe 12 0

/-- Residual entries, their contents lying one after another from an offset in a full image. -/
def residualEntries (full : Bool) (contents : Residual → Bytes) : List Residual → Nat → Bytes
  | [], _ => []
  | x :: xs, o => residualEntry x (if full then o else 0) (if full then crc32c (contents x) else 0)
      ++ residualEntries full contents xs (o + 2 * x.elems)

/-- The image of a captured checkpoint, IMAGE_CRC included (R435, R436). -/
def State.ckptImage (s : State) (c : Ckpt) (n : CkptSnap) (carries : List (Nat × List (Nat × Nat × Nat))) : Bytes :=
  let events := n.events.flatMap (fun e => natLe 1 e.1 ++ natLe 7 0 ++ natLe 8 e.2.1 ++ e.2.2)
  let front := pad64 n.record ++ pad64 n.plan ++ pad64 events ++ pad64 (carries.flatMap (fun q => carryBytes q.1 q.2))
  let stores := s.coll.stores
  let at_ := 64 + front.length + 64 * stores.length
  let entries := residualEntries c.params.full s.storeBytes stores at_
  let contents := if c.params.full then pad64 (stores.flatMap s.storeBytes) else []
  let body := front ++ entries ++ contents
  let head := [0x43, 0x4B, 0x50, 0x54] ++ natLe 2 1 ++ natLe 1 c.params.full.toNat
    ++ natLe 1 (s.group.set.deviceId + s.group.set.side * 128) ++ natLe 8 c.step ++ natLe 4 n.epoch ++ natLe 2 n.events.length
    ++ natLe 2 n.dests.length ++ natLe 1 stores.length ++ natLe 3 0 ++ natLe 4 n.plan.length ++ natLe 8 (64 + body.length) ++ natLe 20 0
  head ++ natLe 4 (crc32c (head ++ body)) ++ body

/-- Write an image to its place: the host window, or conventional space by LBA (R430); none when it does not fit there. -/
def State.placeImage (s : State) (toMedia : Bool) (address : Nat) (bs : Bytes) : Option State :=
  if toMedia then
    let n := (bs.length + 4095) / 4096
    if s.media.readOnly ∨ s.convBlocks < address + n ∨ !s.mayStage address n then none
    else some (s.stage address (bs ++ List.replicate (n * 4096 - bs.length) 0) none false)
  else if inWindow address bs.length then some (s.memWrite address bs) else none

/-! ### Completion and failure (R432, R433) -/

/-- Change the checkpoint's phase; a management restart that waited for its capture may begin (R432). -/
def State.ckptPhase (s : State) (p : CkptPhase) : State :=
  State.startDue { s with det := { s.det with ckpt := s.det.ckpt.map (fun c => { c with phase := p }) } }

/-- Step 6 (R432): a light checkpoint, or a full one with PAUSE, ends the plan and fails every held launch; a full one without
PAUSE releases them. -/
def State.finishCkpt (s : State) : State := match s.det.ckpt with
  | none => s
  | some c =>
    let s := s.ckptPhase .done
    if !c.params.full || c.params.pause then
      let held := s.heldLaunches.map (fun l => l.id)
      let s := { s with det := { s.det with holdFrom := none } }
      (held.foldl (fun s i => s.abortLaunch i) s).stopPlan.recordNow
    else s.releaseHolds

/-- The members whose image a manager awaits: this side's others, and for the manager that leads a twin the other side's. -/
def State.ckptAwaited (s : State) (c : Ckpt) : Bool :=
  (s.audience ++ [s.group.set.deviceId]).any (fun d => !c.acks.any (fun a => decide (a.1 = d)))

/-- The manager has every acknowledgement (R432 step 5): CHECKPOINT_DONE, and step 6 on every member. The other side's manager
passes its side's completion over the twin links. -/
def State.ckptComplete (s : State) : State := match s.det.ckpt with
  | none => s
  | some c =>
    if c.phase ≠ .written ∨ s.ckptAwaited c then s
    else if s.leads then ((s.raise .checkpointDone 0 (natLe 8 c.step)).spread (.ckptDone c.step)).finishCkpt
    else { s with sent := s.sent ++ [.twin (.ckptAck 0 0)] }

/-- The checkpoint fails (R433): the manager raises CHECKPOINT_FAILED and tells every member; holds are released. -/
def State.failCkpt (s : State) : State := match s.det.ckpt with
  | none => s
  | some c =>
    if c.phase = .done ∨ c.phase = .failed then s
    else
      let gone (e : ArmedEvent) : Bool := decide (e.kind = .checkpoint)
      let s := { s with gauge := { s.gauge with armed := s.gauge.armed.filter (fun e => !gone e) } }
      let s := if s.leads then (s.raise .checkpointFailed 0 (natLe 8 c.step)).spread (.ckptFailed c.step) else s
      (s.ckptPhase .failed).releaseHolds

/-- A member's acknowledgement reaches the manager. -/
def State.takeCkptAck (s : State) (device crc length : Nat) : State :=
  let add (c : Ckpt) : Ckpt := { c with acks := (c.acks.filter (fun a => decide (a.1 ≠ device))) ++ [(device, crc, length)] }
  ({ s with det := { s.det with ckpt := s.det.ckpt.map add } }).ckptComplete

/-- Every launch of an earlier step that names a residual store has released its grant (R432 step 2). -/
def State.earlierReleased (s : State) (step : Nat) : Bool :=
  !s.coll.launches.any (fun l => descFeedback l.desc && decide (l.phase ≠ .ended) && decide (serialCmp l.stepLo step 32 = .before))

/-- CHECKPOINT_IMAGE_WRITE (R432 to R436): once earlier launches have released, this member writes its image and acknowledges.
A write that fails, here or at its place, fails the checkpoint. -/
def execCheckpointImageWrite (outcome : ImageWrite) (s : State) : Out :=
  match s.det.ckpt, s.det.ckpt.bind (fun c => c.snap) with
  | some c, some n =>
    let carries := n.dests.map (fun d => ((s.destQ? d).bind (fun q => q.carryAt c.step)).map (fun l => (d, l)))
    if c.phase ≠ .capturing ∨ !s.earlierReleased c.step ∨ carries.any (fun x => x.isNone) then .next s
    else
      let image := s.ckptImage c n (carries.filterMap (fun x => x))
      let crc := fieldAt image 60 4
      (match (if outcome = .written then s.placeImage c.params.toMedia c.params.address image else none) with
       | none => .next (if s.leads then s.failCkpt else (s.sendPiece 3 (.item (.ckptFailed c.step))))
       | some s =>
         let lights := if c.params.full then s.det.lights else s.det.lights ++ [crc]
         let s := { s with det := { s.det with ckpt := some { c with phase := .written, own := some (crc, image.length) }, lights := lights } }
         .next (if s.isManager then s.takeCkptAck s.group.set.deviceId crc image.length else (s.sendPiece 3 (.ckptAck crc image.length)).startDue))
  | _, _ => .next s

/-- CHECKPOINT_ACK_RECEIVE (R432 steps 4 to 6): on the manager. -/
def execCheckpointAckReceive (device crc length : Nat) (s : State) : Out :=
  .next (if s.isManager ∧ s.det.ckpt.isSome then s.takeCkptAck device crc length else s)

/-- The state number of a checkpoint (R442): none, armed, capturing, done, failed. -/
def CkptPhase.value : CkptPhase → Nat
  | .armed => 1 | .capturing | .written => 2 | .done => 3 | .failed => 4

/-- CHECKPOINT_READ (R442): armed target, state, KIND, launches held, then each member's device, IMAGE_CRC and LENGTH. -/
def execCheckpointRead (r : Req) (s : State) : Out :=
  match s.det.ckpt with
  | none => .next (s.finish r 0x0433 none (s.answer r 0x0433 .ok 0 [] [0, 0, 0, s.heldLaunches.length]))
  | some c =>
    let own := match c.own with
      | some (crc, n) => if s.isManager then [] else [s.group.set.deviceId, crc, n]
      | none => []
    .next (s.finish r 0x0433 none (s.answer r 0x0433 .ok 0 [] ([c.step, c.phase.value, c.params.full.toNat, s.heldLaunches.length] ++ own
      ++ c.acks.flatMap (fun a => [a.1, a.2.1, a.2.2]))))

/-! ### Resuming (R437, R438) -/

/-- An image read from its place, as long as its own LENGTH says. -/
def State.readImage (s : State) (place address : Nat) : Option Bytes :=
  match s.loadSource place address 64 with
  | .error _ => none
  | .ok head =>
    let n := fieldAt head 32 8
    match s.loadSource place address n with
    | .ok bs => if n < 384 ∨ n % 64 ≠ 0 then none else some bs
    | .error _ => none

/-- Round up to a multiple of 64. -/
def up64 (n : Nat) : Nat := (n + 63) / 64 * 64

/-- Where the parts of an image begin: plan, events, carry lists. -/
def eventsAt (b : Bytes) : Nat := 320 + up64 (fieldAt b 28 4)
def carriesAt (b : Bytes) : Nat := eventsAt b + up64 (48 * fieldAt b 20 2)

/-- Carry lists read from an offset: each destination's samples as (step, k, attempt), and where they end. -/
def carriesOf (b : Bytes) : Nat → Nat → List (Nat × List (Nat × Nat × Nat)) × Nat
  | 0, o => ([], o)
  | n + 1, o =>
    let count := fieldAt b (o + 4) 4
    let entry (i : Nat) : Nat × Nat × Nat :=
      let e := o + 8 + 16 * i
      (fieldAt b e 8, fieldAt b (e + 8) 4 % 2 ^ 16, bitsOf (fieldAt b (e + 8) 4) 19 16)
    let (rest, last) := carriesOf b n (o + 8 + 16 * count)
    ((fieldAt b o 2, (List.range count).map entry) :: rest, last)

/-- An image's carry lists. -/
def imageCarries (b : Bytes) : List (Nat × List (Nat × Nat × Nat)) := (carriesOf b (fieldAt b 22 2) (carriesAt b)).1

/-- An image's residual entries. -/
def imageResiduals (b : Bytes) : List Bytes :=
  let o := up64 (carriesOf b (fieldAt b 22 2) (carriesAt b)).2
  (List.range (fieldAt b 24 1)).map (fun i => sliceAt b (o + 64 * i) 64)

/-- An image's events: KIND, TARGET_STEP, digest. -/
def imageEvents (b : Bytes) : List (Nat × Nat × Bytes) :=
  (List.range (fieldAt b 20 2)).map (fun i =>
    let o := eventsAt b + 48 * i
    (fieldAt b o 1, fieldAt b (o + 8) 8, sliceAt b (o + 16) 32))

/-- The image's plan, and its record. -/
def imagePlan (b : Bytes) : Plan := planOf (sliceAt b 320 (fieldAt b 28 4))
def imageRecord (b : Bytes) : Bytes := sliceAt b 64 256

/-- An image is well formed and this device's own (R437 step 2). -/
def State.imageOk (s : State) (b : Bytes) : Bool :=
  decide (b.take 4 = [0x43, 0x4B, 0x50, 0x54]) && decide (fieldAt b 4 2 = 1) && decide (fieldAt b 6 1 ≤ 1)
    && decide (fieldAt b 7 1 = s.group.set.deviceId + s.group.set.side * 128) && decide (fieldAt b 20 2 ≤ 256)
    && decide (fieldAt b 22 2 ≤ 256) && decide (fieldAt b 24 1 ≤ 64) && zeroAt b 25 3 && zeroAt b 40 20
    && decide (fieldAt b 60 4 = crc32c (b.take 60 ++ b.drop 64))

/-- The recipe an image's record names, among those loaded. -/
def State.imageRecipe (s : State) (b : Bytes) : Option Nat :=
  (s.plan.recipes.find? (fun x => decide (sha256 x.2 = sliceAt (imageRecord b) 56 32))).map (fun x => x.1)

/-- The record this member would now hold: the image's recipe and plan in force (R437 step 3). -/
def State.wouldHold (s : State) (b : Bytes) : Bytes :=
  let recipe := match s.imageRecipe b with | some h => sha256 (s.recipeBytes h) | none => natLe 32 0
  ({ s.detNow 0 with recipe := recipe, plan := sha256 (sliceAt b 320 (fieldAt b 28 4)) }).bytes

/-- The byte offset of the first matching field that differs (R424, R437 step 3): every field but DATAPATH_REV, FW_VERSION,
FROM_STEP and DISABLED_MAP_DIGEST; a record of fast mode matches none. -/
def recordMismatch (old new : Bytes) : Option Nat :=
  let fields : List (Nat × Nat) := [(0, 2), (2, 1), (24, 32), (56, 32), (88, 32), (120, 32), (152, 32), (216, 32), (248, 8)]
  (fields.find? (fun f => decide (sliceAt old f.1 f.2 ≠ sliceAt new f.1 f.2) || (decide (f.1 = 2) && decide (fieldAt old 2 1 ≠ 0)))).map
    (fun f => f.1)

/-- A light image no longer matches the live stores (R434). -/
def State.lightStale (s : State) (b : Bytes) : Bool :=
  !s.det.lights.contains (fieldAt b 60 4) || (imageResiduals b).any (fun e => match s.store? (fieldAt e 0 1) with
    | some x => decide (x.lastStep ≠ fieldAt e 16 8)
    | none => true)

/-- A full image's handle is held (R437 step 5). -/
def State.fullHeld (s : State) (b : Bytes) : Bool := (imageResiduals b).any (fun e => (s.store? (fieldAt e 0 1)).isSome)

/-- A full image's contents fail CONTENT_CRC. -/
def fullBroken (b : Bytes) : Bool :=
  (imageResiduals b).any (fun e => decide (crc32c (sliceAt b (fieldAt e 40 8) (2 * fieldAt e 8 8)) ≠ fieldAt e 48 4))

/-- The plan or recipe an event entry needs, among those loaded. -/
def State.eventItem (s : State) (e : Nat × Nat × Bytes) : Option Nat :=
  if e.1 = 2 then (s.plan.plans.find? (fun p => decide (p.2.digest = e.2.2))).map (fun p => p.1)
  else if e.1 = 3 then (s.plan.recipes.find? (fun x => decide (sha256 x.2 = e.2.2))).map (fun x => x.1)
  else some 0

/-- The checks of R437 on this member, from step 2 on. -/
def State.resumeCheck (s : State) (flags : Nat) (image : Option Bytes) : List (Bool × Reject) :=
  let me := s.group.set.deviceId
  match image with
  | none => [(true, ⟨.checkpointInvalid, me⟩)]
  | some b =>
    let differs := recordMismatch (imageRecord b) (s.wouldHold b)
    let light : Bool := decide (fieldAt b 6 1 = 0)
    [(!s.imageOk b, ⟨.checkpointInvalid, me⟩), (differs.isSome, ⟨.detMismatch, me + differs.getD 0 * 2 ^ 8⟩),
     (decide (fieldAt (imageRecord b) 4 4 ≠ s.nor.fw.datapathRev) && !bitOf flags 0, ⟨.detMismatch, me + 4 * 2 ^ 8⟩),
     (light && s.lightStale b, ⟨.checkpointStale, 0⟩), (!light && s.fullHeld b, ⟨.inUse, 0⟩), (!light && fullBroken b, ⟨.checkpointInvalid, 0⟩),
     ((imageEvents b).any (fun e => (s.eventItem e).isNone), ⟨.notFound, 0⟩)]
      ++ s.ringChecks (imagePlan b) ((s.imageRecipe b).getD 0)
      ++ [((freeHandle (s.plan.plans.map (fun x => x.1)) 16).isNone, ⟨.inUse, 0⟩)]

/-- Recreate a full image's store with its key and contents (R438 step 1). -/
def State.recreateStore (s : State) (b e : Bytes) : State :=
  let elems := fieldAt e 8 8
  match s.residualPlace (2 * elems) with
  | none => s
  | some base =>
    let key := if fieldAt e 1 1 = 0 then none else some (sliceAt e 24 8, fieldAt e 1 1, fieldAt e 32 8, fieldAt e 4 4)
    let s := s.createStore (fieldAt e 0 1) elems base
    let x : Residual := { handle := fieldAt e 0 1, base := base, elems := elems, key := key, lastStep := fieldAt e 16 8 }
    (s.setStore x).memWrite base (sliceAt b (fieldAt e 40 8) (2 * elems))

/-- Arm an event entry again (R438 step 1). -/
def State.rearm (s : State) (e : Nat × Nat × Bytes) : State :=
  let kind : EventKind := if e.1 = 1 then .epochRollover else if e.1 = 2 then .planChange else .recipeChange
  let n := s.gauge.lastHandle % (2 ^ 32 - 1) + 1
  let ev : ArmedEvent := { handle := n, kind := kind, target := ⟨e.2.1, 0⟩, item := (s.eventItem e).getD 0 }
  { s with gauge := { s.gauge with armed := s.gauge.armed ++ [ev], lastHandle := n } }

/-- Prepare a carried sample again from its position: it heads the first candidate list (R303, R438 step 2). -/
def State.resumeSample (s : State) (p : Plan) (recipe d : Nat) (c : Nat × Nat × Nat) : State :=
  let x : Sample := { id := s.pipe.nextId, step := c.1, dest := d, k := c.2.1, attempt := c.2.2, epoch := p.epochOf c.1
                      position := p.positionOf c.1 d c.2.1, recipe := recipe, resumed := true
                      stage := s.stageOfPort (p.dests.getD d ⟨0, 0, 0⟩).port }
  (s.setPipe { s.pipe with samples := s.pipe.samples ++ [x], nextId := s.pipe.nextId + 1 }).issueRead x

/-- What each member performs once the checks pass (R438): the window is rebuilt from the steps before s (R263). -/
def State.resumeHere (s : State) (b : Bytes) : State :=
  let p := imagePlan b
  let step := fieldAt b 8 8
  let g : Gauge := ⟨step, 0⟩
  let h := (freeHandle (s.plan.plans.map (fun x => x.1)) 16).getD 0
  let recipe := (s.imageRecipe b).getD 0
  let window := match filterSection? (s.recipeBytes recipe) with
    | some f => if bitOf f.dupMode 0 then f.window else 0
    | none => 0
  let first := max p.startStep (step - window)
  let s := { s with plan := { s.plan with plans := s.plan.plans ++ [(h, p)], startGauge := g } }
  let s := (s.startJob g).runPlan h p recipe first
  let s := { s with gauge := { s.gauge with epoch := fieldAt b 16 4 } }
  let s := (imageEvents b).foldl State.rearm s
  let s := if fieldAt b 6 1 = 1 then (imageResiduals b).foldl (fun s e => s.recreateStore b e) s else s
  let s := (imageCarries b).foldl (fun s q => q.2.foldl (fun s c => s.resumeSample p recipe q.1 c) s) s
  s.issueRecord step

/-- CHECKPOINT_RESUME (R77, R437, R438): IN_PROGRESS until the first Weir opens. A member carries it out on MB5; the manager
resumes when every member has. -/
def execCheckpointResume (r : Req) (flags place address : Nat) (s : State) : Out :=
  let image := s.readImage place address
  let check := firstReject ([s.notManager r, (decide (1 < place), badParam 0), (decide (1 < flags), badParam 16),
    (s.plan.active.isSome, ⟨.inUse, 0⟩), (decide (r.mb ≠ 5) && s.weirBusy, ⟨.weirBusy, 0⟩)] ++ s.resumeCheck flags image)
  let b := image.getD []
  let g : Gauge := ⟨fieldAt b 8 8, 0⟩
  let digest : Bytes := natLe 1 place ++ natLe 8 address ++ natLe 1 flags
  let effect : State :=
    if r.mb = 5 then ((s.resumeHere b).firstWeir r g).answer r 0x0434 .ok
    else if s.audience.isEmpty then
      let s := (s.answerInProgress r 0x0434 []).resumeHere b
      { (s.firstWeir r g) with det := { (s.firstWeir r g).det with resumeWaiter := some r } }
    else
      (s.answerInProgress r 0x0434 []).distribute r 0x0434 (.command 0x0434 (sha256 digest)) (.resume r place address)
  .next (s.finish r 0x0434 check effect)

end Sys2Proof.Machine
end

