-- ==== Sys2Proof/Machine/Switch.lean ====
section
/-! DEFINITION. Confluence and its scheduler (chapter 16): forwarding, policing, admission, resequencing, scheduling,
the audit, gates, and the switch commands. PORT_CONFIG and PORT_LINK_CHANGE are in `Ports`. -/

namespace Sys2Proof.Machine

/-! ### Drops and counters (R467, R612) -/

/-- Count a drop of a reason at a port (R467). -/
def State.drop (s : State) (port reason : Nat) : State := s.count (.port port (7 + reason))

/-- Change one port. -/
def State.setPort (s : State) (p : Port) : State :=
  { s with switch := { s.switch with
      ports := updateFirst (fun x => decide (x.logical = p.logical)) (fun _ => p) s.switch.ports } }

/-- Cells of a frame: its length over 256 bytes, rounded up (R456). -/
def cellsOf (length : Nat) : Nat := (length + 255) / 256

/-! ### Token buckets (R454, R455) -/

/-- One byte in the unit of a bucket's level. -/
def State.byteUnit (s : State) : Nat := 800 * s.fuse.clockBin

/-- A bucket brought to the present: tokens accrue at RATE up to BURST (R454). -/
def State.refreshBucket (s : State) (b : Bucket) : Bucket :=
  { b with level := min (b.level + b.rate * (s.now - b.at_) : Int) (b.burst * s.byteUnit : Nat), at_ := s.now }

/-- A bucket lets a frame start: no shaping, or a level at 0 or above (R454). -/
def State.bucketReady (s : State) (b : Bucket) : Bool :=
  decide (b.rate = 0) || decide (0 ≤ (s.refreshBucket b).level)

/-- Charge a started frame to a bucket (R454). -/
def State.chargeBucket (s : State) (b : Bucket) (bytes : Nat) : Bucket :=
  if b.rate = 0 then b
  else
    let b := s.refreshBucket b
    { b with level := b.level - (bytes * s.byteUnit : Nat) }

/-! ### Classification and policing (R452, R455) -/

/-- Frame colours: 0 green, 1 yellow, 2 red. -/
abbrev Colour := Nat

/-- The traffic class of a received frame (R452). -/
def classOf (p : Port) (f : Frame) : Nat :=
  match p.trust, f.tag, f.ip with
  | 1, some (_, pcp, _), _ => p.maps.pcp.getD pcp p.defaultTc
  | 2, _, some (dscp, _) => p.maps.dscp.getD dscp p.defaultTc
  | _, _, _ => p.defaultTc

/-- The pre-colour of a frame (R455). -/
def preColour (p : Port) (f : Frame) : Colour :=
  match f.tag with
  | some (_, pcp, dei) => p.maps.colour.getD (2 * pcp + dei.toNat) 0
  | none => p.maps.colour.getD 0 0

/-- A policer's buckets at the present FCLK cycle (R455): srTCM fills the excess bucket from what the committed one
cannot take (RFC 2697), trTCM fills both at their own rates (RFC 2698). -/
def State.refreshPolicer (s : State) (x : Policer) : Policer :=
  let dt := 2 * (s.fclk - x.at_)
  let u := s.byteUnit
  let cbs : Int := x.params.cbs * u
  let ebs : Int := x.params.ebs * u
  let addC : Int := x.params.cir * dt
  let c := min cbs (x.c + addC)
  let e := if x.params.mode = 0 then min ebs (x.e + (addC - (c - x.c))) else min ebs (x.e + (x.params.pir * dt : Nat))
  { x with c := c, e := e, at_ := s.fclk }

/-- Meter a frame of `bytes` with a pre-colour (RFC 2697, RFC 2698): its colour and the policer after it. -/
def State.meter (s : State) (x : Policer) (bytes : Nat) (pre : Colour) : Colour × Policer :=
  let x := s.refreshPolicer x
  let b : Int := bytes * s.byteUnit
  let pre := if x.params.aware = 1 then pre else 0
  if x.params.mode = 0 then
    if pre = 0 ∧ b ≤ x.c then (0, { x with c := x.c - b })
    else if pre ≤ 1 ∧ b ≤ x.e then (1, { x with e := x.e - b })
    else (2, x)
  else
    if pre = 2 ∨ x.e < b then (2, x)
    else if pre = 1 ∨ x.c < b then (1, { x with e := x.e - b })
    else (0, { x with c := x.c - b, e := x.e - b })

/-- Police a frame of an (ingress port, class) pair (R455): its colour, whether DEI is set, and the state. -/
def State.police (s : State) (port cls : Nat) (bytes : Nat) (pre : Colour) : Colour × Bool × State :=
  match s.switch.policers.find? (fun x => x.params.assign.contains (port, cls)) with
  | none => (0, false, s)
  | some x =>
    let (colour, y) := s.meter x bytes pre
    let s := { s with switch := { s.switch with
      policers := updateFirst (fun z => decide (z.num = x.num)) (fun _ => y) s.switch.policers } }
    (colour, decide (colour = 1) && decide (x.params.markDei = 1), s)

/-! ### Lookup (R449 to R451) -/

/-- The endpoint entry of a (VLAN, destination MAC) key (R449). -/
def State.endpoint? (s : State) (f : Frame) : Option Endpoint :=
  let vlan := match f.tag with | some (v, _, _) => v | none => 0
  (s.switch.endpoints.find? (fun e => decide (e.2.mac = f.dst) && decide (e.2.vlan = vlan) && decide (e.2.kind ≠ 0))).map (·.2)

/-- The kind of the port a frame came in on; internal ports 256 to 260 have none (R451). -/
def State.ingressKind (s : State) (port : Nat) : Option PortKind := (s.port? port).map (·.kind)

/-- Split horizon (R450): may a frame from this ingress leave on this kind of port. -/
def mayLeave (ingress : Option PortKind) (egress : PortKind) : Bool :=
  match egress with
  | .ringIn | .ringOut => false
  | .accel | .plain => true
  | .mesh => decide (ingress ≠ some .mesh)
  | .twin => decide (ingress ≠ some .mesh) && decide (ingress ≠ some .twin)

/-- The mesh port index that reaches device `d` from device `i` (R49). -/
def meshIndex (i d : Nat) : Nat := if d < i then d else d - 1

/-- The port of a type and index. -/
def State.portOf (s : State) (k : PortKind) (index : Nat) : Option Port :=
  s.switch.ports.find? (fun p => decide (p.kind = k) && decide (p.index = index))

/-- The twin ports that are up, in ascending index (R450). -/
def State.twinPorts (s : State) : List Port :=
  (List.range 4).filterMap (fun n => (s.portOf .twin n).filter (·.up))

/-- h of R450: CRC-32C over destination MAC, source MAC and UDP source port in wire order. -/
def frameHash (f : Frame) : Nat :=
  crc32c (natBe 6 f.dst ++ natBe 6 f.src ++ (match f.udp with | some (sp, _) => natBe 2 sp | none => []))

/-- Where a unicast frame leaves (R450): a port, or a drop reason with the port it counts at. -/
def State.unicastPort (s : State) (ingress : Nat) (f : Frame) (e : Endpoint) : Sum Port (Nat × Nat) :=
  let dev := e.location % 128
  let side := e.location / 128
  let me := s.group.set
  let found : Sum Port (Nat × Nat) :=
    if side = me.side ∧ dev = me.deviceId then
      match s.port? (e.target % 256) with
      | some p => if p.kind = .accel ∨ p.kind = .plain then .inl p else .inr (ingress, 5)
      | none => .inr (ingress, 5)
    else if side = me.side then
      match s.portOf .mesh (meshIndex me.deviceId dev) with
      | some p => .inl p
      | none => .inr (ingress, 5)
    else
      let up := s.twinPorts
      match up[frameHash f % up.length]? with
      | some p => .inl p
      | none => .inr (ingress, 5)
  match found with
  | .inr d => .inr d
  | .inl p =>
    if !mayLeave (s.ingressKind ingress) p.kind then .inr (ingress, 6)
    else if !p.up then .inr (p.logical, 10)
    else .inl p

/-! ### Admission (R456 to R458) -/

/-- An egress queue's depth in cells: what is queued, held or in transit to it (R456). -/
def State.depth (s : State) (port queue : Nat) : Nat :=
  let q := match s.port? port with
    | some p => ((p.queues.getD queue {}).frames.map (fun f => cellsOf f.length)).sum
    | none => 0
  let here (x : Stamped) : Bool := decide (x.egress = port) && decide (x.queue = queue)
  q + (((s.switch.transit ++ s.switch.held).filter here).map (fun x => cellsOf x.frame.length)).sum

/-- F of R456: free cells not held by any queue's unused MIN_CELLS. -/
def State.freeShared (s : State) : Nat :=
  let unused (p : Port) (q : Nat) : Nat := (p.queues.getD q {}).params.minCells - s.depth p.logical q
  s.switch.freeCells.sum - (s.switch.ports.map (fun p => ((List.range 16).map (unused p)).sum)).sum

/-- R456: admitted for a frame of `c` cells and a colour. -/
def State.admits (s : State) (port queue c : Nat) (colour : Colour) : Bool :=
  match s.port? port with
  | none => false
  | some p =>
    let k := (p.queues.getD queue {}).params
    let d := s.depth port queue
    let f := s.freeShared
    let limit := min k.maxCells (f * 2 ^ k.alpha / 64)
    let limit := if colour = 1 then limit * k.yellowPct / 100 else limit
    decide (d + c ≤ k.minCells) || (decide (d + c ≤ limit) && decide (c ≤ f))

/-- CE is set on an ECT frame admitted at a depth of at least MARK_CELLS (R456). -/
def State.marks (s : State) (port queue : Nat) (f : Frame) : Bool :=
  match s.port? port, f.ip with
  | some p, some (_, ecn) =>
    let k := (p.queues.getD queue {}).params
    decide (0 < k.markCells) && decide (k.markCells ≤ s.depth port queue) && (decide (ecn = 1) || decide (ecn = 2))
  | _, _ => false

/-- The plane of a unicast frame: the most free cells, the lower number on a tie (R457). -/
def freestPlane (free : List Nat) : Nat :=
  let m := maxD free 0
  (free.findIdx (fun x => decide (x = m)))

/-- Store a frame in a plane with its number of copies (R457, R461); its identity is the next one. -/
def State.store (s : State) (plane ingress copies length : Nat) : State :=
  let c := cellsOf length
  let x : Stored := ⟨s.switch.nextFrame, plane, c, ingress, copies, length⟩
  { s with switch := { s.switch with
      stored := s.switch.stored ++ [x], nextFrame := s.switch.nextFrame + 1,
      freeCells := s.switch.freeCells.modify plane (· - c) } }

/-- A copy of a stored frame has left or was dropped: at count 0 its cells return to the free list (R461). -/
def State.leave (s : State) (id : Nat) : State :=
  match s.switch.stored.find? (fun x => decide (x.id = id)) with
  | none => s
  | some x =>
    if x.copies ≤ 1 then
      { s with switch := { s.switch with
          stored := s.switch.stored.filter (fun y => decide (y.id ≠ id)),
          freeCells := s.switch.freeCells.modify x.plane (· + x.cells) } }
    else
      { s with switch := { s.switch with
          stored := updateFirst (fun y => decide (y.id = id)) (fun y => { y with copies := y.copies - 1 }) s.switch.stored } }

/-- Append a frame to an egress queue. -/
def State.queueFrame (s : State) (port queue : Nat) (f : QFrame) : State :=
  match s.port? port with
  | none => s
  | some p => s.setPort { p with queues := p.queues.modify queue (fun q => { q with frames := q.frames ++ [f] }) }

/-- Stamp an admitted unicast frame of a pair into transit; past 512 in transit it waits at ingress (R458). -/
def State.stamp (s : State) (ingress egress queue : Nat) (f : QFrame) : State :=
  let pair := (ingress, egress)
  let n := lookupD s.switch.nextStamp pair 0
  if 512 ≤ (s.switch.transit.filter (fun x => decide ((x.ingress, x.egress) = pair))).length then
    { s with switch := { s.switch with waiting := s.switch.waiting ++ [(ingress, egress, queue, f)] } }
  else
    { s with switch := { s.switch with
        nextStamp := assign s.switch.nextStamp pair ((n + 1) % 2 ^ 16),
        transit := s.switch.transit ++ [{ ingress := ingress, egress := egress, number := n, queue := queue, frame := f }] } }

/-- Admit a unicast frame to a port's queue (R456 to R458): a received frame that is not admitted is dropped as
QUEUE_FULL; an internal port's waits until it can be. -/
def State.admitUnicast (s : State) (ingress : Nat) (p : Port) (queue : Nat) (colour : Colour) (dei : Bool)
    (f : Frame) (channel : Option Nat) : State :=
  let c := cellsOf f.length
  let plane := freestPlane s.switch.freeCells
  let ce := s.marks p.logical queue f
  let q : QFrame := { id := s.switch.nextFrame, length := f.length, channel := channel, ce := ce, dei := dei }
  if s.admits p.logical queue c colour ∧ c ≤ s.switch.freeCells.getD plane 0 then
    let s := if ce then s.count (.port p.logical 4) else s
    (s.store plane ingress 1 f.length).stamp ingress p.logical queue q
  else if 256 ≤ ingress then
    { s with switch := { s.switch with nextFrame := s.switch.nextFrame + 1,
                                       waiting := s.switch.waiting ++ [(ingress, p.logical, queue, q)] } }
  else s.drop p.logical 8

/-- Present the frames that wait at ingress again, each where it can be admitted (R456, R458). -/
def State.retryWaiting (s : State) : List (Nat × Nat × Nat × QFrame) → State
  | [] => s
  | (ingress, egress, queue, f) :: rest =>
    let known := s.switch.stored.any (fun x => decide (x.id = f.id))
    let c := cellsOf f.length
    let plane := freestPlane s.switch.freeCells
    if known then (s.stamp ingress egress queue f).retryWaiting rest
    else if s.admits egress queue c 0 ∧ c ≤ s.switch.freeCells.getD plane 0 then
      let x : Stored := ⟨f.id, plane, c, ingress, 1, f.length⟩
      let s := { s with switch := { s.switch with stored := s.switch.stored ++ [x],
                                                  freeCells := s.switch.freeCells.modify plane (· - c) } }
      (s.stamp ingress egress queue f).retryWaiting rest
    else
      ({ s with switch := { s.switch with
          waiting := s.switch.waiting ++ [(ingress, egress, queue, f)] } }).retryWaiting rest

/-- Retry every frame that waits at ingress. -/
def State.retryAll (s : State) : State :=
  let w := s.switch.waiting
  ({ s with switch := { s.switch with waiting := [] } }).retryWaiting w

/-- A frame this device originates (R451, R452): it enters through an internal port, with its origin and class, for a
port, and is never dropped for depth. -/
def State.originate (s : State) (internal origin cls port length : Nat) (channel : Option Nat := none) : State :=
  match s.port? port with
  | none => s
  | some p =>
    if !p.up then s.drop port 10
    else s.admitUnicast internal p (p.maps.queue.getD (8 * origin + cls) cls) 0 false
      { length := length, ip := some (0, 2) } channel

/-! ### Multicast (R451, R461) -/

/-- The ports of a bitmap a multicast frame may leave on: not the ingress port, and as split horizon permits. -/
def State.mcastTargets (s : State) (ingress : Nat) (bitmap : BitVec 256) : List Port :=
  s.switch.ports.filter (fun p => bitmap.getLsbD p.logical && decide (p.logical ≠ ingress)
    && mayLeave (s.ingressKind ingress) p.kind)

/-- A target port is ready for a multicast copy (R461 step 1). -/
def State.mcastReady (s : State) (ingress : Nat) (p : Port) (queue c : Nat) (colour : Colour) : Bool :=
  s.admits p.logical queue c colour
    && !s.switch.residue.any (fun x => decide (x.ingress = ingress) && x.waiting.any (fun w => decide (w.1 = p.logical)))

/-- Admit a multicast frame (R451, R456, R457, R461): stored once in plane p mod 4; ready ports take their copy,
unready ones form one residue entry, and with the residue queue full they lose it. -/
def State.admitMulticast (s : State) (ingress cls : Nat) (colour : Colour) (dei : Bool) (f : Frame)
    (bitmap : BitVec 256) : State :=
  let c := cellsOf f.length
  let plane := ingress % 4
  let targets := s.mcastTargets ingress bitmap
  let down := targets.filter (fun p => !p.up)
  let up := targets.filter (fun p => p.up)
  let queueOf (p : Port) : Nat := p.maps.queue.getD cls cls
  let ready := up.filter (fun p => s.mcastReady ingress p (queueOf p) c colour)
  let unready := up.filter (fun p => !s.mcastReady ingress p (queueOf p) c colour)
  let full := decide (4096 ≤ (s.switch.residue.filter (fun x => decide (x.plane = plane))).length)
  let q : QFrame := { id := s.switch.nextFrame, length := f.length, dei := dei }
  let s := down.foldl (fun s p => s.drop p.logical 10) s
  let s := if full then unready.foldl (fun s p => s.drop p.logical 9) s else s
  let keep := if full then [] else unready.map (fun p => (p.logical, queueOf p))
  let copies := ready.length + keep.length
  if copies = 0 then s
  else if s.switch.freeCells.getD plane 0 < c then (ready ++ unready).foldl (fun s p => s.drop p.logical 8) s
  else
    let marks := ready.map (fun p => (p, s.marks p.logical (queueOf p) f))
    let s := s.store plane ingress copies f.length
    let s := marks.foldl (fun s m =>
      let s := if m.2 then s.count (.port m.1.logical 4) else s
      s.queueFrame m.1.logical (queueOf m.1) { q with ce := m.2 }) s
    if keep.isEmpty then s
    else { s with switch := { s.switch with residue := s.switch.residue ++ [⟨q.id, plane, ingress, keep, q⟩] } }

/-- RESIDUE_RETRY (R461 step 3): a port that has become ready takes, in residue-queue order, the copies that wait for
it. -/
def State.retryResidue (s : State) (port : Nat) : List Residue → State
  | [] => s
  | x :: rest =>
    match x.waiting.find? (fun w => decide (w.1 = port)) with
    | none => ({ s with switch := { s.switch with residue := s.switch.residue ++ [x] } }).retryResidue port rest
    | some (_, queue) =>
      let earlier := s.switch.residue.any (fun y => decide (y.ingress = x.ingress) && y.waiting.any (fun w => decide (w.1 = port)))
      if s.admits port queue (cellsOf x.frame.length) 0 ∧ !earlier then
        let left := x.waiting.filter (fun w => decide (w.1 ≠ port))
        let s := s.queueFrame port queue x.frame
        let s := if left.isEmpty then s
          else { s with switch := { s.switch with residue := s.switch.residue ++ [{ x with waiting := left }] } }
        s.retryResidue port rest
      else ({ s with switch := { s.switch with residue := s.switch.residue ++ [x] } }).retryResidue port rest

/-- RESIDUE_RETRY (R461). -/
def execResidueRetry (port : Nat) (s : State) : Out :=
  let w := s.switch.residue
  .next (({ s with switch := { s.switch with residue := [] } }).retryResidue port w)

/-! ### Receiving a frame (R448) -/

/-- Steps 8 to 10 of R448 for a switched frame. -/
def State.forwardFrame (s : State) (p : Port) (f : Frame) : State :=
  let cls := classOf p f
  let (colour, dei, s) := s.police p.logical cls f.length (preColour p f)
  if colour = 2 then s.drop p.logical 7
  else match s.endpoint? f with
    | none => s.drop p.logical 5
    | some e =>
      if e.kind = 1 then
        match s.unicastPort p.logical f e with
        | .inr (at_, reason) => s.drop at_ reason
        | .inl out => s.admitUnicast p.logical out (out.maps.queue.getD cls cls) colour dei f none
      else
        let bitmap := lookupD s.switch.groups (e.target % 4096) 0
        s.admitMulticast p.logical cls colour dei f bitmap

/-- FRAME_RECEIVE (R448): the first step that ends the frame decides it. Nothing is received on a port that is not
configured or is down. -/
def execFrameReceive (port : Nat) (frame : Frame) (s : State) : Out :=
  match s.port? port with
  | none => .next s
  | some p =>
    if !p.up then .next s
    else if !frame.fcsOk then .next (s.setPort { p with fcsErrors := p.fcsErrors + 1 })
    else
      let s := (s.count (.port port 0)).count (.port port 2) frame.length
      let ring := decide (p.kind = .ringIn) || decide (p.kind = .ringOut)
      if p.mtu < frame.length then .next (s.drop port 1)
      else if ring then
        .next (if frame.ringPiece then { s with switch := { s.switch with toRing := s.switch.toRing + 1 } } else s.drop port 2)
      else if frame.etherType = 0x88B5 then
        if p.kind = .accel then
          .next (({ s with switch := { s.switch with toGauge := s.switch.toGauge + 1 } }).takeGaugeFrame port frame.payload)
        else .next (s.drop port 3)
      else if frame.etherType = 0x8808 then .next (s.drop port 4)
      else if frame.dst = s.rdma.mac then
        if (frame.udp.map (·.2)) = some 4791 then
          .next { s with switch := { s.switch with toRdma := s.switch.toRdma + 1 } }
        else .next (s.drop port 5)
      else .next (s.forwardFrame p frame)

/-! ### Resequencing (R459) -/

/-- The lowest held number of a pair, counted from the expected number, with its frame (R459). -/
def nearestHeld (held : List Stamped) (ingress egress e : Nat) : Option Stamped :=
  let mine := held.filter (fun x => decide (x.ingress = ingress) && decide (x.egress = egress))
  let dist (x : Stamped) : Nat := (x.number + 2 ^ 16 - e) % 2 ^ 16
  match mine with
  | [] => none
  | x :: xs => some (xs.foldl (fun b y => if dist y < dist b then y else b) x)

/-- Release a frame to its queue and advance the expected number (R459). -/
def State.releaseStamped (s : State) (x : Stamped) : State :=
  let s := { s with switch := { s.switch with
    expected := assign s.switch.expected (x.ingress, x.egress) ((x.number + 1) % 2 ^ 16) } }
  s.queueFrame x.egress x.queue x.frame

/-- Release every held successor of a pair that is in sequence, by fuel over the held frames (R459). -/
def State.releaseRun (s : State) (ingress egress : Nat) : Nat → State
  | 0 => s
  | n + 1 =>
    let e := lookupD s.switch.expected (ingress, egress) 0
    match s.switch.held.find? (fun x => decide (x.ingress = ingress) && decide (x.egress = egress) && decide (x.number = e)) with
    | none => s
    | some x =>
      (({ s with switch := { s.switch with held := s.switch.held.erase x } }).releaseStamped x).releaseRun ingress egress n

/-- Skip the gap of the oldest held pair of a port: e becomes its lowest held number (R459). -/
def State.skipGap (s : State) (egress : Nat) : State :=
  match s.switch.held.filter (fun x => decide (x.egress = egress)) with
  | [] => s
  | x :: xs =>
    let oldest := xs.foldl (fun b y => if y.since < b.since then y else b) x
    let e := lookupD s.switch.expected (oldest.ingress, egress) 0
    match nearestHeld s.switch.held oldest.ingress egress e with
    | none => s
    | some y =>
      let s := { s with switch := { s.switch with
        gaps := s.switch.gaps + 1, expected := assign s.switch.expected (oldest.ingress, egress) y.number } }
      s.releaseRun oldest.ingress egress s.switch.held.length

/-- Handle a stamped frame at its resequencer (R459). -/
def State.resequence (s : State) (x : Stamped) : State :=
  let e := lookupD s.switch.expected (x.ingress, x.egress) 0
  match serialCmp x.number e 16 with
  | .equal => (s.releaseStamped x).releaseRun x.ingress x.egress s.switch.held.length
  | .after =>
    let s := if 4096 ≤ (s.switch.held.filter (fun y => decide (y.egress = x.egress))).length then s.skipGap x.egress else s
    { s with switch := { s.switch with held := s.switch.held ++ [{ x with since := s.fclk }] } }
  | _ => (s.drop x.egress 11).leave x.frame.id

/-- RESEQ_ARRIVAL (R459): a stamped frame in transit reaches its egress resequencer; one that its plane loses to an
uncorrectable ECC error is counted as PLANE_ECC and leaves a gap. Frames that waited for room in transit follow. -/
def execReseqArrival (ingress egress number : Nat) (eccError : Bool) (s : State) : Out :=
  match s.switch.transit.find? (fun x => decide (x.ingress = ingress) && decide (x.egress = egress)
      && decide (x.number = number)) with
  | none => .next s
  | some x =>
    let s := { s with switch := { s.switch with transit := s.switch.transit.erase x } }
    .next ((if eccError then (s.drop ingress 12).leave x.frame.id else s.resequence x).retryAll)

/-- RESEQ_HOLD_TIMEOUT (R459). -/
def execReseqHoldTimeout (egress : Nat) (s : State) : Out := .next (s.skipGap egress)

/-! ### The scheduler (R414, R453, R454, R466) -/

/-- One candidate of a deficit round robin: its number, quantum, deficit and next frame's length. -/
structure Turn where
  id : Nat
  quantum : Nat
  deficit : Nat
  next : Nat
  deriving DecidableEq, Repr

/-- The candidate visited after `cur`: the next higher number, else the lowest. -/
def nextTurn (l : List Turn) (cur : Nat) : Option Nat :=
  match (l.filter (fun t => decide (cur < t.id))).map (·.id) |>.min? with
  | some i => some i
  | none => (l.map (·.id)).min?

/-- Weighted deficit round robin (R414): the visited candidate sends while its deficit covers its next frame; otherwise
the next one is visited and gains its quantum. Answers the sender and every candidate's deficit, the sender's charged. -/
def deficitRobin : Nat → List Turn → Nat → Option (Nat × List (Nat × Nat))
  | 0, _, _ => none
  | fuel + 1, l, cur =>
    match l.find? (fun t => decide (t.id = cur) && decide (t.next ≤ t.deficit)) with
    | some t => some (cur, l.map (fun u => (u.id, if u.id = cur then u.deficit - t.next else u.deficit)))
    | none =>
      match nextTurn l cur with
      | none => none
      | some i =>
        deficitRobin fuel (l.map (fun t => if t.id = i then { t with deficit := t.deficit + t.quantum } else t)) i

/-- The frame a queue sends next: with collective traffic, the channel rotation of R414 picks among the channels; else
the oldest. Answers the frame and the state with the rotation moved. -/
def State.pickFrame (s : State) (port queue : Nat) (frames : List QFrame) : Option (QFrame × State) :=
  let channels := (frames.filterMap (fun f => f.channel)).eraseDups
  match frames with
  | [] => none
  | first :: _ =>
    if channels.isEmpty then some (first, s)
    else
      let head (c : Nat) : QFrame := (frames.find? (fun f => decide (f.channel = some c))).getD first
      let turns := channels.map (fun c => (⟨c, 256 * lookupD s.switch.channelWeight c 16,
        lookupD s.switch.channelDeficit (port, c) 0, (head c).length⟩ : Turn))
      match deficitRobin 4096 turns (lookupD s.switch.channelTurn (port, queue) 0) with
      | none => some (first, s)
      | some (c, ds) =>
        let last := decide ((frames.filter (fun f => decide (f.channel = some c))).length = 1)
        let put (m : List ((Nat × Nat) × Nat)) (d : Nat × Nat) := assign m (port, d.1) (if d.1 = c && last then 0 else d.2)
        some (head c, { s with switch := { s.switch with
          channelTurn := assign s.switch.channelTurn (port, queue) c,
          channelDeficit := ds.foldl put s.switch.channelDeficit } })

/-- The queues that may send (R453): a released frame, an open gate, and shapers not negative. -/
def State.eligible (s : State) (p : Port) : List Nat :=
  (List.range 16).filter (fun i =>
    let q := p.queues.getD i {}
    !q.frames.isEmpty && p.openMask.getLsbD i && s.bucketReady q.shaper && s.bucketReady p.shaper)

/-- The sender and the deficits of the highest eligible PRIO (R453). -/
def State.schedule (s : State) (p : Port) : Option (Nat × List (Nat × Nat) × Nat) :=
  let el := s.eligible p
  let prio := maxD (el.map (fun i => (p.queues.getD i {}).params.prio)) 0
  let level := el.filter (fun i => decide ((p.queues.getD i {}).params.prio = prio))
  let turns := level.map (fun i =>
    let q := p.queues.getD i {}
    (⟨i, 256 * q.params.weight, q.deficit, (q.frames.head?.map (·.length)).getD 0⟩ : Turn))
  (deficitRobin 1024 turns (p.turns.getD prio 15)).map (fun r => (r.1, r.2, prio))

/-- Start a frame of a queue (R453, R454, R461): buckets are charged, the copy leaves, its cells return with the last
copy, and a queue that empties loses its deficit. -/
def State.startFrame (s : State) (p : Port) (i : Nat) (ds : List (Nat × Nat)) (prio : Nat) : State :=
  match s.pickFrame p.logical i (p.queues.getD i {}).frames with
  | none => s
  | some (f, s) =>
    let bytes := f.length + p.overhead
    let queues := ds.foldl (fun qs d => qs.modify d.1 (fun q => { q with deficit := d.2 })) p.queues
    let queues := queues.modify i (fun q =>
      let rest := q.frames.erase f
      { q with frames := rest, shaper := s.chargeBucket q.shaper bytes, deficit := if rest.isEmpty then 0 else q.deficit })
    let s := s.setPort { p with queues := queues, shaper := s.chargeBucket p.shaper bytes, turns := p.turns.set prio i }
    let s := { s with switch := { s.switch with out := s.switch.out ++ [(p.logical, i, f.id, f.ce, f.dei)] } }
    ((s.count (.port p.logical 1)).count (.port p.logical 3) f.length).leave f.id

/-- EGRESS_SELECT (R41, R453, R466): the port starts the frame its scheduler picks; room it frees lets waiting frames
in. -/
def execEgressSelect (port : Nat) (s : State) : Out :=
  match s.port? port with
  | none => .next s
  | some p =>
    if !p.up then .next s
    else match s.schedule p with
      | none => .next s
      | some (i, ds, prio) => .next (s.startFrame p i ds prio).retryAll

/-! ### The leaked-buffer audit (R462) -/

/-- AUDIT_PASS (R462): cells found ownerless in two consecutive passes return to the free list; corrupt free-list
entries are removed. What a pass finds comes with the command. -/
def execAuditPass (ownerless corrupt : List (Nat × Nat)) (s : State) : Out :=
  let twice := ownerless.filter (fun c => s.switch.suspects.contains c)
  let free := twice.foldl (fun l c => l.modify c.1 (· + 1)) s.switch.freeCells
  let free := corrupt.foldl (fun l c => l.modify c.1 (· - 1)) free
  let s := { s with switch := { s.switch with
    freeCells := free, suspects := ownerless.filter (fun c => !s.switch.suspects.contains c),
    leaked := s.switch.leaked + twice.length, auditFaults := s.switch.auditFaults + corrupt.length } }
  let s := if twice.isEmpty || s.within s.switch.leakAt (s.seconds 1) then s
    else ({ s with switch := { s.switch with leakAt := some s.now } }).raise .bufferLeak twice.length
  .next (corrupt.foldl (fun s c => s.raise .bufferAuditFault c.1) s)

/-! ### Gates (R463 to R466) -/

/-- OPEN of a gate list at a Gauge (R465): the last entry at or before the cycle position, else the list's last. -/
def gateOpen (l : GateList) (origin : Nat) (g : Gauge) : Nat :=
  let o := ((g.step : Int) - origin).emod l.cycle |>.toNat
  let before := l.entries.filter (fun e => decide (e.1 < o) || (decide (e.1 = o) && decide (e.2.1 ≤ g.mark)))
  match before.getLast? with
  | some e => e.2.2
  | none => ((l.entries.getLast?).map (·.2.2)).getD 0xFFFF

/-- Bring a port's gates to a Gauge (R465). -/
def State.portGate (s : State) (g : Gauge) (p : Port) : Port :=
  match p.gate with
  | none => { p with openMask := 0xFFFF#16 }
  | some x =>
    match s.switch.gateLists.find? (fun l => decide (l.handle = x.handle)) with
    | none => p
    | some l => { p with openMask := BitVec.ofNat 16 (gateOpen l x.origin g) }

/-- Evaluate every port's gates at the device's view (R465). -/
def State.evalGates (s : State) : State :=
  { s with switch := { s.switch with ports := s.switch.ports.map (s.portGate s.gauge.committed) } }

/-- A gate list takes over its listed ports with an origin (R464). -/
def State.gateTakeover (s : State) (handle origin : Nat) : State :=
  match s.switch.gateLists.find? (fun l => decide (l.handle = handle)) with
  | none => s
  | some l =>
    let one (p : Port) : Port :=
      if l.ports.getLsbD p.logical then s.portGate s.gauge.committed { p with gate := some ⟨handle, origin⟩ } else p
    { s with switch := { s.switch with ports := s.switch.ports.map one } }

/-- The entries of a gate list structure (R463). -/
def gateEntries (bs : Bytes) (n : Nat) : List (Nat × Nat × Nat) :=
  (List.range n).map (fun k =>
    let e := fieldAt bs (48 + 4 * k) 4
    (bitsOf e 23 20, bitsOf e 19 16, bitsOf e 15 0))

/-- Offset of the first fault of a gate list (R463): VERSION, CYCLE_STEPS, ENTRY_COUNT, the reserved bytes, then each
entry's reserved byte, its STEP_OFFSET and its order. -/
def gateFault (bs : Bytes) : Option Nat :=
  let cycle := fieldAt bs 2 1
  let n := fieldAt bs 3 1
  let es := gateEntries bs n
  let bad (k : Nat) : Bool :=
    let e := es.getD k (0, 0, 0)
    let before := es.getD (k - 1) (0, 0, 0)
    decide (fieldAt bs (48 + 4 * k + 3) 1 ≠ 0) || decide (cycle ≤ e.1)
      || (decide (0 < k) && decide (16 * e.1 + e.2.1 ≤ 16 * before.1 + before.2.1))
  if fieldAt bs 0 2 ≠ 1 then some 0
  else if outside cycle 1 16 then some 2
  else if outside n 1 64 then some 3
  else match (List.range 12).find? (fun i => decide (fieldAt bs (4 + i) 1 ≠ 0)) with
    | some i => some (4 + i)
    | none => ((List.range n).find? bad).map (fun k => 48 + 4 * k)

/-- The checks of GATE_LIST_LOAD (R463, R468, R640). -/
def gateLoadCheck (r : Req) (handle : Nat) (bs : Bytes) (s : State) : Option Reject :=
  firstReject [s.notManager r,
    (decide (bs.length ≠ 48 + 4 * fieldAt bs 3 1), ⟨.badLength, 8 + 48 + 4 * fieldAt bs 3 1⟩),
    (decide (63 < handle), badParam 0),
    ((gateFault bs).isSome, ⟨.gateInvalid, (gateFault bs).getD 0⟩),
    (s.switch.gateLists.any (fun l => decide (l.handle = handle)), ⟨.inUse, 0⟩)]

/-- Hold a gate list under a handle. -/
def State.addGateList (s : State) (handle : Nat) (bs : Bytes) : State :=
  let l : GateList := ⟨handle, fieldAt bs 2 1, BitVec.ofNat 256 (fieldAt bs 16 32), gateEntries bs (fieldAt bs 3 1)⟩
  { s with switch := { s.switch with gateLists := s.switch.gateLists ++ [l] } }

/-- GATE_LIST_LOAD (R463). -/
def execGateListLoad (r : Req) (handle : Nat) (list : Bytes) (s : State) : Out :=
  .next (s.finish r 0x0630 (gateLoadCheck r handle list s)
    ((s.addGateList handle list).forward r 0x0630 (natLe 2 handle ++ list)))

/-- A gate list is armed, bound to a Weir not yet open, or in force (R466). -/
def State.gateUsed (s : State) (h : Nat) : Bool :=
  s.gauge.armed.any (fun e => decide (e.kind = .gateList) && decide (e.item = h))
    || (match s.gauge.weir with
        | some w => s.weirBusy && decide (w.actions.gateList = some h)
        | none => false)
    || s.switch.ports.any (fun p => decide ((p.gate.map (·.handle)) = some h))

/-- GATE_LIST_DROP (R466). -/
def execGateListDrop (r : Req) (handle : Nat) (s : State) : Out :=
  let s' := { s with switch := { s.switch with
    gateLists := s.switch.gateLists.filter (fun l => decide (l.handle ≠ handle)) } }
  .next (s.finish r 0x0631
    (firstReject [s.notManager r, (decide (63 < handle), badParam 0),
      (!s.switch.gateLists.any (fun l => decide (l.handle = handle)), ⟨.notFound, 0⟩),
      (s.gateUsed handle, ⟨.inUse, 0⟩)])
    (s'.forward r 0x0631 (natLe 2 handle)))

/-! ### Tables and parameters (R468) -/

/-- The 16 bytes of an endpoint entry (R449). -/
def endpointBytes (e : Endpoint) : Bytes :=
  natBe 6 e.mac ++ natLe 2 e.vlan ++ natLe 1 e.kind ++ natLe 1 e.location ++ natLe 2 e.target ++ natLe 4 e.reserved

/-- The digest of the endpoint table: SHA-256 over its 65,536 entries. -/
def State.endpointDigest (s : State) : Bytes :=
  let empty : Bytes := List.replicate 16 0
  sha256 ((List.range 65536).flatMap (fun i =>
    match lookup? s.switch.endpoints i with | some e => endpointBytes e | none => empty))

/-- Offset within an endpoint entry of its first fault (R449). -/
def endpointFault (e : Endpoint) : Option Nat :=
  if 4096 ≤ e.vlan then some 6
  else if 2 < e.kind then some 8
  else if e.kind = 2 ∧ e.location ≠ 0 ∨ 256 ≤ e.location then some 9
  else if (e.kind = 2 ∧ 4096 ≤ e.target) ∨ (e.kind ≠ 2 ∧ 256 ≤ e.target) then some 10
  else if e.reserved ≠ 0 then some 12
  else none

/-- First fault of a list of entries of `size` bytes from an offset. -/
def listFault {α : Type} (f : α → Option Nat) (size : Nat) : List α → Nat → Option Nat
  | [], _ => none
  | x :: xs, o => match f x with
    | some k => some (o + k)
    | none => listFault f size xs (o + size)

/-- A check made of an optional fault offset. -/
def paramFault (o : Option Nat) : Bool × Reject := (o.isSome, badParam (o.getD 0))

/-- Load entries from a first index; an entry of KIND 0 empties its place. -/
def putEndpoints : List (Nat × Endpoint) → Nat → List Endpoint → List (Nat × Endpoint)
  | t, _, [] => t
  | t, i, e :: es => putEndpoints (if e.kind = 0 then erase t i else assign t i e) (i + 1) es

/-- ENDPOINT_SET (R449, R468). -/
def execEndpointSet (r : Req) (first : Nat) (entries : List Endpoint) (s : State) : Out :=
  let s' := { s with switch := { s.switch with endpoints := putEndpoints s.switch.endpoints first entries } }
  .next (s.finish r 0x0610
    (firstReject [s.notManager r, (decide (65535 < first), badParam 0), (outside entries.length 1 255, badParam 2),
      paramFault (listFault endpointFault 16 entries 8),
      (decide (65536 < first + entries.length), ⟨.tableFull, 0⟩)])
    (s'.forward r 0x0610 (natLe 2 first ++ entries.flatMap endpointBytes) 0 s'.endpointDigest))

/-- MCAST_GROUP_SET (R451, R468): takes effect for the next frame looked up. -/
def execMcastGroupSet (r : Req) (group : Nat) (bitmap : BitVec 256) (s : State) : Out :=
  let g := if bitmap = 0 then erase s.switch.groups group else assign s.switch.groups group bitmap
  .next (s.finish r 0x0611 (firstReject [(decide (4095 < group), badParam 0)])
    (({ s with switch := { s.switch with groups := g } }).answer r 0x0611 .ok))

/-- Offset of the first fault of CLASS_MAP_SET's tables, laid out in the order R468 lists them from offset 8 (log entry
8). -/
def classMapFault (t : ClassMap) : Option Nat :=
  let at_ (l : List Nat) (hi base : Nat) : Option Nat := (listFault (fun v => if hi < v then some 0 else none) 1 l base)
  (at_ t.pcp 7 8).or ((at_ t.dscp 7 16).or ((at_ t.queue 15 80).or ((at_ t.colour 2 112).or
    (at_ [t.feedTc, t.collTc, t.ctrlTc] 7 128))))

/-- CLASS_MAP_SET (R452, R468): takes effect for the next frame classified. -/
def execClassMapSet (r : Req) (port : Nat) (tables : ClassMap) (s : State) : Out :=
  .next (s.finish r 0x0620
    (firstReject [(decide (255 < port), badParam 0),
      (decide (tables.pcp.length ≠ 8) || decide (tables.dscp.length ≠ 64) || decide (tables.queue.length ≠ 32)
        || decide (tables.colour.length ≠ 16), ⟨.badLength, 131⟩),
      paramFault (classMapFault tables), ((s.port? port).isNone, ⟨.notFound, 0⟩)])
    ((match s.port? port with
      | some p => s.setPort { p with maps := tables }
      | none => s).answer r 0x0620 .ok))

/-- Give a queue of a port its parameters; what is queued stays (R468). -/
def Port.putQueue (p : Port) (queue : Nat) (k : QueueParams) : Port :=
  { p with queues := p.queues.modify queue (fun q => { q with params := k }) }

/-- The checks of QUEUE_CONFIG (R453, R456, R468). -/
def queueConfigCheck (port queue : Nat) (k : QueueParams) (s : State) : Option Reject :=
  firstReject [(decide (255 < port) && decide (port ≠ 0xFFFF), badParam 0), (decide (15 < queue), badParam 2),
    (decide (7 < k.prio), badParam 4), (outside k.weight 1 255, badParam 5), (decide (65535 < k.minCells), badParam 6),
    (outside k.maxCells k.minCells 1310720, badParam 8), (decide (9 < k.alpha), badParam 12),
    (decide (100 < k.yellowPct), badParam 13), (decide (1310720 < k.markCells), badParam 16),
    (decide (port ≠ 0xFFFF) && (s.port? port).isNone, ⟨.notFound, 0⟩)]

/-- QUEUE_CONFIG (R453, R456, R468). -/
def execQueueConfig (r : Req) (port queue : Nat) (params : QueueParams) (s : State) : Out :=
  let one (p : Port) : Port := if port = 0xFFFF ∨ p.logical = port then p.putQueue queue params else p
  .next (s.finish r 0x0621 (queueConfigCheck port queue params s)
    (({ s with switch := { s.switch with ports := s.switch.ports.map one } }).answer r 0x0621 .ok))

/-- The port rate in Mb/s: 200 Gb/s a lane (R443). -/
def Port.rate (p : Port) : Nat := 200000 * p.width

/-- SHAPER_SET (R454, R468): tokens are set to BURST. -/
def execShaperSet (r : Req) (port queue rate burst overhead : Nat) (s : State) : Out :=
  let top := ((s.port? port).map (·.rate)).getD 1600000
  let b : Bucket := ⟨rate, burst, (burst * s.byteUnit : Nat), s.now⟩
  let put (p : Port) : Port :=
    if queue = 0xFF then { p with shaper := b, overhead := overhead }
    else { p with queues := p.queues.modify queue (fun q => { q with shaper := b }), overhead := overhead }
  .next (s.finish r 0x0622
    (firstReject [(decide (255 < port), badParam 0), (decide (15 < queue) && decide (queue ≠ 0xFF), badParam 2),
      (decide (top < rate), badParam 4), (outside burst 2048 16777216, badParam 8), (decide (64 < overhead), badParam 12),
      ((s.port? port).isNone, ⟨.notFound, 0⟩)])
    ((match s.port? port with
      | some p => s.setPort (put p)
      | none => s).answer r 0x0622 .ok))

/-- The checks of POLICER_SET (R455, R468). -/
def policerCheck (n : Nat) (k : PolicerParams) : Option Reject :=
  firstReject [(decide (4095 < n), badParam 0), (decide (1 < k.mode), badParam 2), (decide (1 < k.aware), badParam 3),
    (decide (1 < k.markDei), badParam 4), (decide (1600000 < k.cir), badParam 8), (decide (1600000 < k.pir), badParam 12),
    (outside k.cbs 1518 16777216, badParam 16), (outside k.ebs 1518 16777216, badParam 20),
    paramFault (listFault (fun (a : Nat × Nat) => if 255 < a.1 then some 0 else if 7 < a.2 then some 2 else none) 4 k.assign 24)]

/-- POLICER_SET (R455, R468): buckets are set full; a pair assigned here leaves the policer it had. -/
def execPolicerSet (r : Req) (policer : Nat) (params : PolicerParams) (s : State) : Out :=
  let u := s.byteUnit
  let x : Policer := ⟨policer, params, (params.cbs * u : Nat), (params.ebs * u : Nat), s.fclk⟩
  let strip (y : Policer) : Policer :=
    { y with params := { y.params with assign := y.params.assign.filter (fun a => !params.assign.contains a) } }
  let others := (s.switch.policers.filter (fun y => decide (y.num ≠ policer))).map strip
  .next (s.finish r 0x0623 (policerCheck policer params)
    (({ s with switch := { s.switch with policers := others ++ [x] } }).answer r 0x0623 .ok))

/-- What PORT_STATUS reports of a port (R468): link, then FEC corrected and uncorrected, frames and bytes in and out,
the drops of reasons 1 to 12, and ECN marks. -/
def State.portReport (s : State) (p : Port) : List Nat :=
  let c (k : Nat) : Nat := s.counter (.port p.logical k)
  [p.logical, p.up.toNat, c 5, c 6, c 0, c 2, c 1, c 3] ++ (List.range 12).map (fun i => c (8 + i)) ++ [c 4, p.fcsErrors]

/-- PORT_STATUS (R468). -/
def execPortStatus (r : Req) (port : Nat) (s : State) : Out :=
  let chosen := s.switch.ports.filter (fun p => decide (port = 0xFFFF) || decide (p.logical = port))
  .next (s.finish r 0x0602
    (firstReject [(decide (255 < port) && decide (port ≠ 0xFFFF), badParam 0),
      (decide (port ≠ 0xFFFF) && (s.port? port).isNone, ⟨.notFound, 0⟩)])
    (s.answer r 0x0602 .ok 0 [] (chosen.flatMap s.portReport)))

/-- SWITCH_STATUS (R468): free cells per plane, residue entries, resequencer gaps, LEAKED_CELLS, audit faults, then gate
list (0xFFFF for none) and OPEN per port. -/
def execSwitchStatus (r : Req) (s : State) : Out :=
  let x := s.switch
  .next (s.finish r 0x0640 none (s.answer r 0x0640 .ok 0 [] (x.freeCells ++ [x.residue.length, x.gaps, x.leaked, x.auditFaults]
    ++ x.ports.flatMap (fun p => [p.logical, (p.gate.map (·.handle)).getD 0xFFFF, p.openMask.toNat]))))

end Sys2Proof.Machine
end

