-- ==== Sys2Proof/Machine/GaugeEvents.lean ====
section
/-! DEFINITION. What a publication fires, arming and cancelling of events, the opening of a Weir (R63 to R71, R77, R78,
R175 to R178, R356, R430, R431, R464, R510, R512). -/

namespace Sys2Proof.Machine

/-! ### Epochs (R178) -/

/-- The current epoch becomes `e`: EPOCH_STARTED. -/
def State.setEpoch (s : State) (e : Nat) : State :=
  if e = s.gauge.epoch then s else ({ s with gauge := { s.gauge with epoch := e } }).raise .epochStarted e

/-- The current epoch advances through the epochs that begin at or before a step (R168, R178). -/
def State.advanceEpochs (s : State) (step : Nat) : State := match s.plan.active with
  | none => s
  | some (_, p) =>
    if step < p.startStep then s
    else (List.range (min (p.epochOf step) (2 ^ 32 - 1) - s.gauge.epoch)).foldl (fun s _ => s.setEpoch (s.gauge.epoch + 1)) s

/-- Put the segment that an event brings in force from its step (R177, R178, R427). -/
def State.newSegment (s : State) (e : ArmedEvent) : State := match s.plan.active with
  | none => s
  | some a =>
    let b := s.segmentAfter a e
    let s := { s with plan := { s.plan with active := some b } }
    (s.setEpoch (min (b.2.epochOf e.target.step) (2 ^ 32 - 1))).issueRecord e.target.step

/-! ### The Weir's opening (R77, R78) -/

/-- Both sides have reached the target of a Weir that spans both (R78). -/
def State.peerReached (s : State) (t : Gauge) : Bool := match s.gauge.peerSide with
  | some (c, _) => !Gauge.lt c t
  | none => false

/-- This manager decides the opening: its own side's, or in a twin side A's for a Weir that spans both sides. -/
def State.decidesWeir (s : State) (w : Weir) : Bool :=
  if w.actions.bothSides && s.group.set.twin then s.leads && s.peerReached w.target else s.isManager

/-- Steps 2 to 4 (R78): t_open is the manager's timebase plus WEIR_LEAD, and WEIR_OPEN goes round. -/
def State.decideWeir (s : State) : State := match s.gauge.weir with
  | none => s
  | some w =>
    if w.phase ≠ .armed ∨ s.gauge.hold ∨ !s.decidesWeir w ∨ Gauge.lt s.gauge.committed w.target then s
    else
      let t := (s.gauge.timebase + s.us s.gauge.weirLead) % 2 ^ 64
      let s := { s with gauge := { s.gauge with weir := some { w with phase := .sent, tOpen := some t } } }
      let s := if s.audience.any (fun d => decide (d < 128)) then s.sendPiece 2 (.weirOpen t) else s
      if w.actions.bothSides && s.group.set.twin then { s with sent := s.sent ++ [.twin (.weirOpen t)] } else s

/-- Steps 6, 6a and 7 (R78, R299, R464): the bound actions, and the acknowledgement. Nothing in the spec pauses a pipeline
that the third action could release (log entry 50). -/
def State.openWeir (s : State) (w : Weir) (lateness : Nat) : State :=
  let s := { s with gauge := { s.gauge with weir := some { w with phase := .opened, lateness := lateness } } }
  let s := if w.actions.startFeed then s.setPipe { s.pipe with feedStarted := true } else s
  let s := match w.actions.gateList with
    | some h => s.gateTakeover h w.target.step
    | none => s
  let s := if 0 < lateness then s.raise .weirLate 0 (natLe 8 lateness) else s
  let s := if s.isManager then s else s.sendPiece 4 (.weirAck lateness)
  match s.det.resumeWaiter with
  | some r => ({ s with det := { s.det with resumeWaiter := none } }).answer r 0x0434 .ok
  | none => s

/-- WEIR_OPEN (R78 steps 5 and 6a): the first valid copy is loaded; one that comes after t_open opens the Weir at once. Side
B's manager relays it to its own ring. -/
def execWeirOpen (tOpen : Nat) (s : State) : Out :=
  match s.gauge.weir with
  | none => .next s
  | some w =>
    if w.phase ≠ .armed then .next s
    else
      let w := { w with phase := .sent, tOpen := some tOpen }
      let s := { s with gauge := { s.gauge with weir := some w } }
      let s := if s.isManager then s.sendPiece 2 (.weirOpen tOpen) else s
      .next (if tOpen < s.gauge.timebase then s.openWeir w (s.gauge.timebase - tOpen) else s)

/-- WEIR_OPEN_TIME (R78 step 6): the timebase has reached t_open. -/
def execWeirOpenTime (s : State) : Out :=
  match s.gauge.weir with
  | none => .next s
  | some w => match w.tOpen with
    | some t => .next (if w.phase = .sent ∧ t ≤ s.gauge.timebase then s.openWeir w 0 else s)
    | none => .next s

/-! ### Firing (R65, R68) -/

/-- A RECIPE_CHANGE fires (R177, R356, R427): the bank of the old recipe stays held for its samples. -/
def State.newRecipe (s : State) (e : ArmedEvent) : State :=
  let s := { s with ngayx := { s.ngayx with otherBank := s.plan.recipe } }
  ({ s with plan := { s.plan with recipe := some e.item } }).issueRecord e.target.step

/-- An event fires (R68). Epochs that begin before it have advanced; one that begins at its own Gauge does so in the order of
R68, and from a PLAN_CHANGE on the new plan gives the epoch. -/
def State.fireEvent (s : State) (e : ArmedEvent) : State :=
  let t := e.target.step
  let s := { s with gauge := { s.gauge with armed := s.gauge.armed.filter (fun x => decide (x.handle ≠ e.handle)) } }
  match e.kind with
  | .checkpoint => (s.advanceEpochs (t - 1)).fireCkpt t
  | .epochRollover => (s.advanceEpochs t).newSegment e
  | .planChange => (s.advanceEpochs (t - 1)).newSegment e
  | .recipeChange => (s.advanceEpochs t).newRecipe e
  | .gateList => (s.advanceEpochs t).gateTakeover e.item t
  | .weir => (s.advanceEpochs t).decideWeir

/-- The events that the committed Gauge has reached, in firing order, the Weir among them (R68). -/
def State.dueEvents (s : State) : List ArmedEvent :=
  let weir : List ArmedEvent := match s.gauge.weir with
    | some w => if w.phase = .armed then [{ handle := 0, kind := .weir, target := w.target }] else []
    | none => []
  firingOrder ((s.gauge.armed ++ weir).filter (fun e => !Gauge.lt s.gauge.committed e.target))

/-! ### Joining at a step (R507, R508, R510) -/

/-- A device becomes ACTIVE at its join step: its member state, and on the device itself its sources seeded with J:0; in a twin
it asks its peer for any destination that was prepared there (R508). -/
def State.becomeActive (s : State) (j : Join) : State :=
  let keep := s.group.joins.filter (fun x => decide (x ≠ j))
  let s : State := if j.far then { s with group := { s.group with peers := assign s.group.peers j.device .active, joins := keep } }
    else { s with group := { s.group with members := assign s.group.members j.device .active, joins := keep } }
  if j.far ∨ j.device ≠ s.group.set.deviceId then s.issueRecord j.step
  else
    let s := s.seedAll ⟨j.step, 0⟩
    let mine : List Dest := match s.plan.active with
      | some (_, p) => (s.localDests p).map (fun d => p.dests.getD d ⟨0, 0, 0⟩)
      | none => []
    let s := if s.group.set.twin then { s with sent := s.sent ++ mine.map (fun d => .twin (.item (.proxy true d j.step []))) } else s
    s.issueRecord j.step

/-- A join whose step the committed Gauge of its side has reached. -/
def State.joinDue (s : State) (j : Join) : Bool :=
  if j.far then s.gauge.peerSide.any (fun g => decide (j.step ≤ g.1.step)) else decide (j.step ≤ s.gauge.committed.step)

/-- The joins that the committed Gauge has reached; the manager announces each and its DEVICE_ADMIT completes. -/
def State.reachJoins (s : State) : State :=
  (s.group.joins.filter s.joinDue).foldl (fun s j =>
    let s := s.becomeActive j
    let b : Body := .state j.device .active
    let s := if !s.isManager then s else if j.far then { s with sent := s.sent ++ [.twin b] } else s.sendPiece 5 b
    match j.waiter with
    | some r => s.answer r 0x0443 .ok
    | none => s) s

/-! ### Service loss (R507) -/

/-- A recipe has text entries. -/
def State.recipeHasText (s : State) (h : Nat) : Bool := !(textDescs (s.recipeBytes h)).isEmpty

/-- A recipe uses the Anvil: a feature projection or scorer, or an embedding (R266, R272). -/
def State.recipeUsesAnvil (s : State) (h : Nat) : Bool := match filterSection? (s.recipeBytes h) with
  | some f => decide (0 < f.anvilBytes)
  | none => false

/-- A stripe set has lost two dies. -/
def State.stripeLost (s : State) : Bool :=
  let failedIn (set : Nat) : Nat := (s.media.dies.filter (fun d => d.failed && decide (stripeSetOf d.channel d.target = set))).length
  (List.range 48).any (fun set => decide (2 ≤ failedIn set))

/-- Every Riffle number of a stream die is vacant. -/
def State.riffleDieVacant (s : State) : Bool :=
  let gone (l : List Nat) : Bool := l.all (fun n => (s.units.riffleMap.getD n none).isNone)
  gone [0, 1, 2, 3] || gone [4, 5, 6, 7]

/-- A cause of service loss holds (R507). -/
def State.causeHolds (s : State) : ServiceCause → Bool
  | .anvil => s.pipe.anvil.failed && s.plan.recipe.any s.recipeUsesAnvil
  | .drawplates => decide (s.units.drawplateOff = 3#2) && s.plan.recipe.any s.recipeHasText
  | .riffles => s.riffleDieVacant
  | .stripe => s.stripeLost
  | .handover => false

/-- A worker of a twin reports that it can prepare no longer (R507); the manager's STATE piece makes it SERVICE_LOST (R494). -/
def State.checkService (s : State) : State :=
  let me := s.group.set.deviceId
  let live : Bool := decide (lookupD s.group.members me .absent = .active)
  match [ServiceCause.anvil, .drawplates, .riffles, .stripe].find? s.causeHolds with
  | none => s
  | some c =>
    if !s.group.set.twin ∨ s.isManager ∨ s.group.serviceCause.isSome ∨ !live then s
    else ({ s with group := { s.group with serviceCause := some c } }).sendPiece 5 (.state me .serviceLost)

/-! ### Publications (R63 to R65, R512) -/

/-- The device's own side: the view of both Gauges and the fence; an advance ends a hold and fires what it reaches. -/
def State.takePublication (s : State) (c l : Gauge) (f : Nat) : State :=
  let advanced := Gauge.lt s.gauge.committed c
  let resumed := s.gauge.hold && advanced
  let s := { s with gauge := { s.gauge with committed := c, leading := l, fence := f, hold := s.gauge.hold && !advanced } }
  if !advanced then s
  else
    let s := s.dueEvents.foldl State.fireEvent s
    let s := (((s.advanceEpochs c.step).evalGates).reachJoins).checkService
    if resumed then s.raise .gaugeResumed else s

/-- The other side's published values on a manager: TWIN_LAG, and a Weir that waits for both sides. -/
def State.takePeerPublication (s : State) (c l : Gauge) (f : Nat) : State :=
  let s := { s with gauge := { s.gauge with peerSide := some (c, l), peerFence := f },
                    group := { s.group with keepaliveAt := some s.now } }
  ((s.checkTwinLag).decideWeir).reachJoins

/-- This device is its side's relay under an acting manager (R506). -/
def State.relays (s : State) : Bool := s.group.actedFor && decide (s.group.relay = some s.group.set.deviceId)

/-- GAUGE_PUBLICATION_RECEIVE (R63, R65, R68, R175, R178, R464, R465, R510, R512); over the twin links it is the other side's on
a manager, and this side's on the relay, which sends it round its ring (R506). -/
def execGaugePublicationReceive (twin : Bool) (committed leading : Gauge) (fence : Nat) (s : State) : Out :=
  .next (if !twin then s.takePublication committed leading fence
    else if s.relays then (s.sendPiece 1 (.publication committed leading fence)).takePublication committed leading fence
    else if s.isManager then s.takePeerPublication committed leading fence else s)

/-! ### Arming (R67 to R71, R176 to R178, R278, R308, R356, R430, R431) -/

/-- An event kind, from its value; WEIR is armed by WEIR_ARM. -/
def eventKindOf : Nat → EventKind
  | 0 => .checkpoint | 1 => .epochRollover | 2 => .planChange | 3 => .recipeChange | _ => .gateList

/-- The target follows the committed Gauge of this side, and of the other (R69, R501). -/
def State.followsCommitted (s : State) (t : Gauge) : Bool :=
  Gauge.lt s.gauge.pubCommitted t && (match s.gauge.peerSide with
    | some (c, _) => !s.group.set.twin || Gauge.lt c t
    | none => true)

/-- The fence of this side, and of the other (R176, R501). -/
def State.fenceOfSides (s : State) : Nat :=
  if s.group.set.twin then max s.gauge.pubFence s.gauge.peerFence else s.gauge.pubFence

/-- A recipe carries kernels. -/
def State.hasKernels (s : State) (h : Nat) : Bool := match filterSection? (s.recipeBytes h) with
  | some f => !f.kernels.isEmpty
  | none => false

/-- A sample has passed check 4 of R253, or will not (R356). -/
def SamplePhase.screened : SamplePhase → Bool
  | .kept | .vacant => true
  | _ => false

/-- The other bank of a filter core is held, by an armed change or by samples of an earlier recipe (R356). -/
def State.bankHeld (s : State) : Bool := match s.ngayx.otherBank with
  | none => false
  | some h => (s.armedOf .recipeChange).any (fun e => decide (e.item = h))
      || (s.hasKernels h && s.pipe.samples.any (fun x => decide (x.recipe = h) && decide (some h ≠ s.plan.recipe) && !x.phase.screened))

/-- Bytes of the Anvil tables of the recipe in force and another (R278). -/
def State.anvilWith (s : State) (h : Nat) : Nat :=
  let one (x : Nat) : Nat := ((filterSection? (s.recipeBytes x)).map (fun f => f.anvilBytes)).getD 0
  (((s.plan.recipe.toList ++ [h]).eraseDups).map one).sum

/-- FILTER_SPACE of a RECIPE_CHANGE (R278). -/
def State.filterSpaceShort (s : State) (h : Nat) : Bool :=
  decide (16777216 < s.anvilWith h) || (match s.plan.active with
    | some (_, p) => s.windowTooLarge p h
    | none => false)

/-- A ring of this device is too small for a recipe's batches (R308). -/
def State.ringsTooSmall (s : State) (h : Nat) : Bool :=
  let bound := ((packSection? (s.recipeBytes h)).map (fun k => k.bound)).getD 0
  s.pipe.rings.any (fun g => decide (g.slotBytes < bound))

/-- The checks of one kind of event on its item. -/
def State.eventItemChecks (s : State) (kind item : Nat) (t : Gauge) : List (Bool × Reject) :=
  match eventKindOf kind with
  | .checkpoint => [(s.det.ckpt.any (fun c => decide (c.phase ≠ .done) && decide (c.phase ≠ .failed)), ⟨.inUse, 0⟩)]
  | .epochRollover => [(decide (s.gauge.epoch = 0xFFFFFFFF), ⟨.epochLimit, 0⟩)]
  | .planChange => [((s.plan? item).isNone, ⟨.notFound, 0⟩),
      ((s.plan? item).any (fun p => decide (p.startStep ≠ t.step)), ⟨.planInvalid, 0⟩)]
  | .recipeChange => [((lookup? s.plan.recipes item).isNone, ⟨.notFound, 0⟩), (s.filterSpaceShort item, ⟨.filterSpace, 0⟩),
      (s.hasKernels item && s.bankHeld, ⟨.programStoreFull, 0⟩), (s.ringsTooSmall item, ⟨.feedSlotSmall, 0⟩)]
  | .gateList => [(!s.switch.gateLists.any (fun l => decide (l.handle = item)), ⟨.notFound, 0⟩)]
  | .weir => []

/-- The checks of EVENT_ARM. Parameters: KIND 0, MARK 1, TARGET_STEP 8, then the handle at 16, or a checkpoint's KIND 16,
FLAGS 17, destination 18 and address 24 (log entry 8). -/
def eventArmCheck (r : Req) (kind mark step item ckptKind ckptFlags ckptDest : Nat) (s : State) : Option Reject :=
  let t : Gauge := ⟨step, mark⟩
  let inputs : Bool := decide (1 ≤ kind) && decide (kind ≤ 3)
  firstReject ([s.notManager r, (decide (4 < kind), badParam 0), (decide (15 < mark) || (decide (kind = 0) && decide (mark ≠ 0)), badParam 1),
    (decide (2 ≤ kind) && decide (kind ≤ 3) && decide (15 < item), badParam 16), (decide (kind = 4) && decide (63 < item), badParam 16),
    (decide (kind = 0) && decide (1 < ckptKind), badParam 16), (decide (kind = 0) && decide (1 < ckptFlags), badParam 17),
    (decide (kind = 0) && decide (1 < ckptDest), badParam 18),
    (decide (256 ≤ s.gauge.armed.length), ⟨.eventFull, 0⟩),
    (inputs && s.plan.active.isNone, ⟨.notFound, 0⟩),
    (inputs && (decide (mark ≠ 0) || decide (step ≤ s.fenceOfSides)), ⟨.planFence, 0⟩),
    (!inputs && !s.followsCommitted t, ⟨.gaugePast, 0⟩)] ++ s.eventItemChecks kind item t)

/-- Arm an event on this device (R69, R356, R431). -/
def State.armEvent (s : State) (e : ArmedEvent) : State :=
  let s := { s with gauge := { s.gauge with armed := s.gauge.armed ++ [e], lastHandle := e.handle } }
  match e.kind, e.ckpt with
  | .checkpoint, some p => s.armCkpt e.target.step p
  | .recipeChange, _ => if s.hasKernels e.item then { s with ngayx := { s.ngayx with otherBank := some e.item } } else s
  | _, _ => s

/-- Remove an armed event from this device (R70): a fence hold or the hold on launches goes with it. -/
def State.cancelEvent (s : State) (handle : Nat) : State :=
  match s.gauge.armed.find? (fun e => decide (e.handle = handle)) with
  | none => s
  | some e =>
    let s := { s with gauge := { s.gauge with armed := s.gauge.armed.filter (fun x => decide (x.handle ≠ handle))
                                              fenceHolds := s.gauge.fenceHolds.filter (fun h => decide (h.1 ≠ handle)) } }
    match e.kind with
    | .checkpoint => ({ s with det := { s.det with ckpt := none } }).releaseHolds
    | .recipeChange => { s with ngayx := { s.ngayx with otherBank := none } }
    | _ => s

/-- The next event handle (R69). -/
def State.nextHandle (s : State) : Nat := s.gauge.lastHandle % (2 ^ 32 - 1) + 1

/-- Arm an accepted event here and distribute it (R69, R176, R431): a checkpoint fails with GAUGE_PAST when this device itself
has admitted a launch of its step or later. -/
def State.armAndSpread (s : State) (r : Req) (e : ArmedEvent) : State :=
  if e.kind = .checkpoint ∧ s.admittedFrom e.target.step then s.answer r 0x0413 .gaugePast
  else
    let inputs := eventOfPlan e
    let s := s.armEvent e
    let s := if inputs && !s.audience.isEmpty then
        { s with gauge := { s.gauge with fenceHolds := s.gauge.fenceHolds ++ [(e.handle, e.target.step)] } } else s
    s.distribute r 0x0413 (.armEvent e) (.arm r e.handle) e.handle

/-- EVENT_ARM (R67 to R71, R176 to R178, R278, R308, R356, R430, R431, R464). -/
def execEventArm (r : Req) (kind mark step item ckptKind ckptFlags ckptDest ckptAddr : Nat) (s : State) : Out :=
  let p : CkptParams := { full := decide (ckptKind = 1), pause := bitOf ckptFlags 0, toMedia := decide (ckptDest = 1), address := ckptAddr }
  let e : ArmedEvent := { handle := s.nextHandle, kind := eventKindOf kind, target := ⟨step, mark⟩, item := item
                          ckpt := if kind = 0 then some p else none }
  .next (s.finish r 0x0413 (eventArmCheck r kind mark step item ckptKind ckptFlags ckptDest s) (s.armAndSpread r e))

/-- EVENT_CANCEL (R69, R70): an event whose target the committed Gauge has reached has fired. -/
def execEventCancel (r : Req) (handle : Nat) (s : State) : Out :=
  let live : Bool := s.gauge.armed.any (fun e => decide (e.handle = handle) && s.followsCommitted e.target)
  .next (s.finish r 0x0414 (firstReject [s.notManager r, (!live, ⟨.notFound, 0⟩)])
    ((s.cancelEvent handle).distribute r 0x0414 (.cancelEvent handle) (.answer r 0x0414 0 [] [])))

end Sys2Proof.Machine
end

