-- ==== Sys2Proof/Machine/Rdma.lean ====
section
/-! DEFINITION. The remote memory engine: packets out, the error state, the context cache, responder and requester, and
congestion control (R469 to R490). -/

namespace Sys2Proof.Machine

/-! ### Packets out (R451, R452, R475) -/

/-- The port a pair's packets leave on: a firmware pair's own link, else as the endpoint table says (R450, R470). -/
def State.egressOf (s : State) (q : Qp) : Option Port :=
  if q.index < 256 then s.portOf .mesh (q.index / 2)
  else if q.index < 512 then s.portOf .twin ((q.index - 256) / 2)
  else
    let f : Frame := { length := 0, dst := q.attr.destMac, src := s.rdma.mac, udp := some (0, 4791)
                       tag := if q.attr.vlan = 0 then none else some (q.attr.vlan, 0, false) }
    match s.endpoint? f with
    | none => none
    | some e => match s.unicastPort (256 + q.index % 4) f e with
      | .inl p => some p
      | .inr _ => none

/-- Bytes of the extended headers of an operation. -/
def extBytes : BthOp → Nat
  | .writeFirst | .writeOnly | .readRequest => 16
  | .writeLastImm => 4
  | .writeOnlyImm => 20
  | .compareSwap | .fetchAdd => 28
  | .readFirst | .readLast | .readOnly | .ack => 4
  | .atomicAck => 12
  | _ => 0

/-- Bytes of a pair's frame: Ethernet, IP, UDP, BTH, extended headers, payload padded to 4, ICRC and FCS. -/
def Qp.frameLength (q : Qp) (op : BthOp) (n : Nat) : Nat :=
  14 + (if q.attr.vlan = 0 then 0 else 4) + (if q.attr.destGid / 2 ^ 32 = 0xFFFF then 20 else 40) + 20 + extBytes op + (n + 3) / 4 * 4 + 8

/-- Send a packet of a pair, as an origin of R452. -/
def State.emit (s : State) (q : Qp) (p : RdmaPacket) (origin : Nat) (channel : Option Nat := none) : State :=
  let s := { s with rdma := { s.rdma with out := s.rdma.out ++ [(q.index, p)] } }
  match s.egressOf q with
  | none => s
  | some x =>
    let cls := if origin = 1 then x.maps.feedTc else if origin = 2 then x.maps.collTc else x.maps.ctrlTc
    s.originate (256 + q.index % 4) origin cls x.logical (q.frameLength p.op p.payload.length) channel

/-- A packet of a pair to its peer. -/
def Qp.packet (q : Qp) (op : BthOp) (psn : Nat) : RdmaPacket :=
  { dgid := q.attr.destGid, qpn := q.attr.destQpn, pkey := q.attr.pkey, psn := psn % 2 ^ 24, op := op }

/-- PMTU in bytes (R474). -/
def Qp.mtu (q : Qp) : Nat := 2 ^ (q.attr.pmtu + 7)

/-- Packets that a READ of `n` bytes is answered with (R477). -/
def Qp.pieces (q : Qp) (n : Nat) : Nat := max 1 ((n + q.mtu - 1) / q.mtu)

/-- Acknowledge every packet executed (R479). -/
def State.sendAck (s : State) (i : Nat) : State := match s.rqp? i with
  | none => s
  | some q => (s.setRqp { q with unacked := 0, unackedAt := none }).emit q (q.packet .ack (q.expected + 2 ^ 24 - 1)) 3

/-- Send a NAK: 1 a receiver-not-ready with its timer code, 2 a NAK with its code. -/
def State.sendNak (s : State) (q : Qp) (aeth code psn : Nat) : State :=
  s.emit q { q.packet .ack psn with aeth := aeth, aethCode := code } 3

/-! ### The error state (R488) -/

/-- Return the receive buffer of an incomplete SEND (R488). -/
def State.dropAssembling (s : State) (q : Qp) : State := match q.assembling with
  | .send p _ _ => (s.returnBuffer (64 + q.rxBlock) p).1
  | _ => s

/-- The device at the other end of a mesh index (R49). -/
def meshDevice (me m : Nat) : Nat := if m < me then m else m + 1

/-- The side and device that a firmware pair reaches. -/
def State.peerOf (s : State) (i : Nat) : Nat × Nat :=
  if i < 256 then (s.group.set.side, meshDevice s.group.set.deviceId (i / 2)) else (1 - s.group.set.side, s.group.set.deviceId)

/-- How a pair's users react to its error state (R173, R302, R418). -/
def State.usersFail (s : State) (q : Qp) : State :=
  if q.service = 0 then s.feedPairFailed q.index
  else if q.service = 1 then (match s.collPortOf q.index with
    | some p => s.collPortFailed p
    | none => s)
  else if q.service = 3 then s.fetchPairFailed q.index
  else if q.service = 4 then (let d := s.peerOf q.index; s.collLinkLost d.1 d.2)
  else s

/-- Everything a pair had under way is gone: work queued and in flight, a message in assembly, packets in miss buffers. -/
def State.quiet (s : State) (q : Qp) (st : QpState) (cause : Nat) : State :=
  let s := (s.dropAssembling q).setRqp { q with state := st, cause := cause, queue := [], offset := 0, flight := [], assembling := .none
                                                unacked := 0, unackedAt := none, rnrUntil := none, nakSent := false, sinceAckReq := 0 }
  { s with rdma := { s.rdma with missed := s.rdma.missed.filter (fun m => decide (m.2.qpn ≠ 0x10000 + q.index)) } }

/-- A pair enters the error state (R488): its work completes with FLUSHED, QP_ERROR is raised, and its users react. -/
def State.failQp (s : State) (i cause : Nat) : State := match s.rqp? i with
  | none => s
  | some q =>
    if q.state = .error then s
    else
      let s := s.quiet q .error cause
      let s := { s with rdma := { s.rdma with errors := assign s.rdma.errors cause (lookupD s.rdma.errors cause 0 + 1) } }
      (s.raise .qpError i (natLe 2 i ++ natLe 1 cause)).usersFail q

/-! ### The context cache and the miss buffers (R482, R483) -/

/-- A pair's context is cached. -/
def State.cached (s : State) (i : Nat) : Bool := s.rdma.cache.any (fun e => decide (e.qp = i) && !e.loading)

/-- A pair has packets in a miss buffer (R483). -/
def State.buffered (s : State) (i : Nat) : Bool := s.rdma.missed.any (fun m => decide (m.2.qpn = 0x10000 + i))

/-- A context is never evicted: it is pinned, busy, or being fetched (R482). -/
def State.keepsEntry (s : State) (e : CacheEntry) : Bool := e.loading || s.buffered e.qp || (match s.rqp? e.qp with
  | some q => q.pinned || decide (q.index < 512) || !q.flight.isEmpty
  | none => false)

/-- The rotating pointer (R482): it passes over pinned and busy entries, clears set reference bits, and stops at the first
unpinned entry whose bit is clear; by fuel over two rounds. -/
def State.victimFrom (s : State) : Nat → Nat → List CacheEntry → Option (Nat × List CacheEntry)
  | 0, _, _ => none
  | fuel + 1, at_, cache =>
    let n := cache.length
    match cache[at_]? with
    | none => none
    | some e =>
      if s.keepsEntry e then s.victimFrom fuel ((at_ + 1) % n) cache
      else if e.refBit then s.victimFrom fuel ((at_ + 1) % n) (cache.set at_ { e with refBit := false })
      else some (at_, cache)

/-- Place a context in the cache, in a free entry or a victim's, whose context is written back first; none when every entry is
pinned or busy (R482). -/
def State.placeContext (s : State) (e : CacheEntry) : Option State :=
  let r := s.rdma
  if r.cache.length < 4096 then some { s with rdma := { r with cache := r.cache ++ [e] } }
  else match s.victimFrom 8192 (r.victim % r.cache.length) r.cache with
    | none => none
    | some (i, cache) =>
      let back := match cache[i]? with
        | some v => if v.dirty then 1 else 0
        | none => 0
      some { s with rdma := { r with cache := cache.set i e, victim := (i + 1) % 4096, writeBacks := r.writeBacks + back } }

/-- Start a context's fetch, or let it wait for an entry or a place among 256 (R482). -/
def State.fetchContext (s : State) (i : Nat) : State :=
  if s.rdma.cache.any (fun e => decide (e.qp = i)) then s
  else
    let wait (s : State) : State :=
      if s.rdma.missWait.contains i then s else { s with rdma := { s.rdma with missWait := s.rdma.missWait ++ [i] } }
    if 256 ≤ s.rdma.fetching.length then wait s
    else match s.placeContext { qp := i, loading := true } with
      | none => wait s
      | some s => { s with rdma := { s.rdma with fetching := s.rdma.fetching ++ [i], missWait := s.rdma.missWait.erase i } }

/-- An access to a cached context sets its reference bit (R482). -/
def State.touch (s : State) (i : Nat) : State :=
  { s with rdma := { s.rdma with cache := updateFirst (fun e => decide (e.qp = i)) (fun e => { e with refBit := true, dirty := true }) s.rdma.cache } }

/-- Forget a context. -/
def State.dropContext (s : State) (i : Nat) : State :=
  { s with rdma := { s.rdma with cache := s.rdma.cache.filter (fun e => decide (e.qp ≠ i)), fetching := s.rdma.fetching.erase i,
                                 missWait := s.rdma.missWait.erase i } }

/-! ### Memory regions (R485) -/

/-- The protection domains agree. The credit word of a ring takes writes of the ring's own queue pair, which host software
cannot have put in domain 0xFFFF (R301, R480; DEDUCED, log entry 53). -/
def State.domainAgrees (s : State) (q : Qp) (g : Region) : Bool :=
  decide (g.domain = q.domain) || s.pipe.rings.any (fun x => decide (x.qp = q.index) && decide (x.region = g.index))

/-- A request passes the memory check: the region it names. -/
def State.regionFor (s : State) (q : Qp) (rkey va n : Nat) (may : Region → Bool) : Option Region :=
  match s.rdma.regions.find? (fun g => decide (g.index = rkey / 256)) with
  | none => none
  | some g =>
    if rkey % 256 = lookupD s.rdma.keys g.index 0 ∧ s.domainAgrees q g ∧ may g ∧ g.vaBase ≤ va ∧ va + n ≤ g.vaBase + g.length
    then some g else none

/-- The LPDDR6 address of a virtual address of a region. -/
def Region.at_ (g : Region) (va : Nat) : Nat := g.address + (va - g.vaBase)

/-! ### Responder (R471 to R473, R476 to R480, R487) -/

/-- The global port block of a port. -/
def State.blockOf (s : State) (port : Nat) : Nat := ((s.port? port).map (fun p => p.block)).getD 0

/-- Count a dropped packet (R490). -/
def State.rdmaDrop (s : State) (port reason : Nat) : State := s.count (.rdma (s.blockOf port) reason)

/-- A SEND is being assembled. -/
def Assembling.isSend : Assembling → Bool
  | .send _ _ _ | .plainSend _ => true
  | _ => false

/-- What is left of a WRITE being assembled. -/
def Assembling.left? : Assembling → Option Nat
  | .write _ _ n _ _ => some n
  | _ => Option.none

/-- Step 8 of R476: a request that is refused as invalid. A first or only packet inside an unfinished message counts as one
without its place (PRESUMED, log entry 52). -/
def invalidRequest (q : Qp) (p : RdmaPacket) : Bool :=
  let n := p.payload.length
  let idle : Bool := decide (q.assembling = .none)
  let feed : Bool := decide (q.service = 0)
  match p.op with
  | .sendOnly => feed || !idle || decide (n = 0) || decide (q.mtu < n)
  | .sendFirst => feed || !idle || decide (n ≠ q.mtu)
  | .sendMiddle => !q.assembling.isSend || decide (n ≠ q.mtu)
  | .sendLast => !q.assembling.isSend || decide (n = 0) || decide (q.mtu < n)
  | .writeOnly | .writeOnlyImm => !idle || decide (n ≠ p.dmaLength) || decide (q.mtu < n)
  | .writeFirst => !idle || decide (n ≠ q.mtu) || decide (p.dmaLength ≤ n) || decide (2 ^ 31 < p.dmaLength)
  | .writeMiddle => decide (n ≠ q.mtu) || (q.assembling.left?).all (fun l => decide (l ≤ n))
  | .writeLast | .writeLastImm => decide (n = 0) || decide (q.mtu < n) || decide (q.assembling.left? ≠ some n)
  | .readRequest => !idle || decide (2 ^ 31 < p.dmaLength)
  | .compareSwap | .fetchAdd => !idle
  | _ => true

/-- Step 9 of R476: the memory check fails. -/
def State.accessRefused (s : State) (q : Qp) (p : RdmaPacket) : Bool :=
  match p.op with
  | .writeOnly | .writeOnlyImm | .writeFirst => (s.regionFor q p.rkey p.va p.dmaLength (fun g => g.write)).isNone
  | .readRequest => (s.regionFor q p.rkey p.va p.dmaLength (fun g => g.read)).isNone
  | .compareSwap | .fetchAdd => decide (p.va % 8 ≠ 0) || (s.regionFor q p.rkey p.va 8 (fun g => g.atomic)).isNone
  | _ => false

/-- Refuse a request with a NAK; the pair enters the error state. -/
def State.refuse (s : State) (q : Qp) (p : RdmaPacket) (code cause : Nat) : State := (s.sendNak q 2 code p.psn).failQp q.index cause

/-- Step 10 done for one packet: e advances, and the acknowledgement of R479 is sent or owed. -/
def State.executed (s : State) (i span : Nat) (ackNow : Bool) : State := match s.rqp? i with
  | none => s
  | some q =>
    let s := s.setRqp { q with expected := (q.expected + span) % 2 ^ 24, nakSent := false, unacked := q.unacked + 1, unackedAt := some s.now }
    if ackNow ∨ 16 ≤ q.unacked + 1 then s.sendAck i else s

/-- A message is whole: it waits for its consumer (R472, R473). Traffic on the managers' pair is their keep-alive too (R502). -/
def State.deliverInbound (s : State) (m : Inbound) : State :=
  let s := { s with rdma := { s.rdma with inbox := s.rdma.inbox ++ [m] } }
  if 256 ≤ m.qp ∧ m.qp < 264 ∧ m.qp % 2 = 1 ∧ s.isManager then { s with group := { s.group with keepaliveAt := some s.now } } else s

/-- An immediate: delivered on PEER and MESH_COLL, else counted and discarded (R471). -/
def State.takeImmediate (s : State) (q : Qp) (port imm : Nat) : State :=
  if q.service = 3 ∨ q.service = 4 then s.deliverInbound { port := port, qp := q.index, bytes := [], imm := some imm }
  else { s with rdma := { s.rdma with immediates := s.rdma.immediates + 1 } }

/-- Write the bytes of a SEND into its buffer. -/
def State.fillBuffer (s : State) (pointer offset : Nat) (bs : Bytes) : State :=
  if bitsOf pointer 40 40 = 0 then s.memWrite (bitsOf pointer 39 0 + offset) bs else s

/-- The first packet of a SEND on a pair with a receive pool takes one buffer; none sends a receiver-not-ready NAK (R472). -/
def State.openSend (s : State) (q : Qp) (port : Nat) (p : RdmaPacket) : State :=
  let block := s.blockOf port
  match s.allocateNow q.pool (64 + block) with
  | (s, .granted ptr) =>
    let limit := ((s.pool? q.pool).map (fun x => x.bufSize)).getD 0
    let q := { q with assembling := .send ptr limit [], rxBlock := block }
    let s := s.setRqp q
    if limit < p.payload.length then s.refuse q p 1 4
    else
      let s := s.fillBuffer ptr 0 p.payload
      if p.op = .sendOnly then
        ((s.setRqp { q with assembling := .none }).deliverInbound
          { port := port, qp := q.index, pointer := some ptr, owner := 64 + block, bytes := p.payload }).executed q.index 1 p.ackReq
      else (s.setRqp { q with assembling := .send ptr limit p.payload }).executed q.index 1 p.ackReq
  | (s, _) => s.sendNak q 1 q.attr.rnrTimer q.expected

/-- The later packets of a SEND. -/
def State.continueSend (s : State) (q : Qp) (port : Nat) (p : RdmaPacket) : State :=
  let last : Bool := decide (p.op = .sendLast)
  match q.assembling with
  | .send ptr limit bs =>
    if limit < bs.length + p.payload.length then s.refuse q p 1 4
    else
      let s := s.fillBuffer ptr bs.length p.payload
      let all := bs ++ p.payload
      if last then
        ((s.setRqp { q with assembling := .none }).deliverInbound
          { port := port, qp := q.index, pointer := some ptr, owner := 64 + q.rxBlock, bytes := all }).executed q.index 1 p.ackReq
      else (s.setRqp { q with assembling := .send ptr limit all }).executed q.index 1 p.ackReq
  | .plainSend bs =>
    let all := bs ++ p.payload
    if last then
      ((s.setRqp { q with assembling := .none }).deliverInbound { port := port, qp := q.index, bytes := all }).executed q.index 1 p.ackReq
    else (s.setRqp { q with assembling := .plainSend all }).executed q.index 1 p.ackReq
  | _ => s

/-- A SEND (R471, R472): on MESH_COLL it goes to firmware's own store and takes no pool buffer. -/
def State.takeSend (s : State) (q : Qp) (port : Nat) (p : RdmaPacket) : State :=
  if p.op = .sendMiddle ∨ p.op = .sendLast then s.continueSend q port p
  else if q.service ≠ 4 then s.openSend q port p
  else if p.op = .sendOnly then (s.deliverInbound { port := port, qp := q.index, bytes := p.payload }).executed q.index 1 p.ackReq
  else (s.setRqp { q with assembling := .plainSend p.payload }).executed q.index 1 p.ackReq

/-- Where the bytes of a WRITE packet go, and what remains of its message. -/
def State.writeTarget (s : State) (q : Qp) (p : RdmaPacket) : Option (Nat × Assembling) :=
  let n := p.payload.length
  match p.op with
  | .writeFirst | .writeOnly | .writeOnlyImm =>
    (s.regionFor q p.rkey p.va p.dmaLength (fun g => g.write)).map (fun g =>
      (g.at_ p.va, if p.op = .writeFirst then .write p.va p.rkey (p.dmaLength - n) (g.at_ p.va + n) p.dmaLength else .none))
  | _ => match q.assembling with
    | .write va rkey left start length =>
      some (start, if p.op = .writeMiddle then .write va rkey (left - n) (start + n) length else .none)
    | _ => none

/-- An RDMA WRITE packet (R471, R473): its bytes are in memory before anything after it is seen. -/
def State.takeRdmaWrite (s : State) (q : Qp) (port : Nat) (p : RdmaPacket) : State :=
  match s.writeTarget q p with
  | none => s
  | some (a, rest) =>
    let s := (s.memWrite a p.payload).setRqp { q with assembling := rest }
    let s := if p.op = .writeLastImm ∨ p.op = .writeOnlyImm then s.takeImmediate q port p.imm else s
    s.executed q.index 1 p.ackReq

/-- The operation of the k-th of n response packets. -/
def readOp (k n : Nat) : BthOp :=
  if n = 1 then .readOnly else if k = 0 then .readFirst else if k + 1 = n then .readLast else .readMiddle

/-- Answer a READ request from memory as it is now (R477, R478). -/
def State.answerRead (s : State) (q : Qp) (p : RdmaPacket) : State :=
  match s.regionFor q p.rkey p.va p.dmaLength (fun g => g.read) with
  | none => s
  | some g =>
    let bs := s.memRead (g.at_ p.va) p.dmaLength
    let n := q.pieces p.dmaLength
    (List.range n).foldl (fun s k => s.emit q { q.packet (readOp k n) (p.psn + k) with payload := (bs.drop (k * q.mtu)).take q.mtu } 3) s

/-- Answer an atomic with the original value. -/
def State.answerAtomic (s : State) (q : Qp) (psn value : Nat) : State := s.emit q { q.packet .atomicAck psn with swap := value } 3

/-- An answer acknowledges what came before it (R479). -/
def State.settleAck (s : State) (i : Nat) : State := match s.rqp? i with
  | some q => s.setRqp { q with unacked := 0, unackedAt := none }
  | none => s

/-- Execute an atomic (R480). -/
def State.takeAtomic (s : State) (q : Qp) (p : RdmaPacket) : State :=
  match s.regionFor q p.rkey p.va 8 (fun g => g.atomic) with
  | none => s
  | some g =>
    let a := g.at_ p.va
    let old := leNat (s.memRead a 8)
    let s := if p.op = .fetchAdd then s.memWrite a (natLe 8 ((old + p.swap) % 2 ^ 64))
      else if old = p.compare then s.memWrite a (natLe 8 p.swap) else s
    let s := s.setRqp { q with atomics := ((p.psn, old) :: q.atomics).take 64 }
    ((s.executed q.index 1 false).settleAck q.index).answerAtomic q p.psn old

/-- Steps 8 to 10 of R476 for the packet with the expected PSN. -/
def State.execute (s : State) (q : Qp) (port : Nat) (p : RdmaPacket) : State :=
  if invalidRequest q p then s.refuse q p 1 4
  else if s.accessRefused q p then s.refuse q p 2 3
  else match p.op with
    | .sendFirst | .sendMiddle | .sendLast | .sendOnly => s.takeSend q port p
    | .readRequest =>
      (s.setRqp { q with expected := (q.expected + q.pieces p.dmaLength) % 2 ^ 24, nakSent := false, unacked := 0, unackedAt := none }).answerRead q p
    | .compareSwap | .fetchAdd => s.takeAtomic q p
    | _ => s.takeRdmaWrite q port p

/-- A duplicate request (R478). -/
def State.takeDuplicate (s : State) (q : Qp) (p : RdmaPacket) : State :=
  let q := { q with duplicates := q.duplicates + 1 }
  let s := s.setRqp q
  match p.op with
  | .readRequest => if s.accessRefused q p then s.refuse q p 2 3 else s.answerRead q p
  | .compareSwap | .fetchAdd => match lookup? q.atomics p.psn with
    | some v => s.answerAtomic q p.psn v
    | none => s.refuse q p 1 9
  | _ => s.sendAck q.index

/-- A CNP for a packet that came in marked, at most once per 50 us per pair (R487). -/
def State.markCnp (s : State) (q : Qp) (p : RdmaPacket) : State :=
  let on := ((s.rdma.profiles[q.attr.ccProfile]?).map (fun c => c.cnpEnable)).getD 1
  if !p.ce ∨ on = 0 ∨ s.within q.cnpAt (s.us 50) then s
  else
    let s := (s.setRqp { q with cnpAt := some s.now }).emit q (q.packet .cnp 0) 3
    { s with rdma := { s.rdma with cnpsSent := s.rdma.cnpsSent + 1 } }

/-- PSN handling of a request (R477). -/
def State.respondTo (s : State) (q : Qp) (port : Nat) (p : RdmaPacket) : State :=
  match serialCmp p.psn q.expected 24 with
  | .equal => s.execute q port p
  | .after => if q.nakSent then s else (s.setRqp { q with nakSent := true }).sendNak q 2 0 q.expected
  | .before => s.takeDuplicate q p
  | .outside => s.rdmaDrop port 6

/-! ### Congestion control (R486) -/

/-- on_sample of R486. -/
def onSample (c : CcProfile) (q : Qp) (r : Int) (sent now : Nat) : Qp :=
  if sent < q.last then q
  else
    let target : Int := c.target
    let grad : Int := q.grad + ((r - q.prev) - q.grad) / 4
    let w : Int := q.cwnd
    let w' : Int :=
      if r ≤ target then w + c.ai
      else if r > 2 * target then w - (w * c.beta * (r - target)) / (256 * r)
      else if grad > 0 then w - (w * c.beta * min grad target) / (256 * target)
      else w
    { q with prev := r, grad := grad, cwnd := (min (c.cwndMax : Int) (max (c.cwndMin : Int) w')).toNat, last := now }

/-- The present time of the round-trip timer, in ns. -/
def State.nowNs (s : State) : Nat := s.cyclesNs s.now

/-! ### Requester: acknowledgements (R481) -/

/-- A READ in flight that has not all its bytes. -/
def SentPacket.unread (x : SentPacket) : Bool := decide (x.op = .readRequest) && decide (x.got.length < max 1 x.length)

/-- The packets at the front of a flight that an ACK covers: up to the first READ still without its responses. -/
def covered (psn : Nat) : List SentPacket → List SentPacket
  | [] => []
  | x :: xs =>
    if x.unread ∨ serialCmp (x.psn + x.span - 1) psn 24 = .after then [] else x :: covered psn xs

/-- The user whose message has ended. -/
def State.userDone (s : State) (u : WrUser) : State := match u with
  | .feed port index true => s.feedAcked port index
  | .result launch _ => s.collAcked launch
  | .coll launch _ => s.collAcked launch
  | _ => s

/-- Take packets off a flight: both retry counts are restored, and the users whose messages end are told. -/
def State.progressed (s : State) (i : Nat) (done : List SentPacket) (sample : Bool) : State := match s.rqp? i with
  | none => s
  | some q =>
    if done.isEmpty then s
    else
      let c := (s.rdma.profiles[q.attr.ccProfile]?).getD {}
      let now := s.nowNs
      let one (q : Qp) (x : SentPacket) : Qp := match x.sentNs with
        | some t => if sample && x.ackReq then onSample c q ((now : Int) - t) t now else q
        | none => q
      let q := done.foldl one q
      let q := { q with flight := q.flight.drop done.length, retriesLeft := q.attr.retry % 8, rnrLeft := q.attr.retry / 8 % 8 }
      (done.filterMap (fun x => x.ends)).foldl (fun s u => s.userDone u) (s.setRqp q)

/-- Every PSN at or before `psn` is acknowledged. -/
def State.ackUpTo (s : State) (i psn : Nat) (sample : Bool) : State := match s.rqp? i with
  | none => s
  | some q => s.progressed i (covered psn q.flight) sample

/-- Send again from a PSN (R481). -/
def State.resendFrom (s : State) (i psn : Nat) : State := match s.rqp? i with
  | none => s
  | some q =>
    let again (x : SentPacket) : SentPacket :=
      if serialCmp (x.psn + x.span - 1) psn 24 = .before then x else { x with again := true }
    s.setRqp { q with flight := q.flight.map again }

/-- The receiver-not-ready wait of a timer code, in units of 10 us (the InfiniBand encoding, R474). -/
def rnrDelay (code : Nat) : Nat :=
  [65536, 1, 2, 3, 4, 6, 8, 12, 16, 24, 32, 48, 64, 96, 128, 192, 256, 384, 512, 768, 1024, 1536, 2048, 3072, 4096, 6144, 8192,
    12288, 16384, 24576, 32768, 49152].getD code 65536

/-- A receiver-not-ready NAK (R481). -/
def State.takeRnr (s : State) (i code psn : Nat) : State :=
  let s := s.ackUpTo i (psn + 2 ^ 24 - 1) true
  match s.rqp? i with
  | none => s
  | some q =>
    let q := { q with rnrNaks := q.rnrNaks + 1 }
    let s := s.setRqp q
    let free : Bool := decide (q.attr.retry / 8 % 8 = 7)
    if !free && decide (q.rnrLeft = 0) then s.failQp i 2
    else
      (s.setRqp { q with rnrLeft := if free then q.rnrLeft else q.rnrLeft - 1, rnrUntil := some (s.now + s.us (10 * rnrDelay code)) }).resendFrom i psn

/-- An ACK or NAK on a pair with packets in flight (R481, R488); a reserved NAK code is dropped. -/
def State.takeAck (s : State) (q : Qp) (p : RdmaPacket) : State :=
  let i := q.index
  let known : Bool := match q.flight.head?, q.flight.getLast? with
    | some a, some b => decide (serialCmp p.psn a.psn 24 ≠ .before) && decide (serialCmp p.psn (b.psn + b.span - 1) 24 ≠ .after)
    | _, _ => false
  if !known then s
  else if p.aeth = 0 then
    let s := s.ackUpTo i p.psn true
    (match (s.rqp? i).bind (fun q => q.flight.head?) with
     | some x => if x.unread && decide (serialCmp x.psn p.psn 24 ≠ .after) && !x.again then s.resendFrom i x.psn else s
     | none => s)
  else if p.aeth = 1 then s.takeRnr i p.aethCode p.psn
  else if p.aethCode = 0 then (s.ackUpTo i (p.psn + 2 ^ 24 - 1) true).resendFrom i p.psn
  else if p.aethCode = 1 then s.failQp i 4
  else if p.aethCode = 2 then s.failQp i 3
  else if p.aethCode = 3 then s.failQp i 5
  else s

/-- A READ response (R481, R488): the next bytes of the oldest READ, or one to drop and ask for again; a length that differs is
an error. -/
def State.takeReadResponse (s : State) (q : Qp) (p : RdmaPacket) : State :=
  let i := q.index
  let want (x : SentPacket) : Nat := (x.psn + x.got.length / q.mtu) % 2 ^ 24
  match q.flight.find? (fun x => x.unread) with
  | none => s
  | some x =>
    if p.psn ≠ want x then s.resendFrom i x.psn
    else
      let s := s.ackUpTo i (x.psn + 2 ^ 24 - 1) false
      let left := x.length - x.got.length
      let final : Bool := decide (left ≤ q.mtu)
      let ending : Bool := decide (p.op = .readLast) || decide (p.op = .readOnly)
      if p.payload.length ≠ min left q.mtu ∨ final ≠ ending then s.failQp i 6
      else if !final then
        (match s.rqp? i with
         | some q =>
           let y := { x with got := x.got ++ p.payload, again := false }
           s.setRqp { q with flight := updateFirst (fun z => decide (z.psn = x.psn)) (fun _ => y) q.flight }
         | none => s)
      else
        let s := s.progressed i [x] false
        match x.ends with
        | some (.source launch who chunk) => s.sourceRead launch who chunk (x.got ++ p.payload)
        | _ => s

/-! ### Receiving (R475, R476) -/

/-- Steps 5 to 10 of R476. -/
def State.takePacket (s : State) (port : Nat) (p : RdmaPacket) : State :=
  match s.rqp? (p.qpn - 0x10000) with
  | none => s.rdmaDrop port 3
  | some q =>
    if q.state ≠ .rtr ∧ q.state ≠ .rts then s.rdmaDrop port 4
    else if p.pkey ≠ q.attr.pkey then s.rdmaDrop port 5
    else match p.op with
      | .cnp => { s with rdma := { s.rdma with cnpsReceived := s.rdma.cnpsReceived + 1 } }
      | .ack => s.takeAck q p
      | .readFirst | .readMiddle | .readLast | .readOnly => s.takeReadResponse q p
      | .atomicAck => s
      | _ =>
        let s := s.markCnp q p
        match s.rqp? q.index with
        | some q => s.respondTo q port p
        | none => s

/-- Packets in the miss buffer of a port block. -/
def State.missOf (s : State) (block : Nat) : Nat := (s.rdma.missed.filter (fun m => decide (s.blockOf m.1 = block))).length

/-- Step 4 of R476 (R483): a packet without its context, or behind one of its pair, enters the miss buffer of its port block. -/
def State.missBuffer (s : State) (port i : Nat) (p : RdmaPacket) : State :=
  let block := s.blockOf port
  if 16 ≤ s.missOf block then s.rdmaDrop port 7
  else
    let n := s.missOf block + 1
    let r := s.rdma
    let s := { s with rdma := { r with missed := r.missed ++ [(port, p)], misses := r.misses + 1,
                                       peaks := assign r.peaks block (max n (lookupD r.peaks block 0)) } }
    s.fetchContext i

/-- RDMA_PACKET_RECEIVE (R469, R475 to R480, R483, R487, R490): a packet for none of the device's source GIDs is dropped. -/
def execRdmaPacketReceive (port : Nat) (packet : RdmaPacket) (s : State) : Out :=
  let i := packet.qpn - 0x10000
  .next (
    if packet.dgid = 0 ∨ !s.rdma.gids.contains packet.dgid then s
    else if !packet.icrcOk then s.rdmaDrop port 1
    else if !packet.headerOk then s.rdmaDrop port 2
    else if packet.qpn < 0x10000 ∨ 0x1FFFF < packet.qpn ∨ (s.rqp? i).isNone then s.rdmaDrop port 3
    else if !s.cached i ∨ s.buffered i then s.missBuffer port i packet
    else (({ s with rdma := { s.rdma with hits := s.rdma.hits + 1 } }).touch i).takePacket port packet)

/-- CONTEXT_FETCH_COMPLETE (R482, R483): the pair's buffered packets continue in arrival order, and waiting misses try again. -/
def execContextFetchComplete (qp : Nat) (s : State) : Out :=
  if !s.rdma.fetching.contains qp then .next s
  else
    let r := s.rdma
    let mine := r.missed.filter (fun m => decide (m.2.qpn = 0x10000 + qp))
    let s := { s with rdma := { r with fetching := r.fetching.erase qp,
                                       missed := r.missed.filter (fun m => decide (m.2.qpn ≠ 0x10000 + qp)),
                                       cache := updateFirst (fun e => decide (e.qp = qp)) (fun e => { e with loading := false }) r.cache } }
    let s := mine.foldl (fun s m => (s.touch qp).takePacket m.1 m.2) s
    .next (s.rdma.missWait.foldl (fun s i => s.fetchContext i) s)

/-! ### Sending (R481) -/

/-- The operation of a packet of a message. -/
def wrOp (k : WrKind) (first last : Bool) : BthOp :=
  match k, first, last with
  | .send, true, true => .sendOnly
  | .send, true, false => .sendFirst
  | .send, false, true => .sendLast
  | .send, false, false => .sendMiddle
  | .read _ _ _, _, _ => .readRequest
  | .write _ _, true, true => .writeOnly
  | .writeImm _ _ _, true, true => .writeOnlyImm
  | .writeImm _ _ _, false, true => .writeLastImm
  | .write _ _, false, true => .writeLast
  | _, true, false => .writeFirst
  | _, false, false => .writeMiddle

/-- The next packet of a pair's first message, and whether it ends it. -/
def Qp.nextOf (q : Qp) (w : Work) : SentPacket × Bool :=
  let chunk := (w.data.drop q.offset).take q.mtu
  let last : Bool := match w.kind with
    | .read _ _ _ => true
    | _ => decide (w.data.length ≤ q.offset + q.mtu)
  let (va, rkey, imm, length) := match w.kind with
    | .send => (0, 0, 0, w.data.length)
    | .write va rkey => (va, rkey, 0, w.data.length)
    | .writeImm va rkey imm => (va, rkey, imm, w.data.length)
    | .read va rkey n => (va, rkey, 0, n)
  let op := wrOp w.kind (decide (q.offset = 0)) last
  ({ psn := q.nextPsn, span := if op = .readRequest then q.pieces length else 1, op := op, va := va, rkey := rkey, length := length
     imm := imm, payload := if op = .readRequest then [] else chunk, ackReq := last || decide (q.sinceAckReq + 1 = 16)
     ends := if last then some w.user else none, sentNs := none, sentAt := 0 }, last)

/-- A flight's packet on the wire; a READ goes out for what is still missing. -/
def Qp.wire (q : Qp) (x : SentPacket) : RdmaPacket :=
  let k := x.got.length
  { q.packet x.op (x.psn + k / q.mtu) with ackReq := x.ackReq, va := x.va + k, rkey := x.rkey, dmaLength := x.length - k
                                           imm := x.imm, payload := x.payload }

/-- The origin of a pair's traffic (R452). -/
def Qp.origin (q : Qp) : Nat := if q.service = 0 then 1 else if q.service = 1 ∨ q.service = 4 then 2 else 3

/-- The launch's channel that a message belongs to (R414). -/
def State.channelOf (s : State) (u : Option WrUser) : Option Nat := match u with
  | some (.source l _ _) => (s.launch? l).map (fun x => x.channel)
  | some (.result l _) => (s.launch? l).map (fun x => x.channel)
  | some (.coll l _) => (s.launch? l).map (fun x => x.channel)
  | _ => none

/-- Payload bytes in flight, those due again not counted. -/
def Qp.inFlight (q : Qp) : Nat := ((q.flight.filter (fun x => !x.again)).map (fun x => x.payload.length)).sum

/-- A packet of so many bytes may start (R481). -/
def Qp.mayStart (q : Qp) (n : Nat) : Bool := decide (q.inFlight + n ≤ q.cwnd) || decide (q.inFlight = 0)

/-- Send one packet of a pair: the oldest due again, else the next of its first message. -/
def State.sendOne (s : State) (q : Qp) : State :=
  match q.flight.find? (fun x => x.again) with
  | some x =>
    if !q.mayStart x.payload.length then s
    else
      let y := { x with again := false, sentNs := none, sentAt := s.now }
      let q' := { q with flight := updateFirst (fun z => decide (z.psn = x.psn)) (fun _ => y) q.flight, retries := q.retries + 1 }
      (s.setRqp q').emit q (q.wire x) q.origin (s.channelOf x.ends)
  | none => match q.queue with
    | [] => s
    | w :: rest =>
      let (x, last) := q.nextOf w
      let reads := (q.flight.filter (fun y => decide (y.op = .readRequest))).length
      if !q.mayStart x.payload.length ∨ (x.op = .readRequest ∧ q.attr.initDepth ≤ reads) then s
      else
        let y := { x with sentNs := some s.nowNs, sentAt := s.now }
        let q' := { q with flight := q.flight ++ [y], nextPsn := (q.nextPsn + x.span) % 2 ^ 24, queue := if last then rest else q.queue
                           offset := if last then 0 else q.offset + q.mtu, sinceAckReq := if x.ackReq then 0 else q.sinceAckReq + 1 }
        (s.setRqp q').emit q (q.wire y) q.origin (s.channelOf (some w.user))

/-- RDMA_PACKET_SEND (R481, R482, R489): in RTS, past a receiver-not-ready wait, with its context cached and its port up. -/
def execRdmaPacketSend (qp : Nat) (s : State) : Out :=
  match s.rqp? qp with
  | none => .next s
  | some q =>
    let up : Bool := match s.egressOf q with
      | some p => p.up
      | none => false
    if q.state ≠ .rts ∨ q.rnrUntil.isSome ∨ !up ∨ (q.queue.isEmpty ∧ !q.flight.any (fun x => x.again)) then .next s
    else if !s.cached qp then .next (s.fetchContext qp)
    else .next ((s.touch qp).sendOne q)

/-- ACK_TIMER (R479): 2 us have passed since the last execution not acknowledged. -/
def execAckTimer (qp : Nat) (s : State) : Out :=
  match s.rqp? qp with
  | some q => .next (if 0 < q.unacked ∧ (q.state = .rtr ∨ q.state = .rts) then s.sendAck qp else s)
  | none => .next s

/-- ACK_TIMEOUT (R481): the oldest packet in flight has waited the ACK timeout. -/
def execAckTimeout (qp : Nat) (s : State) : Out :=
  match s.rqp? qp with
  | none => .next s
  | some q =>
    match q.flight with
    | [] => .next s
    | x :: _ =>
      if q.state ≠ .rts then .next s
      else if q.retriesLeft = 0 then .next (s.failQp qp 1)
      else .next ((s.setRqp { q with retriesLeft := q.retriesLeft - 1 }).resendFrom qp x.psn)

/-- RNR_TIMER_EXPIRY (R481): the wait of a receiver-not-ready NAK ends. -/
def execRnrTimerExpiry (qp : Nat) (s : State) : Out :=
  match s.rqp? qp with
  | some q => .next (s.setRqp { q with rnrUntil := none })
  | none => .next s

end Sys2Proof.Machine
end

