-- ==== Sys2Proof/Machine/Ports.lean ====
section
/-! DEFINITION. Ports going up and down, firmware's queue pairs on their links, and PORT_CONFIG (R443 to R447, R498, R502). -/

namespace Sys2Proof.Machine

/-! ### Firmware queue pairs (R470, R498) -/

/-- The pairs of a mesh or twin port. -/
def linkPairs (k : PortKind) (index : Nat) : List Nat := match k with
  | .mesh => [2 * index, 2 * index + 1]
  | .twin => [256 + 2 * index, 257 + 2 * index]
  | _ => []

/-- The side and device that a mesh or twin port reaches. -/
def State.linkPeer (s : State) (k : PortKind) (index : Nat) : Option (Nat × Nat) := match k with
  | .mesh => some (s.group.set.side, meshDevice s.group.set.deviceId index)
  | .twin => some (1 - s.group.set.side, s.group.set.deviceId)
  | _ => none

/-- The last HELLO of a device. -/
def State.hello? (s : State) (side device : Nat) : Option Hello :=
  s.group.hellos.find? (fun h => decide (h.side = side) && decide (h.sender = device))

/-- A firmware pair connected with the fixed attributes of R498, to the peer of a HELLO. The receive pool is the uninterpreted
`Config.stagePool` (log entry 30). -/
def State.firmwareQp (s : State) (i : Nat) (h : Hello) : Qp :=
  let c : CcProfile := (s.rdma.profiles[0]?).getD ({} : CcProfile)
  let dest := if i < 256 then 2 * meshIndex h.sender s.group.set.deviceId + i % 2 else i
  { index := i, service := 3 + i % 2, state := .rts, pool := Config.stagePool 64 % 64, domain := 0xFFFF, pinned := true
    attr := { pmtu := 5, timeout := 10, retry := 63, rnrTimer := Config.firmwareRnr % 32, respDepth := 64, initDepth := 64, ccProfile := 0
              destQpn := 0x10000 + dest, sqPsn := 0, rqPsn := 0, vlan := 0, destMac := h.mac, destGid := h.gid, sgid := 0, hopLimit := 64
              pkey := 0xFFFF }
    retriesLeft := 7, rnrLeft := 7, cwnd := c.cwndInit, prev := c.target }

/-- Put a firmware pair in, new or in place of the old one. -/
def State.putFirmwareQp (s : State) (q : Qp) : State :=
  let s := { s with rdma := { s.rdma with qps := s.rdma.qps.filter (fun x => decide (x.index ≠ q.index)) ++ [q] } }
  if s.cached q.index then s else (s.placeContext { qp := q.index }).getD s

/-- Connect a link's pairs, once its port is up and its peer's HELLO is known (R498). -/
def State.connectLink (s : State) (p : Port) : State :=
  match (s.linkPeer p.kind p.index).bind (fun d => s.hello? d.1 d.2) with
  | none => s
  | some h => if p.up then (linkPairs p.kind p.index).foldl (fun s i => s.putFirmwareQp (s.firmwareQp i h)) s else s

/-- The peer of a link is ACTIVE or JOINING (R498). -/
def State.peerLive (s : State) (p : Port) : Bool := match s.linkPeer p.kind p.index with
  | some (side, d) =>
    let l := if side = s.group.set.side then s.group.members else s.group.peers
    l.any (fun m => decide (m.1 = d) && (decide (m.2 = .active) || decide (m.2 = .joining)))
  | none => false

/-- Move a link's pairs to RESET (R498): fetches on them are repeated elsewhere or fail (R173). -/
def State.resetLink (s : State) (k : PortKind) (index : Nat) : State :=
  (linkPairs k index).foldl (fun s i => match s.rqp? i with
    | some q => let s := s.quiet q .reset 0
      if q.service = 3 then s.fetchPairFailed i else s
    | none => s) s

/-! ### Ports going down and up (R447, R502) -/

/-- Drop every frame queued to a port, in transit to it, held or waiting for it, as PORT_DOWN (R447, R461). -/
def State.flushPort (s : State) (port : Nat) : State :=
  let x := s.switch
  let queued := ((s.port? port).map (fun p => p.queues.flatMap (fun q => q.frames))).getD []
  let moving := ((x.transit ++ x.held).filter (fun f => decide (f.egress = port))).map (fun f => f.frame)
  let stamps := ((x.transit ++ x.held).filter (fun f => decide (f.egress = port))).map (fun f => (f.ingress, f.egress))
  let waiting := (x.waiting.filter (fun w => decide (w.2.1 = port))).map (fun w => w.2.2.2)
  let copies := (x.residue.flatMap (fun e => (e.waiting.filter (fun w => decide (w.1 = port))).map (fun _ => e.frame)))
  let trim (e : Residue) : Residue := { e with waiting := e.waiting.filter (fun w => decide (w.1 ≠ port)) }
  let caught (l : List ((Nat × Nat) × Nat)) : List ((Nat × Nat) × Nat) :=
    stamps.foldl (fun l k => assign l k (lookupD x.nextStamp k 0)) l
  let s := { s with switch := { x with
    transit := x.transit.filter (fun f => decide (f.egress ≠ port)), held := x.held.filter (fun f => decide (f.egress ≠ port)),
    waiting := x.waiting.filter (fun w => decide (w.2.1 ≠ port)), expected := caught x.expected,
    residue := (x.residue.map trim).filter (fun e => !e.waiting.isEmpty) } }
  let s := match s.port? port with
    | some p => s.setPort { p with queues := p.queues.map (fun q => { q with frames := [] }) }
    | none => s
  (queued ++ moving ++ copies).foldl (fun s f => (s.drop port 10).leave f.id) (waiting.foldl (fun s _ => s.drop port 10) s)

/-- Another pair of twin peers has a link up: with other members on this side the device cannot see it, so a free value says
(log entry 4). -/
def State.twinElsewhere (s : State) : Bool :=
  s.group.members.any (fun m => decide (m.1 ≠ s.group.set.deviceId) && decide (m.2 = .active)) && decide (s.free % 2 = 0)

/-- No twin link is up anywhere: the sides are split, and the manager raises TWIN_SPLIT (R502). -/
def State.checkSplit (s : State) : State :=
  if !s.group.set.twin ∨ s.group.split ∨ !s.group.twinUp.isEmpty then s
  else if s.twinElsewhere then s.used
  else
    let s := { s.used with group := { s.group with split := true } }
    if s.isManager then s.raise .twinSplit else s

/-- The timebase PLL of a worker in CLK_MODE 0b10 takes ring-in while that link is up and the ring not folded (R592). -/
def State.followRing (s : State) : State :=
  let g := s.group
  let follow : Bool := decide (s.power.clkMode = 2#2) && decide (g.set.deviceId ≠ g.manager) && g.ringIn && !g.folded
  { s with power := { s.power with tbRing := follow } }

/-- A ring link is up again: with both up the ring is no longer folded here (R503, R592). -/
def State.ringUp (s : State) (k : PortKind) : State :=
  if k ≠ .ringIn ∧ k ≠ .ringOut then s
  else
    let g := s.group
    let i := g.ringIn || decide (k = .ringIn)
    let o := g.ringOut || decide (k = .ringOut)
    ({ s with group := { g with ringIn := i, ringOut := o, folded := g.folded && !(i && o) } }).followRing

/-- What a link lost or gained means beyond its port: the firmware pairs, the launches, the twin links (R418, R498, R502). -/
def State.linkChanged (s : State) (p : Port) (up : Bool) : State :=
  let twin : Bool := decide (p.kind = .twin)
  let links := if up then s.group.twinUp.filter (fun n => decide (n ≠ p.index)) ++ [p.index]
    else s.group.twinUp.filter (fun n => decide (n ≠ p.index))
  let s := if twin then { s with group := { s.group with twinUp := links, split := s.group.split && !up } } else s
  if up then (if s.peerLive p then s.connectLink { p with up := true } else s).ringUp p.kind
  else
    let s := s.resetLink p.kind p.index
    let s := match s.linkPeer p.kind p.index with
      | some (side, d) => if !twin || s.group.twinUp.isEmpty then s.collLinkLost side d else s
      | none => s
    if twin then s.checkSplit else s

/-- A port loses or gains link (R447). -/
def State.setLink (s : State) (p : Port) (up : Bool) : State :=
  if p.up = up then s
  else
    let s := (s.setPort { p with up := up }).raise .portLink p.logical (natLe 1 up.toNat)
    let s := if up then s else s.flushPort p.logical
    (s.linkChanged p up).retryAll

/-- PORT_LINK_CHANGE (R447, R498, R502). -/
def execPortLinkChange (port : Nat) (up : Bool) (s : State) : Out :=
  match s.port? port with
  | some p => .next (s.setLink p up)
  | none => .next s

/-! ### PORT_CONFIG (R443, R445 to R447, R468) -/

/-- The type of a TYPE value (R445). -/
def portKindOf : Nat → PortKind
  | 0 => .accel | 1 => .mesh | 2 => .twin | 3 => .ringIn | 4 => .ringOut | _ => .plain

/-- FIRST_LANE and WIDTH of an entry (R446). -/
def entryFirst (e : PortEntry) : Nat := bitsOf e.lanes 2 0
def entryWidth (e : PortEntry) : Nat := 2 ^ bitsOf e.lanes 4 3

/-- LANE_ORDER is a permutation of 0 to WIDTH - 1 with its higher bits zero (R446). -/
def entryOrderOk (e : PortEntry) : Bool :=
  let l := (List.range (entryWidth e)).map (fun j => e.laneOrder / 8 ^ j % 8)
  decide (e.laneOrder < 8 ^ (entryWidth e)) && (List.range (entryWidth e)).all (fun j => l.contains j)

/-- Offset within an entry of its first fault (R443, R445, R446). -/
def portEntryFault (e : PortEntry) : Option Nat :=
  let ring : Bool := decide (e.kind = 3) || decide (e.kind = 4)
  let top := if e.kind = 1 then 126 else if e.kind = 2 then 3 else 255
  if 5 < e.kind then some 1
  else if 31 < e.lanes ∨ (entryFirst e) % (entryWidth e) ≠ 0 ∨ 8 < (entryFirst e) + (entryWidth e) ∨ (ring ∧ (entryWidth e) ≠ 1) then some 2
  else if top < e.index then some 3
  else if e.mtu < 1518 ∨ 9216 < e.mtu then some 4
  else if !(entryOrderOk e) then some 8
  else if 2 < e.trust then some 12
  else if 7 < e.defaultTc then some 13
  else if e.reserved ≠ 0 then some 14
  else none

/-- Lanes of an entry. -/
def entryLanesOf (e : PortEntry) : List Nat := (List.range (entryWidth e)).map (fun j => (entryFirst e) + j)

/-- An entry clashes with a later one of its list (R443, R447). -/
def entriesClash : List PortEntry → Bool
  | [] => false
  | e :: rest =>
    let ring : Bool := decide (e.kind = 3) || decide (e.kind = 4)
    rest.any (fun f => (entryLanesOf e).any (fun l => (entryLanesOf f).contains l) || decide (e.logical = f.logical)
      || (decide (e.kind = f.kind) && (ring || decide (e.index = f.index)))) || entriesClash rest

/-- PORT_CONFLICT (R447). -/
def State.portConflict (s : State) (block : Nat) (es : List PortEntry) : Bool :=
  let others := s.switch.ports.filter (fun p => decide (p.block ≠ block))
  let clash (e : PortEntry) (p : Port) : Bool :=
    decide (p.logical = e.logical) || (decide (p.kind = portKindOf e.kind) && (decide (p.index = e.index)
      || decide (e.kind = 3) || decide (e.kind = 4)))
  entriesClash es || es.any (fun e => others.any (clash e))

/-- A port is named by the active plan, a group specification, a feed ring or a collective queue pair, or is a ring port of a
group member (R447). -/
def State.portInUse (s : State) (p : Port) : Bool :=
  let me := s.group.set
  let named := s.coll.channels.any (fun c => (specRanks c.spec).contains (me.side, me.deviceId, p.logical))
  let member := s.group.members.any (fun m => decide (m.1 = me.deviceId) && decide (m.2 ≠ .absent) && decide (m.2 ≠ .lost))
  let planned : Bool := match s.plan.active with
    | some (_, q) => q.dests.contains ⟨p.logical, me.deviceId, me.side⟩
    | none => false
  (decide (p.kind = .accel) && (planned || named || (s.ring? p.logical).isSome || s.coll.ports.any (fun x => decide (x.1 = p.logical))))
    || ((decide (p.kind = .ringIn) || decide (p.kind = .ringOut)) && member)

/-- PORT_CONFIG would remove or retype a port in use. -/
def State.portRemoved (s : State) (block : Nat) (es : List PortEntry) : Bool :=
  s.switch.ports.any (fun p => decide (p.block = block) && s.portInUse p
    && !es.any (fun e => decide (e.logical = p.logical) && decide (portKindOf e.kind = p.kind)))

/-- The port that an entry configures: one that keeps its logical number keeps its classes, queues and shapers. -/
def State.portFrom (s : State) (block : Nat) (e : PortEntry) : Port :=
  let base : Port := (s.port? e.logical).getD { logical := e.logical, kind := portKindOf e.kind, block := block }
  { base with kind := portKindOf e.kind, block := block, firstLane := (entryFirst e), width := (entryWidth e), index := e.index, mtu := e.mtu
              txInvert := e.txInvert, rxInvert := e.rxInvert, laneOrder := e.laneOrder, trust := e.trust, defaultTc := e.defaultTc
              up := false }

/-- A new accelerator port becomes a Gauge source at the device's view (R55; log entry 54). -/
def State.newSources (s : State) : State :=
  let fresh := s.switch.ports.filter (fun p => decide (p.kind = .accel) && !s.gauge.sources.any (fun x => decide (x.port = p.logical)))
  fresh.foldl (fun s p => s.setSource (seedSource { port := p.logical } s.gauge.committed s.now)) s

/-- Put a block's ports in place, down (R447). -/
def State.putPorts (s : State) (block : Nat) (es : List PortEntry) : State :=
  let old := s.switch.ports.filter (fun p => decide (p.block = block))
  let s := old.foldl (fun s p => s.setLink p false) s
  let new := es.map (s.portFrom block)
  ({ s with switch := { s.switch with ports := s.switch.ports.filter (fun (p : Port) => decide (p.block ≠ block)) ++ new } }).newSources

/-- PORT_CONFIG (R443 to R447): the block's reset goes with it (R599). -/
def execPortConfig (r : Req) (block : Nat) (entries : List PortEntry) (s : State) : Out :=
  .next (s.finish r 0x0601
    (firstReject [(decide (63 < block), badParam 0), (decide (8 < entries.length), badParam 2),
      paramFault (listFault portEntryFault 16 entries 8), (s.portConflict block entries, ⟨.portConflict, 0⟩),
      (s.portRemoved block entries, ⟨.inUse, 0⟩)])
    (((s.putPorts block entries).blockReset block).answer r 0x0601 .ok))

/-! ### The factory default (R47 to R49, R446) -/

/-- Entries of one block under the factory default: two accelerator ports, four mesh ports, a twin port, or the last mesh ports
with the ring ports. -/
def defaultEntries (block : Nat) : List PortEntry :=
  let die := block / 16
  let b := block % 16
  let e (logical kind lanes index order : Nat) : PortEntry :=
    { logical := logical, kind := kind, lanes := lanes, index := index, mtu := 9216, laneOrder := order }
  if b < 7 then (List.range 2).map (fun j => let a := 14 * die + 2 * b + j; e a 0 (4 * j + 2 * 8) a 0o3210)
  else if b < 15 then
    let mesh := ((List.range 4).map (fun j => (j, 32 * die + 4 * (b - 7) + j))).filter (fun x => decide (x.2 < 127))
    mesh.map (fun x => e (56 + x.2) 1 (2 * x.1 + 8) x.2 0o10) ++ (if block = 62 then [e 187 3 6 0 0, e 188 4 7 0 0] else [])
  else [e (183 + die) 2 (3 * 8) die 0o76543210]

/-- Every block's factory default. -/
def State.defaultPorts (s : State) : State := (List.range 64).foldl (fun s b => s.putPorts b (defaultEntries b)) s

end Sys2Proof.Machine
end

