-- ==== Sys2Proof/Machine/Nor.lean ====
section
/-! DEFINITION. Persistent settings, security and firmware: the paired records of the NOR, their selection and their writes,
configuration copies, calibration, the owner key, firmware images and download sessions (chapter 20). -/

namespace Sys2Proof.Machine

def State.setNor (s : State) (n : NorState) : State := { s with nor := n }

/-! ### Paired records (R534 to R536) -/

/-- The two halves of a record as the NOR holds them. -/
def State.paired (s : State) : RecordKind → Paired
  | .config => s.nor.config | .ucal => s.nor.ucal | .owner => s.nor.owner | .retire => s.nor.retire

def State.setPaired (s : State) (k : RecordKind) (p : Paired) : State := match k with
  | .config => s.setNor { s.nor with config := p }
  | .ucal => s.setNor { s.nor with ucal := p }
  | .owner => s.setNor { s.nor with owner := p }
  | .retire => s.setNor { s.nor with retire := p }

/-- Put bytes in a half. -/
def Paired.put (p : Paired) (h : Half) (bs : Bytes) : Paired := match h with
  | .a => { p with a := bs }
  | .b => { p with b := bs }

/-- The bytes of a half. -/
def Paired.half (p : Paired) : Half → Bytes
  | .a => p.a | .b => p.b

/-- One entry of a configuration copy (R539): its byte offset, its header and its payload. -/
structure CfgEntry where
  offset : Nat
  kind : Nat
  code : Nat
  payload : Bytes
  deriving DecidableEq, Repr

/-- The commands a configuration copy may carry (R540). -/
def configCommands : List Nat :=
  [0x0230, 0x0232, 0x0440, 0x0601, 0x0611, 0x0620, 0x0621, 0x0622, 0x0623, 0x0701, 0x0702, 0x0730, 0x0801, 0x0B04, 0x0C03,
    0x0C04]

/-- The first fault of an entry's own form, as an offset from the entry (R539, R541). -/
def CfgEntry.fault (e : CfgEntry) : Option Nat :=
  let n := e.payload.length
  if e.kind = 1 then (if configCommands.contains e.code then none else some 2)
  else if e.kind = 0 ∨ 4 < e.kind then some 0
  else if e.code ≠ 0 then some 2
  else if e.kind = 2 then (if n = 8 then none else some 4)
  else if e.kind = 3 then
    (if n ≠ 16 then some 4
     else if outside (fieldAt e.payload 12 1) 1 30 then some 20
     else if 32 < fieldAt e.payload 13 1 then some 21
     else if fieldAt e.payload 14 2 ≠ 0 then some 22 else none)
  else if n ≠ 8 then some 4
  else if 1 < fieldAt e.payload 0 8 then some 8 else none

/-- The entries of a copy from a byte offset to its LENGTH, or the offset of the first fault (R539). -/
def entriesFrom (bs : Bytes) (stop : Nat) : Nat → Nat → Except Nat (List CfgEntry)
  | 0, o => .error o
  | fuel + 1, o =>
    if o = stop then .ok []
    else
      let n := fieldAt bs (o + 4) 4
      let next := o + 8 + (n + 7) / 8 * 8
      let e : CfgEntry := ⟨o, fieldAt bs o 2, fieldAt bs (o + 2) 2, (bs.drop (o + 8)).take n⟩
      if stop < o + 8 ∨ stop < next then .error (min (o + 4) stop)
      else if !zeroAt bs (o + 8 + n) (next - (o + 8 + n)) then .error (o + 8 + n)
      else match e.fault with
        | some f => .error (o + f)
        | none => match entriesFrom bs stop fuel next with
          | .ok es => .ok (e :: es)
          | .error f => .error f

/-- The entries of a copy. -/
def configEntries (bs : Bytes) : Except Nat (List CfgEntry) :=
  let n := fieldAt bs 12 4
  entriesFrom bs n n 64

/-- The first fault of a configuration copy under R537 to R539, its signature left aside. -/
def configFormFault (bs : Bytes) (uid : Nat) : Option Nat :=
  let n := fieldAt bs 12 4
  if bs.take 4 ≠ [0x43, 0x4E, 0x46, 0x47] then some 0
  else if fieldAt bs 4 2 ≠ 1 then some 4
  else if 1 < fieldAt bs 6 2 then some 6
  else if outside n 64 1048512 ∨ n % 8 ≠ 0 ∨ bs.length < n then some 12
  else if fieldAt bs 16 8 ≠ 0 ∧ fieldAt bs 16 8 ≠ uid then some 16
  else if !zeroAt bs 24 8 then some 24
  else if sliceAt bs 32 32 ≠ sha256 (bs.take 32 ++ (bs.take n).drop 64) then some 32
  else match configEntries bs with
    | .ok _ => none
    | .error o => some o

/-- A copy is signed (R537). -/
def configSigned (bs : Bytes) : Bool := decide (fieldAt bs 6 2 % 2 = 1)

/-- The signature of a copy fails under a key, which is checked only when the copy is signed and a key is enrolled (R538,
R549). -/
def configSigBad (bs : Bytes) (key : Option Bytes) : Bool := match key with
  | none => false
  | some k => configSigned bs && !Config.ecdsaVerify k (sliceAt bs 32 32) (sliceAt bs (fieldAt bs 12 4) 64)

/-- A configuration copy is valid (R538). -/
def configValid (bs : Bytes) (uid : Nat) (key : Option Bytes) : Bool :=
  (configFormFault bs uid).isNone && !configSigBad bs key

/-- The calibration entries of a half: FIELD and VALUE (R545). -/
def ucalEntries (bs : Bytes) : List (Nat × Int) :=
  (List.range (fieldAt bs 6 2)).map (fun k => (fieldAt bs (64 + 4 * k) 2, signedOf 16 (fieldAt bs (66 + 4 * k) 2)))

/-- FIELD values rise strictly. -/
def rises : List (Nat × Int) → Bool
  | a :: b :: rest => decide (a.1 < b.1) && rises (b :: rest)
  | _ => true

/-- A calibration half is valid (R545). -/
def ucalValid (bs : Bytes) : Bool :=
  let n := fieldAt bs 6 2
  decide (bs.take 4 = [0x55, 0x43, 0x41, 0x4C]) && decide (fieldAt bs 4 2 = 1) && decide (n ≤ 4096) && zeroAt bs 12 20
    && decide (64 + 4 * n ≤ bs.length) && rises (ucalEntries bs)
    && decide (sliceAt bs 32 32 = sha256 (bs.take 32 ++ (bs.drop 64).take (4 * n)))

/-- An owner record half is valid (R551). -/
def ownerValid (bs : Bytes) (uid : Nat) : Bool :=
  decide (bs.length = 128) && decide (bs.take 4 = [0x4F, 0x57, 0x4E, 0x4B]) && decide (fieldAt bs 4 2 = 1)
    && decide (fieldAt bs 6 1 ≤ 1) && zeroAt bs 7 1 && zeroAt bs 12 4 && zeroAt bs 24 8 && decide (fieldAt bs 16 8 = uid)
    && decide (sliceAt bs 96 32 = sha256 (bs.take 96))

/-- A retirement half is valid (R548). -/
def retireValid (bs : Bytes) : Bool :=
  decide (bs.length = 128) && decide (bs.take 4 = [0x52, 0x45, 0x54, 0x52]) && decide (fieldAt bs 4 2 = 1) && zeroAt bs 6 2
    && zeroAt bs 12 20 && decide (sliceAt bs 32 32 = sha256 (bs.take 32 ++ (bs.take 128).drop 64))

/-- A half of a record is valid. -/
def State.halfValid (s : State) (k : RecordKind) (bs : Bytes) : Bool := match k with
  | .config => configValid bs s.fuse.uid s.nor.ownerKey
  | .ucal => ucalValid bs
  | .owner => ownerValid bs s.fuse.uid
  | .retire => retireValid bs

/-- SEQUENCE of a half, at the same place in every record. -/
def halfSeq (bs : Bytes) : Nat := fieldAt bs 8 4

/-- The selection of R535, and a conflict of two valid halves. -/
def State.selectOf (s : State) (k : RecordKind) (p : Paired) : Option Half × Bool :=
  match s.halfValid k p.a, s.halfValid k p.b with
  | false, false => (none, false)
  | true, false => (some .a, false)
  | false, true => (some .b, false)
  | true, true => match serialCmp (halfSeq p.b) (halfSeq p.a) 32 with
    | .after => (some .b, false)
    | .before => (some .a, false)
    | _ => (some .a, true)

/-- The record as it will stand once the writes accepted have been carried out (R536). -/
def State.pairedAhead (s : State) (k : RecordKind) : Paired :=
  s.nor.writes.foldl (fun p w => match w.job with
    | .record k' h bs => if k' = k then p.put h bs else p
    | _ => p) (s.paired k)

/-- The base of a write: the half R535 would select, none for an absent record (R536). -/
def State.baseOf (s : State) (k : RecordKind) : Option Bytes :=
  let p := s.pairedAhead k
  (s.selectOf k p).1.map p.half

/-- The half a write goes to: the one not selected at the last boot, else A (R536). -/
def Paired.target (p : Paired) : Half := match p.sel with
  | some .a => .b
  | _ => .a

/-- SEQUENCE of a write: the base's plus 1, or 1 (R536). -/
def State.nextSeqOf (s : State) (k : RecordKind) : Nat := match s.baseOf k with
  | some bs => (halfSeq bs + 1) % 2 ^ 32
  | none => 1

/-- Accept a NOR write: writes are carried out one at a time, in order of acceptance (R536). -/
def State.queueNor (s : State) (w : NorWrite) : State := s.setNor { s.nor with writes := s.nor.writes ++ [w] }

/-- Accept a write of a paired record. -/
def State.writeNorRecord (s : State) (k : RecordKind) (bs : Bytes) (waiter : Option (Req × Nat)) (result : Nat := 0) : State :=
  s.queueNor { job := .record k (s.paired k).target bs, waiter := waiter, result := result }

/-- The payload of a log line that charges a conflict or a skipped entry in the CONFIG log (R610). -/
def State.configLog (s : State) (code subject : Nat) (detail : List Nat) : State := s.logEntry .config code subject detail

/-- Choose the half of a record at a boot; a conflict of two valid halves is logged (R535). -/
def State.selectAtBoot (s : State) (k : RecordKind) : State :=
  let p := s.paired k
  let x := s.selectOf k p
  let s := s.setPaired k { p with sel := x.1 }
  let subject : Nat := match k with | .config => 0 | .ucal => 1 | .owner => 2 | .retire => 3
  if x.2 then s.configLog Event.configConflict.value subject [] else s

/-- The bytes of the half selected at the last boot. -/
def State.selected (s : State) (k : RecordKind) : Option Bytes :=
  let p := s.paired k
  p.sel.map p.half

/-! ### Configuration copies (R537 to R544) -/

/-- The copy in force as CONFIG_READ shows it: the selected one, or the factory default with SEQUENCE 0 and FLAGS 0 (R541). -/
def State.activeCopy (s : State) : Bytes := match s.selected .config with
  | some bs => bs
  | none =>
    let body := Config.factoryEntries
    let head : Bytes := [0x43, 0x4E, 0x46, 0x47] ++ natLe 2 1 ++ natLe 2 0 ++ natLe 4 0 ++ natLe 4 (64 + body.length)
      ++ natLe 8 0 ++ natLe 8 0
    head ++ sha256 (head ++ body) ++ body

/-- CONFIG_READ (R531, R541): the bytes the copy holds in the range asked for (log entry 62). -/
def execConfigRead (r : Req) (copy offset length : Nat) (s : State) : Out :=
  let bs := if copy = 0 then s.activeCopy else if copy = 1 then s.nor.config.a else s.nor.config.b
  .next (s.finish r 0x0201 (firstReject [(decide (2 < copy), badParam 0), (decide (1048576 ≤ offset), badParam 4),
      (outside length 1 4064, badParam 8)])
    (s.answer r 0x0201 .ok 0 ((bs.drop offset).take length)))

/-- The bytes of an entry (R539). -/
def CfgEntry.bytes (e : CfgEntry) : Bytes :=
  let n := e.payload.length
  natLe 2 e.kind ++ natLe 2 e.code ++ natLe 4 n ++ e.payload ++ List.replicate ((n + 7) / 8 * 8 - n) 0

/-- A copy of given entries. -/
def copyOf (seq uid : Nat) (es : List CfgEntry) : Bytes :=
  let body := es.flatMap (·.bytes)
  let head : Bytes := [0x43, 0x4E, 0x46, 0x47] ++ natLe 2 1 ++ natLe 2 0 ++ natLe 4 seq ++ natLe 4 (64 + body.length)
    ++ natLe 8 uid ++ natLe 8 0
  head ++ sha256 (head ++ body) ++ body

/-- The device-made copy of R544: the base without its GROUP_CONFIG entries and with the new one last, unsigned. An absent base
is the factory default. -/
def State.deviceCopy (s : State) (group : Bytes) : Bytes :=
  let base := (s.baseOf .config).getD s.activeCopy
  let es := match configEntries base with
    | .ok l => l.filter (fun e => !(decide (e.kind = 1) && decide (e.code = 0x0440)))
    | .error _ => []
  copyOf (s.nextSeqOf .config) (fieldAt base 16 8) (es ++ [⟨0, 1, 0x0440, group⟩])

/-! ### Calibration (R545 to R547) -/

/-- The clamp range of a calibration field's user offset (R546), none for a field that is not listed. -/
def calRange (f : Nat) : Option (Int × Int) :=
  if f < 0x0400 then some (-4, 4)
  else if f < 0x0600 then some (-8, 8)
  else if f < 0x0800 then some (-4, 4)
  else if f < 0x0830 then some (-20, 20)
  else if f < 0x0860 then some (-3, 3)
  else if f < 0x0865 then some (-2000, 2000)
  else if 0x0870 ≤ f ∧ f < 0x0880 then some (-50, 50)
  else if 0x0880 ≤ f ∧ f < 0x0888 then some (-20, 20)
  else none

/-- A value held within a range. -/
def clampTo (r : Int × Int) (v : Int) : Int := max r.1 (min r.2 v)

/-- The user layer as it will stand once the writes accepted have been carried out. -/
def State.userLayer (s : State) : List (Nat × Int) := ((s.baseOf .ucal).map ucalEntries).getD []

/-- The user offset of a field in force (R545, R546). -/
def State.calUser (s : State) (f : Nat) : Int :=
  let v := lookupD s.nor.calApplied f 0
  match calRange f with
  | some r => clampTo r v
  | none => 0

/-- Fields that act at once or at the next measurement (R546). -/
def calNow (f : Nat) : Bool := decide (0x0860 ≤ f)

/-- Bring fields a test chooses into force from a layer. -/
def State.applyCal (s : State) (layer : List (Nat × Int)) (which : Nat → Bool) : State :=
  let kept := s.nor.calApplied.filter (fun x => !which x.1)
  s.setNor { s.nor with calApplied := kept ++ layer.filter (fun x => which x.1) }

/-- CAL_READ (R547): the factory value or the user offset, with the clamp range. -/
def execCalRead (r : Req) (layer field : Nat) (s : State) : Out :=
  let v : Int := if layer = 0 then lookupD s.fuse.cal field 0 else lookupD s.userLayer field 0
  let range := (calRange field).getD (0, 0)
  .next (s.finish r 0x0210 (firstReject [(decide (1 < layer), badParam 0), ((calRange field).isNone, badParam 2)])
    (s.answer r 0x0210 .ok 0 [] [wrapTo 16 v, wrapTo 16 range.1, wrapTo 16 range.2]))

/-- Insert an entry in ascending FIELD order, in place of an earlier one. -/
def putCal (f : Nat) (v : Int) : List (Nat × Int) → List (Nat × Int)
  | [] => [(f, v)]
  | x :: xs => if x.1 = f then (f, v) :: xs else if f < x.1 then (f, v) :: x :: xs else x :: putCal f v xs

/-- The bytes of a user layer (R545). -/
def ucalBytes (seq : Nat) (l : List (Nat × Int)) : Bytes :=
  let body := l.flatMap (fun x => natLe 2 x.1 ++ natLe 2 (wrapTo 16 x.2))
  let head : Bytes := [0x55, 0x43, 0x41, 0x4C] ++ natLe 2 1 ++ natLe 2 l.length ++ natLe 4 seq ++ natLe 20 0
  head ++ sha256 (head ++ body) ++ body

/-- CAL_WRITE (R547): clamped, written under R536. -/
def execCalWrite (r : Req) (field : Nat) (offset : Int) (s : State) : Out :=
  let v := clampTo ((calRange field).getD (0, 0)) offset
  let bs := ucalBytes (s.nextSeqOf .ucal) (putCal field v s.userLayer)
  let result := wrapTo 16 v + (if v = offset then 0 else 2 ^ 32)
  .next (s.finish r 0x0211 (firstReject [((calRange field).isNone, badParam 0)])
    ((s.answerInProgress r 0x0211 []).writeNorRecord .ucal bs (some (r, 0x0211)) result))

/-! ### The owner key (R551, R552) -/

/-- The bytes of an owner record. -/
def ownerBytes (state seq uid : Nat) (key : Bytes) : Bytes :=
  let body : Bytes := [0x4F, 0x57, 0x4E, 0x4B] ++ natLe 2 1 ++ natLe 1 state ++ [0] ++ natLe 4 seq ++ natLe 4 0 ++ natLe 8 uid
    ++ natLe 8 0 ++ key
  body ++ sha256 body

/-- OWNER_ENROL (R551). -/
def execOwnerEnrol (r : Req) (record : Bytes) (s : State) : Out :=
  let key := sliceAt record 8 64
  .next (s.finish r 0x0901 (firstReject [(decide (record.length ≠ 136), ⟨.badLength, 136⟩),
      (s.nor.ownerKey.isSome, ⟨.ownerEnrolled, 0⟩), (decide (fieldAt record 0 8 ≠ s.fuse.uid), badParam 0),
      (!Config.onCurve key, badParam 8),
      (!Config.ecdsaVerify key (sha256 (record.take 72)) (sliceAt record 72 64), ⟨.sigInvalid, 0⟩)])
    ((s.answerInProgress r 0x0901 []).writeNorRecord .owner (ownerBytes 1 (s.nextSeqOf .owner) s.fuse.uid key) (some (r, 0x0901))))

/-- OWNER_REVOKE (R551): bytes that are not "OREV" are charged to offset 0 (log entry 62). -/
def execOwnerRevoke (r : Req) (revocation : Bytes) (s : State) : Out :=
  let key := s.nor.ownerKey.getD []
  .next (s.finish r 0x0902 (firstReject [(decide (revocation.length ≠ 80), ⟨.badLength, 80⟩),
      (decide (revocation.take 4 ≠ [0x4F, 0x52, 0x45, 0x56]), badParam 0),
      (s.nor.ownerKey.isNone, ⟨.notFound, 0⟩), (decide (fieldAt revocation 4 4 ≠ s.nor.ownerSeq), badParam 4),
      (decide (fieldAt revocation 8 8 ≠ s.fuse.uid), badParam 8),
      (!Config.ecdsaVerify key (sha256 (revocation.take 16)) (sliceAt revocation 16 64), ⟨.sigInvalid, 0⟩)])
    ((s.answerInProgress r 0x0902 []).writeNorRecord .owner (ownerBytes 0 (s.nextSeqOf .owner) s.fuse.uid key) (some (r, 0x0902))))

/-- Bring an owner record into force (R551, R552). -/
def State.takeOwner (s : State) (bs : Bytes) : State :=
  s.setNor { s.nor with ownerKey := if fieldAt bs 6 1 = 1 then some (sliceAt bs 32 64) else none, ownerSeq := halfSeq bs }

/-! ### Firmware images (R554 to R561) -/

/-- The fields of an image (R554). -/
def fwInfoOf (bs : Bytes) : FwInfo :=
  { version := fieldAt bs 16 8, datapathRev := fieldAt bs 12 4, securityVersion := fieldAt bs 24 1
    handoverFormat := fieldAt bs 26 2, handoverReadMin := fieldAt bs 28 2, measurement := sha256 (bs.take (fieldAt bs 8 4)) }

/-- The checks of R555: the status and LAST_CHECK of the first failure. -/
def State.imageFault (s : State) (bs : Bytes) : Option (Status × Nat) :=
  let n := fieldAt bs 8 4
  let form : Bool := decide (bs.take 4 = [0x4C, 0x4B, 0x46, 0x57]) && decide (fieldAt bs 4 2 = 1) && zeroAt bs 6 2 && zeroAt bs 25 1
    && zeroAt bs 30 2 && !outside n 4096 229376 && decide (n % 64 = 0) && decide (n ≤ bs.length)
    && decide (sliceAt bs 96 32 = sha256 ((bs.take (n - 64)).drop 128))
  if !form then some (.fwImageInvalid, 2)
  else if sha256 (sliceAt bs 32 64) ≠ s.fuse.vendorHash
    ∨ !Config.ecdsaVerify (sliceAt bs 32 64) (sha256 (bs.take 128)) (sliceAt bs (n - 64) 64) then some (.fwSigInvalid, 3)
  else if fieldAt bs 24 1 < s.fuse.securityMin then some (.fwRollback, 4)
  else none

/-- A new download session is refused: a committed image awaits its boot or is in probation, or a write-back runs (R556). -/
def State.sessionBarred (s : State) : Bool :=
  s.nor.pendingVersion.isSome || s.nor.probation.isSome || decide (s.nor.writeBack = .running)

/-- The checks of a write to the download session, in order, for an origin (R146, R556). -/
def State.sessionFault (s : State) (origin : FwOrigin) (offset n : Nat) : Option Reject :=
  let mine : Bool := match s.nor.session with | some x => decide (x.origin = origin) | none => false
  let got : Nat := match s.nor.session with | some x => x.bytes.length | none => 0
  firstReject [(decide (229376 < offset + n), badParam 0),
    (s.nor.session.isSome && !mine, ⟨.fwBusy, 0⟩),
    (s.nor.session.isNone && decide (offset ≠ 0), ⟨.fwSession, 0⟩),
    (s.nor.session.isNone && s.sessionBarred, ⟨.fwBusy, 0⟩),
    (decide (got < offset), ⟨.fwSession, 0⟩)]

/-- Put bytes into the session (R556). -/
def State.sessionWrite (s : State) (origin : FwOrigin) (offset : Nat) (data : Bytes) : State :=
  let old : Bytes := match s.nor.session with | some x => x.bytes | none => []
  let bs := old.take offset ++ data ++ old.drop (offset + data.length)
  s.setNor { s.nor with session := some ⟨origin, bs, s.now⟩ }

/-- FW_IMAGE_WRITE (R556). -/
def execFwImageWrite (r : Req) (offset : Nat) (data : Bytes) (s : State) : Out :=
  .next (s.finish r 0x0A01 (s.sessionFault (.mailbox r.mb) offset data.length)
    ((s.sessionWrite (.mailbox r.mb) offset data).answer r 0x0A01 .ok))

/-- FW_SESSION_IDLE_TIMEOUT (R556): the row itself says that 60 s passed without a write. -/
def execFwSessionIdleTimeout (s : State) : Out := .next (s.setNor { s.nor with session := none })

/-- The screen of R557: R555, R440, then the handover format. Under the recovery or download image only R555 applies (R562). -/
def State.screen (s : State) (bs : Bytes) : Option Reject :=
  let i := fwInfoOf bs
  let own := s.nor.fw
  match s.imageFault bs with
  | some (st, _) => some ⟨st, 0⟩
  | none =>
    if s.nor.running ≠ .main then none
    else if i.datapathRev ≠ own.datapathRev ∧ s.plan.active.isSome ∧ s.det.exact then some ⟨.datapathChange, 0⟩
    else if outside own.handoverFormat i.handoverReadMin i.handoverFormat then some ⟨.fwImageInvalid, 28⟩
    else none

/-- A commit for an origin fails: no session, or another origin's; then the screen (R556, R557). -/
def State.commitFault (s : State) (origin : FwOrigin) : Option Reject := match s.nor.session with
  | none => some ⟨.fwSession, 0⟩
  | some x => if x.origin ≠ origin then some ⟨.fwBusy, 0⟩ else s.screen x.bytes

/-- Load an image as the running one. -/
def State.runImage (s : State) (bs : Bytes) : State :=
  s.setNor { s.nor with runningImage := bs, fw := fwInfoOf bs, running := .main }

/-- Steps 2 and 3 of R557: the session closes and the image is written; a download boot takes it from SRAM (R562). -/
def State.commitSession (s : State) (waiter : Option (Req × Nat)) (storage : Option (Nat × Nat)) : State := match s.nor.session with
  | none => s
  | some x => (s.setNor { s.nor with session := none }).queueNor { job := .image x.bytes, waiter := waiter, storage := storage }

/-- FW_IMAGE_COMMIT (R556, R557, R562). -/
def execFwImageCommit (r : Req) (action : Nat) (s : State) : Out :=
  let o : FwOrigin := .mailbox r.mb
  let bs : Bytes := match s.nor.session with | some x => x.bytes | none => []
  let sessionFault : Option Reject := match s.nor.session with
    | none => some ⟨.fwSession, 0⟩
    | some x => if x.origin ≠ o then some ⟨.fwBusy, 0⟩ else none
  let check := if 1 < action then some (badParam 0) else if action = 1 then sessionFault else s.commitFault o
  let done :=
    if action = 1 then (s.setNor { s.nor with session := none }).answer r 0x0A02 .ok
    else if s.nor.running = .download then
      ((s.setNor { s.nor with session := none, lastCheck := 1, probation := some (s.now + s.seconds 60) }).runImage bs).answerLong r 0x0A02 .ok
    else (s.answerInProgress r 0x0A02 []).commitSession (some (r, 0x0A02)) none
  .next (s.finish r 0x0A02 check done)

/-- The 64 bytes of FW_STATUS (R563). -/
def State.fwStatus (s : State) : Bytes :=
  let n := s.nor
  let (kind, origin, got) : Nat × Nat × Nat := match n.session with
    | none => (0, 0xFF, 0)
    | some x => match x.origin with
      | .mailbox m => (1, m, x.bytes.length)
      | .storage _ => (2, 0xFF, x.bytes.length)
  let left := match n.probation with
    | some t => (s.cyclesNs (t - s.now)) / 1000000
    | none => 0
  let wb : Nat := match n.writeBack with | .none => 0 | .running => 1 | .done => 2 | .failed => 3
  let run : Nat := match n.running with | .main => 0 | .recovery => 1 | .download => 2
  natLe 2 1 ++ natLe 1 kind ++ natLe 1 origin ++ natLe 4 got ++ natLe 1 n.lastCheck ++ natLe 1 wb ++ natLe 1 run
    ++ natLe 1 s.fuse.securityMin ++ natLe 4 left ++ natLe 8 n.fw.version ++ natLe 8 (n.pendingVersion.getD 0)
    ++ natLe 8 ((n.retained.map (fun b => (fwInfoOf b).version)).getD 0) ++ natLe 4 n.fw.datapathRev ++ natLe 4 n.restartsCold
    ++ natLe 16 0

/-- FW_STATUS_READ (R563). -/
def execFwStatusRead (r : Req) (s : State) : Out := .next (s.finish r 0x0A03 none (s.answer r 0x0A03 .ok 0 s.fwStatus))

/-- CERT_READ (R550). -/
def execCertRead (r : Req) (index : Nat) (s : State) : Out :=
  let bs := if index = 0 then s.fuse.cert else Config.imageCert s.nor.runningImage index
  .next (s.finish r 0x0904 (firstReject [(decide (3 < index), badParam 0), (decide (index = 3), ⟨.notFound, 0⟩)])
    (s.answer r 0x0904 .ok 0 bs))

/-- PROBATION_END (R559, R560): the retained image becomes the running one, and the security fuses are burned. -/
def execProbationEnd (s : State) : Out :=
  .next (if s.nor.probation.isNone then s
    else
      let s := s.setNor { s.nor with probation := none, retained := some s.nor.runningImage }
      { s with fuse := { s.fuse with securityMin := max s.fuse.securityMin s.nor.fw.securityVersion } })

/-- FW_WRITE_BACK_DONE (R558): the oldest NOR write is the write-back; a failed read-back is logged. -/
def execFwWriteBackDone (pass : Bool) (s : State) : Out :=
  .next (match s.nor.writes with
    | w :: rest => match w.job with
      | .writeBack bs =>
        let s := s.setNor { s.nor with writes := rest, image := if pass then bs else [], writeBack := if pass then .done else .failed }
        if pass then s else s.configLog Status.fwImageInvalid.value 4 []
      | _ => s
    | [] => s)

/-- RETIRE_RECORD_WRITE (R548): the disabled-unit map is written after a change. -/
def execRetireRecordWrite (s : State) : Out :=
  let m := s.units.bytes
  let head : Bytes := [0x52, 0x45, 0x54, 0x52] ++ natLe 2 1 ++ natLe 2 0 ++ natLe 4 (s.nextSeqOf .retire) ++ natLe 20 0
  .next (if s.nor.retireDue.isNone then s
    else (s.setNor { s.nor with retireDue := none }).writeNorRecord .retire (head ++ sha256 (head ++ m) ++ m) none)

end Sys2Proof.Machine
end

