-- ==== Sys2Proof/Machine/Reset.lean ====
section
/-! DEFINITION. A cold or warm reset event: its scope, its cause, what it clears and the state of the outputs (R585 to R589,
R597, R598), and the disabled-unit map as the fuses give it (R35). -/

namespace Sys2Proof.Machine

/-! ### The disabled-unit map (R35, R38, R548) -/

/-- Logical numbers in ascending order over the enabled sites of a list (R35). -/
def assignSites (count : Nat) (sites : List Nat) : List (Option Nat) := (sites.map some ++ List.replicate count none).take count

/-- The map as the fuses alone give it (R35). -/
def Fuses.unitMap (f : Fuses) : UnitMap :=
  let riffles (l : List Nat) : List Nat := l.filter (fun x => !f.riffleOff.getLsbD x)
  { crucibleOff := f.crucibleOff, riffleOff := f.riffleOff, drawplateOff := f.drawplateOff, portBlockOff := f.portBlockOff,
    lpddr6Off := f.lpddr6Off, nandOff := f.nandOff,
    crucibleMap := assignSites 16 ((List.range 18).filter (fun x => !f.crucibleOff.getLsbD x)),
    riffleMap := assignSites 4 (riffles [0, 1, 2, 3, 4]) ++ assignSites 4 (riffles [5, 6, 7, 8, 9]) }

/-- The map that 64 bytes spell (R38). -/
def unitMapOf (bs : Bytes) : UnitMap :=
  let site (o : Nat) : Option Nat := if fieldAt bs o 1 = 0xFF then none else some (fieldAt bs o 1)
  { crucibleOff := BitVec.ofNat 18 (fieldAt bs 0 4), riffleOff := BitVec.ofNat 10 (fieldAt bs 4 2),
    drawplateOff := BitVec.ofNat 2 (fieldAt bs 6 1), portBlockOff := BitVec.ofNat 64 (fieldAt bs 8 8),
    lpddr6Off := BitVec.ofNat 48 (fieldAt bs 16 8), nandOff := BitVec.ofNat 48 (fieldAt bs 24 8),
    crucibleMap := (List.range 16).map (fun n => site (32 + n)), riffleMap := (List.range 8).map (fun n => site (48 + n)) }

/-- MAP may be adopted: every factory-disabled site is disabled in it, and every site it names is enabled in fuses (R548). -/
def Fuses.adopts (f : Fuses) (m : UnitMap) : Bool :=
  decide (m.crucibleOff &&& f.crucibleOff = f.crucibleOff) && decide (m.riffleOff &&& f.riffleOff = f.riffleOff)
    && decide (m.drawplateOff &&& f.drawplateOff = f.drawplateOff) && decide (m.portBlockOff &&& f.portBlockOff = f.portBlockOff)
    && decide (m.lpddr6Off &&& f.lpddr6Off = f.lpddr6Off) && decide (m.nandOff &&& f.nandOff = f.nandOff)
    && m.crucibleMap.all (fun o => decide (o.getD 0 < 18) && (o.isNone || !f.crucibleOff.getLsbD (o.getD 0)))
    && m.riffleMap.all (fun o => decide (o.getD 0 < 10) && (o.isNone || !f.riffleOff.getLsbD (o.getD 0)))

/-! ### What a reset keeps -/

/-- The NOR contents; a write in progress leaves its half, or the image, broken (R564). -/
def NorState.afterReset (n : NorState) : NorState :=
  let kept : NorState := { image := n.image, config := n.config, ucal := n.ucal, owner := n.owner, retire := n.retire,
                           readable := n.readable, runningImage := n.runningImage, pendingVersion := n.pendingVersion,
                           endedProbation := n.endedProbation, bootCount := n.bootCount }
  match n.writes with
  | [] => kept
  | w :: _ => match w.job with
    | .image _ | .writeBack _ => { kept with image := [] }
    | .record .config h _ => { kept with config := n.config.put h [] }
    | .record .ucal h _ => { kept with ucal := n.ucal.put h [] }
    | .record .owner h _ => { kept with owner := n.owner.put h [] }
    | .record .retire h _ => { kept with retire := n.retire.put h [] }

/-- Writes accepted and not durable are lost (R108): the ones that are durable have reached the media, and the write pointer
of a zone that loses writes falls back to the first of them. -/
def State.loseStaged (s : State) : State :=
  let durable (w : Staged) : Bool := w.programmed && w.committed
  let lost := s.media.staged.filter (fun w => !durable w)
  let s := (s.media.staged.filter durable).foldl (fun s w => s.settle w) s
  let back (s : State) (w : Staged) : State :=
    if w.lba < s.convBlocks then s
    else
      let n := s.zoneOf w.lba
      let z := s.zone n
      let at_ := w.lba - s.zoneStart n
      let finished : Bool := decide (z.status = .full) && decide (at_ + w.data.length / 4096 < z.wp)
      if finished ∨ z.wp ≤ at_ then s
      else if at_ = 0 then
        let s := match z.superblock with | some b => s.eraseLater b | none => s
        s.setZone n {}
      else s.setZone n { z with wp := at_, status := if z.status = .full then .open else z.status }
  let s := lost.reverse.foldl back s
  s.setMedia { s.media with staged := [] }

/-- The Reservoir as its journal and snapshots hold it (R107, R112, R125); a warm reset keeps the staging buffer (R108). -/
def MediaState.afterReset (m : MediaState) : MediaState :=
  { data := m.data, unreadable := m.unreadable, geometry := m.geometry, convSuperblocks := m.convSuperblocks,
    spareReserve := m.spareReserve, zoneCount := m.zoneCount, zones := m.zones, superblocks := m.superblocks, dies := m.dies,
    staged := m.staged.map (fun w => { w with source := none, through := false }), stageSeq := m.stageSeq,
    journalOpen := m.journalOpen, journal := m.journal, journalSeq := m.journalSeq, journalBytes := m.journalBytes,
    snapshotSeq := m.snapshotSeq, relocations := m.relocations, rebuilding := m.rebuilding, readOnly := m.readOnly,
    slcUsed := m.slcUsed, convOpen := m.convOpen, slcOpen := m.slcOpen, counters := m.counters, interimParity := m.interimParity }

/-- The sticky logs (R610): all of them at a warm reset, MEDIA alone at a cold one; the rest of the telemetry returns to its
reset values, the pin and what was sent aside. -/
def TelemetryState.afterReset (t : TelemetryState) (cold : Bool) : TelemetryState :=
  let fresh : TelemetryState := {}
  { fresh with logs := if cold then t.logs.map (fun l => if l.id = .media then l else { id := l.id }) else t.logs,
               sent := t.sent, throttleLow := t.throttleLow }

/-- A power domain at a reset event (R596, R603, R607): a power-down under way completes under reset; LP0 and LP1 stay powered
through a warm reset. -/
def Domain.afterReset (d : Domain) (n : Nat) (cold supply : Bool) : Domain :=
  let ending := decide (d.status = .poweringOff) || decide (d.status = .pendingOn)
  if !supply && ending then { status := .poweringOff, phase := .switching, good := d.good }
  else if !cold && (decide (n = 26) || decide (n = 27)) && decide (d.status = .on) then d
  else {}

/-- Reset, power and clocks from the event until the sequence goes on: step 1 of R595 with the outputs of R597. -/
def PowerState.afterReset (p : PowerState) (cause : ResetCause) (now : Nat) (supply : Bool) : PowerState :=
  let cold : Bool := decide (cause.scope = .cold)
  { cause := cause, eventAt := now, warmEnd := p.warmEnd, lpddrResetLow := cold, selfRefresh := !cold,
    bootSrc := p.bootSrc, clkMode := p.clkMode, clkFault := p.clkFault, sysRstLow := p.sysRstLow,
    strapsDue := p.strapsDue || supply, criticalDue := p.criticalDue, tripDue := p.tripDue,
    locks := if supply then 0 else p.locks, tbChanges := p.tbChanges,
    domains := p.domains.mapIdx (fun n d => d.afterReset n cold supply),
    coldAt := if cold then now else p.coldAt }

/-- A mailbox after a reset: empty (R521); the record of what MB4 to MB6 sent stays. -/
def Mailbox.afterReset (b : Mailbox) (i : Nat) : Mailbox := { responses := if 4 ≤ i then b.responses else [] }

/-- Everything a reset of a scope clears is cleared (R585). The sample report ring and the determinism history lie in the
Lockkeeper region of LPDDR6 beside the logs (R583). -/
def State.cleared (s : State) (cause : ResetCause) (supply : Bool) : State :=
  let cold : Bool := decide (cause.scope = .cold)
  let s := if cold then s.loseStaged else s
  let lock : LockState := { boxes := s.lock.boxes.mapIdx (fun i b => b.afterReset i) }
  let det : DetState := { records := if cold then [] else s.det.records }
  let pipe : PipeState :=
    if cold then { reportSeq := 0 }
    else { reports := s.pipe.reports, reportSeq := s.pipe.reportSeq, reportOverflow := s.pipe.reportOverflow }
  let queues : QueueState := { freezeCounts := if cold then [] else s.queues.freezeCounts }
  let nor : NorState := { s.nor.afterReset with lastCheck := if cold then 0 else s.nor.lastCheck,
                                                restartsCold := if cold then 0 else s.nor.restartsCold }
  { fuse := s.fuse, mem := if cold then [] else s.mem, now := s.now, freeCtr := s.freeCtr, sent := s.sent, pending := s.pending,
    media := s.media.afterReset, lock := lock, det := det, pipe := pipe, queues := queues, nor := nor,
    rdma := { out := s.rdma.out }, switch := { out := s.switch.out }, link := { msix := s.link.msix },
    power := s.power.afterReset cause s.now supply, tel := s.tel.afterReset cold, units := s.fuse.unitMap }

/-! ### Reset events (R586 to R589) -/

/-- Sources whose warm reset becomes cold within 1 s of the end of a previous warm reset (R587). -/
def Source.mayEscalate : Source → Bool
  | .watchdog | .lkSram | .shadowParity | .poolPointer | .clockLock => true
  | _ => false

/-- The critical-state errors: sources 7 to 10 (R586). -/
def Source.criticalState : Source → Bool
  | .lkSram | .shadowParity | .poolPointer | .clockLock => true
  | _ => false

/-- SCOPE of R589. -/
def Scope.value : Scope → Nat
  | .cold => 0 | .warm => 1

/-- A cold or warm reset is in progress: rows of R595 remain, and no recovery image ends them. -/
def State.resetting (s : State) : Bool :=
  decide (s.power.boot ≠ .running) && !(decide (s.power.boot = .booted) && decide (s.nor.running ≠ .main))

/-- Enter a reset whose event is known (R588, R589): the wider scope applies, the first event of that scope is the cause, and
the sequence starts again from step 1. -/
def State.enterReset (s : State) (e : ResetCause) (supply : Bool) : State :=
  let wider : Bool := decide (e.scope = .cold) && decide (s.power.cause.scope = .warm)
  let cause := if s.resetting && !wider then s.power.cause else e
  (s.cleared cause supply).historyLine e.source.value e.scope.value e.original e.detail

/-- A reset event of a source and scope (R586, R587): it may escalate; critical-state errors and the thermal trip are noted
for the report after the reset, and logged with the unit at fault. -/
def State.resetEvent (s : State) (src : Source) (scope : Scope) (detail : Nat := 0) (unit : Nat := 0) : State :=
  let escalates : Bool := decide (scope = .warm) && src.mayEscalate && s.within s.power.warmEnd (s.seconds 1)
  let e : ResetCause := if escalates then ⟨.escalated, .cold, src.value, 0⟩ else ⟨src, scope, 0, detail⟩
  let s := s.enterReset e (decide (src = .powerOn))
  let s := if src.criticalState then
      { s.logEntry .critical Event.criticalState.value src.value [unit] with
        power := { s.power with criticalDue := s.power.criticalDue ++ [src.value] } }
    else s
  if src = .thermalTrip then { s.logEntry .thermal Event.thermalTrip.value detail [] with
      power := { s.power with tripDue := some detail } }
  else s

end Sys2Proof.Machine
end

