-- ==== Sys2Proof/Machine/StorageAdmin.lean ====
section
/-! DEFINITION. The admin commands of queue pair 0 and the mailbox commands that make and reset it (R126, R127, R139 to R146). -/

namespace Sys2Proof.Machine

/-! ### Placing and resetting pairs (R126, R127, R145) -/

/-- The two queues of a pair, as address and bytes. -/
def QueuePair.extents (p : QueuePair) : List (Nat × Nat) := [(p.sqBase, 64 * p.depth), (p.cqBase, 16 * p.depth)]

/-- Two extents overlap. -/
def extentsMeet (a b : Nat × Nat) : Bool := decide (a.1 < b.1 + b.2) && decide (b.1 < a.1 + a.2)

/-- A queue is misplaced: its alignment or the host window (R127). -/
def baseBad (a n : Nat) : Bool := decide (a % 4096 ≠ 0) || !inWindow a n

/-- A queue overlaps a queue of another pair (R127). -/
def State.queueMeets (s : State) (p : QueuePair) (x : Nat × Nat) : Bool :=
  (s.queues.pairs.filter (fun o => decide (o.num ≠ p.num))).any (fun o => o.extents.any (extentsMeet x))

/-- The checks of a new pair's parameters, each with the offset of its field: depth, SQ base, CQ base (R126, R127). -/
def State.pairFaults (s : State) (p : QueuePair) (depthAt sqAt cqAt : Nat) : List (Bool × Nat) :=
  let sq := (p.sqBase, 64 * p.depth)
  let cq := (p.cqBase, 16 * p.depth)
  [(outside p.depth 2 4096, depthAt), (baseBad p.sqBase sq.2 || s.queueMeets p sq, sqAt),
    (baseBad p.cqBase cq.2 || s.queueMeets p cq || extentsMeet sq cq, cqAt)]

/-- Add a pair. -/
def State.addPair (s : State) (p : QueuePair) : State := { s with queues := { s.queues with pairs := s.queues.pairs ++ [p] } }

/-- Steps 1 to 3 of R145: fetching stops; commands that have not begun their staging or media step are discarded and recorded as
FLUSHED with EFFECT 0. -/
def State.startReset (s : State) (p : QueuePair) (w : ResetWaiter) : State :=
  let waits (f : Fetched) : Bool := s.media.waitingWrites.contains (p.num, f.slot, f.entry)
  let gone := p.fetched.filter (fun f => !f.begun || waits f)
  let kept := p.fetched.filter (fun f => f.begun && !waits f)
  let flushed := gone.map (fun f => (⟨f.entry.cmdId, f.slot, Status.flushed.value, f.entry.opcode, 0, 0⟩ : ErrEntry))
  let s := s.setQp { p with fetched := kept, errors := p.errors ++ flushed, resetting := some w }
  let s := s.setMedia { s.media with waitingWrites := s.media.waitingWrites.filter (fun x => decide (x.1 ≠ p.num)) }
  s.pairDrained p.num

/-- End an admin command with a parameter fault. -/
def State.endBad (s : State) (q slot : Nat) (e : SqEntry) (l : List (Bool × StorageFault)) (effect : State) : State :=
  match l.find? (fun x => x.1) with
  | some f => s.endStorage q slot e f.2.status 0 f.2.info
  | none => effect

/-- A parameter of an entry out of its range: BAD_PARAM at the parameter's offset (R133). -/
def badEntry (bad : Bool) (offset : Nat) : Bool × StorageFault := (bad, ⟨.badParam, offset⟩)

/-- Carry out an admin command that begins now. -/
def State.admin (s : State) (q : Nat) (e : SqEntry) (f : State → Nat → State) : State := match s.beginning q e with
  | none => s
  | some slot => f (s.begun q slot) slot

/-! ### IDENTIFY and GET_LOG (R139 to R141) -/

/-- Decimal digits of a number, most significant first, with a bound on their count. -/
def decimalDigits : Nat → Nat → List Nat
  | 0, _ => []
  | k + 1, n => if n < 10 then [48 + n] else decimalDigits k (n / 10) ++ [48 + n % 10]

/-- The serial number as 20 ASCII characters, space-padded (R140): in decimal digits (log entry 63). -/
def serialText (n : Nat) : Bytes := ((decimalDigits 20 n).map (fun d => BitVec.ofNat 8 d) ++ List.replicate 20 0x20).take 20

/-- The IDENTIFY device page (R140). -/
def State.identifyPage (s : State) : Bytes :=
  natLe 2 1 ++ natLe 2 256 ++ natLe 2 4096 ++ natLe 2 256 ++ natLe 8 s.rawCapacity ++ natLe 8 s.convBlocks ++ natLe 8 s.zonedBase
    ++ natLe 8 s.media.zoneCount ++ natLe 4 s.media.geometry.zoneSize ++ natLe 4 s.media.geometry.dataBlocks ++ natLe 4 4096
    ++ natLe 4 0 ++ natLe 8 s.nor.fw.version ++ serialText s.fuse.serial ++ List.replicate 4012 0

/-- IDENTIFY (R139, R140). -/
def execIdentify (qp : Nat) (e : SqEntry) (s : State) : Out :=
  .next (s.admin qp e (fun s slot => s.endBad qp slot e [badEntry (decide (e.params.getD 0 0 ≠ 0)) 32]
    ((s.memWrite e.bufAddr s.identifyPage).endStorage qp slot e .ok)))

/-- The value of a zone state (R105). -/
def ZoneStatus.value : ZoneStatus → Nat
  | .empty => 0 | .open => 1 | .full => 2 | .readOnly => 3 | .offline => 4

/-- One entry of the zone report (R141). -/
def State.zoneEntry (s : State) (z : Nat) : Bytes :=
  let x := s.zone z
  natLe 8 (s.zoneStart z) ++ natLe 4 x.wp ++ natLe 1 x.status.value ++ natLe 3 0

/-- `n` bytes of the zone report from offset `o`, zeros past its end. -/
def State.zoneReport (s : State) (first o n : Nat) : Bytes :=
  let zs := (List.range (n / 16 + 2)).map (fun k => first + o / 16 + k)
  sliceAt ((zs.filter (fun z => decide (z < s.media.zoneCount))).flatMap s.zoneEntry) (o % 16) n

/-- GET_LOG (R139, R141, R144): the QUEUE_ERROR page of a frozen pair waits until every fetched command of the pair has ended. -/
def execGetLog (qp : Nat) (e : SqEntry) (s : State) : Out :=
  let id := e.params.getD 0 0
  let k := e.params.getD 1 0
  let n := e.params.getD 4 0
  let o := e.params.getD 2 0 + e.params.getD 3 0 * 2 ^ 32
  let checks := [badEntry (!([0x01, 0x10, 0x11, 0x12].contains id)) 32,
    badEntry ((decide (id = 1) && decide (255 < k)) || (decide (id = 0x11) && decide (s.media.zoneCount ≤ k))) 36,
    badEntry (outside n 4 16777216 || decide (n % 4 ≠ 0)) 48]
  .next (s.admin qp e (fun s slot => s.endBad qp slot e checks (
    if id = 0x01 then (match s.qp? k with
      | some p =>
        if p.frozen && decide (k ≠ qp) && !p.fetched.isEmpty then
          s.setQp { p with logWaiters := p.logWaiters ++ [(slot, e)] }
        else (s.giveLog e (s.errorPage k)).endStorage qp slot e .ok
      | none => (s.giveLog e (s.errorPage k)).endStorage qp slot e .ok)
    else if id = 0x10 then (s.giveLog e s.healthLog).endStorage qp slot e .ok
    else if id = 0x11 then (s.memWrite e.bufAddr (s.zoneReport k o n)).endStorage qp slot e .ok
    else (s.giveLog e s.fwStatus).endStorage qp slot e .ok)))

/-! ### Features (R142) -/

/-- The range of a feature, none for an unknown identifier (R142). -/
def featureRange : Nat → Option (Nat × Nat)
  | 1 => some (1, 128) | 2 => some (1, 4096) | 3 => some (0, 255) | 4 => some (0, 1000) | 5 => some (0, 1)
  | _ => none

/-- The value of a feature. -/
def State.feature (s : State) (f : Nat) : Nat :=
  if f = 1 then s.queues.arbBurst else if f = 2 then s.queues.maxXfer else if f = 3 then s.queues.coalCount
  else if f = 4 then s.queues.coalTime else s.queues.writeThrough

/-- Set a feature. -/
def State.setFeature (s : State) (f v : Nat) : State :=
  let q := s.queues
  let q' : QueueState := match f with
    | 1 => { q with arbBurst := v }
    | 2 => { q with maxXfer := v }
    | 3 => { q with coalCount := v }
    | 4 => { q with coalTime := v }
    | _ => { q with writeThrough := v }
  { s with queues := q' }

/-- A value lies outside its feature's range (R142). -/
def featureBad (f v : Nat) : Bool := match featureRange f with
  | some r => outside v r.1 r.2
  | none => true

/-- GET_FEATURE (R139, R142). -/
def execGetFeature (qp : Nat) (e : SqEntry) (s : State) : Out :=
  let f := e.params.getD 0 0
  .next (s.admin qp e (fun s slot => s.endBad qp slot e [badEntry (featureRange f).isNone 32]
    (s.endStorage qp slot e .ok (s.feature f))))

/-- SET_FEATURE (R139, R142). -/
def execSetFeature (qp : Nat) (e : SqEntry) (s : State) : Out :=
  let f := e.params.getD 0 0
  let v := e.params.getD 1 0
  .next (s.admin qp e (fun s slot => s.endBad qp slot e [badEntry (featureRange f).isNone 32, badEntry (featureBad f v) 36]
    ((s.setFeature f v).endStorage qp slot e .ok)))

/-! ### Firmware (R146, R556, R557) -/

/-- A rejected session write or commit as a storage status; a BAD_PARAM is PARAM0's. -/
def storageFault (e : Reject) : StorageFault := ⟨e.status, if e.status = .badParam then 32 else 0⟩

/-- FW_DOWNLOAD (R139, R146, R556). -/
def execFwDownload (qp : Nat) (e : SqEntry) (s : State) : Out :=
  let o := e.params.getD 0 0
  .next (s.admin qp e (fun s slot => match s.sessionFault (.storage qp) o (e.nlb * 4096) with
    | some f => s.endStorage qp slot e f.status 0 (storageFault f).info
    | none => (s.sessionWrite (.storage qp) o (s.memRead e.bufAddr (e.nlb * 4096))).endStorage qp slot e .ok))

/-- FW_COMMIT (R139, R146, R557): it completes once the image is written and the restart is scheduled. -/
def execFwCommit (qp : Nat) (e : SqEntry) (s : State) : Out :=
  let a := e.params.getD 0 0
  let mine : Bool := match s.nor.session with | some x => decide (x.origin = .storage qp) | none => false
  let check : Option Reject :=
    if 1 < a then some (badParam 0)
    else if a = 1 then (if s.nor.session.isNone then some ⟨.fwSession, 0⟩ else if mine then none else some ⟨.fwBusy, 0⟩)
    else s.commitFault (.storage qp)
  .next (s.admin qp e (fun s slot => match check with
    | some f => s.endStorage qp slot e f.status 0 (storageFault f).info
    | none =>
      if a = 1 then (s.setNor { s.nor with session := none }).endStorage qp slot e .ok
      else s.commitSession none (some (qp, slot))))

/-! ### Queues (R126, R127, R139, R145) -/

/-- CREATE_QUEUE (R127, R139). -/
def execCreateQueue (qp : Nat) (e : SqEntry) (s : State) : Out :=
  let p (k : Nat) : Nat := e.params.getD k 0
  let n : QueuePair := { num := p 0, depth := p 1, sqBase := p 2 + p 3 * 2 ^ 32, cqBase := p 4 + p 5 * 2 ^ 32 }
  .next (s.admin qp e (fun s slot => s.endBad qp slot e
    ([badEntry (outside n.num 1 255) 32] ++ (s.pairFaults n 36 40 48).map (fun x => badEntry x.1 x.2)
      ++ [((s.qp? n.num).isSome, ⟨.queueExists, 0⟩)])
    ((s.addPair n).endStorage qp slot e .ok)))

/-- Reset or remove a pair by an admin command. A pair already being reset is held by that command: BUSY (log entry 64). -/
def State.resetBy (s : State) (q slot : Nat) (e : SqEntry) (delete : Bool) : State :=
  let n := e.params.getD 0 0
  s.endBad q slot e [badEntry (outside n 1 255) 32, ((s.qp? n).isNone, ⟨.notFound, 0⟩),
      (((s.qp? n).bind (fun p => p.resetting)).isSome, ⟨.busy, 0⟩)]
    (match s.qp? n with
      | some p => s.startReset p (.storage slot e delete)
      | none => s)

/-- DELETE_QUEUE (R139, R145). -/
def execDeleteQueue (qp : Nat) (e : SqEntry) (s : State) : Out := .next (s.admin qp e (fun s slot => s.resetBy qp slot e true))

/-- RESET_QUEUE (R139, R145). -/
def execResetQueue (qp : Nat) (e : SqEntry) (s : State) : Out := .next (s.admin qp e (fun s slot => s.resetBy qp slot e false))

/-- QUEUE_ADMIN_SETUP (R126, R127): the depth lies at 0, the SQ base at 8, the CQ base at 16 (R522). -/
def execQueueAdminSetup (r : Req) (depth sqBase cqBase : Nat) (s : State) : Out :=
  let n : QueuePair := { num := 0, depth := depth, sqBase := sqBase, cqBase := cqBase }
  .next (s.finish r 0x0810
    (firstReject ((s.pairFaults n 0 8 16).map (fun x => (x.1, badParam x.2)) ++ [((s.qp? 0).isSome, ⟨.queueExists, 0⟩)]))
    ((s.addPair n).answer r 0x0810 .ok))

/-- Begin the reset of a pair for a mailbox request. -/
def State.resetPairFor (s : State) (r : Req) (code q : Nat) : State := match s.qp? q with
  | none => s.answer r code .notFound
  | some p => (s.answerInProgress r code [.storageQp q]).startReset p (.mailbox r code)

/-- QUEUE_ADMIN_RESET (R126, R139, R145). -/
def execQueueAdminReset (r : Req) (s : State) : Out :=
  .next (s.finish r 0x0811 (firstReject [s.heldBusy (.storageQp 0), ((s.qp? 0).isNone, ⟨.notFound, 0⟩)])
    (s.resetPairFor r 0x0811 0))

end Sys2Proof.Machine
end

