-- ==== Sys2Proof/Machine/Domains.lean ====
section
/-! DEFINITION. Block resets, self-tests, power domains and RESET (R599 to R607), and die-to-die links (R609). -/

namespace Sys2Proof.Machine

/-! ### Units, targets and their domains (R599, R601) -/

/-- The logical numbers a list of sites serves. -/
def servedBy (m : List (Option Nat)) (p : Nat → Bool) : List Nat :=
  (List.range m.length).filter (fun n => match m.getD n none with | some x => p x | none => false)

/-- The targets of the units of a domain that are in service, by the numbers of R599. -/
def State.domainUnits (s : State) (d : Nat) : List Nat :=
  let m := s.units
  if d = 4 ∨ d = 5 then (servedBy m.crucibleMap (fun x => decide (bankDomain x = d))).map (fun n => 0x0100 + n)
  else if d = 6 then [0x0400]
  else if (8 ≤ d ∧ d ≤ 12) ∨ (15 ≤ d ∧ d ≤ 19) then (servedBy m.riffleMap (fun x => decide (siteDomain x = d))).map (fun n => 0x0200 + n)
  else if d = 13 ∨ d = 20 then (let n := if d = 13 then 0 else 1; if m.drawplateOff.getLsbD n then [] else [0x0300 + n])
  else if d = 14 ∨ d = 21 then [0x0500 + (if d = 14 then 0 else 1)]
  else if 22 ≤ d ∧ d ≤ 25 then (List.range' (16 * (d - 22)) 16).filter (fun b => !m.portBlockOff.getLsbD b)
  else []

/-- A domain holds an enabled unit; one whose units are all disabled is never powered (R601). -/
def State.domainPowered (s : State) (d : Nat) : Bool :=
  let m := s.units
  if d = 4 ∨ d = 5 then (List.range 18).any (fun x => decide (bankDomain x = d) && !m.crucibleOff.getLsbD x)
  else if (8 ≤ d ∧ d ≤ 12) ∨ (15 ≤ d ∧ d ≤ 19) then (List.range 10).any (fun x => decide (siteDomain x = d) && !m.riffleOff.getLsbD x)
  else if d = 13 ∨ d = 20 ∨ (22 ≤ d ∧ d ≤ 25) then !(s.domainUnits d).isEmpty
  else if d = 28 ∨ d = 29 then (List.range' (24 * (d - 28)) 24).any (fun c => !s.fuse.nandOff.getLsbD c)
  else decide (d < 30)

/-- A spare Riffle site domain is held OFF (R602). -/
def State.domainSpare (s : State) (d : Nat) : Bool :=
  (decide (8 ≤ d) && decide (d ≤ 12) || decide (15 ≤ d) && decide (d ≤ 19)) && s.domainPowered d && (s.domainUnits d).isEmpty

/-- Domains that are switched with cold reset only (R604). -/
def fixedDomain (d : Nat) : Bool := decide (d ≤ 3) || decide (d = 7) || decide (d = 26) || decide (d = 27)

/-- The domain a target of R599 lies in, none for a number that names no target. -/
def State.targetDomain (s : State) (t : Nat) : Option Nat :=
  if t < 0x40 then some (22 + t / 16)
  else if 0x100 ≤ t ∧ t < 0x110 then some (bankDomain (s.crucibleSite (t - 0x100)))
  else if 0x200 ≤ t ∧ t < 0x208 then some (siteDomain (s.riffleSite (t - 0x200)))
  else if t = 0x300 then some 13 else if t = 0x301 then some 20
  else if t = 0x400 then some 6
  else if t = 0x500 then some 14 else if t = 0x501 then some 21
  else if 0x600 ≤ t ∧ t < 0x61E then some (t - 0x600)
  else none

/-- The units a target names: a domain's in turn, or the one (R599). -/
def State.targetUnits (s : State) (t : Nat) : List Nat := if 0x600 ≤ t then s.domainUnits (t - 0x600) else [t]

/-- A target's unit is present, in a domain that is ON (R600). -/
def State.targetThere (s : State) (t : Nat) : Bool :=
  match s.targetDomain t with
  | none => false
  | some d => decide ((s.domain d).status = .on)
      && (decide (0x600 ≤ t) || (s.domainUnits d).contains t)

/-! ### Units into reset, back, and out of service (R204, R246, R273, R290, R359, R447) -/

/-- A Riffle's operating state. -/
def State.riffleState (s : State) (n : Nat) (u : UnitState) : State := s.setRiffle n { s.riffle n with state := u }

/-- A Drawplate's operating state. -/
def State.plateState (s : State) (n : Nat) (u : UnitState) : State := s.setPlate n { s.plate n with state := u }

/-- The Anvil's operating state; one that failed its self-test stays in reset (R274). -/
def State.anvilState (s : State) (u : UnitState) : State :=
  if s.pipe.anvil.failed then s else s.setAnvil { s.pipe.anvil with state := u }

/-- A stage fault or reset: its samples that have not been released are dispatched again; those released into batches not yet
closed keep their places, since the rebuilt batches are the same bits (R290; log entry 86). -/
def State.emptyStage (s : State) (n : Nat) : State :=
  let mine := s.pipe.samples.filter (fun x => decide (x.stage = n) && x.synth.isNone
    && (decide (x.phase = .screening) || decide (x.phase = .kept)))
  mine.foldl (fun s x => s.redoSample x) s

/-- Put one unit into reset, each as its chapter states (R599). -/
def State.resetUnit (s : State) (t : Nat) : State :=
  if t < 0x40 then
    let s := (s.switch.ports.filter (fun p => decide (p.block = t))).foldl (fun s p => s.setLink p false) s
    { s with power := { s.power with serdesOn := s.power.serdesOn &&& ~~~(BitVec.twoPow 64 t) } }
  else if t < 0x200 then s.discardRuns (t - 0x100)
  else if t < 0x300 then
    let s := s.emptyRiffle (t - 0x200)
    if (s.riffle (t - 0x200)).state = .out then s else s.riffleState (t - 0x200) .reset
  else if t < 0x400 then
    let s := s.emptyPlate (t - 0x300)
    if (s.plate (t - 0x300)).state = .out then s else s.plateState (t - 0x300) .reset
  else if t = 0x400 then s.anvilState .reset
  else s.emptyStage (t - 0x500)

/-- Bring one unit back into service. A port block's lanes take the calibration written since (R546), and its transmitters leave
electrical idle with a configured port (R597). -/
def State.unitBack (s : State) (t : Nat) : State :=
  if t < 0x40 then
    let lane (f : Nat) : Bool := decide (f < 0x800) && decide (f % 0x200 / 8 = t)
    let s := s.applyCal s.userLayer lane
    if s.switch.ports.any (fun p => decide (p.block = t)) then
      { s with power := { s.power with serdesOn := s.power.serdesOn ||| BitVec.twoPow 64 t } } else s
  else if t < 0x200 then s
  else if t < 0x300 then
    if (s.units.riffleMap.getD (t - 0x200) none).isNone then s else s.riffleState (t - 0x200) .active
  else if t < 0x400 then
    if s.units.drawplateOff.getLsbD (t - 0x300) then s else s.plateState (t - 0x300) .active
  else if t = 0x400 then s.anvilState .active
  else s

/-- Take one unit out of service while its domain is not ON: the rest of the device treats it as absent (R604). -/
def State.unitAbsent (s : State) (t : Nat) : State :=
  if t < 0x200 then s.resetUnit t
  else if t < 0x300 then (s.emptyRiffle (t - 0x200)).riffleState (t - 0x200) .out
  else if t < 0x400 then (s.emptyPlate (t - 0x300)).plateState (t - 0x300) .out
  else if t = 0x400 then s.anvilState .out
  else s.resetUnit t

/-- A unit fails its self-test and is retired (R205, R247, R274, R416, R600). -/
def State.retireUnit (s : State) (t : Nat) : State :=
  let s :=
    if t < 0x100 then s
    else if t < 0x200 then (s.discardRuns (t - 0x100)).retireCrucible (t - 0x100)
    else if t < 0x300 then s.retireRiffle (t - 0x200)
    else if t < 0x400 then s.retirePlate (t - 0x300)
    else if t = 0x400 then (s.setAnvil { s.pipe.anvil with state := .reset, failed := true }).unitEvent .anvilFailed 0 0
    else s
  s.checkService

/-! ### Domain sequences (R603 to R606) -/

/-- Enter OFF, ON or FAILED: DOMAIN_STATE with the domain and state. -/
def State.enterDomain (s : State) (d : Nat) (st : DomainStatus) : State :=
  (s.setDomain d { s.domain d with status := st, phase := .idle, good := decide (st = .on) }).raise .domainState d
    (natLe 1 d ++ natLe 1 st.value)

/-- Complete every request queued on a domain with the state reached (R605, R606). -/
def State.endDomainSets (s : State) (d : Nat) : State :=
  let x := s.domain d
  let s := s.setDomain d { x with waiting := [] }
  x.waiting.foldl (fun s r => s.answer r 0x0B02 .ok x.status.value) s

/-- Begin a power-down: no new work (R604). -/
def State.powerDown (s : State) (d : Nat) : State :=
  let s := (s.domainUnits d).foldl (fun s t => s.unitAbsent t) s
  s.setDomain d { s.domain d with status := .poweringOff, phase := .draining }

/-- The power-up sequence ends with its self-tests (R604, R606): the domain is ON, or a queued power-down starts. -/
def State.domainOn (s : State) (d : Nat) : State :=
  let ending := decide ((s.domain d).status = .pendingOff)
  let s := (s.domainUnits d).foldl (fun s t => s.unitBack t) (s.enterDomain d .on)
  if ending then s.powerDown d else s.endDomainSets d

/-- A domain fails (R603, R604, R609): its units are unavailable; a spare site that was to take a number is marked disabled, and
the number passes on (R602). -/
def State.domainFailed (s : State) (d : Nat) : State :=
  let handed := if s.power.boot = .running ∧ (s.domain d).waiting.isEmpty ∧ (s.domain d).status = .poweringOn then
    (s.domainUnits d).filter (fun t => decide (0x200 ≤ t) && decide (t < 0x300)) else []
  let s := (s.domainUnits d).foldl (fun s t => s.unitAbsent t) (s.enterDomain d .failed)
  let s := handed.foldl (fun s t => s.retireUnit t) s
  s.endDomainSets d

/-- DOMAIN_DRAIN_DONE (R604): work in progress has ended, and the domain goes through reset to the open switch. -/
def execDomainDrainDone (domain : Nat) (s : State) : Out :=
  let x := s.domain domain
  .next (if x.phase = .draining then s.setDomain domain { x with phase := .switching } else s)

/-- The SerDes PLL of a port die's domain locks: its lock indicator is set (R591, R593). -/
def State.portPllLocked (s : State) (d : Nat) : State :=
  if 22 ≤ d ∧ d ≤ 25 then { s with power := { s.power with locks := s.power.locks ||| BitVec.twoPow 10 (d - 19) } } else s

/-- DOMAIN_POWER_GOOD (R604, R606): on its rise clocks, release and self-tests follow, whose end is SELF_TEST_DONE; on its fall
the domain is OFF, and a queued power-up starts. -/
def execDomainPowerGood (domain : Nat) (good : Bool) (s : State) : Out :=
  let x := s.domain domain
  .next (if good then
      (if x.status = .poweringOn ∨ x.status = .pendingOff then (s.setDomain domain { x with good := true }).portPllLocked domain else s)
    else if x.phase ≠ .switching then s
    else if x.status = .pendingOn then (s.enterDomain domain .off).powerUp domain
    else if x.status = .poweringOff then (s.enterDomain domain .off).endDomainSets domain
    else s)

/-- DOMAIN_POWER_UP_TIMEOUT (R604): the row itself says that the limit has passed. -/
def execDomainPowerUpTimeout (domain : Nat) (s : State) : Out :=
  let x := s.domain domain
  .next (if x.status = .poweringOn ∨ x.status = .pendingOff then s.domainFailed domain else s)

/-- What bars an off request (R605). -/
def State.offBarred (s : State) (d : Nat) : Bool :=
  let recipes := s.plan.recipe.toList ++ (s.armedOf .recipeChange).map (fun e => e.item)
  let site := (s.domainUnits d).any (fun t => decide (0x100 ≤ t) && decide (t < 0x300))
  let stage := if d = 14 then 0 else 1
  let served : Bool := match s.plan.active with
    | some (_, p) => (s.planPorts p).any (fun q => decide (s.stageOfPort q = stage))
    | none => false
  if d = 6 then recipes.any s.recipeUsesAnvil
  else if d = 13 ∨ d = 20 then recipes.any s.recipeHasText
  else if d = 14 ∨ d = 21 then !recipes.isEmpty || served
  else if 22 ≤ d ∧ d ≤ 25 then s.switch.ports.any (fun p => decide (22 + p.block / 16 = d))
  else if d = 28 ∨ d = 29 then s.media.dies.any (fun x => decide (28 + x.channel / 24 = d))
  else site

/-- A request to switch a domain (R605, R606): it completes at once in a stable state that it asks for, or waits. -/
def State.askDomain (s : State) (d : Nat) (on : Bool) (r : Req) : State :=
  let x := s.domain d
  let s := s.setDomain d { x with waiting := x.waiting ++ [r] }
  let y := s.domain d
  if on then
    match x.status with
    | .off | .failed => if s.domainPowered d then s.powerUp d else s.endDomainSets d
    | .on => s.endDomainSets d
    | .poweringOff => s.setDomain d { y with status := .pendingOn }
    | .pendingOff => s.setDomain d { y with status := .poweringOn }
    | .poweringOn | .pendingOn => s
  else
    match x.status with
    | .on => s.powerDown d
    | .off | .failed => s.endDomainSets d
    | .poweringOn => s.setDomain d { y with status := .pendingOff }
    | .pendingOn => s.setDomain d { y with status := .poweringOff }
    | .poweringOff | .pendingOff => s

/-- DOMAIN_SET (R604 to R606): requests on one domain queue. -/
def execDomainSet (r : Req) (domain action : Nat) (s : State) : Out :=
  .next (s.finish r 0x0B02 (firstReject [(decide (29 < domain) || fixedDomain domain || s.domainSpare domain, badParam 0),
      (decide (1 < action), badParam 1), (decide (action = 0) && s.offBarred domain, ⟨.inUse, 0⟩)])
    ((s.answerInProgress r 0x0B02 []).askDomain domain (decide (action = 1)) r))

/-! ### Block resets (R599, R600) -/

/-- A block reset has ended: RESET completes. -/
def State.endBlock (s : State) (t : Nat) (st : Status) : State :=
  let w := (s.power.blocks.find? (fun b => decide (b.target = t))).bind (fun b => b.waiter)
  let s := { s with power := { s.power with blocks := s.power.blocks.filter (fun b => decide (b.target ≠ t)) } }
  match w with
  | some r => s.answer r 0x0B01 st
  | none => s

/-- A target has a self-test: every unit but a port block and a packer stage (R600). -/
def selfTests (t : Nat) : Bool := decide (0x100 ≤ t) && decide (t ≠ 0x500) && decide (t ≠ 0x501)

/-- BLOCK_RESET_RELEASE (R593, R600): the row itself says that 256 cycles have passed and the clock is locked. -/
def execBlockResetRelease (target : Nat) (s : State) : Out :=
  let mark (b : BlockReset) : BlockReset := { b with testing := true }
  let s' := if target < 0x40 then s.portPllLocked (22 + target / 16) else s
  .next (if !s.blockHeld target then s
    else if selfTests target then
      { s with power := { s.power with blocks := updateFirst (fun b => decide (b.target = target)) mark s.power.blocks } }
    else (s'.unitBack target).endBlock target .ok)

/-- Under which status the RESET of a unit that failed its self-test completes: a spare has taken its number, or it is gone (log
entry 87). -/
def State.failedStatus (s : State) (t : Nat) : Status :=
  if 0x600 ≤ t ∨ (0x100 ≤ t ∧ t < 0x200 ∧ (s.units.crucibleMap.getD (t - 0x100) none).isSome)
    ∨ (0x200 ≤ t ∧ t < 0x300 ∧ (s.units.riffleMap.getD (t - 0x200) none).isSome) then .ok else .notFound

/-- SELF_TEST_DONE (R600, R604, R606): a unit returns to service or is retired; of the units of a bank, a free value names the
one that failed. -/
def execSelfTestDone (target : Nat) (pass : Bool) (s : State) : Out :=
  let d := target - 0x600
  let x := s.domain d
  let rising : Bool := decide (0x600 ≤ target) && x.good && (decide (x.status = .poweringOn) || decide (x.status = .pendingOff))
  let units := s.targetUnits target
  let bad := units[s.free % units.length]?
  let failed (s : State) : State := match bad with | some t => s.used.retireUnit t | none => s
  let testing := s.power.blocks.any (fun b => decide (b.target = target) && b.testing)
  .next (if rising then (if pass then s else failed s).domainOn d
    else if !testing then s
    else if pass then (units.foldl (fun s t => s.unitBack t) s).endBlock target .ok
    else
      let s := failed ((units.filter (fun t => decide (some t ≠ bad))).foldl (fun s t => s.unitBack t) s)
      s.endBlock target (s.failedStatus target))

/-- Begin the block reset of a target for a request (R599, R600). -/
def State.beginBlock (s : State) (r : Req) (t : Nat) : State :=
  let s := (s.targetUnits t).foldl (fun s u => s.resetUnit u) (s.answerInProgress r 0x0B01 [.unit t])
  (s.blockReset t (some r)).historyLine Source.mailbox.value 3 0 0

/-- RESET (R585, R586, R599, R600, R607): the response to scope 0 or 1 precedes the reset. -/
def execReset (r : Req) (scope target : Nat) (s : State) : Out :=
  .next (s.finish r 0x0B01
    (firstReject [(decide (scope = 3) && s.isHeld (.unit target), ⟨.busy, 0⟩),
      (decide (scope = 4) && s.isHeld (.storageQp target), ⟨.busy, 0⟩),
      (decide (4 < scope), badParam 0),
      ((decide (scope = 3) && (s.targetDomain target).isNone) || (decide (scope = 4) && decide (255 < target)), badParam 2),
      (decide (scope = 3) && !s.targetThere target, ⟨.notFound, 0⟩),
      (decide (scope = 4) && (s.qp? target).isNone, ⟨.notFound, 0⟩)])
    (if scope = 0 then (s.answer r 0x0B01 .ok).resetEvent .mailbox .cold
     else if scope = 1 then (s.answer r 0x0B01 .ok).resetEvent .mailbox .warm
     else if scope = 2 then (s.answer r 0x0B01 .ok).mgmtRestart .command
     else if scope = 3 then s.beginBlock r target
     else (s.historyLine Source.mailbox.value 4 0 0).resetPairFor r 0x0B01 target))

/-! ### Die-to-die links (R566, R609) -/

/-- Enter a line in the LINK log: CODE 1 a retrain, 2 a failure (log entry 8). -/
def State.linkLine (s : State) (link code : Nat) : State := s.logEntry .link code link []

/-- D2D_REPLAY_FAIL (R609): sixteen replays have failed in a row; the link retrains and its traffic waits. -/
def execD2dReplayFail (link : Nat) (s : State) : Out :=
  let s' := ((s.count (.link link 1) 16).count (.link link 2)).linkLine link 1
  .next (if 9 ≤ link ∨ s.tel.retraining.contains link then s
    else { s' with tel := { s'.tel with retraining := s'.tel.retraining ++ [link] } })

/-- A link retrains no longer. -/
def State.retrained (s : State) (link : Nat) : State :=
  { s with tel := { s.tel with retraining := s.tel.retraining.filter (fun l => decide (l ≠ link)) } }

/-- D2D_RETRAIN_DONE (R609): the traffic that waited resumes. -/
def execD2dRetrainDone (link : Nat) (s : State) : Out := .next (s.retrained link)

/-- The domains of the die at the far end of a link (R601, R612). -/
def linkDomains (link : Nat) : List Nat :=
  if link = 0 then List.range' 8 7
  else if link = 1 then List.range' 15 7
  else if link ≤ 5 then [20 + link]
  else if link ≤ 7 then [20 + link, 22 + link]
  else []

/-- Modules leave the host link (R566). -/
def State.loseModules (s : State) (keep : BitVec 4) : State :=
  State.hlError { s with link := { s.link with modules := s.link.modules &&& keep } } 1

/-- D2D_RETRAIN_TIMEOUT (R609): retraining has not completed within 1 ms; every domain of the far die fails. Of the host die
site's link, the host link loses its modules (R566). -/
def execD2dRetrainTimeout (link : Nat) (s : State) : Out :=
  let s' := (s.retrained link).linkLine link 2
  .next (if !s.tel.retraining.contains link then s
    else if link = 8 then s'.loseModules 0#4
    else (linkDomains link).foldl (fun s d => s.domainFailed d) s')

end Sys2Proof.Machine
end

