-- ==== Sys2Proof/Machine/FrontEnd.lean ====
section
/-! DEFINITION. The mailbox front end and the Lockkeeper itself (chapter 19): arriving messages, their sequence and the checks of
R523 up to BUSY, time-outs, MB7, the watchdog and the SRAM checks, the end of a management restart, and the commands of class
0x01. -/

namespace Sys2Proof.Machine

/-! ### Arriving messages (R517 to R523) -/

/-- A header fault (R523): a reserved bit set, a FLAGS bit other than SYNC, or STATUS, ORIGIN or DEVICE not zero. -/
def headerBad (bs : Bytes) : Bool :=
  !zeroAt bs 2 2 || !zeroAt bs 10 1 || decide (fieldAt bs 11 1 &&& 0xF7 ≠ 0) || !zeroAt bs 14 2 || !zeroAt bs 24 8

/-- SYNC of a request's FLAGS (R520). -/
def headerSync (bs : Bytes) : Bool := decide (fieldAt bs 11 1 &&& 8 ≠ 0)

/-- The payload of a message as the front end takes it: LENGTH bytes, at most 4,064 of them copied (R572). -/
def messagePayload (bs : Bytes) : Bytes :=
  let n := fieldAt bs 8 2
  (((bs.drop 32).take 4064) ++ List.replicate n 0).take n

/-- The request that a message carries on a mailbox. -/
def reqOf (mb : Nat) (bs : Bytes) : Req := ⟨mb, fieldAt bs 4 4, fieldAt bs 12 2⟩

/-- Answer a message that is not accepted: the response is not cached (R521, R523). -/
def State.refuseMessage (s : State) (r : Req) (code : Nat) (st : Status) (result : Nat) : State :=
  let m : Message := s.signed { command := code, status := st.value, tag := r.tag, origin := r.mb, response := true, seq := r.seq,
                                result := result }
  (s.countRejection r.mb st).postResponse r.mb m

/-- What the sequence rule makes of a request (R521). -/
inductive SeqVerdict where
  | repeated | accepted | bad (expected : Nat)
  deriving DecidableEq, Repr

/-- The cases of R521 in their order. -/
def seqVerdict (b : Mailbox) (seq tag : Nat) (sync : Bool) : SeqVerdict :=
  if b.accepted.contains (seq, tag) then .repeated
  else if sync then .accepted
  else match b.lastSeq with
    | none => .bad 0xFFFFFFFF
    | some n => if seq = (n + 1) % 2 ^ 16 then .accepted else .bad ((n + 1) % 2 ^ 16)

/-- A repeat (R521): the cached response goes out again, or the repeat is dropped and counted. -/
def State.answerRepeat (s : State) (mb seq tag : Nat) : State :=
  let b := s.box mb
  match lookup? b.cache (seq, tag) with
  | some m => s.postResponse mb m
  | none => s.setBox mb { b with repeatsDropped := b.repeatsDropped + 1 }

/-- The commands the ROM recovery image answers (R518). -/
def recoveryCommands : List Nat := [0x0101, 0x0104, 0x0A01, 0x0A02, 0x0A03]

/-- The mailboxes the recovery command set answers on (R562): MB0 and MB4, or the one that BOOT_SRC selects. -/
def State.recoveryBox (s : State) (mb : Nat) : Bool :=
  if s.nor.running = .download then decide (mb = if s.power.bootSrc = 2#2 then 0 else 4) else decide (mb = 0) || decide (mb = 4)

/-- DEBUG_FULL counts (R518, R552). -/
def State.debugOpen (s : State) : Bool := s.nor.debugFull && (s.nor.ownerKey.isNone || s.nor.debugSigned)

/-- A mailbox accepts a command of a code (R518). -/
def State.permits (s : State) (mb code : Nat) (l : Layout) : Bool :=
  if mb = 5 then l.manager || decide (code / 256 = 4)
  else if mb = 6 then s.debugOpen || decide (code / 256 = 1) || decide (code / 256 = 0x0C)
  else true

/-- The front end answers BUSY (R516, R517, R528, R542): a management restart or the boot is in progress, which ECHO runs
through, 16 commands are outstanding, or the reserve of MB7 is full. -/
def State.frontBusy (s : State) (mb code : Nat) : Bool :=
  (decide (code ≠ 0x0104) && (s.lock.restart.isSome || s.resetting))
    || decide (16 ≤ (s.box mb).outstanding.length) || decide (64 ≤ s.lock.mb7.reserve.length)

/-- The checks of R523 from COMMAND to BUSY. -/
def State.frontCheck (s : State) (mb code : Nat) (payload : Bytes) : Option Reject := match layoutOf code payload with
  | none => some ⟨.badCommand, 0⟩
  | some l => firstReject [
      (decide (s.nor.running ≠ .main) && !recoveryCommands.contains code, ⟨.recovery, 0⟩),
      (!s.permits mb code l, ⟨.notPermitted, 0⟩),
      (l.manager && decide (mb ≠ 5) && !s.leads, ⟨.notManager, s.group.manager⟩),
      (s.frontBusy mb code, ⟨.busy, 0⟩)]

/-- A request whose sequence is in order is accepted: it joins the last 16, and is outstanding until its answer unless a check
fails (R517, R521, R523). -/
def State.accept (s : State) (mb : Nat) (bs : Bytes) : State :=
  let r := reqOf mb bs
  let code := fieldAt bs 0 2
  let payload := messagePayload bs
  let b := s.box mb
  let check := s.frontCheck mb code payload
  let b := { b with lastSeq := some r.seq, accepted := ((r.seq, r.tag) :: b.accepted).take 16 }
  let s := s.setBox mb b
  match check with
  | some e => s.respond r code e.status e.result [] []
  | none =>
    let o : Outstanding := { req := r, command := code, payload := some payload, arrived := s.now }
    s.setBox mb { b with outstanding := b.outstanding ++ [o] }

/-- The front end takes messages: the management region is out of reset, and a recovery image answers on its own mailboxes
only (R562, R595). -/
def State.listens (s : State) (mb : Nat) : Bool :=
  decide (s.power.boot ≠ .held) && decide (s.power.boot ≠ .released)
    && (decide (s.nor.running = .main) || s.recoveryBox mb) && (decide (mb ≠ 4) || !s.power.maintOff)

/-- A message arrives on a mailbox (R520 to R523). -/
def State.receive (s : State) (mb : Nat) (bs : Bytes) : State :=
  let r := reqOf mb bs
  let code := fieldAt bs 0 2
  if !s.listens mb ∨ bs.length < 32 then s
  else if headerBad bs then s.refuseMessage r code .badHeader 0
  else match seqVerdict (s.box mb) r.seq r.tag (headerSync bs) with
    | .repeated => s.answerRepeat mb r.seq r.tag
    | .bad expected => s.refuseMessage r code .badSequence expected
    | .accepted => s.accept mb bs

/-- MB_DOORBELL (R572): the request window is copied within 1 us; a doorbell that finds REQ_BUSY set is ignored and sets
REQ_LOST. -/
def execMbDoorbell (mailbox : Nat) (s : State) : Out :=
  let b := s.box mailbox
  let copy := s.free % (s.us 1 + 1)
  let received := (s.used.setBox mailbox { b with busyUntil := s.now + copy }).receive mailbox (Memory.readBytes b.window 0 4096)
  .next (if 4 ≤ mailbox then s else if s.now < b.busyUntil then s.hlError 5 else received)

/-- An address lies in the allow prefix (R517, R541). -/
def Maintenance.allows (m : Maintenance) (source : Nat) : Bool :=
  let k := 2 ^ (32 - m.allowLen)
  decide (source / k = m.allow / k)

/-- MAINTENANCE_DATAGRAM (R517): a datagram from outside the allow prefix is dropped and counted. -/
def execMaintenanceDatagram (source : Nat) (message : Bytes) (s : State) : Out :=
  .next (if s.power.maintOff then s
    else if s.nor.maintenance.allows source then s.receive 4 message
    else { s with lock := { s.lock with mb4Dropped := s.lock.mb4Dropped + 1 } })

/-- MBOX_DATA_SCAN (R517): one message per scan, on MB6. -/
def execMboxDataScan (message : Bytes) (s : State) : Out := .next (s.receive 6 message)

/-- ANSWER_TIMEOUT (R524): the row itself says that 10 ms have passed since the request's arrival; the front end answers
IN_PROGRESS and the command goes on. -/
def execAnswerTimeout (r : Req) (s : State) : Out := match s.outstanding? r with
  | none => .next s
  | some o =>
    let s' := s.respond r o.command .inProgress 0 [] []
    let b := s'.box r.mb
    let out := updateFirst (fun x => decide (x.req = r)) (fun x => { x with inProgress := true }) b.outstanding
    .next (if o.inProgress then s else s'.setBox r.mb { b with outstanding := out })

/-! ### Responses and MB7 (R528, R572) -/

/-- RESP_READY (R572): the windowed response is released and the next one, if any, loaded. -/
def execRespReady (mailbox : Nat) (s : State) : Out :=
  let b := s.box mailbox
  let rest := b.responses.drop 1
  let s' := s.setBox mailbox { b with responses := rest, respReady := !rest.isEmpty }
  .next (if 4 ≤ mailbox ∨ b.responses.isEmpty then s else if rest.isEmpty then s' else s'.msix (1 + mailbox))

/-- Space has returned on MB7 (R528): EVENTS_LOST with the count, then what waits in the reserve. -/
def State.mb7Refill (s : State) : State :=
  let q := s.lock.mb7
  if 256 ≤ q.queue.length then s
  else
    let lostMsg : Message := s.signed { command := Event.eventsLost.value, event := true, seq := q.seq, payload := natLe 8 q.lost }
    let masked := q.mask.contains Event.eventsLost.value
    let q : Mb7 :=
      if q.lost = 0 then q
      else if masked then { q with lost := 0, masked := q.masked + 1 }
      else { q with lost := 0, seq := (q.seq + 1) % 2 ^ 16, queue := q.queue ++ [lostMsg] }
    let room := 256 - q.queue.length
    s.setMb7 { q with queue := q.queue ++ q.reserve.take room, reserve := q.reserve.drop room }

/-- MB7_POP (R572): the head message is removed; a pop of an empty MB7 does nothing. -/
def execMb7Pop (s : State) : Out :=
  let q := s.lock.mb7
  .next (if q.queue.isEmpty then s else (s.setMb7 { q with queue := q.queue.drop 1 }).mb7Refill)

/-- EVENT_MASK_SET (R528, R531): bit k masks code 0xE000 + k; bits of critical events are ignored. -/
def execEventMaskSet (r : Req) (bitmap : Bytes) (s : State) : Out :=
  let critical : List Nat := [0xE011, 0xE012, 0xE024, 0xE025, 0xE046, 0xE047]
  let codes := (List.range 1024).filter (fun k => decide (fieldAt bitmap (k / 8) 1 / 2 ^ (k % 8) % 2 = 1))
  let mask := (codes.map (fun k => 0xE000 + k)).filter (fun c => !critical.contains c)
  .next (s.finish r 0x0C04 (firstReject [(decide (bitmap.length ≠ 128), ⟨.badLength, 128⟩)])
    ((s.setMb7 { s.lock.mb7 with mask := mask }).answer r 0x0C04 .ok))

/-! ### The Lockkeeper's safeguards (R515) -/

/-- LK_WATCHDOG_EXPIRY (R515, R559, R564): a management restart; a second expiry within 1 s of the end of a restart that the
watchdog caused is a warm reset, which ends a probation. -/
def execLkWatchdogExpiry (s : State) : Out :=
  let again := s.lock.restartByWatchdog && s.within s.lock.restartEnd (s.seconds 1)
  let s' := s.raise .watchdog
  let ended : NorState := { s'.nor with endedProbation := s'.nor.endedProbation || s'.nor.probation.isSome }
  .next (if s.power.boot = .held ∨ s.power.boot = .released then s
    else if again then (s'.setNor ended).resetEvent .watchdog .warm
    else s'.mgmtRestart .watchdog)

/-- LK_SRAM_ECC_ERROR (R515): a single-bit error is corrected and counted; a double-bit error resets; a residue mismatch, a
critical-state error too, restarts the Lockkeeper. -/
def execLkSramEccError (error : LkError) (s : State) : Out := match error with
  | .single => .next { s with lock := { s.lock with sramCorrected := s.lock.sramCorrected + 1 } }
  | .double => .next (s.resetEvent .lkSram .warm)
  | .residue => .next ((s.logEntry .critical Event.criticalState.value 0 []).mgmtRestart .residue)

/-! ### The end of a management restart (R516, R558, R559, R561, R564) -/

/-- How the loader's check at a management restart ends: the new image boots, or the LAST_CHECK of the failure. -/
def State.restartCheck (s : State) (cause : RestartCause) (crcOk : Bool) : Option Nat :=
  let i := fwInfoOf s.nor.image
  if s.nor.probation.isSome ∧ (cause = .watchdog ∨ cause = .residue) then some 6
  else match s.imageFault s.nor.image with
    | some (_, k) => some k
    | none => if !crcOk ∨ outside s.nor.fw.handoverFormat i.handoverReadMin i.handoverFormat then some 5 else none

/-- The NOR image boots (R558, R559): a new one is in probation for 60 s beside the retained image. -/
def State.bootNew (s : State) : State :=
  let fresh := decide (s.nor.image ≠ s.nor.runningImage)
  let s := s.runImage s.nor.image
  s.setNor { s.nor with lastCheck := 1, pendingVersion := none
                        probation := if fresh then some (s.now + s.seconds 60) else s.nor.probation }

/-- The retained image boots and is written back, but for an image write that the new firmware repeats (R558, R564); with no
image retained the recovery image runs (R562). -/
def State.bootRetained (s : State) (k : Nat) : State :=
  let repeating := s.nor.writes.any (fun w => match w.job with | .image _ => true | _ => false)
  let others := s.nor.writes.filter (fun w => match w.job with | .writeBack _ => false | _ => true)
  let s := s.setNor { s.nor with lastCheck := k, probation := none, writes := others,
                                 pendingVersion := if repeating then s.nor.pendingVersion else none }
  match s.nor.retained with
  | none => s.setNor { s.nor with running := .recovery }
  | some bs =>
    let s := s.runImage bs
    if repeating then s else (s.setNor { s.nor with writeBack := .running }).queueNor { job := .writeBack bs }

/-- MGMT_RESTART_END (R516, R558): the firmware that boots takes over the commands of the handover record, which stay
outstanding, and reports the check and the restart. -/
def execMgmtRestartEnd (crcOk : Bool) (s : State) : Out := match s.lock.restart with
  | none => .next s
  | some cause =>
    let before := s.nor.fw
    let s := match s.restartCheck cause crcOk with
      | none => s.bootNew
      | some k => s.bootRetained k
    let lock : LockState := { s.lock with restart := none, handover := [], restartEnd := some s.now,
                                          restartByWatchdog := decide (cause = .watchdog) }
    let s := { s with lock := lock }
    let s := s.raise .fwChecked s.nor.lastCheck
    let s := s.raise .mgmtRestarted 0 (natLe 8 s.nor.fw.version)
    let s := if cause = .residue then s.raise .criticalState else s
    .next (if s.nor.fw = before then s else s.recordNow)

/-- FW_RESTART_BEGIN (R557, R432): the management restart that a commit scheduled falls due. -/
def execFwRestartBegin (s : State) : Out :=
  .next (if s.nor.restartScheduled then (s.setNor { s.nor with restartScheduled := false }).mgmtRestart .commit else s)

/-! ### The commands of class 0x01 (R531) -/

/-- IDENTITY_READ (R5, R531). -/
def execIdentityRead (r : Req) (s : State) : Out :=
  let f := s.fuse
  .next (s.finish r 0x0101 none (s.answer r 0x0101 .ok 0 []
    [f.clockBin, f.hostOption, f.stepping, f.es.toNat, f.serial, s.nor.fw.version, s.nor.fw.datapathRev,
      if s.nor.running = .main then 0 else 1]))

/-- MAILBOX_STATUS (R531): before the first accepted request the last SEQUENCE is a free value. -/
def execMailboxStatus (r : Req) (mailbox : Nat) (s : State) : Out :=
  let b := s.box mailbox
  let q := s.lock.mb7
  let last := (b.lastSeq).getD (s.free % 2 ^ 16)
  let s' := if b.lastSeq.isNone then s.used else s
  .next (s.finish r 0x0102 (firstReject [(decide (7 < mailbox), badParam 0)])
    (if mailbox = 7 then s.answer r 0x0102 .ok 0 [] [q.queue.length, q.reserve.length, q.lostTotal]
     else s'.answer r 0x0102 .ok 0 [] ([b.outstanding.length, last] ++ b.rejections.flatMap (fun x => [x.1, x.2]))))

/-- UNIT_MAP_READ (R38, R531). -/
def execUnitMapRead (r : Req) (s : State) : Out :=
  .next (s.finish r 0x0103 none (s.answer r 0x0103 .ok 0 (s.units.bytes ++ sha256 s.units.bytes)))

/-- ECHO (R531): the same payload. -/
def execEcho (r : Req) (data : Bytes) (s : State) : Out :=
  .next (s.finish r 0x0104 (firstReject [(decide (4064 < data.length), ⟨.badLength, 4064⟩)]) (s.answer r 0x0104 .ok 0 data))

end Sys2Proof.Machine
end

