-- ==== Sys2Proof/Machine/Telemetry.lean ====
section
/-! DEFINITION. Logs, counters, telemetry, sensors and throttling (chapter 23, and R625 of chapter 24). -/

namespace Sys2Proof.Machine

def State.setTel (s : State) (t : TelemetryState) : State := { s with tel := t }

/-! ### Sticky logs (R610, R611) -/

/-- The log of an identifier (R610), none for one that is not listed. -/
def logOf : Nat → Option LogId
  | 1 => some .resetHistory | 2 => some .critical | 3 => some .memory | 4 => some .unit | 5 => some .pool | 6 => some .config
  | 7 => some .link | 8 => some .thermal | 16 => some .media
  | _ => none

/-- Sizes of the values of DETAIL in each log (R610; log entry 8). -/
def LogId.detailSizes : LogId → List Nat
  | .resetHistory => [1, 1, 1, 1, 1, 1, 1, 1]
  | .memory => [8, 4]
  | .pool => [2, 8, 2]
  | _ => [4, 4, 4, 4]

/-- The 48 bytes of an entry (R611). -/
def LogEntry.bytes (i : LogId) (e : LogEntry) : Bytes :=
  let detail := (i.detailSizes.zip e.detail).flatMap (fun x => natLe x.1 x.2)
  natLe 8 e.seq ++ natLe 8 e.uptimeUs ++ natLe 8 e.step ++ natLe 2 e.code ++ natLe 2 e.subject ++ natLe 4 0
    ++ (detail ++ List.replicate 16 0).take 16

/-- The bytes of a log (R611). -/
def Log.bytes (l : Log) : Bytes :=
  natLe 2 1 ++ natLe 2 48 ++ natLe 4 l.id.capacity ++ natLe 4 l.entries.length ++ natLe 4 l.overflow
    ++ natLe 8 ((l.entries.head?.map (·.seq)).getD l.nextSeq) ++ natLe 8 l.nextSeq ++ l.entries.flatMap (fun e => e.bytes l.id)

/-- LOG_READ (R531, R611): bytes of the snapshot taken now. -/
def execLogRead (r : Req) (log offset length : Nat) (s : State) : Out :=
  .next (s.finish r 0x0C01 (firstReject [((logOf log).isNone, badParam 0), (outside length 1 4064, badParam 8)])
    (s.answer r 0x0C01 .ok 0 ((((logOf log).map (fun i => (s.log i).bytes)).getD []).drop offset |>.take length)))

/-- A log is being read by a command in progress (R531): a LOG_READ answered IN_PROGRESS names it. -/
def State.logBusy (s : State) (r : Req) (log : Nat) : Bool :=
  s.lock.boxes.any (fun b => b.outstanding.any (fun o => decide (o.req ≠ r) && decide (o.command = 0x0C01) && o.inProgress
    && decide (fieldAt (o.payload.getD []) 0 2 = log)))

/-- Empty a log (R611). -/
def State.clearLog (s : State) (i : LogId) : State :=
  s.setTel { s.tel with logs := updateFirst (fun l => decide (l.id = i)) (fun l => { id := l.id }) s.tel.logs }

/-- LOG_CLEAR (R531, R611). -/
def execLogClear (r : Req) (log : Nat) (s : State) : Out :=
  .next (s.finish r 0x0C06 (firstReject [((logOf log).isNone, badParam 0), (s.logBusy r log, ⟨.inUse, 0⟩)])
    ((((logOf log).map s.clearLog).getD s).answer r 0x0C06 .ok))

/-! ### Counters (R612, R613) -/

/-- Indexes of a counter block (R612), none for one that is not listed. -/
def blockSize : Nat → Option Nat
  | 1 => some 8192 | 2 => some 512 | 3 => some 448 | 4 => some 1024 | 5 => some 1000 | 6 => some 114688 | 7 => some 7
  | 8 => some 192 | 9 => some 36 | 10 => some 448
  | _ => none

/-- Steps ahead of the destinations on a port (R297, R613). -/
def State.stepsAhead (s : State) (port : Nat) : Nat :=
  ((s.destsOfPort port).map (fun d => ((s.destQ? d).map (fun q => q.ahead)).getD 0)).sum

/-- The measurements of R613 of a Gauge source. -/
def State.measurement (s : State) (x : GaugeSource) (k : Nat) : Nat :=
  if k = 0 then x.measStep
  else if k = 1 then x.measMark
  else if k = 2 then x.stepInterval.getD 0
  else if k = 3 then s.stepsAhead x.port
  else if k = 4 then lookupD s.pipe.consumed x.port 0
  else if k = 5 then s.gauge.committed.step - x.lastStep
  else 0

/-- A counter by its block and index (R612). -/
def State.counterAt (s : State) (block i : Nat) : Nat :=
  if block = 1 then s.counter (.port (i / 32) (i % 32))
  else if block = 2 then s.counter (.rdma (i / 8) (i % 8))
  else if block = 3 then s.counter (.gauge (i / 8) (i % 8))
  else if block = 4 then s.counter (.pool (i / 16) (i % 16))
  else if block = 5 then s.counter (.sample i)
  else if block = 6 then s.counter (.feed (i / 8) (i % 8))
  else if block = 7 then s.counter (.synth i)
  else if block = 8 then s.counter (.memory (i / 4) (i % 4))
  else if block = 9 then s.counter (.link (i / 4) (i % 4))
  else match s.gauge.sources.find? (fun x => decide (s.portIndex x.port = i / 8)) with
    | some x => s.measurement x (i % 8)
    | none => 0

/-- COUNTER_READ (R531, R612): 8-byte counters, sampled in one cycle. -/
def execCounterRead (r : Req) (block first count : Nat) (s : State) : Out :=
  .next (s.finish r 0x0C02 (firstReject [((blockSize block).isNone, badParam 0),
      (decide ((blockSize block).getD 0 < first + count), badParam 4), (outside count 1 500, badParam 8)])
    (s.answer r 0x0C02 .ok 0 ((List.range' first count).flatMap (fun i => natLe 8 (s.counterAt block i)))))

/-! ### Sensors (R616, R619) -/

/-- Insert in ascending order. -/
def insertAsc (x : Int) : List Int → List Int
  | [] => [x]
  | y :: ys => if x ≤ y then x :: y :: ys else y :: insertAsc x ys

/-- The median of the last three readings (R616); with fewer of them, the newest (log entry 85). -/
def medianOf (l : List Int) : Option Int :=
  if 3 ≤ l.length then ((l.take 3).foldr insertAsc [])[1]? else l.head?

/-- Median of a junction sensor. -/
def State.tempMedian (s : State) (i : Nat) : Option Int := medianOf (s.tel.temps.getD i [])

/-- Median of a rail monitor. -/
def State.railMedian (s : State) (i : Nat) : Option Int := medianOf (s.tel.rails.getD i [])

/-- The lowest sensor whose median starts the thermal trip (R586, R619). -/
def State.tripSensor (s : State) : Option Nat :=
  (List.range 16).find? (fun i => decide (1150 ≤ (s.tempMedian i).getD 0))

/-- A thermal trip, unless one is in force already (R588, R619). -/
def State.tripIfHot (s : State) : State := match s.tripSensor with
  | some i => if s.power.tripDue.isSome && decide (s.power.boot = .held) then s else s.resetEvent .thermalTrip .cold i
  | none => s

/-- Add a reading to each list, with the factory value and the user offset of a calibration field (R546, R616). -/
def State.addReadings (s : State) (field : Nat) (old : List (List Int)) (new : List Int) : List (List Int) :=
  old.mapIdx (fun i l => match new[i]? with
    | some v => ((v + lookupD s.fuse.cal (field + i) 0 + s.calUser (field + i)) :: l).take 3
    | none => l)

/-- SENSOR_SAMPLE (R616, R619). -/
def execSensorSample (temperatures rails : List Int) (s : State) : Out :=
  let t : TelemetryState := { s.tel with temps := s.addReadings 0x0870 s.tel.temps temperatures
                                         rails := s.addReadings 0x0880 s.tel.rails rails }
  .next (s.setTel t).tripIfHot

/-- A sensor's value as SENSOR_READ gives it: 16 junction sensors, then 8 rail monitors; one not yet read gives a free value. -/
def State.sensorValue (s : State) (i : Nat) : Nat :=
  wrapTo 16 ((if i < 16 then s.tempMedian i else s.railMedian (i - 16)).getD ((s.free + i : Nat) : Int))

/-- SENSOR_READ (R531, R616): one sensor, or all of them. -/
def execSensorRead (r : Req) (index : Nat) (s : State) : Out :=
  let l := if index = 0xFFFF then List.range 24 else [index]
  .next (s.finish r 0x0C05 (firstReject [(decide (23 < index) && decide (index ≠ 0xFFFF), badParam 0)])
    (s.used.answer r 0x0C05 .ok 0 [] (l.map s.sensorValue)))

/-- POWER_READ (R531, R625): power per domain, package power, rail readings; a rail not yet read gives a free value. -/
def execPowerRead (r : Req) (s : State) : Out :=
  .next (s.finish r 0x0B03 none (s.used.answer r 0x0B03 .ok 0 []
    (s.tel.domainPower ++ [s.tel.packagePower] ++ (List.range 8).map (fun i => s.sensorValue (16 + i)))))

/-! ### Throttling (R617 to R619) -/

/-- THROTTLE_SET (R617, R619). -/
def execThrottleSet (r : Req) (limit : Nat) (s : State) : Out :=
  .next (s.finish r 0x0B04 (firstReject [(outside limit 300 1080, badParam 0)])
    ((s.setTel { s.tel with limit := limit }).answer r 0x0B04 .ok))

/-- The hot condition (R617). -/
def State.hot (s : State) : Bool :=
  (List.range 16).any (fun i => decide (1000 ≤ (s.tempMedian i).getD 0)) || s.tel.throttleLow
    || decide (s.tel.limit * 1000 < s.tel.packagePower)

/-- The cool condition (R617); a sensor not yet read does not meet it. -/
def State.coolNow (s : State) : Bool :=
  (List.range 16).all (fun i => decide ((s.tempMedian i).getD 9999 ≤ 970)) && !s.tel.throttleLow
    && decide (s.tel.packagePower ≤ s.tel.limit * 950)

/-- Set the duty: each step is logged, and THERMAL_THROTTLE marks the way out of 8/8 and back (R617). -/
def State.setDuty (s : State) (d : Nat) : State :=
  let old := s.tel.duty
  let s := s.setTel { s.tel with duty := d }
  if d = old then s
  else
    let s := s.logEntry .thermal Event.thermalThrottle.value d []
    if old = 8 ∨ d = 8 then s.raise .thermalThrottle 0 (natLe 1 d) else s

/-- One evaluation of the throttle (R617, R618). -/
def State.throttle (s : State) : State :=
  if s.hot then
    let s := s.setTel { s.tel with cool := 0 }
    if s.tel.duty ≤ 2 then s.logEntry .thermal Event.thermalThrottle.value s.tel.duty [] else s.setDuty (s.tel.duty - 1)
  else if s.coolNow then
    let n := s.tel.cool + 1
    if n < 10 then s.setTel { s.tel with cool := n }
    else (s.setTel { s.tel with cool := 0 }).setDuty (min 8 (s.tel.duty + 1))
  else s.setTel { s.tel with cool := 0 }

/-- THROTTLE_EVAL (R617 to R619): the mean package power of the last 1 ms in mW, the domains' power, and the pin come with it;
a trip found takes precedence. -/
def execThrottleEval (power : Nat) (domainPower : List Nat) (throttleLow : Bool) (s : State) : Out :=
  let s := s.setTel { s.tel with packagePower := power, domainPower := domainPower, throttleLow := throttleLow }
  .next (if s.tripSensor.isSome then s.tripIfHot else s.throttle)

/-! ### Telemetry (R614, R615) -/

/-- TELEMETRY_SET (R614): the stream's records are counted from here. -/
def execTelemetrySet (r : Req) (on interval destination place extent : Nat) (s : State) : Out :=
  let ring := decide (destination = 0)
  let dest : TelDest := if destination = 0 then .ring place extent else .port place extent
  .next (s.finish r 0x0C03 (firstReject [(decide (1 < on), badParam 0), (outside interval 1 10000, badParam 4),
      (decide (1 < destination), badParam 8),
      (ring && (decide (place % 4096 ≠ 0) || !inWindow place (min extent 1024 * 4096)), badParam 16),
      (ring && outside extent 2 1024, badParam 24)])
    ((s.setTel { s.tel with on := decide (on = 1), interval := interval, dest := some dest, seq := 0 }).answer r 0x0C03 .ok))

/-- One accelerator entry of a record (R615). -/
def State.accelEntry (s : State) (x : GaugeSource) : Bytes :=
  natLe 2 x.port ++ natLe 2 (min (s.measurement x 5) 0xFFFF) ++ natLe 4 (min (s.measurement x 2) 0xFFFFFFFF)
    ++ natLe 8 (s.measurement x 4)

/-- A telemetry record (R615). -/
def State.telemetryRecord (s : State) : Bytes :=
  let flags := (decide (s.tel.duty < 8)).toNat + 2 * s.gauge.hold.toNat + 4 * (s.gauge.sources.any (·.quarantined)).toNat
    + 8 * (s.power.domains.any (fun d => decide (d.status = .failed))).toNat
  let n := s.gauge.sources.length
  let head : Bytes := [0x54, 0x4C, 0x4D, 0x59] ++ natLe 2 1 ++ natLe 1 flags
    ++ natLe 1 (s.group.set.deviceId + 128 * s.group.set.side) ++ natLe 4 s.tel.seq ++ natLe 4 (176 + 16 * n)
    ++ natLe 8 s.uptimeUs ++ natLe 8 s.gauge.committed.step ++ natLe 8 s.gauge.leading.step ++ natLe 1 s.tel.duty ++ natLe 1 n
    ++ natLe 18 0
  let body := (List.range 16).flatMap (fun i => natLe 2 (wrapTo 16 ((s.tempMedian i).getD 0)))
    ++ (List.range 8).flatMap (fun i => natLe 2 (wrapTo 16 ((s.railMedian i).getD 0)))
    ++ (List.range 30).flatMap (fun d => natLe 2 (s.tel.domainPower.getD d 0)) ++ natLe 4 s.tel.packagePower
    ++ s.gauge.sources.flatMap s.accelEntry
  head ++ natLe 4 (crc32c (head ++ body)) ++ body

/-- TELEMETRY_EMIT (R614): a record falls due; during a management restart it is skipped, and SEQUENCE advances all the same. -/
def execTelemetryEmit (s : State) : Out :=
  let bs := s.telemetryRecord
  let next : TelemetryState := { s.tel with seq := (s.tel.seq + 1) % 2 ^ 32 }
  .next (if !s.tel.on then s
    else if s.lock.restart.isSome then s.setTel next
    else match s.tel.dest with
      | some (.ring base slots) => (s.setTel next).memWrite (base + s.tel.seq % slots * 4096) bs
      | some (.port _ _) =>
        s.setTel (if s.power.maintOff then { next with dropped := next.dropped + 1 } else { next with sent := next.sent ++ [bs] })
      | none => s.setTel next)

end Sys2Proof.Machine
end

