-- ==== Sys2Proof/Machine/Boot.lean ====
section
/-! DEFINITION. What starts a reset from outside the Lockkeeper, and the rows of R595 up to journal recovery (R548, R550, R562,
R582, R586, R590 to R596, R113). -/

namespace Sys2Proof.Machine

def State.setPower (s : State) (p : PowerState) : State := { s with power := p }

/-! ### Sources of a reset (R586, R594) -/

/-- POWER_ON (R586, R598): a supply monitor trips. -/
def execPowerOn (s : State) : Out := .next (s.resetEvent .powerOn .cold)

/-- SYS_RST_N (R586, R607): the event is its fall; while it is low the device stays at step 1. -/
def execSysRstN (low : Bool) (s : State) : Out :=
  let s' := s.setPower { s.power with sysRstLow := low }
  .next (if low ∧ !s.power.sysRstLow then s'.resetEvent .sysRstN .cold else s')

/-- SHADOW_PARITY_ERROR (R586): the fuse shadow is loaded again with the reset. -/
def execShadowParityError (s : State) : Out := .next (s.resetEvent .shadowParity .warm)

/-- POOL_POINTER_ECC (R82, R586). -/
def execPoolPointerEcc (pool : Nat) (s : State) : Out := .next (s.resetEvent .poolPointer .warm 0 pool)

/-- The enabled port blocks of a port die (R601). -/
def State.dieBlocks (s : State) (die : Nat) : List Nat := s.domainUnits (22 + die)

/-- The SerDes PLL of a port die loses lock: every port block of the die is reset (R594). -/
def State.serdesLost (s : State) (die : Nat) : State :=
  (s.dieBlocks die).foldl (fun s b => (s.resetUnit b).blockReset b) s

/-- Set lock indicators by PLL value (R591). -/
def State.lockPlls (s : State) (plls : List Nat) : State :=
  s.setPower { s.power with locks := plls.foldl (fun l p => l ||| BitVec.twoPow 10 (p - 1)) s.power.locks }

/-- PLL_LOCK_LOSS (R592, R594): the timebase PLL goes on from REFCLK_SYS; a lost host link retrains. -/
def execPllLockLoss (pll : Nat) (s : State) : Out :=
  let bit := BitVec.twoPow 10 (pll - 1)
  let lost := s.setPower { s.power with locks := s.power.locks &&& ~~~bit }
  .next (if outside pll 1 10 ∨ !s.power.locks.getLsbD (pll - 1) then s
    else if pll = 3 then s.setPower { s.power with tbRing := false, tbChanges := s.power.tbChanges + 1 }
    else if 4 ≤ pll ∧ pll ≤ 7 then lost.serdesLost (pll - 4)
    else if pll = 10 then { lost with link := { lost.link with modules := 0#4 } }
    else lost.resetEvent .clockLock .warm pll)

/-! ### Steps 2 and 3: the internal reset is released (R588, R590, R595) -/

/-- After a thermal trip every junction sensor must have come down to 100 C (R588). -/
def State.cooled (s : State) : Bool :=
  s.power.tripDue.isNone || (List.range 16).all (fun i => match s.tempMedian i with | some t => decide (t ≤ 1000) | none => false)

/-- Latch the straps (R590): the reserved clock mode runs as 0b00, is noted in STRAPS and logged. -/
def State.latchStraps (s : State) (bootSrc clkMode : BitVec 2) : State :=
  let fault := decide (clkMode = 3#2)
  let s := s.setPower { s.power with bootSrc := bootSrc, clkMode := clkMode, clkFault := fault, strapsDue := false }
  if fault then s.configLog Event.resetCause.value clkMode.toNat [] else s

/-- RESET_RELEASE (R588, R590, R595, R607): the row itself says that 1 ms has passed and the rails are good. -/
def execResetRelease (bootSrc clkMode : BitVec 2) (s : State) : Out :=
  let s' := s.setPower { s.power with boot := .released }
  .next (if s.power.boot ≠ .held ∨ s.power.sysRstLow ∨ !s.cooled then s
    else if s.power.strapsDue then s'.latchStraps bootSrc clkMode else s')

/-! ### Step 4: the management region and the loader (R533, R535, R548, R550, R562) -/

/-- The identity seed is burned at first boot from 256 free bits (R550). -/
def State.burnSeed (s : State) : State :=
  if s.fuse.seed.isSome then s else { s.used with fuse := { s.fuse with seed := some (natLe 32 s.free) } }

/-- The owner key that the selected record enrols (R551). -/
def State.bootOwner (s : State) : State := match s.selected .owner with
  | some bs => s.takeOwner bs
  | none => s.setNor { s.nor with ownerKey := none, ownerSeq := 0 }

/-- Riffles and Drawplates that the map leaves without a unit are out of service (R37, R38). -/
def State.applyMap (s : State) : State :=
  let riffles := s.pipe.riffles.mapIdx (fun n (f : Riffle) => if (s.units.riffleMap.getD n none).isNone then { f with state := .out } else f)
  let plates := s.pipe.plates.mapIdx (fun n (f : Drawplate) => if s.units.drawplateOff.getLsbD n then { f with state := .out } else f)
  { s with pipe := { s.pipe with riffles := riffles, plates := plates } }

/-- The disabled-unit map at a boot (R35, R548): the retirement record's where it may be adopted, else the fuses', which is then
logged and written. -/
def State.bootMap (s : State) : State :=
  let s := match s.selected .retire with
    | none => s
    | some bs =>
      let m := unitMapOf (sliceAt bs 64 64)
      if s.fuse.adopts m then { s with units := m } else (s.configLog 0 3 []).mapChanged
  s.applyMap

/-- The paired records as the loader selects and applies them (R535, R545, R551, R562): none where the NOR does not answer. -/
def State.bootRecords (s : State) (readable : Bool) : State :=
  if !readable then
    let n := s.nor
    ((s.setNor { n with config := { n.config with sel := none }, ucal := { n.ucal with sel := none },
                        owner := { n.owner with sel := none }, retire := { n.retire with sel := none }, calApplied := [] }).bootOwner).bootMap
  else
    let s := ((s.selectAtBoot .owner).bootOwner).selectAtBoot .config
    let s := (s.selectAtBoot .ucal).selectAtBoot .retire
    (s.setNor { s.nor with calApplied := ((s.selected .ucal).map ucalEntries).getD [] }).bootMap

/-- The loader takes what it boots (R555, R559, R562, R564): the checked NOR image, the recovery image, or the download. A
committed image that has not run before is in probation with nothing retained. -/
def State.bootImage (s : State) (readable : Bool) : State :=
  let recovery (k : Nat) : State := s.setNor { s.nor with running := .recovery, lastCheck := k, endedProbation := false }
  if 2 ≤ s.power.bootSrc.toNat then s.setNor { s.nor with running := .download }
  else if !readable then recovery s.nor.lastCheck
  else match s.imageFault s.nor.image with
    | some (_, k) => recovery k
    | none =>
      let fresh := s.nor.pendingVersion.isSome
      let check : Nat := if s.nor.endedProbation then 6 else 1
      let s := s.runImage s.nor.image
      s.setNor { s.nor with lastCheck := check, endedProbation := false, pendingVersion := none
                            retained := if fresh then none else some s.nor.image
                            probation := if fresh then some (s.now + s.seconds 60) else none }

/-- MGMT_REGION_RELEASE (R533, R550, R562, R593, R595 step 4). -/
def execMgmtRegionRelease (norReadable : Bool) (s : State) : Out :=
  let s' := (s.lockPlls [1, 2, 3]).burnSeed
  let s' := s'.setPower { s'.power with boot := .mgmt, norCsHigh := false }
  let s' := s'.setNor { s'.nor with readable := norReadable, bootCount := s'.nor.bootCount + 1 }
  .next (if s.power.boot ≠ .released then s else (s'.bootImage norReadable).bootRecords norReadable)

/-! ### Steps 5 and 6: RST_OUT_N (R541, R562, R588, R597) -/

/-- The link-local address that MB4 takes without a MAINTENANCE entry (R541). -/
def linkLocal (uid : Nat) : Maintenance :=
  let h := 256 + uid % 65024
  { address := 169 * 2 ^ 24 + 254 * 2 ^ 16 + h, allow := 169 * 2 ^ 24 + 254 * 2 ^ 16, prefixLen := 16, allowLen := 16 }

/-- An address in network byte order. -/
def ipAt (bs : Bytes) (o : Nat) : Nat :=
  fieldAt bs o 1 * 2 ^ 24 + fieldAt bs (o + 1) 1 * 2 ^ 16 + fieldAt bs (o + 2) 1 * 2 ^ 8 + fieldAt bs (o + 3) 1

/-- The settings of a MAINTENANCE payload (R541). -/
def maintenanceOf (bs : Bytes) : Maintenance :=
  { address := ipAt bs 0, gateway := ipAt bs 4, allow := ipAt bs 8, prefixLen := fieldAt bs 12 1, allowLen := fieldAt bs 13 1 }

/-- The entries of the selected copy, or of the factory default (R541, R542). -/
def State.bootEntries (s : State) : List CfgEntry := match configEntries s.activeCopy with
  | .ok es => es
  | .error _ => []

/-- MB4 takes its address from the last MAINTENANCE entry of the copy in force (R541, R597). -/
def State.takeAddress (s : State) : State :=
  let own := (s.bootEntries.filter (fun e => decide (e.kind = 3))).getLast?
  let m : Maintenance := match own with
    | some e => maintenanceOf e.payload
    | none => linkLocal s.fuse.uid
  (s.setNor { s.nor with maintenance := m }).setPower { s.power with maintOff := false }

/-- RST_OUT_N_RELEASE (R588, R595, R597): the row itself says that 10 ms have passed. Under the recovery image, or a download on
MB4, the maintenance port is on from here. -/
def execRstOutNRelease (s : State) : Out :=
  let s' := s.setPower { s.power with boot := .booted, rstOut := false, ucieIdle := false }
  .next (if s.power.boot ≠ .mgmt then s
    else if s.nor.running ≠ .main ∧ s'.recoveryBox 4 then s'.takeAddress else s')

/-! ### Step 7: LPDDR6 (R582, R583) -/

/-- Channels disabled in a mask. -/
def channelsOff (m : BitVec 48) : Nat := ((List.range 48).filter (fun c => m.getLsbD c)).length

/-- Put channels that failed training at a cold boot out of use (R582). -/
def State.trainedCold (s : State) (failed : List Nat) : State :=
  let off := failed.foldl (fun m c => m ||| BitVec.twoPow 48 c) s.units.lpddr6Off
  if off = s.units.lpddr6Off then s else ({ s with units := { s.units with lpddr6Off := off } }).mapChanged

/-- Enrol the dies that are listed in the qualification table (R96): a die already enrolled keeps what is known of it; an unlisted
one is logged with an identity that a free value stands for. -/
def State.enrol (s : State) (found : List FoundDie) : State :=
  let good := found.filter (fun f => f.listed)
  let spares := s.media.geometry.blocks * s.media.spareReserve / 100
  let one (f : FoundDie) : NandDie :=
    (s.die? f.channel f.target).getD { channel := f.channel, target := f.target, spares := spares, bad := f.bad }
  let dies := good.map one
  let off (c : Nat) : Bool := s.fuse.nandOff.getLsbD c || !dies.any (fun d => decide (d.channel = c) && !d.failed)
  let mask := (List.range 48).foldl (fun m c => if off c then m ||| BitVec.twoPow 48 c else m) 0#48
  let s := s.setMedia { s.media with dies := dies }
  let s := (found.filter (fun f => !f.listed)).foldl
    (fun s f => s.used.logEntry .media 0 f.channel [f.target, s.free % 2 ^ 32]) s
  if mask = s.units.nandOff then s else ({ s with units := { s.units with nandOff := mask } }).mapChanged

/-- Step 7 ends, and step 8 begins with domains 28 and 29 (R595 to R597). -/
def State.memoryUp (s : State) (found : List FoundDie) : State :=
  let s := s.setPower { s.power with boot := .memory, lpddrResetLow := false, ckeLow := false, selfRefresh := false, nandCeHigh := false }
  let s := (s.lockPlls [8, 9]).enrol found
  let s := [0, 1, 2, 3, 7, 26, 27].foldl (fun s d => s.enterDomain d .on) s
  [28, 29].foldl (fun s d => if s.domainPowered d then s.powerUp d else s) s

/-- LPDDR6_TRAINING_DONE (R96, R582, R583, R587, R595): a channel that fails at a cold boot is disabled, and beyond 13 of them the
device runs the recovery image; at a warm reset a failure makes the reset cold. -/
def execLpddr6TrainingDone (failed : List Nat) (found : List FoundDie) (s : State) : Out :=
  let cold := decide (s.power.cause.scope = .cold)
  let bad := failed.filter (fun c => decide (c < 48) && !s.units.lpddr6Off.getLsbD c)
  let s' := s.trainedCold bad
  .next (if s.power.boot ≠ .booted ∨ s.nor.running ≠ .main then s
    else if !cold && !bad.isEmpty then s.enterReset ⟨.escalated, .cold, s.power.cause.source.value, 0⟩ false
    else if 13 < channelsOff s'.units.lpddr6Off then (s'.setNor { s'.nor with running := .recovery }).takeAddress
    else s'.memoryUp found)

/-! ### Steps 8 and 9: journal recovery and the other domains (R108, R113, R595, R596, R602) -/

/-- Recovery by the table of R113: a relocation without its committed entry is dropped and its destination erased; one with it
has its source erased. Entries not committed were never made. -/
def State.recoverJournal (s : State) : State :=
  let open_ := s.media.relocations.filter (fun r => decide (r.phase ≠ .erase))
  let s := s.setMedia { s.media with relocations := s.media.relocations.filter (fun r => decide (r.phase = .erase)), journalOpen := [] }
  open_.foldl (fun s r => s.eraseLater r.dst) s

/-- Program one staged write after a warm reset (R108). -/
def State.replayStaged (s : State) (w : Staged) : State :=
  let n := w.data.length / 4096
  if w.crcOk then
    let s := if w.lba < s.convBlocks ∧ !w.programmed then s.placeConv w.lba n else s
    let s := s.health (fun h => { h with warmReplays := h.warmReplays + 1, mediaBytes := satAdd h.mediaBytes w.data.length })
    s.settle w
  else (s.setMedia { s.media with staged := s.media.staged.filter (fun x => decide (x.seq ≠ w.seq)) }).logEntry .media 0 0 [w.lba, n]

/-- A domain of step 9: neither fixed on, nor of step 8, nor without an enabled unit, nor a spare (R595, R601, R602). -/
def State.lateDomain (s : State) (d : Nat) : Bool := !fixedDomain d && decide (d < 28) && s.domainPowered d && !s.domainSpare d

/-- No sequence runs on a domain. -/
def DomainStatus.stable (x : DomainStatus) : Bool := decide (x = .off) || decide (x = .on) || decide (x = .failed)

/-- JOURNAL_RECOVERY_DONE (R108, R113, R595, R596): after the replay NAND write-protect is released, and the other domains power
up. -/
def execJournalRecoveryDone (s : State) : Out :=
  let s' := s.recoverJournal
  let s' := if s.power.cause.scope = .cold then s'.health (fun h => { h with recoveries := h.recoveries + 1 })
    else s.media.staged.foldl (fun s w => s.replayStaged w) s'
  let s' := s'.setPower { s'.power with nandWp := false, boot := .media }
  .next (if s.power.boot ≠ .memory ∨ !(s.domain 28).status.stable ∨ !(s.domain 29).status.stable then s
    else ((List.range 30).filter (fun d => s.lateDomain d)).foldl (fun s d => s.powerUp d) s')

end Sys2Proof.Machine
end

