-- ==== Sys2Proof/Machine/Formation.lean ====
section
/-! DEFINITION. Group settings, formation and ring delay measurement (R74, R75, R492 to R499). -/

namespace Sys2Proof.Machine

/-! ### Members (R494, R495) -/

/-- A member whose state is ACTIVE, SERVICE_LOST or JOINING (R499, R500). -/
def liveStatus (m : MemberStatus) : Bool := decide (m = .active) || decide (m = .serviceLost) || decide (m = .joining)

/-- The state of a device of a side, as this device holds it (R494). -/
def State.memberState (s : State) (side d : Nat) : MemberStatus :=
  lookupD (if side = s.group.set.side then s.group.members else s.group.peers) d .absent

/-- Set the state of a device of a side. -/
def State.setMember (s : State) (side d : Nat) (m : MemberStatus) : State :=
  if side = s.group.set.side then { s with group := { s.group with members := assign s.group.members d m } }
  else { s with group := { s.group with peers := assign s.group.peers d m } }

/-- The IDs set in an EXPECTED bitmap, ascending: rank r is the r-th (R495). -/
def idsOf (b : BitVec 128) : List Nat := (List.range 128).filter (fun i => b.getLsbD i)

/-- The IDs of this side. -/
def State.ids (s : State) : List Nat := idsOf s.group.set.expected

/-- The rank of a device (R495). -/
def State.rankOf (s : State) (d : Nat) : Nat := placeOf d s.ids

/-- The device at a rank taken mod the number of devices. -/
def State.atRank (s : State) (r : Nat) : Nat := s.ids.getD (r % max 1 s.ids.length) s.group.set.deviceId

/-- The neighbour on ring-out, and on ring-in (R495). -/
def State.nextRank (s : State) : Nat := s.atRank (s.rankOf s.group.set.deviceId + 1)
def State.prevRank (s : State) : Nat := s.atRank (s.rankOf s.group.set.deviceId + (s.ids.length - 1))

/-- This device's HELLO (R496). -/
def State.ownHello (s : State) : Hello :=
  let g := s.group.set
  { sender := g.deviceId, side := g.side, clockBin := s.fuse.clockBin, twin := g.twin, isManager := decide (g.deviceId = s.group.manager)
    groupId := g.groupId, datapathRev := s.nor.fw.datapathRev, mac := s.rdma.mac, gid := s.rdma.gids.getD 0 0, expected := g.expected }

/-- A HELLO's fields equal this device's own (R497 step 3). -/
def State.matches (s : State) (h : Hello) : Bool :=
  let o := s.ownHello
  decide (h.groupId = o.groupId) && decide (h.clockBin = o.clockBin) && decide (h.datapathRev = o.datapathRev)
    && decide (h.twin = o.twin) && decide (h.expected = o.expected)

/-- Keep a device's last HELLO. -/
def State.keepHello (s : State) (h : Hello) : State :=
  { s with group := { s.group with hellos := s.group.hellos.filter (fun x => !(decide (x.side = h.side) && decide (x.sender = h.sender))) ++ [h] } }

/-- Sequence numbers begin again at 0, and every sender is expected at 0 (R392). -/
def State.resetNumbers (s : State) : State :=
  { s with group := { s.group with nextSeq := [], flying := [], queued := [], acted := [], reorder := [] } }

/-! ### Ring delay measurement (R74, R75) -/

/-- Put a number in ascending order. -/
def insertInt (x : Int) : List Int → List Int
  | [] => [x]
  | y :: ys => if x ≤ y then x :: y :: ys else y :: insertInt x ys

/-- The 512th of the results in ascending order (R75). -/
def median512 (l : List Int) : Int := (l.foldl (fun a x => insertInt x a) []).getD 511 0

/-- Timebase cycles in ps, and ps in cycles, rounded down (R2, R74; log entry 70). -/
def State.psOf (s : State) (cycles : Int) : Int := cycles * 10000 / s.fuse.clockBin
def State.cyclesOf (s : State) (ps : Int) : Int := ps * s.fuse.clockBin / 10000

/-- Delay and offset in ps of the hop on ring-out, from the times of the exchanges: each median with the asymmetry correction
of the hop (R75). -/
def State.hopOf (s : State) (times : List (Nat × Nat × Nat × Nat)) : Int × Int :=
  let delay (t : Nat × Nat × Nat × Nat) : Int := (((t.2.2.2 : Int) - t.1) - ((t.2.2.1 : Int) - t.2.1)) / 2
  let offset (t : Nat × Nat × Nat × Nat) : Int := ((t.2.1 : Int) - t.1) - delay t
  let fix := clampTo (-2000, 2000) (s.calUser 0x0860)
  (s.psOf (median512 (times.map delay)) + fix, s.psOf (median512 (times.map offset)) + fix)

/-- The hop that leaves a rank. -/
def State.hopAt (s : State) (r : Nat) : Int × Int := lookupD (s.group.hops) (s.atRank r) (0, 0)

/-- Delay and offset from the manager along the shorter arc, the one that leaves its ring-out where both are as long (R75). -/
def State.arcTo (s : State) (d : Nat) : Int × Int :=
  let n := s.ids.length
  let m := s.rankOf s.group.manager
  let i := (s.rankOf d + n - m) % max 1 n
  let sum (l : List Nat) : Int × Int := l.foldl (fun a r => (a.1 + (s.hopAt r).1, a.2 + (s.hopAt r).2)) (0, 0)
  if 2 * i ≤ n then sum ((List.range i).map (fun j => m + j))
  else
    let back := sum ((List.range (n - i)).map (fun j => m + i + j))
    (back.1, -back.2)

/-- Every hop of the ring is known. -/
def State.hopsKnown (s : State) : Bool :=
  decide (s.ids.length ≤ 1) || s.ids.all (fun d => (lookup? s.group.hops d).isSome)

/-- Align the timebase to the manager's (R74). -/
def State.align (s : State) : State :=
  let x := s.arcTo s.group.set.deviceId
  let t := ((s.gauge.timebase : Int) - s.cyclesOf x.2) % (2 ^ 64)
  { s with gauge := { s.gauge with delayPs := x.1.toNat, offsetPs := x.2, timebase := t.toNat, slew := 0 } }

/-! ### Formation (R497) -/

/-- Change the formation in progress. -/
def State.withForming (s : State) (f : Formation → Formation) : State :=
  { s with group := { s.group with forming := s.group.forming.map f } }

/-- Formation is at a step, and no attempt has failed. -/
def State.formingAt (s : State) (x : FormStep) : Bool := s.group.forming.any (fun f => decide (f.step = x) && decide (f.failed = 0))

/-- The first failure of an attempt: GROUP_FORM_FAILED, and the waiting GROUP_FORM ends with the status (R497). -/
def State.failForming (s : State) (st : Status) (result : Nat) : State := match s.group.forming with
  | none => s
  | some f =>
    let s := (s.withForming (fun f => { f with failed := st.value, waiter := none })).raise .groupFormFailed st.value (natLe 2 result)
    match f.waiter with
    | some r => s.answer r 0x0441 st result
    | none => s

/-- The membership record that formation builds from the HELLOs: every expected device (R499). -/
def State.formRecord (s : State) : Bytes :=
  let all := s.ids.map (fun d => (d, MemberStatus.active))
  ({ s with group := { s.group with members := all, peers := if s.group.set.twin then all else [] } }).membership

/-- The formation ends (R497 step 8): this device's part, on every member. -/
def State.formedHere (s : State) : State := match s.group.forming with
  | none => s
  | some f =>
    let all := s.ids.map (fun d => (d, MemberStatus.active))
    let others := s.ids.filter (fun d => decide (d ≠ s.group.set.deviceId))
    let s := { s with group := { s.group with members := all, peers := if s.group.set.twin then all else [], forming := none, managerLost := false
                                              heard := others.map (fun d => (d, s.now)), heartbeatAt := some s.now, keepaliveAt := some s.now } }
    let s := (s.resetNumbers).recordNow
    match f.waiter with
    | some r => s.answer r 0x0441 .ok
    | none => s

/-- Step 8 on the manager: every member becomes ACTIVE, GROUP_FORMED. -/
def State.announceFormed (s : State) : State :=
  let s := if s.ids.length ≤ 1 then s else s.ids.foldl (fun s d => s.sendPiece 5 (.state d .active)) s
  (s.formedHere).raise .groupFormed s.ids.length

/-- The HELLO of the other side's manager. -/
def State.otherManager (s : State) : Option Hello :=
  s.group.hellos.find? (fun h => decide (h.side ≠ s.group.set.side) && h.isManager)

/-- Step 7 on the manager (R493, R497): the two managers' EXPECTED, MANAGER_ID, clock bin and datapath revision are equal. -/
def State.formTwin (s : State) : State :=
  if !s.formingAt .twin then s
  else if !s.group.set.twin then s.announceFormed
  else match s.otherManager with
    | none => s
    | some h =>
      if h.expected = s.group.set.expected ∧ h.sender = s.group.set.managerId ∧ h.clockBin = s.fuse.clockBin
          ∧ h.datapathRev = s.nor.fw.datapathRev then (s.withForming (fun f => { f with twinOk := true })).announceFormed
      else s.failForming .twinMismatch h.sender

/-- Step 6: connect the firmware pairs of every link that is up (R498). -/
def State.connectAll (s : State) : State :=
  (s.switch.ports.filter (fun p => decide (p.kind = .mesh) || decide (p.kind = .twin))).foldl (fun s p => s.connectLink p) s

/-- Step 6 on the manager, once every member has acknowledged the membership record, and what it exchanges with the other
side's manager (R497 step 7). -/
def State.afterRecord (s : State) : State :=
  let s := (s.connectAll).withForming (fun f => { f with step := .twin })
  let s := if s.group.set.twin then { s with sent := s.sent ++ [.twin (.hello s.ownHello), .twin (.item (.membership s.formRecord))] } else s
  s.formTwin

/-- Step 5: the manager circulates the membership record. -/
def State.circulateRecord (s : State) : State :=
  let i : Item := .membership s.formRecord
  let others := s.ids.filter (fun d => decide (d ≠ s.group.set.deviceId))
  if s.group.manager ≠ s.group.set.deviceId then s
  else if others.isEmpty then s.afterRecord
  else
    let s := s.sendPiece 5 (.item i)
    { s with group := { s.group with quorums := s.group.quorums ++ [⟨itemDigest i, 0x0441, others, .membership, false⟩] } }

/-- Step 4: with every hop measured the timebase is aligned. -/
def State.formDelays (s : State) : State :=
  if s.formingAt .delays && s.hopsKnown then ((s.align).withForming (fun f => { f with step := .record })).circulateRecord else s

/-- Step 3: every expected device's HELLO is here; the manager checks each. -/
def State.formHellos (s : State) : State :=
  if !s.formingAt .hellos then s
  else
    let others := s.ids.filter (fun d => decide (d ≠ s.group.set.deviceId))
    let found := others.map (fun d => s.hello? s.group.set.side d)
    if found.any (fun h => h.isNone) then s
    else
      let bad := (found.filterMap (fun h => h)).find? (fun h => !s.matches h)
      match (if s.group.manager = s.group.set.deviceId then bad else none) with
      | some h => s.failForming .groupMismatch h.sender
      | none => s.withForming (fun f => { f with step := .delays })

/-- Step 1: both ring neighbours are in order. -/
def State.formNeighbours (s : State) : State :=
  if s.formingAt .neighbours && (decide (s.ids.length ≤ 1) || s.group.forming.any (fun f => f.inOk && f.outOk)) then
    s.withForming (fun f => { f with step := .hellos })
  else s

/-- Formation goes as far as what has arrived lets it. -/
def State.advanceForming (s : State) : State := (((s.formNeighbours).formHellos).formDelays).formTwin

/-- A device holding group settings enters FORMING (R492, R497): waiting settings take effect. -/
def State.startForming (s : State) (waiter : Option Req) : State :=
  let set := s.group.next.getD s.group.set
  if set.groupId = 0 then s
  else
    let all := (idsOf set.expected).map (fun d => (d, MemberStatus.forming))
    let g : GroupState := { s.group with
      set := set, next := none, members := all, peers := if set.twin then all else [], manager := set.managerId, acting := false, actedFor := false
      relay := none, managerLost := false, forming := some { start := s.now, waiter := waiter }, hellos := [], hops := [], joins := [] }
    let s := (({ s with group := g }).resetNumbers).followRing
    let s := if s.ids.length ≤ 1 then s else { s with sent := s.sent ++ [.neighbour s.ownHello] }
    s.advanceForming

/-- A HELLO of a ring neighbour over the link itself (R497 step 1). -/
def State.takeNeighbour (s : State) (h : Hello) : State :=
  if !s.formingAt .neighbours then s
  else
    let isNext := decide (h.sender = s.nextRank)
    let isPrev := decide (h.sender = s.prevRank)
    if !isNext && !isPrev then s.failForming .ringOrder h.sender
    else (s.withForming (fun f => { f with inOk := f.inOk || isPrev, outOk := f.outOk || isNext })).advanceForming

/-- A circulated HELLO (R497 steps 2 and 3, R502, R510). -/
def State.takeHello (s : State) (h : Hello) : State :=
  let s := s.keepHello h
  let s := if h.side ≠ s.group.set.side ∧ h.isManager then { s with group := { s.group with keepaliveAt := some s.now } } else s
  s.advanceForming

/-- A measured hop (R75): of this device, or circulated by another. A device that is forming or joining aligns its timebase. -/
def State.takeHop (s : State) (d : Nat) (x : Int × Int) : State :=
  let s := { s with group := { s.group with hops := assign s.group.hops d x } }
  if s.group.forming.isSome then s.advanceForming
  else if s.memberState s.group.set.side s.group.set.deviceId = .joining ∧ s.hopsKnown then s.align else s

/-- HELLO_SEND (R497): over the links themselves until step 1 has passed, then round the ring. -/
def execHelloSend (s : State) : Out := match s.group.forming with
  | none => .next s
  | some f =>
    .next (if f.step = .neighbours then { s with sent := s.sent ++ [.neighbour s.ownHello] } else s.sendPiece 5 (.hello s.ownHello))

/-- HEARTBEAT_SEND (R504, R506): the manager; an acting manager's reaches the other side as well. -/
def execHeartbeatSend (s : State) : Out :=
  if !s.isManager ∨ s.group.forming.isSome then .next s
  else
    let s := if s.ids.length ≤ 1 then s else s.sendPiece 5 (.heartbeat s.ownHello)
    .next (if s.group.acting then { s with sent := s.sent ++ [.twin (.heartbeat s.ownHello)] } else s)

/-- TWIN_KEEPALIVE_SEND (R502): the keep-alive, and with it this side's mode (R420; log entry 74). -/
def execTwinKeepaliveSend (s : State) : Out :=
  .next (if s.isManager ∧ s.group.set.twin ∧ !s.group.split then
      { s with sent := s.sent ++ [.twin (.heartbeat s.ownHello), .twin (.mode s.det.exact)] } else s)

/-- FORMATION_RETRY (R497): a failed formation begins again while FORM_TIMEOUT has not run out. -/
def execFormationRetry (s : State) : Out := match s.group.forming with
  | none => .next s
  | some f =>
    if f.failed = 0 ∨ f.timedOut then .next s
    else
      let qs := s.group.quorums.filter (fun (q : Quorum) => decide (q.goal ≠ QuorumGoal.membership))
      let s := { s with group := { s.group with hellos := [], hops := [], forming := some { start := f.start }, quorums := qs } }
      let s := { s with sent := s.sent ++ [Sent.neighbour s.ownHello] }
      .next s.advanceForming

/-- FORM_TIMEOUT_EXPIRY (R497): no retry follows; before every HELLO is here it is the failure FORM_TIMEOUT, RESULT the lowest
missing ID. -/
def execFormTimeoutExpiry (s : State) : Out := match s.group.forming with
  | none => .next s
  | some f =>
    let s := s.withForming (fun f => { f with timedOut := true })
    let missing := s.ids.filter (fun d => decide (d ≠ s.group.set.deviceId) && (s.hello? s.group.set.side d).isNone)
    .next (if f.step = .neighbours ∨ f.step = .hellos then s.failForming .formTimeout (missing.headD 0) else s)

/-! ### GROUP_CONFIG and GROUP_FORM (R492, R513) -/

/-- The parameters of GROUP_CONFIG as R522 lays them out: 42 bytes. -/
def groupBytes (g : GroupSettings) : Bytes :=
  natLe 8 g.groupId ++ natLe 1 g.side ++ [0] ++ natLe 1 g.deviceId ++ [0] ++ natLe 1 g.managerId ++ [0] ++ natLe 1 g.twin.toNat ++ [0]
    ++ natLe 16 g.expected.toNat ++ natLe 4 g.formTimeout ++ natLe 4 g.mgrTimeout ++ natLe 2 g.twinLag

/-- The checks of GROUP_CONFIG (R492; parameters at 0, 8, 10, 12, 14, 16, 32, 36, 40). -/
def groupConfigCheck (groupId side deviceId managerId twin expected formTimeout mgrTimeout twinLag : Nat) (s : State) : Option Reject :=
  let own := s.memberState s.group.set.side s.group.set.deviceId
  firstReject [(outside groupId 1 (2 ^ 64 - 1), badParam 0), (decide (1 < side), badParam 8), (decide (127 < deviceId), badParam 10),
    (decide (127 < managerId), badParam 12), (decide (1 < twin), badParam 14),
    (!(expected.testBit deviceId && expected.testBit managerId), badParam 16), (outside formTimeout 1 600, badParam 32),
    (outside mgrTimeout 10 10000, badParam 36), (outside twinLag 1 1024, badParam 40),
    (decide (own ≠ .absent) && decide (own ≠ .forming), ⟨.memberState, 0⟩)]

/-- GROUP_CONFIG (R492, R536, R544): the settings wait for the next formation, and a device-made copy is written; as a
configuration entry it writes nothing. -/
def execGroupConfig (r : Req) (groupId side deviceId managerId twin expected formTimeout mgrTimeout twinLag : Nat) (s : State) : Out :=
  let g : GroupSettings := { groupId := groupId, side := side, deviceId := deviceId, managerId := managerId, twin := decide (twin = 1)
                             expected := BitVec.ofNat 128 expected, formTimeout := formTimeout, mgrTimeout := mgrTimeout, twinLag := twinLag }
  let s' := { s with group := { s.group with next := some g } }
  .next (s.finish r 0x0440 (groupConfigCheck groupId side deviceId managerId twin expected formTimeout mgrTimeout twinLag s)
    (if r.mb = 7 then s'.answer r 0x0440 .ok
     else (s'.answerInProgress r 0x0440 [.nor]).writeNorRecord .config (s.deviceCopy (groupBytes g)) (some (r, 0x0440))))

/-- GROUP_FORM (R497, R513): IN_PROGRESS until the group has formed or an attempt has failed. A device that holds no group
settings has nothing to form with: MEMBER_STATE (log entry 71). -/
def execGroupForm (r : Req) (s : State) : Out :=
  let set := s.group.next.getD s.group.set
  .next (s.finish r 0x0441 (firstReject [(decide (set.groupId = 0), ⟨.memberState, 0⟩)])
    ((s.answerInProgress r 0x0441 []).startForming (some r)))

/-- GROUP_STATUS (R513): the payload is the membership record and its digest; then manager, acting manager, folds, relay, both
sides' committed and leading Gauge, and each member's state. -/
def execGroupStatus (r : Req) (s : State) : Out :=
  let g := s.group
  let both (side : Nat) : List Nat := (if side = g.set.side then g.members else g.peers).flatMap (fun m => [side * 128 + m.1, m.2.value])
  let here := [s.gauge.committed.step, s.gauge.committed.mark, s.gauge.leading.step, s.gauge.leading.mark]
  let there := match s.gauge.peerSide with
    | some (c, l) => [c.step, c.mark, l.step, l.mark]
    | none => [0, 0, 0, 0]
  .next (s.finish r 0x0442 none (s.answer r 0x0442 .ok 0 (s.membership ++ sha256 s.membership)
    ([g.manager, g.acting.toNat + 2 * g.actedFor.toNat, g.folded.toNat, g.relay.getD 0xFFFF]
      ++ (if g.set.side = 0 then here ++ there else there ++ here) ++ both 0 ++ both 1)))

end Sys2Proof.Machine
end

