-- ==== Sys2Proof/Machine/RdmaCommands.lean ====
section
/-! DEFINITION. The commands of the remote memory engine (R470, R474, R475, R482, R485, R486, R488, R489, R491). -/

namespace Sys2Proof.Machine

/-! ### Addresses and the store (R475, R482) -/

/-- RDMA_ADDR_SET (R475, R491). -/
def execRdmaAddrSet (r : Req) (mac : Nat) (gids : List Nat) (s : State) : Out :=
  let s' := { s with rdma := { s.rdma with mac := mac % 2 ^ 48, gids := (List.range 4).map (fun i => gids.getD i 0) } }
  .next (s.finish r 0x0701
    (firstReject [(s.rdma.qps.any (fun q => decide (q.state = .rtr) || decide (q.state = .rts)), ⟨.inUse, 0⟩)])
    (s'.answer r 0x0701 .ok))

/-- RDMA_STORE_SET (R482, R491): 32 MiB, 4 KiB-aligned, in the host window. -/
def execRdmaStoreSet (r : Req) (store address : Nat) (s : State) : Out :=
  let s' := { s with rdma := { s.rdma with storeSel := store, storeAddr := address } }
  .next (s.finish r 0x0702
    (firstReject [(decide (1 < store), badParam 0),
      (decide (store = 1) && (!inWindow address 33554432 || decide (address % 4096 ≠ 0)), badParam 8),
      (s.rdma.qps.any (fun q => decide (512 ≤ q.index)), ⟨.inUse, 0⟩)])
    (s'.answer r 0x0702 .ok))

/-! ### Queue pairs (R470, R474, R488, R489) -/

/-- Pairs that pin their context, firmware's own among them (R482). -/
def State.pinnedCount (s : State) : Nat := (s.rdma.qps.filter (fun q => q.pinned || decide (q.index < 512))).length

/-- QP_CREATE (R470, R471, R482, R489, R491): a pinned context enters the cache at once. -/
def execQpCreate (r : Req) (index service pool domain pin : Nat) (s : State) : Out :=
  let q : Qp := { index := index, service := service, pool := pool, domain := domain, pinned := decide (pin = 1) }
  let s1 := { s with rdma := { s.rdma with qps := s.rdma.qps ++ [q] } }
  let s2 := if pin = 1 then (s1.placeContext { qp := index }).getD s1 else s1
  .next (s.finish r 0x0710
    (firstReject [s.heldBusy (.qp index), (outside index 512 65535, badParam 0), (decide (2 < service), badParam 2),
      ((decide (service = 1) || decide (service = 2)) && decide (63 < pool), badParam 4), (decide (0xFFFE < domain), badParam 6),
      (decide (1 < pin), badParam 8), ((s.rqp? index).isSome, ⟨.inUse, 0⟩),
      (decide (pin = 1) && decide (2048 ≤ s.pinnedCount), ⟨.tableFull, 0⟩)])
    (s2.answer r 0x0710 .ok (0x10000 + index)))

/-- A field of an attribute block (R474). -/
def attrOf (b : Bytes) : QpAttr :=
  { pmtu := fieldAt b 1 1, timeout := fieldAt b 2 1, retry := fieldAt b 3 1, rnrTimer := fieldAt b 4 1, respDepth := fieldAt b 5 1
    initDepth := fieldAt b 6 1, ccProfile := fieldAt b 7 1, destQpn := fieldAt b 8 4, sqPsn := fieldAt b 12 4, rqPsn := fieldAt b 16 4
    vlan := fieldAt b 20 2, destMac := beNat (sliceAt b 22 6), destGid := beNat (sliceAt b 28 16), sgid := fieldAt b 44 1
    hopLimit := fieldAt b 45 1, pkey := fieldAt b 46 2 }

/-- The attribute block of a pair (R474). -/
def Qp.block (q : Qp) : Bytes :=
  let a := q.attr
  natLe 1 q.state.value ++ natLe 1 a.pmtu ++ natLe 1 a.timeout ++ natLe 1 a.retry ++ natLe 1 a.rnrTimer ++ natLe 1 a.respDepth
    ++ natLe 1 a.initDepth ++ natLe 1 a.ccProfile ++ natLe 4 a.destQpn ++ natLe 4 a.sqPsn ++ natLe 4 a.rqPsn ++ natLe 2 a.vlan
    ++ natBe 6 a.destMac ++ natBe 16 a.destGid ++ natLe 1 a.sgid ++ natLe 1 a.hopLimit ++ natLe 2 a.pkey ++ natLe 16 0

/-- The transitions of R474. -/
inductive Move where
  | toInit | toRtr | toRts | tune | toError | toReset | unlisted
  deriving DecidableEq, Repr

/-- The transition that a target state asks of a pair (R474). -/
def moveOf (st : QpState) (target : Nat) : Move :=
  match st, target with
  | _, 0 => .toReset
  | _, 4 => .toError
  | .reset, 1 => .toInit
  | .init, 2 => .toRtr
  | .rtr, 3 => .toRts
  | .rts, 3 => .tune
  | _, _ => .unlisted

/-- Range faults of TIMEOUT, RETRY and CC_PROFILE. -/
def tuneFaults (a : QpAttr) : List (Bool × Nat) := [(outside a.timeout 1 20, 2), (decide (63 < a.retry), 3), (decide (7 < a.ccProfile), 7)]

/-- Range faults of the fields a transition reads, with their offsets (R474). -/
def moveFaults (m : Move) (a : QpAttr) : List (Bool × Nat) := match m with
  | .toInit => [(decide (3 < a.sgid), 44)]
  | .toRtr => [(outside a.pmtu 3 5, 1), (decide (31 < a.rnrTimer), 4), (outside a.respDepth 1 64, 5), (decide (2 ^ 24 ≤ a.destQpn), 8),
      (decide (2 ^ 24 ≤ a.rqPsn), 16), (decide (4095 < a.vlan), 20), (outside a.hopLimit 1 255, 45)]
  | .toRts => tuneFaults a ++ [(outside a.initDepth 1 64, 6), (decide (2 ^ 24 ≤ a.sqPsn), 12)]
  | .tune => tuneFaults a
  | _ => []

/-- The port that the endpoint table gives for a destination (R449, R474). -/
def State.routeOf (s : State) (index vlan mac : Nat) : Option Port :=
  s.egressOf { index := index, service := 0, attr := { vlan := vlan, destMac := mac } }

/-- INIT to RTR: PMTU plus 128 bytes within the MTU of the port that the table gives, and a key that is not empty (R474). -/
def State.routeFaults (s : State) (m : Move) (q : Qp) (a : QpAttr) : List (Bool × Nat) :=
  let f : Frame := { length := 0, dst := a.destMac, tag := if a.vlan = 0 then none else some (a.vlan, 0, false) }
  match m with
  | .toRtr => [((s.endpoint? f).isNone, 22),
      (match s.routeOf q.index a.vlan a.destMac with
       | some p => decide (p.mtu < 2 ^ (a.pmtu + 7) + 128)
       | none => false, 1)]
  | _ => []

/-- A pair after a transition (R474, R486). -/
def State.moved (s : State) (m : Move) (q : Qp) (a : QpAttr) : State :=
  let o := q.attr
  let c := (s.rdma.profiles[a.ccProfile]?).getD {}
  match m with
  | .toInit => s.setRqp { q with state := .init, attr := { o with pkey := a.pkey, sgid := a.sgid } }
  | .toRtr => s.setRqp { q with state := .rtr, expected := a.rqPsn
                                attr := { o with pmtu := a.pmtu, destQpn := a.destQpn, rqPsn := a.rqPsn, vlan := a.vlan, destMac := a.destMac
                                                 destGid := a.destGid, hopLimit := a.hopLimit, respDepth := a.respDepth, rnrTimer := a.rnrTimer } }
  | .toRts => s.setRqp { q with state := .rts, nextPsn := a.sqPsn, retriesLeft := a.retry % 8, rnrLeft := a.retry / 8 % 8
                                cwnd := c.cwndInit, prev := c.target, grad := 0, last := 0
                                attr := { o with sqPsn := a.sqPsn, timeout := a.timeout, retry := a.retry, initDepth := a.initDepth
                                                 ccProfile := a.ccProfile } }
  | .tune => s.setRqp { q with attr := { o with timeout := a.timeout, retry := a.retry, ccProfile := a.ccProfile } }
  | .toError => s.failQp q.index 7
  | .toReset =>
    let s := s.quiet q .reset 0
    let s := match s.rqp? q.index with
      | some q => s.setRqp { q with attr := {}, atomics := [], expected := 0, nextPsn := 0, cnpAt := none }
      | none => s
    match q.service, s.collPortOf q.index with
    | 1, some p => if q.state = .error then s else s.collPortFailed p
    | _, _ => s
  | .unlisted => s

/-- QP_MODIFY (R474, R488, R489): the attribute block lies at offset 8 of the payload (log entry 8). -/
def execQpModify (r : Req) (index : Nat) (attributes : Bytes) (s : State) : Out :=
  let b := attributes
  let a := attrOf b
  match s.rqp? index with
  | none => .next (s.finish r 0x0711
      (firstReject [(outside index 512 65535, badParam 0), (decide (4 < fieldAt b 0 1), badParam 8), (true, ⟨.notFound, 0⟩)]) s)
  | some q =>
    let m := moveOf q.state (fieldAt b 0 1)
    let at_ (x : Bool × Nat) : Bool × Reject := (x.1, badParam (8 + x.2))
    .next (s.finish r 0x0711
      (firstReject ([s.heldBusy (.qp index), (outside index 512 65535, badParam 0), (decide (4 < fieldAt b 0 1), badParam 8), (!zeroAt b 48 16, badParam 56),
        (decide (m = .unlisted), ⟨.qpState, 0⟩)] ++ (moveFaults m a ++ s.routeFaults m q a).map at_))
      ((s.moved m q a).answer r 0x0711 .ok))

/-- QP_QUERY (R491). -/
def execQpQuery (r : Req) (index : Nat) (s : State) : Out :=
  match s.rqp? index with
  | none => .next (s.finish r 0x0712 (firstReject [(decide (65535 < index), badParam 0), (true, ⟨.notFound, 0⟩)]) s)
  | some q => .next (s.finish r 0x0712 none (s.answer r 0x0712 .ok 0 q.block
      [q.state.value, q.cause, q.cwnd, q.nextPsn, q.expected, q.retries, q.rnrNaks, q.duplicates]))

/-- A pair is bound by FEED_RING_SET, COLL_PORT_SET or SYNTH_CONFIG, whose pool its messages come in on (R489). -/
def State.qpBound (s : State) (q : Qp) : Bool :=
  s.pipe.rings.any (fun g => decide (g.qp = q.index)) || (s.collPortOf q.index).isSome
    || (decide (q.service = 2) && s.pipe.synth.config.any (fun c => decide (c.1 = q.pool)))

/-- QP_DESTROY (R489): the pair must be in RESET and bound by nothing. -/
def execQpDestroy (r : Req) (index : Nat) (s : State) : Out :=
  let s' := ({ s with rdma := { s.rdma with qps := s.rdma.qps.filter (fun q => decide (q.index ≠ index)) } }).dropContext index
  .next (s.finish r 0x0713
    (firstReject [s.heldBusy (.qp index), (outside index 512 65535, badParam 0), ((s.rqp? index).isNone, ⟨.notFound, 0⟩),
      ((s.rqp? index).any (fun q => decide (q.state ≠ .reset) || s.qpBound q), ⟨.inUse, 0⟩)])
    (s'.answer r 0x0713 .ok))

/-! ### Regions (R485, R489) -/

/-- A range lies in the feed region, in the buffers of one pool, or in the host window (R485). -/
def State.registrable (s : State) (a n : Nat) : Bool :=
  (decide (feedRegion ≤ a) && decide (a + n ≤ feedRegion + 0x40000000)) || inWindow a n
    || s.pools.pools.any (fun p => decide (p.space = 0) && decide (p.base ≤ a) && decide (a + n ≤ p.base + p.count * p.bufSize))

/-- MR_REGISTER (R485, R491). Parameters: INDEX 0, ADDRESS 8, LENGTH 16, VA_BASE 24, domain 32, access 34 with [0] WRITE, [1] READ,
[2] ATOMIC (log entry 8). -/
def execMrRegister (r : Req) (index address length vaBase domain access : Nat) (s : State) : Out :=
  let g : Region := { index := index, address := address, length := length, vaBase := vaBase, domain := domain
                      write := bitOf access 0, read := bitOf access 1, atomic := bitOf access 2 }
  let s' := s.register g
  .next (s.finish r 0x0720
    (firstReject [s.heldBusy (.region index), (decide (16383 < index), badParam 0), (!s.registrable address length, badParam 8), (outside length 1 (2 ^ 40), badParam 16),
      (decide (0xFFFE < domain), badParam 32), (decide (7 < access), badParam 34), (!s.regionFree index, ⟨.inUse, 0⟩)])
    (s'.answer r 0x0720 .ok (s'.rkeyOf index)))

/-- MR_DEREGISTER (R489): no access is part way through here, so the command completes at once. -/
def execMrDeregister (r : Req) (index : Nat) (s : State) : Out :=
  .next (s.finish r 0x0721
    (firstReject [s.heldBusy (.region index), (decide (16383 < index), badParam 0), (s.regionFree index, ⟨.notFound, 0⟩),
      (s.rdma.regions.any (fun g => decide (g.index = index) && g.firmware), ⟨.inUse, 0⟩)])
    ((s.deregister index).answer r 0x0721 .ok))

/-! ### Congestion profiles and status (R486, R487, R490, R491) -/

/-- CC_PROFILE_SET (R486). Parameters: PROFILE 0, TARGET 4, AI 8, BETA 12, CWND_MIN 16, CWND_MAX 20, CWND_INIT 24, CNP_ENABLE 28
(log entry 8). -/
def execCcProfileSet (r : Req) (profile target ai beta cwndMin cwndMax cwndInit cnpEnable : Nat) (s : State) : Out :=
  let c : CcProfile := { target := target, ai := ai, beta := beta, cwndMin := cwndMin, cwndMax := cwndMax, cwndInit := cwndInit, cnpEnable := cnpEnable }
  .next (s.finish r 0x0730
    (firstReject [(decide (7 < profile), badParam 0), (outside target 1000 100000, badParam 4),
      (outside ai 256 65536, badParam 8), (outside beta 1 255, badParam 12), (outside cwndMin 1024 1048576, badParam 16),
      (outside cwndMax cwndMin 67108864, badParam 20), (outside cwndInit cwndMin cwndMax, badParam 24),
      (decide (1 < cnpEnable), badParam 28)])
    (({ s with rdma := { s.rdma with profiles := s.rdma.profiles.set profile c } }).answer r 0x0730 .ok))

/-- What RDMA_STATUS reports of a port block: drops by reason, and the miss buffer's peak. -/
def State.blockReport (s : State) (b : Nat) : List Nat :=
  (List.range 7).map (fun i => s.counter (.rdma b (i + 1))) ++ [lookupD s.rdma.peaks b 0]

/-- RDMA_STATUS (R490, R491). -/
def execRdmaStatus (r : Req) (block : Nat) (s : State) : Out :=
  let blocks := if block = 0xFF then List.range 64 else [block]
  let x := s.rdma
  .next (s.finish r 0x0740 (firstReject [(decide (63 < block) && decide (block ≠ 0xFF), badParam 0)])
    (s.answer r 0x0740 .ok 0 []
      (blocks.flatMap s.blockReport ++ [x.hits, x.misses, x.writeBacks, s.pinnedCount, x.cnpsSent, x.cnpsReceived]
        ++ (List.range 9).map (fun i => lookupD x.errors (i + 1) 0))))

end Sys2Proof.Machine
end

