-- ==== Sys2Proof/Machine/Settings.lean ====
section
/-! DEFINITION. Configuration entries and their application at boot, CONFIG_WRITE, the end of NOR writes, and ATTEST (R536, R539 to
R543, R547, R551, R553, R557, R562, R586, R589, R595 step 10). -/

namespace Sys2Proof.Machine

/-! ### Configuration entries (R539, R540, R542; parameter places: log entry 8) -/

/-- The pseudo-request of a configuration entry (log entry 61). -/
def entryReq : Req := ⟨7, 0, 0⟩

/-- The state a command's outcome leaves. -/
def settled (s : State) (o : Out) : State := match o with
  | .next t => t
  | .fault _ | .refused _ => s

/-- A PORT_CONFIG entry in a payload (R446). -/
def portEntryAt (bs : Bytes) (o : Nat) : PortEntry :=
  { logical := fieldAt bs o 1, kind := fieldAt bs (o + 1) 1, lanes := fieldAt bs (o + 2) 1, index := fieldAt bs (o + 3) 1
    mtu := fieldAt bs (o + 4) 2, txInvert := fieldAt bs (o + 6) 1, rxInvert := fieldAt bs (o + 7) 1, laneOrder := fieldAt bs (o + 8) 4
    trust := fieldAt bs (o + 12) 1, defaultTc := fieldAt bs (o + 13) 1, reserved := fieldAt bs (o + 14) 2 }

/-- CLASS_MAP_SET's tables in a payload. -/
def classMapAt (bs : Bytes) : ClassMap :=
  let l (o n : Nat) : List Nat := (List.range n).map (fun i => fieldAt bs (o + i) 1)
  { pcp := l 8 8, dscp := l 16 64, queue := l 80 32, colour := l 112 16, feedTc := fieldAt bs 128 1, collTc := fieldAt bs 129 1
    ctrlTc := fieldAt bs 130 1 }

/-- POLICER_SET's parameters in a payload. -/
def policerAt (bs : Bytes) : PolicerParams :=
  { mode := fieldAt bs 2 1, aware := fieldAt bs 3 1, markDei := fieldAt bs 4 1, cir := fieldAt bs 8 4, pir := fieldAt bs 12 4
    cbs := fieldAt bs 16 4, ebs := fieldAt bs 20 4
    assign := (List.range ((bs.length - 24) / 4)).map (fun i => (fieldAt bs (24 + 4 * i) 2, fieldAt bs (26 + 4 * i) 2)) }

/-- MEDIA_POLICY_SET's parameters in a payload. -/
def policyAt (bs : Bytes) : PolicyParams :=
  { wlSpread := fieldAt bs 0 2, wlBw := fieldAt bs 2 1, rdBaseTlc := fieldAt bs 4 4, rdBaseQlc := fieldAt bs 8 4, rdFloor := fieldAt bs 12 2
    gcStart := fieldAt bs 14 1, gcStop := fieldAt bs 15 1, stageGiB := fieldAt bs 16 1 }

/-- QUEUE_CONFIG's parameters in a payload. -/
def queueAt (bs : Bytes) : QueueParams :=
  { prio := fieldAt bs 4 1, weight := fieldAt bs 5 1, minCells := fieldAt bs 6 2, maxCells := fieldAt bs 8 4, alpha := fieldAt bs 12 1
    yellowPct := fieldAt bs 13 1, markCells := fieldAt bs 16 4 }

/-- The command of a KIND 1 entry, executed with its payload (R540, R542). -/
def State.entryCommand (s : State) (code : Nat) (bs : Bytes) : Out :=
  let p (o n : Nat) : Nat := fieldAt bs o n
  let r := entryReq
  match code with
  | 0x0230 => execPoolCreate r (p 0 2) (p 2 1) (p 4 4) (p 8 4) (p 16 8) (p 24 8) (p 32 8) s
  | 0x0232 => execPoolQuotaSet r (p 0 2) (p 2 2) ((List.range (p 4 2)).map (fun i => p (8 + 4 * i) 4)) s
  | 0x0440 => execGroupConfig r (p 0 8) (p 8 1) (p 10 2) (p 12 2) (p 14 1) (p 16 16) (p 32 4) (p 36 4) (p 40 2) s
  | 0x0601 => execPortConfig r (p 0 2) ((List.range (p 2 2)).map (fun i => portEntryAt bs (8 + 16 * i))) s
  | 0x0611 => execMcastGroupSet r (p 0 2) (BitVec.ofNat 256 (p 8 32)) s
  | 0x0620 => execClassMapSet r (p 0 2) (classMapAt bs) s
  | 0x0621 => execQueueConfig r (p 0 2) (p 2 2) (queueAt bs) s
  | 0x0622 => execShaperSet r (p 0 2) (p 2 2) (p 4 4) (p 8 4) (p 12 1) s
  | 0x0623 => execPolicerSet r (p 0 2) (policerAt bs) s
  | 0x0701 => execRdmaAddrSet r (p 0 8) ((List.range 4).map (fun i => p (8 + 16 * i) 16)) s
  | 0x0702 => execRdmaStoreSet r (p 0 1) (p 8 8) s
  | 0x0730 => execCcProfileSet r (p 0 1) (p 4 4) (p 8 4) (p 12 1) (p 16 4) (p 20 4) (p 24 4) (p 28 1) s
  | 0x0801 => execMediaPolicySet r (policyAt bs) s
  | 0x0B04 => execThrottleSet r (p 0 4) s
  | 0x0C03 =>
    if p 8 1 = 0 then execTelemetrySet r (p 0 1) (p 4 4) (p 8 1) (p 16 8) (p 24 2) s
    else execTelemetrySet r (p 0 1) (p 4 4) (p 8 1) (p 12 4) (p 16 2) s
  | 0x0C04 => execEventMaskSet r bs s
  | _ => .next (s.noteEntry .badCommand 0)

/-- Execute a KIND 1 entry, and note how it ended. -/
def State.executeEntry (s : State) (code : Nat) (bs : Bytes) : State :=
  let ready : State := { s with lock := { s.lock with entry := none, entryPayload := some bs } }
  let t := settled ready (ready.entryCommand code bs)
  { t with lock := { t.lock with entryPayload := none } }

/-- A skipped entry is logged with its byte offset and status (R542). -/
def State.skipEntry (s : State) (e : CfgEntry) (st : Status) : State := s.configLog e.code e.kind [e.offset, st.value]

/-- Apply one entry (R539, R541, R542). MAINTENANCE entries act when MB4 takes its address. -/
def State.applyEntry (s : State) (e : CfgEntry) : State :=
  if e.kind = 1 then
    let t := s.executeEntry e.code e.payload
    match t.lock.entry with
    | some (.ok, _) | none => t
    | some (st, _) => t.skipEntry e st
  else if e.kind = 2 then
    let f := fieldAt e.payload 0 4
    let v := fieldAt e.payload 4 4
    if featureBad f v then s.skipEntry e .badParam else s.setFeature f v
  else if e.kind = 4 then s.setNor { s.nor with debugFull := decide (fieldAt e.payload 0 1 % 2 = 1) }
  else s

/-- Blocks of configured ports begin a block reset (R447, R597). -/
def State.resetPortBlocks (s : State) : State :=
  let blocks := (List.range 64).filter (fun b => !s.units.portBlockOff.getLsbD b && s.switch.ports.any (fun p => decide (p.block = b)))
  blocks.foldl (fun s b => s.blockReset b) s

/-- The copy in force with its digest and whether it counts as signed by the owner (R538, R541, R553). -/
def State.adoptCopy (s : State) : State := match s.selected .config with
  | some bs => s.setNor { s.nor with configDigest := sliceAt bs 32 32, debugFull := false
                                     debugSigned := configSigned bs && s.nor.ownerKey.isSome }
  | none => s.setNor { s.nor with configDigest := List.replicate 32 0, debugFull := false, debugSigned := false }

/-- The entries of the copy in force, or of the factory default, are applied in order over the default port layout (R541, R542). -/
def State.applyCopy (s : State) : State :=
  ((s.adoptCopy.bootEntries).foldl (fun s e => s.applyEntry e) s.adoptCopy.defaultPorts).resetPortBlocks

/-! ### CONFIG_APPLY (R535, R542, R586, R587, R589, R595 step 10) -/

/-- RESET_CAUSE goes to the head of MB7, before any message that the boot has queued (R589). -/
def State.queueCause (s : State) : State :=
  let c := s.power.cause
  let bs := s.causeBytes c.source.value c.scope.value c.original c.detail
  let q := s.lock.mb7
  if q.queue.isEmpty ∨ 256 ≤ q.queue.length ∨ q.mask.contains Event.resetCause.value then s.raise .resetCause 0 bs
  else
    let m : Message := s.signed { command := Event.resetCause.value, event := true, seq := q.seq, payload := bs }
    s.setMb7 { q with queue := m :: q.queue, seq := (q.seq + 1) % 2 ^ 16 }

/-- What is reported after a reset: critical-state errors and a thermal trip (R586). -/
def State.reportReset (s : State) : State :=
  let s1 := s.power.criticalDue.foldl (fun s src => s.raise .criticalState src) s
  let s2 := match s.power.tripDue with
    | some i => s1.raise .thermalTrip i
    | none => s1
  { s2 with power := { s2.power with criticalDue := [], tripDue := none } }

/-- Both halves of the configuration are valid and conflict (R535). -/
def State.configConflict (s : State) : Bool := (s.selectOf .config (s.paired .config)).2

/-- Every domain of step 9 has come to rest (R595). -/
def State.domainsRest (s : State) : Bool := (List.range 30).all (fun d => !s.lateDomain d || (s.domain d).status.stable)

/-- The device is ready (R542, R587, R595). -/
def State.ready (s : State) : State :=
  let warm := decide (s.power.cause.scope = .warm)
  let power := { s.power with boot := .running, warmEnd := if warm then some s.now else s.power.warmEnd }
  { s with power := power, link := { s.link with ready := true } }

/-- CONFIG_APPLY (R492, R535, R538 to R542, R586, R589, R595). A device that then holds group settings begins to form. -/
def execConfigApply (s : State) : Out :=
  let t := if s.configConflict then s.raise .configConflict else s
  .next (if s.power.boot ≠ .media ∨ !s.domainsRest then s
    else (((((t.applyCopy).takeAddress).ready).recordNow).queueCause).reportReset.startForming none)

/-! ### CONFIG_WRITE (R536, R543) -/

/-- A state in which only an entry's parameters can fail (R543: no state check is made at write time). -/
def State.neutral (s : State) (code : Nat) (bs : Bytes) : State :=
  let pool : Pool := { num := fieldAt bs 0 2, space := 0, bufSize := 256, count := 1, base := 0, ringBase := 0, heldBase := 0 }
  { fuse := s.fuse, pools := if code = 0x0232 then { pools := [pool] } else {} }

/-- Where an entry's payload fails the parameter checks of its command, as an offset in the copy. -/
def State.entryFault (s : State) (e : CfgEntry) : Option Nat :=
  if e.kind ≠ 1 then none
  else match ((s.neutral e.code e.payload).executeEntry e.code e.payload).lock.entry with
    | some (.badLength, _) => some (e.offset + 4)
    | some (.badParam, o) => some (e.offset + 8 + o)
    | _ => none

/-- The first entry at fault. -/
def State.entriesFault (s : State) (bs : Bytes) : Option Nat := match configEntries bs with
  | .ok es => es.findSome? (fun e => s.entryFault e)
  | .error _ => none

/-- The checks of CONFIG_WRITE in the order of R543. -/
def State.configFault (s : State) (bs : Bytes) : Option Nat :=
  match configFormFault bs s.fuse.uid with
  | some o => some o
  | none =>
    let late : Bool := match s.baseOf .config with
      | some b => decide (serialCmp (halfSeq bs) (halfSeq b) 32 ≠ .after)
      | none => false
    if configSigBad bs s.nor.ownerKey then some (fieldAt bs 12 4)
    else if late then some 8
    else s.entriesFault bs

/-- CONFIG_WRITE (R536, R543, R640). -/
def execConfigWrite (r : Req) (image : Bytes) (s : State) : Out :=
  let n := fieldAt image 12 4 + (if configSigned image then 64 else 0)
  let fault := s.configFault image
  .next (s.finish r 0x0202 (firstReject [(decide (image.length ≠ n), ⟨.badLength, n⟩), (fault.isSome, ⟨.configInvalid, fault.getD 0⟩)])
    ((s.answerInProgress r 0x0202 []).writeNorRecord .config image (some (r, 0x0202))))

/-! ### The end of a NOR write (R536, R546, R547, R551, R557, R562) -/

/-- What a written record changes at once: the owner key, and the calibration fields that act at once or at the next
measurement. -/
def State.recordWritten (s : State) (k : RecordKind) (bs : Bytes) : State := match k with
  | .owner => s.takeOwner bs
  | .ucal => s.applyCal (ucalEntries bs) calNow
  | .config | .retire => s

/-- The written image: under the main firmware a management restart is scheduled; the recovery image boots it (R557, R562). -/
def State.imageWritten (s : State) (bs : Bytes) : State :=
  let s := s.setNor { s.nor with image := bs }
  if s.nor.running = .recovery then
    let s := s.runImage bs
    s.setNor { s.nor with lastCheck := 1, retained := none, probation := some (s.now + s.seconds 60) }
  else s.setNor { s.nor with pendingVersion := some (fwInfoOf bs).version, restartScheduled := true }

/-- Answer whoever waits for a write. -/
def State.norAnswer (s : State) (w : NorWrite) (st : Status) : State :=
  let s1 := match w.waiter with
    | some (r, code) => s.answer r code st (if st = .ok then w.result else 0)
    | none => s
  match w.storage with
  | some (q, slot) => s1.endStorage q slot (s1.fetchedEntry q slot) st
  | none => s1

/-- NOR_WRITE_COMPLETE (R536, R557): the oldest write is read back and checked; a write-back has its own row. -/
def execNorWriteComplete (pass : Bool) (s : State) : Out := match s.nor.writes with
  | [] => .next s
  | w :: rest =>
    let t := s.setNor { s.nor with writes := rest }
    match w.job with
    | .writeBack _ => .next s
    | .record k h bs =>
      .next (if pass then ((t.setPaired k ((t.paired k).put h bs)).recordWritten k bs).norAnswer w .ok
        else (t.setPaired k ((t.paired k).put h [])).norAnswer w .configInvalid)
    | .image bs =>
      .next (if pass then (t.imageWritten bs).norAnswer w .ok
        else (t.setNor { t.nor with image := [] }).norAnswer w .fwImageInvalid)

/-! ### ATTEST (R553) -/

/-- Bytes 0 to 511 of the report. -/
def State.attestation (s : State) (nonce : Bytes) : Bytes :=
  let n := s.nor
  let flags := n.ownerKey.isSome.toNat + 2 * s.debugOpen.toNat + 4 * s.fuse.es.toNat + 8 * n.probation.isSome.toNat
  let ucal : Bytes := match s.selected .ucal with | some bs => sliceAt bs 32 32 | none => natLe 32 0
  let owner : Bytes := match n.ownerKey with | some k => sha256 k | none => natLe 32 0
  let record := (s.recordAt s.gauge.committed.step).getD s.currentRecord
  [0x41, 0x54, 0x53, 0x54] ++ natLe 2 1 ++ natLe 2 flags ++ natLe 8 s.fuse.uid ++ natLe 8 n.fw.version ++ natLe 4 n.fw.datapathRev
    ++ natLe 4 s.fuse.securityMin ++ nonce ++ (n.fw.measurement ++ natLe 32 0).take 32 ++ natLe 32 Config.romMeasurement ++ n.configDigest ++ ucal ++ owner
    ++ natLe 4 n.bootCount ++ natLe 4 n.restartCount ++ natLe 8 0 ++ record.bytes ++ natLe 16 0

/-- ATTEST (R553): the report signed by the identity key. -/
def execAttest (r : Req) (nonce : Bytes) (s : State) : Out :=
  let body := s.attestation nonce
  .next (s.finish r 0x0903 (firstReject [(decide (nonce.length ≠ 32), ⟨.badLength, 32⟩)])
    (s.used.answer r 0x0903 .ok 0 (body ++ s.identitySign body)))

end Sys2Proof.Machine
end

