-- ==== Sys2Proof/Machine/HostLink.lean ====
section
/-! DEFINITION. The host link: its modules, its registers in BAR0, the host window, and LPDDR6 errors and scrubbing (chapter 21). -/

namespace Sys2Proof.Machine

/-! ### The link (R566 to R568) -/

/-- HL_RESET_REQ_COLD (R567, R568, R586): the value 0xC01D. -/
def execHlResetReqCold (s : State) : Out := .next (s.resetEvent .hostLink .cold)

/-- HL_RESET_REQ_WARM (R567, R568, R586): the value 0x3A3A. -/
def execHlResetReqWarm (s : State) : Out := .next (s.resetEvent .hostLink .warm)

/-- UCIE_LINK_TRAINED (R566, R569, R591): the modules that are trained. The host die trains after it leaves reset (R567, R597). -/
def execUcieLinkTrained (modules : List Nat) (s : State) : Out :=
  let mask := modules.foldl (fun m k => if k < 4 then m ||| BitVec.twoPow 4 k else m) 0#4
  let t := s.lockPlls [10]
  .next (if s.power.ucieIdle then s else { t with link := { t.link with modules := mask } })

/-- UCIE_MODULE_LOST (R566, R570): the module is left out. -/
def execUcieModuleLost (module : Nat) (s : State) : Out := .next (if 4 ≤ module then s else s.loseModules (~~~(BitVec.twoPow 4 module)))

/-! ### ALLOC blocks (R85, R89, R571) -/

def State.allocBlock (s : State) (h : Nat) : AllocBlock := s.link.alloc.getD h {}

def State.setAllocBlock (s : State) (h : Nat) (b : AllocBlock) : State :=
  { s with link := { s.link with alloc := s.link.alloc.set h b } }

/-- A write to an ALLOC block is ignored and counted. -/
def State.ignoreAlloc (s : State) : State := { s with link := { s.link with allocIgnored := s.link.allocIgnored + 1 } }

/-- ALLOC_REQ (R14, R85, R571): DONE clears and one buffer is requested for requester 240 + h; POOL_ALLOCATE decides it. -/
def execAllocReq (block value : Nat) (s : State) : Out :=
  let b := s.allocBlock block
  .next (if 15 ≤ block then s.hlError 3
    else if !b.done then s.ignoreAlloc
    else if 63 < value then s.setAllocBlock block { b with status := Status.badParam.value, pointer := 0 }
    else s.setAllocBlock block { b with done := false, waitingPool := some value })

/-- RETURN (R89, R90, R571): the pointer is checked at once; a reserved bit of it is MALFORMED. -/
def execReturnReg (block value : Nat) (s : State) : Out :=
  let (t, reason) := s.returnBuffer (240 + block) value
  .next (if 15 ≤ block then s.hlError 3
    else if !(s.allocBlock block).returnDone then s.ignoreAlloc
    else t.setAllocBlock block { t.allocBlock block with returnStatus := reason, returnDone := true })

/-! ### Register writes (R21, R568 to R573) -/

/-- The bytes of a register value. -/
def regBytes (size value : Nat) : Bytes := natLe size value

/-- Put bytes into a window or a table. -/
def putBytes (l : List (Nat × Byte)) : Nat → Bytes → List (Nat × Byte)
  | _, [] => l
  | o, b :: bs => putBytes (assign l o b) (o + 1) bs

/-- A write to the MSI-X table: a vector whose mask bit it clears sends its pending message (R568; log entry 12). -/
def State.tableWrite (s : State) (o : Nat) (bs : Bytes) : State :=
  let v := o / 16
  let s := { s with link := { s.link with msixTable := putBytes s.link.msixTable o bs } }
  if s.link.pba.getLsbD v && !s.link.masked v then
    ({ s with link := { s.link with pba := s.link.pba &&& ~~~(BitVec.twoPow 32 v) } }).msix v
  else s

/-- What a write of a register of 4 bytes does, none where no such register stands at the offset (R568). -/
def State.write4 (s : State) (o value : Nat) : Option Out :=
  let box := (o - 0x1000) / 0x2000
  let place := (o - 0x1000) % 0x2000
  if o % 4 ≠ 0 then none
  else if o = 0 ∨ o = 4 ∨ o = 8 then some (.next s)
  else if o = 0xC then some (.next { s with link := { s.link with error := s.link.error &&& ~~~(BitVec.ofNat 32 value) } })
  else if o = 0x20 then
    some (if value = 0xC01D then execHlResetReqCold s
      else if value = 0x3A3A then execHlResetReqWarm s
      else .next { s with link := { s.link with resetIgnored := s.link.resetIgnored + 1 } })
  else if 0x300 ≤ o ∧ o < 0x340 then
    let n := (o - 0x300) / 16
    if o % 16 = 0 then some (execMbDoorbell n s)
    else if o % 16 = 4 then some (if value / 2 % 2 = 1 then execRespReady n s else .next s)
    else none
  else if o = 0x340 then some (execMb7Pop s)
  else if o = 0x344 then some (.next s)
  else if 0x400 ≤ o ∧ o < 0xC00 then
    some (if o % 8 = 0 then execSqTail ((o - 0x400) / 8) value s else execCqHead ((o - 0x400) / 8) value s)
  else if 0xC00 ≤ o ∧ o < 0xE00 then some (.next (s.tableWrite (o - 0xC00) (regBytes 4 value)))
  else if 0x1000 ≤ o ∧ o < 0x9000 then
    if place < 0x1000 then
      let b := s.box box
      some (.next (s.setBox box { b with window := putBytes b.window place (regBytes 4 value) }))
    else some (.next s)
  else if 0x9000 ≤ o ∧ o < 0xA000 then some (.next s)
  else none

/-- What a write of a register of 8 bytes does. -/
def State.write8 (s : State) (o value : Nat) : Option Out :=
  let h := (o - 0x100) / 32
  if o = 0x10 ∨ o = 0x18 ∨ o = 0xE00 then some (.next s)
  else if 0x100 ≤ o ∧ o < 0x2E0 then
    if o % 32 = 0 then some (execAllocReq h value s)
    else if o % 32 = 16 then some (execReturnReg h value s)
    else if o % 8 = 0 then some (.next s)
    else none
  else none

/-- REGISTER_WRITE (R21, R568): a write of a wrong size or to a reserved offset is ignored and sets REG_FAULT. -/
def execRegisterWrite (offset size value : Nat) (s : State) : Out :=
  let hit : Option Out := if size = 4 then s.write4 offset (value % 2 ^ 32)
    else if size = 8 then s.write8 offset (value % 2 ^ 64) else none
  match hit with
  | some o => o
  | none => .next (s.hlError 3)

/-! ### The host window (R575 to R577) -/

/-- HOST_MEM_ACCESS (R575, R576): a read, or a write of the bytes given. -/
def execHostMemAccess (address length : Nat) (data : Option Bytes) (s : State) : Out :=
  let n : Nat := match data with | some bs => bs.length | none => length
  let base := s.link.hdmBase
  let inside := decide (base ≤ address) && decide (address + n ≤ base + windowSize)
  let a := windowBase + (address - base)
  let read (s : State) (bs : Bytes) : State := { s with link := { s.link with hostRead := bs } }
  let beyond := { s with link := { s.link with windowFaults := s.link.windowFaults + 1 } }
  .next (match data with
    | none => if inside then read s (s.memRead a n) else read (beyond.hlError 2) (List.replicate n 0)
    | some bs => if inside then { s with mem := s.mem.writeBytes a bs } else beyond.hlError 2)

/-! ### LPDDR6 (R579 to R583, R609) -/

/-- The enabled channels, ascending. -/
def State.enabledChannels (s : State) : List Nat := (List.range 48).filter (fun c => !s.units.lpddr6Off.getLsbD c)

/-- The channel of an address (R579). -/
def State.memChannel (s : State) (a : Nat) : Nat :=
  let l := s.enabledChannels
  l.getD (a / 256 % l.length) 0

/-- The exclusive end of the installed memory: 16 GB for each enabled channel (R579, R583). -/
def State.installed (s : State) : Nat := 16000000000 * s.enabledChannels.length

/-- The reading unit as the MEMORY log writes it (R610; log entry 8). -/
def readerCode : MemReader → Nat
  | .riffle n => 0x100 + n | .drawplate n => 0x200 + n | .anvil => 0x300 | .crucible n => 0x400 + n
  | .context q => 0x10000 + q | .pointer p => 0x500 + p | .host _ => 0x600 | .other => 0x700

/-- What an uncorrectable error means for the unit that read the line (R581). A Crucible is named by the context of its run. -/
def State.ueFor (s : State) : MemReader → State
  | .riffle n => if 8 ≤ n then s else s.riffleFault n
  | .drawplate n => s.plateFault n
  | .anvil => s.anvilFault
  | .crucible ctx => settled s (execNodeRunEnd ctx .hwError s)
  | .context q => s.failQp q 8
  | .pointer pool => s.resetEvent .poolPointer .warm 0 pool
  | .host n => ({ s with link := { s.link with hostRead := List.replicate n 0xFF } }).hlError 4
  | .other => s

/-- LPDDR6_UE (R581, R610, R612): an address beyond the installed memory does not exist. -/
def execLpddr6Ue (address : Nat) (reader : MemReader) (s : State) : Out :=
  if s.installed ≤ address then .fault (.noSuchAddress address)
  else
    let c := s.memChannel address
    .next (((s.count (.memory c 1)).logEntry .memory 0 c [address, readerCode reader]).ueFor reader)

/-- LPDDR6_PATROL_SCRUB (R580, R612): lines read, and those among them corrected. -/
def execLpddr6PatrolScrub (channel lines corrected : Nat) (s : State) : Out :=
  let t := s.count (.memory channel 0) corrected
  .next (if 48 ≤ channel then s
    else { t with tel := { t.tel with patrolled := assign t.tel.patrolled channel (lookupD t.tel.patrolled channel 0 + lines) } })

end Sys2Proof.Machine
end

