-- ==== Sys2Proof/Machine/Members.lean ====
section
/-! DEFINITION. Quorums and their acknowledgements, losing a member, admission, taking and restoring the manager role
(R500, R501, R504 to R506, R510, R511, R513). -/

namespace Sys2Proof.Machine

/-! ### Items and their acknowledgement (R500) -/

/-- The command whose quorum an acknowledged item belongs to; 0 where none waits. -/
def itemSubject : Item → Nat
  | .catalogue _ _ _ => 0x0304
  | .plan _ _ => 0x0402
  | .recipe _ _ => 0x0310
  | .vocab _ _ => 0x0330
  | .program _ _ => 0x0501
  | .dupSet _ _ => 0x0340
  | .armEvent _ => 0x0413
  | .cancelEvent _ => 0x0414
  | .weir _ _ => 0x0420
  | .membership _ => 0x0441
  | .command c _ => c
  | .proxy _ _ _ _ => 0x0444
  | .join _ _ _ _ _ => 0x0443
  | .fence _ | .ckptDone _ | .ckptFailed _ => 0

/-- Every status code of R532 that the model names. -/
def allStatuses : List Status :=
  [.ok, .inProgress, .badCommand, .badParam, .busy, .badLength, .badSequence, .notPermitted, .badHeader, .recovery, .notFound, .noContext,
   .poolEmpty, .quota, .poolInUse, .gaugePast, .eventFull, .epochLimit, .weirBusy, .mediaError, .mediaReadOnly, .lbaRange,
   .zoneWritePointer, .zoneBoundary, .zoneOpenLimit, .zoneReadOnly, .zoneOffline, .queueExists, .fwBusy, .fwSigInvalid, .fwImageInvalid,
   .fwSession, .fwRollback, .sigInvalid, .ownerEnrolled, .configInvalid, .ingotInvalid, .catalogueGap, .catalogueFull, .indexSpace,
   .planInvalid, .planFence, .inUse, .notManager, .recipeInvalid, .vocabInvalid, .filterSpace, .feedSlotSmall, .feedNoRing,
   .programInvalid, .programStoreFull, .launchMismatch, .launchTimeout, .chunkFailed, .collAborted, .residualSpace, .detMismatch,
   .checkpointInvalid, .checkpointStale, .datapathChange, .portConflict, .gateInvalid, .tableFull, .qpState, .groupMismatch, .ringOrder,
   .formTimeout, .twinMismatch, .memberState, .flushed]

/-- The status of a value. -/
def statusOf (n : Nat) : Status := (allStatuses.find? (fun st => decide (st.value = n))).getD .badParam

/-! ### Ending a quorum (R176, R431, R438, R500, R501, R506) -/

/-- Take a quorum off the list. -/
def State.dropQuorum (s : State) (q : Quorum) : State :=
  { s with group := { s.group with quorums := s.group.quorums.filter (fun x => decide (x ≠ q)) } }

/-- Distribute an item whose acknowledgements are only compared (R500). -/
def State.spreadCompared (s : State) (i : Item) : State :=
  if s.audience.isEmpty then s
  else
    let q : Quorum := ⟨itemDigest i, itemSubject i, s.audience, .compare, false⟩
    let s := s.spread i
    { s with group := { s.group with quorums := s.group.quorums ++ [q] } }

/-- The armed event of a quorum is withdrawn everywhere. -/
def State.withdraw (s : State) (handle : Nat) : State := (s.cancelEvent handle).spreadCompared (.cancelEvent handle)

/-- Pass this side's answer to the leading manager (R501). -/
def State.twinSay (s : State) (b : Body) : State := { s with sent := s.sent ++ [.twin b] }

/-- Every member has acknowledged. -/
def State.endQuorum (s : State) (q : Quorum) : State :=
  let s := s.dropQuorum q
  match q.goal with
  | .answer r code result payload values => s.answer r code .ok result payload values
  | .arm r handle =>
    if q.early then (s.withdraw handle).answer r 0x0413 .gaugePast
    else
      let holds := s.gauge.fenceHolds.filter (fun h => decide (h.1 ≠ handle))
      ({ s with gauge := { s.gauge with fenceHolds := holds } }).answer r 0x0413 .ok handle
  | .weir r code => s.answer r code .ok
  | .build r dataset =>
    let s := s.answer r 0x0304 .ok
    (match s.catalogue? dataset with
     | some c => if r.mb = 5 then s.twinSay (.ack 0x0304 (itemDigest (.catalogue dataset c.total c.entries)) false) else s
     | none => s)
  | .resume r place address =>
    (match s.readImage place address with
     | some b =>
       let s := (s.resumeHere b).firstWeir r ⟨fieldAt b 8 8, 0⟩
       if r.mb = 5 then s.answer r 0x0434 .ok else { s with det := { s.det with resumeWaiter := some r } }
     | none => s.answer r 0x0434 .checkpointInvalid s.group.set.deviceId)
  | .membership => s.afterRecord
  | .relay subject digest => s.twinSay (.ack subject digest q.early)
  | .restore r => ({ s with group := { s.group with acting := false } }).answer r 0x0446 .ok
  | .compare => s

/-- A member could not carry the item out: the waiting command ends with its status. -/
def State.failQuorum (s : State) (q : Quorum) (st : Status) (result : Nat) : State :=
  let s := s.dropQuorum q
  match q.goal with
  | .answer r code _ _ _ => s.answer r code st result
  | .arm r handle => (s.withdraw handle).answer r 0x0413 st result
  | .weir r code => s.answer r code st result
  | .build r _ => s.answer r 0x0304 st result
  | .resume r _ _ => s.answer r 0x0434 st result
  | .membership => s.failForming st result
  | .relay subject _ => s.twinSay (.mb5 subject st.value result)
  | .restore r => s.answer r 0x0446 st result
  | .compare => s

/-- End every quorum that waits for nobody. -/
def State.settleQuorums (s : State) : State :=
  (s.group.quorums.filter (fun q => q.awaiting.isEmpty)).foldl State.endQuorum s

/-- Stop waiting for a device (R500). -/
def State.awaitNot (s : State) (who : Nat) : State :=
  let drop (q : Quorum) : Quorum := { q with awaiting := q.awaiting.filter (fun d => decide (d ≠ who)) }
  let s := ({ s with group := { s.group with quorums := s.group.quorums.map drop } }).settleQuorums
  match s.plan.building with
  | some (_, dataset, waiting) => if waiting.contains who then s.takeRanges who dataset 0 [] else s
  | none => s

/-! ### Losing a member (R418, R427, R433, R498, R505) -/

/-- What every device does when a member of a side becomes LOST. -/
def State.loseMember (s : State) (side d : Nat) : State :=
  let own : Bool := decide (side = s.group.set.side)
  let key := if own then d else 128 + d
  let s := s.setMember side d .lost
  let drop (x : Summary) : Summary := if x.device = key then { x with removed := true } else x
  let gone (j : Join) : Bool := decide (j.device = d) && decide (j.far ≠ own)
  let waiters := (s.group.joins.filter gone).filterMap (fun j => j.waiter)
  let s := { s with gauge := { s.gauge with summaries := s.gauge.summaries.map drop },
                    group := { s.group with joins := s.group.joins.filter (fun j => !gone j) } }
  let s := if own ∧ d ≠ s.group.set.deviceId then s.resetLink .mesh (meshIndex s.group.set.deviceId d)
    else if !own ∧ d = s.group.set.deviceId then (List.range 4).foldl (fun s n => s.resetLink .twin n) s else s
  let s := (s.collLinkLost side d).failCkpt
  (waiters.foldl (fun s r => s.answer r 0x0443 .memberState) s).recordNow

/-- A member becomes LOST; on a manager it is announced, the new membership record goes round, and nothing waits for it any
longer (R500, R505). -/
def State.setLost (s : State) (side d : Nat) : State :=
  let own : Bool := decide (side = s.group.set.side)
  let s := s.loseMember side d
  if !s.isManager then s
  else
    let s := if !own then s.twinSay (.state d .lost) else if s.ids.length ≤ 1 then s else s.sendPiece 5 (.state d .lost)
    let s := if own ∧ s.group.set.twin ∧ !s.leads then s.twinSay (.item (.membership s.membership)) else s
    (s.spreadCompared (.membership s.membership)).awaitNot (if own then d else 128 + d)

/-- Bit of a device in a membership record (R499). -/
def recordBit (bs : Bytes) (side d : Nat) : Bool := (fieldAt bs (16 + 16 * side) 16).testBit d

/-- Take over what a membership record says: a live member whose bit is clear has left, and one whose bit is set and that had
left is back. -/
def State.applyRecord (s : State) (bs : Bytes) : State :=
  let pairs := (if s.group.set.twin then [0, 1] else [s.group.set.side]).flatMap (fun side => s.ids.map (fun d => (side, d)))
  pairs.foldl (fun s x =>
    let st := s.memberState x.1 x.2
    if liveStatus st && !recordBit bs x.1 x.2 then s.loseMember x.1 x.2
    else if x.1 ≠ s.group.set.side ∧ recordBit bs x.1 x.2 ∧ !liveStatus st then s.setMember x.1 x.2 .active else s) s

/-! ### Acknowledgements (R500, R501) -/

/-- An acknowledgement carries another digest (R161, R497, R500). -/
def State.differs (s : State) (device : Nat) (q : Quorum) : State := match q.goal with
  | .build _ _ => s.failQuorum q .catalogueGap (2 ^ 63)
  | .membership => s.failQuorum q .groupMismatch device
  | _ => s.setLost (if device < 128 then s.group.set.side else 1 - s.group.set.side) (device % 128)

/-- A member's acknowledgement of an item. -/
def State.takeMemberAck (s : State) (device subject : Nat) (digest : Bytes) (early : Bool) : State :=
  let waits (q : Quorum) : Bool := decide (q.subject = subject) && q.awaiting.contains device
  let hit (q : Quorum) : Bool := waits q && decide (q.digest = digest)
  if s.group.quorums.any hit then
    let mark (q : Quorum) : Quorum := { q with awaiting := q.awaiting.filter (fun d => decide (d ≠ device)), early := q.early || early }
    ({ s with group := { s.group with quorums := updateFirst hit mark s.group.quorums } }).settleQuorums
  else match s.group.quorums.find? waits with
    | some q => s.differs device q
    | none => s

/-- A member's answer to a command forwarded on MB5 (R501, R519): a catalogue that the other side has built is compared by its
digest. -/
def State.takeMb5 (s : State) (device code status result : Nat) : State :=
  let waits (q : Quorum) : Bool := decide (q.subject = code) && q.awaiting.contains device
  match s.group.quorums.find? waits with
  | none => s
  | some q =>
    if status = Status.inProgress.value then s
    else if status ≠ 0 then s.failQuorum q (statusOf status) result
    else match q.goal with
      | .build _ _ => s
      | _ =>
        let mark (q : Quorum) : Quorum := { q with awaiting := q.awaiting.filter (fun d => decide (d ≠ device)) }
        ({ s with group := { s.group with quorums := updateFirst waits mark s.group.quorums } }).settleQuorums

/-- QUORUM_ACK_RECEIVE (R78, R176, R500, R501): an acknowledgement on channel 4, or over the twin links from the other side's
manager (its ID plus 128). -/
def execQuorumAckReceive (device : Nat) (ack : Body) (s : State) : Out :=
  let s := if device < 128 then { s with group := { s.group with heard := assign s.group.heard device s.now } } else s
  if !s.isManager then .next s
  else match ack with
    | .ack subject digest early => .next (s.takeMemberAck device subject digest early)
    | .mb5 code status result => .next (s.takeMb5 device code status result)
    | .weirAck lateness =>
      let add (w : Weir) : Weir := { w with acks := assign w.acks device lateness }
      .next { s with gauge := { s.gauge with weir := s.gauge.weir.map add } }
    | _ => .next s

/-! ### Silence (R504, R506) -/

/-- MEMBER_SILENCE_TIMEOUT (R504, R505): on the manager; 128 + ID is a member of the other side, which an acting manager leads. -/
def execMemberSilenceTimeout (device : Nat) (s : State) : Out :=
  let side := if device < 128 then s.group.set.side else 1 - s.group.set.side
  let d := device % 128
  let mine : Bool := if device < 128 then decide (d ≠ s.group.set.deviceId) else s.group.acting
  .next (if s.isManager ∧ mine ∧ liveStatus (s.memberState side d) then s.setLost side d else s)

/-- The relay of this side under an acting manager (R506): its lowest-ID ACTIVE worker with a twin link up. What links another
member has is a free value (log entry 4). -/
def State.chooseRelay (s : State) : Option Nat :=
  let me := s.group.set.deviceId
  let linked (d : Nat) : Bool := if d = me then !s.group.twinUp.isEmpty else decide ((Config.freeNat (s.freeCtr + d)) % 2 = 0)
  s.ids.find? (fun d => decide (d ≠ s.group.manager) && decide (s.memberState s.group.set.side d = .active) && linked d)

/-- MANAGER_SILENCE_TIMEOUT (R502, R504, R506): a worker's manager is lost: in a twin the other side's manager acts for it,
otherwise the worker enters Gauge hold. A manager of a twin becomes the acting manager of both sides. -/
def execManagerSilenceTimeout (s : State) : Out :=
  let g := s.group
  if g.forming.isSome then .next s
  else if !s.isManager then
    if g.managerLost then .next s
    else
      let s := ({ s with group := { g with managerLost := true } }).raise .managerLost g.manager
      if g.set.twin ∧ !g.split then
        .next { s with group := { s.group with actedFor := true, relay := s.chooseRelay }, freeCtr := s.freeCtr + 128 }
      else .next (if s.gauge.hold then s else ({ s with gauge := { s.gauge with hold := true } }).raise .gaugeHold)
  else if !g.set.twin ∨ g.split ∨ g.acting then .next s
  else
    let s := ({ s with group := { g with acting := true } }).raise .managerLost g.manager
    .next (s.setLost (1 - g.set.side) g.set.managerId)

/-! ### Replaying what has been distributed (R506, R510) -/

/-- Every distributed item and armed event this device holds. -/
def State.heldItems (s : State) : List Item :=
  let weir : List Item := match s.gauge.weir with
    | some w => if w.phase = .armed then [.weir w.target w.actions] else []
    | none => []
  s.plan.catalogues.map (fun c => .catalogue c.datasetId c.total c.entries)
    ++ s.plan.plans.map (fun p => .plan p.1 p.2.bytes) ++ s.pipe.vocabs.map (fun v => .vocab v.handle v.bytes)
    ++ s.pipe.dupSets.map (fun v => .dupSet v.handle v.bytes) ++ s.plan.recipes.map (fun x => .recipe x.1 x.2)
    ++ s.ngayx.programs.map (fun x => .program x.1 x.2) ++ s.gauge.armed.map (fun e => .armEvent e) ++ weir

/-- The manager commands whose settings are in force: a new member carries them out on MB5, as every member did (R501, R519). -/
def State.heldCommands (s : State) : List Item :=
  let g := s.gauge
  let c (code : Nat) (params : Bytes) : Item := .command code (sha256 params)
  (match s.plan.seed with | some x => [c 0x0401 x] | none => [])
    ++ (if g.jobTag = 0 then [] else
        [c 0x0410 (natLe 2 g.jobTag ++ natLe 2 g.maxJump ++ natLe 4 g.timeoutS ++ natLe 2 g.horizon ++ natLe 4 g.weirLead)])
    ++ [c 0x0430 (natLe 1 (if s.det.exact then 0 else 1)), c 0x0516 (natLe 1 s.det.treePolicy)]
    ++ (s.coll.channels.filter (fun x => !x.spec.isEmpty)).map (fun x => c 0x0510 (natLe 2 x.num ++ x.spec))
    ++ s.ngayx.bindings.map (fun b => c 0x0504 (natLe 2 b.1 ++ natLe 2 b.2))
    ++ s.coll.stores.map (fun x => c 0x0513 (natLe 2 x.handle ++ natLe 2 0 ++ natLe 4 x.elems))
    ++ s.switch.endpoints.map (fun e => c 0x0610 (natLe 2 e.1 ++ endpointBytes e.2))
    ++ s.switch.gateLists.map (fun l => c 0x0630 (natLe 2 l.handle))

/-- Send an item for one device, and compare its acknowledgement. -/
def State.replayItem (s : State) (who : Nat) (i : Item) : State :=
  let s := if who < 128 then s.sendPiece (itemChannel i) (.item i) else s.twinSay (.item i)
  { s with group := { s.group with quorums := s.group.quorums ++ [⟨itemDigest i, itemSubject i, [who], .compare, false⟩] } }

/-- Replay everything to one device. -/
def State.replayTo (s : State) (who : Nat) : State := (s.heldItems ++ s.heldCommands).foldl (fun s i => s.replayItem who i) s

/-! ### Admission (R510) -/

/-- The record ranges, first and count, that a catalogue gives a device. -/
def shardRanges (total d : Nat) : List (Nat × Nat) → List (Nat × Nat)
  | [] => []
  | [x] => if x.2 = d then [(x.1, total - x.1)] else []
  | x :: y :: rest => (if x.2 = d then [(x.1, y.1 - x.1)] else []) ++ shardRanges total d (y :: rest)

/-- The side a DEVICE_ADMIT means: an acting manager's own device that is ACTIVE names the other side's (log entry 72). -/
def State.admitSide (s : State) (d : Nat) : Nat :=
  let own := s.group.set.side
  if s.group.acting && liveStatus (s.memberState own d) then 1 - own else own

/-- Steps 1 to 5 of R510 begin: JOINING, the links, the replay, and the join step, which is the plan fence plus 1. -/
def State.admitNow (s : State) (j : Join) : State :=
  let side := if j.far then 1 - s.group.set.side else s.group.set.side
  let who := if j.far then 128 + j.device else j.device
  let step := (if j.far then s.gauge.peerFence else s.gauge.pubFence) + 1
  let s := s.setMember side j.device .joining
  let b : Body := .state j.device .joining
  let s := if j.far then s.twinSay b else (((s.sendPiece 5 b).resetNumbers).sendPiece 5 b)
  let s := { s with gauge := { s.gauge with summaries := s.gauge.summaries.filter (fun x => decide (x.device ≠ who)) } }
  let s := if j.far then s else s.group.members.foldl (fun s m => s.sendPiece 5 (.state m.1 m.2)) s
  let s := (s.connectAll).replayTo who
  let item : Item := .join j.device step (s.plan.active.map (fun a => (a.1, a.2.bytes))) s.plan.recipe s.det.exact
  let s := s.replayItem who item
  let put (x : Join) : Join := if x = j then { j with step := step, checks := [] } else x
  { s with group := { s.group with joins := s.group.joins.map put } }

/-- A device being admitted reports its merged ranges of a dataset: they must equal the catalogue's (R510). -/
def State.takeJoinRanges (s : State) (device dataset total : Nat) (l : List (Nat × Nat)) : State :=
  match s.group.joins.find? (fun j => decide (j.device = device) && j.checks.contains dataset) with
  | none => s
  | some j =>
    let want := match s.catalogue? dataset with
      | some c => (c.total, shardRanges c.total device c.entries)
      | none => (0, [])
    let same : Bool := decide (want.2 = l) && (l.isEmpty || decide (want.1 = total))
    if !same then
      let s := { s with group := { s.group with joins := s.group.joins.filter (fun x => decide (x ≠ j)) } }
      match j.waiter with
      | some r => s.answer r 0x0443 .catalogueGap
      | none => s
    else
      let k : Join := { j with checks := j.checks.filter (fun d => decide (d ≠ dataset)) }
      let put (x : Join) : Join := if x = j then k else x
      let s := { s with group := { s.group with joins := s.group.joins.map put } }
      if k.checks.isEmpty then s.admitNow k else s

/-- The checks of DEVICE_ADMIT (R510, R513). -/
def deviceAdmitCheck (r : Req) (device : Nat) (s : State) : Option Reject :=
  let side := s.admitSide device
  let st := s.memberState side device
  let seen : Bool := match s.hello? side device with
    | some h => s.matches h
    | none => false
  firstReject [s.notManager r, s.heldBusy (.device device), (decide (127 < device), badParam 0),
    (!s.ids.contains device || (decide (st ≠ .lost) && decide (st ≠ .absent)) || !seen, ⟨.memberState, 0⟩)]

/-- DEVICE_ADMIT (R510, R511): IN_PROGRESS; the device's ranges are compared first, and it completes at the join step. -/
def execDeviceAdmit (r : Req) (device : Nat) (s : State) : Out :=
  let far : Bool := decide (s.admitSide device ≠ s.group.set.side)
  let checks := s.plan.catalogues.map (fun c => c.datasetId)
  let j : Join := { device := device, far := far, step := 2 ^ 64, checks := checks, waiter := some r }
  let s1 := s.answerInProgress r 0x0443 [.device device]
  let s2 := { s1 with group := { s1.group with joins := s1.group.joins ++ [j] } }
  let ask (s : State) (c : Nat) : State := if far then s.twinSay (.collect c) else s.sendPiece 0 (.collect c)
  .next (s.finish r 0x0443 (deviceAdmitCheck r device s) (if checks.isEmpty then s2.admitNow j else checks.foldl ask s2))

/-! ### The manager role (R493, R506, R513) -/

/-- MANAGER_TAKEOVER (R506, R544): a worker outside a twin that no longer hears its manager takes the role; the old manager is
LOST, and the Gauge is rebuilt from fresh summaries. -/
def execManagerTakeover (r : Req) (s : State) : Out :=
  let g := s.group
  let me := g.set.deviceId
  let old := g.manager
  let bad : Bool := !g.managerLost || g.set.twin || s.isManager
  let set : GroupSettings := { g.set with managerId := me }
  let s1 := s.answerInProgress r 0x0445 [.nor]
  let s2 : State := { s1 with
    group := { s1.group with set := set, manager := me, managerLost := false, quorums := [] }
    gauge := { s1.gauge with summaries := [], pubCommitted := s.gauge.committed, pubLeading := s.gauge.leading, pubFence := s.gauge.fence } }
  .next (s.finish r 0x0445 (firstReject [(bad, ⟨.memberState, 0⟩)])
    ((s2.setLost g.set.side old).writeNorRecord .config (s.deviceCopy (groupBytes set)) (some (r, 0x0445))))

/-- MANAGER_RESTORE (R506): on the acting manager, once the other side's own manager is ACTIVE; it completes when that device has
acknowledged a full copy. -/
def execManagerRestore (r : Req) (s : State) : Out :=
  let side := 1 - s.group.set.side
  let m := s.group.set.managerId
  let i : Item := .command 0x0446 (sha256 [])
  let q : Quorum := ⟨itemDigest i, 0x0446, [128 + m], .restore r, false⟩
  let s1 := ((s.answerInProgress r 0x0446 []).replayTo (128 + m)).twinSay (.item i)
  .next (s.finish r 0x0446 (firstReject [(!s.group.acting, ⟨.memberState, 0⟩), (decide (s.memberState side m ≠ .active), ⟨.memberState, 0⟩)])
    { s1 with group := { s1.group with quorums := s1.group.quorums ++ [q] } })

end Sys2Proof.Machine
end

