-- ==== Sys2Proof/Machine/Ngayx.lean ====
section
/-! DEFINITION. The Ngayx instructions: what one instruction does in its program context, and how it issues (R336, R350, R370 to
R390). -/

namespace Sys2Proof.Machine

/-! ### Small operations -/

/-- A branch target (R370). -/
def Fields.target (w : Fields) : Nat := w.imm % 1024

/-- A conditional branch. -/
def NgCtx.branch (x : NgCtx) (w : Fields) (taken : Bool) : NgCtx := if taken then x.jump (Fields.target w) else x.next

/-- A bit of pA below lanes(F) is set (R370). -/
def NgCtx.anyBit (x : NgCtx) (w : Fields) : Bool := (List.range (lanes w.fmt)).any (fun i => bitOf (x.pr w.a) i)

/-- A scalar instruction with two operands (R372). -/
def NgCtx.scalar (x : NgCtx) (w : Fields) (f : Nat → Nat → Nat) : NgCtx := (x.setS w.d (f (x.sr w.a) (x.sr w.b))).next

/-- The condition of SCMP: 0 EQ, 1 NE, 2 LT, 3 LE signed, 4 LTU, 5 LEU (R372). -/
def scalarCond (c a b : Nat) : Bool :=
  match c with
  | 0 => decide (a = b)
  | 1 => decide (a ≠ b)
  | 2 => decide (signedOf 64 a < signedOf 64 b)
  | 3 => decide (signedOf 64 a ≤ signedOf 64 b)
  | 4 => decide (a < b)
  | _ => decide (a ≤ b)

/-- SGET's value (R372). -/
def NgCtx.getLane (x : NgCtx) (w : Fields) : NgCtx :=
  let c := (laneCodes w.fmt (x.vr w.a)).getD (w.imm % 1024) 0
  if w.fmt.cls = .flt then (x.setS w.d c).next else (x.setSi w.d (signedOf w.fmt.bits c)).next

/-- SPUT's lane (R372). -/
def NgCtx.putLane (x : NgCtx) (w : Fields) : NgCtx :=
  let cs := (laneCodes w.fmt (x.vr w.d)).set (w.imm % 1024) (x.sr w.a % 2 ^ w.fmt.bits)
  (x.setV w.d (packElems w.fmt.bits cs)).next

/-- A predicate instruction (R363, R372). -/
def NgCtx.predicate (x : NgCtx) (w : Fields) (g : Nat → Bool) : NgCtx := (x.writePred w w.fmt w.d g).next

/-- VSEL (R378). -/
def NgCtx.select (x : NgCtx) (w : Fields) : NgCtx :=
  let b := laneCodes w.fmt (x.vr w.b)
  let cs := (laneCodes w.fmt (x.vr w.a)).mapIdx (fun i c => if bitOf (x.pr w.p) i then c else b.getD i 0)
  (x.setV w.d (packElems w.fmt.bits cs)).next

/-- SCRC (R387). -/
def NgCtx.hashBytes (x : NgCtx) (w : Fields) : NgCtx :=
  let n := min (x.sr w.b) 512
  (x.setS w.d (if n = 0 then 0 else crc32c (natLe n (x.vr w.a)))).next

/-! ### Issue (R336, R350, R371) -/

/-- The executor of a context and its index there: Crucibles 0 to 15 with 8 contexts each, filter cores 16 and 17 with 4. -/
def executorOf (ctx : Nat) : Nat × Nat × Nat := if ctx < 128 then (ctx / 8, ctx % 8, 8) else (16 + (ctx - 128) / 4, (ctx - 128) % 4, 4)

/-- A context that is about to execute the instruction: it has not ended or reached its bound, and the word at its PC is this
one (R350, R371). -/
def NgCtx.about (x : NgCtx) (op : Nat) (w : Fields) : Bool :=
  !x.ended && decide (x.executed < x.budget) && decide (x.prog[x.pc]? = some (wordOf op w))

/-- The context of a number. -/
def State.ctx? (s : State) (ctx : Nat) : Option NgCtx := s.ngayx.contexts.find? (fun c => decide (c.id = ctx))

/-- Put a context back, and move its executor's arbiter on (R92, R336). -/
def State.setCtx (s : State) (c : NgCtx) : State :=
  let (e, i, n) := executorOf c.id
  { s with ngayx := { s.ngayx with contexts := updateFirst (fun y => decide (y.id = c.id)) (fun _ => c) s.ngayx.contexts,
                                   arbs := s.ngayx.arbs.set e (arbNext n i) } }

/-- The runs of a launch share its grant (R347): what one has written there, the others see. -/
def State.shareGrant (s : State) (launch : Nat) (g : Memory) : State :=
  let give (x : NgCtx) : NgCtx := match x.run with
    | .node l _ _ _ _ => if l = launch then { x with grant := g } else x
    | .kernel _ _ _ => x
  let giveL (l : Launch) : Launch := if l.id = launch then { l with grant := g } else l
  { s with ngayx := { s.ngayx with contexts := s.ngayx.contexts.map give }, coll := { s.coll with launches := s.coll.launches.map giveL } }

/-- The context after an instruction: a kernel that has ended ends its screening step (R264). -/
def State.issued (s : State) (c : NgCtx) : State := match c.run with
  | .kernel _ _ _ => if c.ended then (s.setCtx c).kernelEnded c else s.setCtx c
  | .node l _ _ _ _ => (s.setCtx c).shareGrant l c.grant

/-- Issue the instruction at a context's PC: it takes effect in the context (R350). A command that names another instruction
than the one there changes nothing. -/
def State.issue (s : State) (ctx op : Nat) (w : Fields) (f : Bytes → NgCtx → NgCtx) : State :=
  match s.ctx? ctx with
  | none => s
  | some c => if c.about op w then s.issued (f s.jobKey c) else s

/-! ### The instructions -/

/-- HALT (R370): the run ends with HALTED set. -/
def execHalt (ctx : Nat) (w : Fields) (s : State) : Out :=
  .next (s.issue ctx 0x01 w (fun _ x => { x with halted := true, executed := x.executed + 1 }))

/-- BR (R370). -/
def execBr (ctx : Nat) (w : Fields) (s : State) : Out :=
  .next (s.issue ctx 0x02 w (fun _ x => x.jump (Fields.target w)))

/-- BRZ (R370). -/
def execBrz (ctx : Nat) (w : Fields) (s : State) : Out :=
  .next (s.issue ctx 0x03 w (fun _ x => x.branch w (decide (x.sr w.a = 0))))

/-- BRNZ (R370). -/
def execBrnz (ctx : Nat) (w : Fields) (s : State) : Out :=
  .next (s.issue ctx 0x04 w (fun _ x => x.branch w (decide (x.sr w.a ≠ 0))))

/-- BRANY (R370). -/
def execBrany (ctx : Nat) (w : Fields) (s : State) : Out :=
  .next (s.issue ctx 0x05 w (fun _ x => x.branch w (x.anyBit w)))

/-- BRNONE (R370). -/
def execBrnone (ctx : Nat) (w : Fields) (s : State) : Out :=
  .next (s.issue ctx 0x06 w (fun _ x => x.branch w (!x.anyBit w)))

/-- BREND (R342, R370). -/
def execBrend (ctx : Nat) (w : Fields) (s : State) : Out :=
  .next (s.issue ctx 0x07 w (fun _ x => x.branch w (x.inPort w.a).ended))

/-- LOOP (R370): sA counts down modulo 2^64, and the branch is taken while it is not 0. -/
def execLoop (ctx : Nat) (w : Fields) (s : State) : Out :=
  .next (s.issue ctx 0x08 w (fun _ x => (x.setS w.a (x.sr w.a + (2 ^ 64 - 1))).branch w (decide ((x.sr w.a + (2 ^ 64 - 1)) % 2 ^ 64 ≠ 0))))

/-- STSET (R351, R370): USER of the status word. -/
def execStset (ctx : Nat) (w : Fields) (s : State) : Out :=
  .next (s.issue ctx 0x09 w (fun _ x => { x with user := w.imm % 2 ^ 16 }.next))

/-- SMOVI (R372). -/
def execSmovi (ctx : Nat) (w : Fields) (s : State) : Out :=
  .next (s.issue ctx 0x10 w (fun _ x => (x.setSi w.d w.simm).next))

/-- SLUI (R372). -/
def execSlui (ctx : Nat) (w : Fields) (s : State) : Out :=
  .next (s.issue ctx 0x11 w (fun _ x => (x.setS w.d (x.sr w.d * 2 ^ 28 + w.imm)).next))

/-- SADD (R372). -/
def execSadd (ctx : Nat) (w : Fields) (s : State) : Out :=
  .next (s.issue ctx 0x12 w (fun _ x => x.scalar w (· + ·)))

/-- SADDI (R372). -/
def execSaddi (ctx : Nat) (w : Fields) (s : State) : Out :=
  .next (s.issue ctx 0x13 w (fun _ x => (x.setSi w.d ((x.sr w.a : Int) + w.simm)).next))

/-- SSUB (R372). -/
def execSsub (ctx : Nat) (w : Fields) (s : State) : Out :=
  .next (s.issue ctx 0x14 w (fun _ x => x.scalar w (fun a b => a + 2 ^ 64 - b)))

/-- SMUL (R372). -/
def execSmul (ctx : Nat) (w : Fields) (s : State) : Out :=
  .next (s.issue ctx 0x15 w (fun _ x => x.scalar w (· * ·)))

/-- SAND (R372). -/
def execSand (ctx : Nat) (w : Fields) (s : State) : Out :=
  .next (s.issue ctx 0x16 w (fun _ x => x.scalar w (· &&& ·)))

/-- SOR (R372). -/
def execSor (ctx : Nat) (w : Fields) (s : State) : Out :=
  .next (s.issue ctx 0x17 w (fun _ x => x.scalar w (· ||| ·)))

/-- SXOR (R372). -/
def execSxor (ctx : Nat) (w : Fields) (s : State) : Out :=
  .next (s.issue ctx 0x18 w (fun _ x => x.scalar w (· ^^^ ·)))

/-- SSHL (R372). -/
def execSshl (ctx : Nat) (w : Fields) (s : State) : Out :=
  .next (s.issue ctx 0x19 w (fun _ x => x.scalar w (fun a b => a * 2 ^ (b % 64))))

/-- SSHR (R372). -/
def execSshr (ctx : Nat) (w : Fields) (s : State) : Out :=
  .next (s.issue ctx 0x1A w (fun _ x => x.scalar w (fun a b => a / 2 ^ (b % 64))))

/-- SSRA (R372). -/
def execSsra (ctx : Nat) (w : Fields) (s : State) : Out :=
  .next (s.issue ctx 0x1B w (fun _ x => (x.setSi w.d (signedOf 64 (x.sr w.a) / 2 ^ (x.sr w.b % 64))).next))

/-- SCMP (R372). -/
def execScmp (ctx : Nat) (w : Fields) (s : State) : Out :=
  .next (s.issue ctx 0x1C w (fun _ x => (x.setS w.d (if scalarCond (w.imm % 8) (x.sr w.a) (x.sr w.b) then 1 else 0)).next))

/-- SGET (R372): INT lanes sign-extended, FLT lanes as raw bits. -/
def execSget (ctx : Nat) (w : Fields) (s : State) : Out :=
  .next (s.issue ctx 0x1D w (fun _ x => x.getLane w))

/-- SPUT (R372). -/
def execSput (ctx : Nat) (w : Fields) (s : State) : Out :=
  .next (s.issue ctx 0x1E w (fun _ x => x.putLane w))

/-- PAND (R363, R372). -/
def execPand (ctx : Nat) (w : Fields) (s : State) : Out :=
  .next (s.issue ctx 0x20 w (fun _ x => x.predicate w (fun i => bitOf (x.pr w.a) i && bitOf (x.pr w.b) i)))

/-- POR (R363, R372). -/
def execPor (ctx : Nat) (w : Fields) (s : State) : Out :=
  .next (s.issue ctx 0x21 w (fun _ x => x.predicate w (fun i => bitOf (x.pr w.a) i || bitOf (x.pr w.b) i)))

/-- PXOR (R363, R372). -/
def execPxor (ctx : Nat) (w : Fields) (s : State) : Out :=
  .next (s.issue ctx 0x22 w (fun _ x => x.predicate w (fun i => bitOf (x.pr w.a) i ^^ bitOf (x.pr w.b) i)))

/-- PNOT (R363, R372). -/
def execPnot (ctx : Nat) (w : Fields) (s : State) : Out :=
  .next (s.issue ctx 0x23 w (fun _ x => x.predicate w (fun i => !bitOf (x.pr w.a) i)))

/-- PFIRST (R363, R372): sA is a signed value. -/
def execPfirst (ctx : Nat) (w : Fields) (s : State) : Out :=
  .next (s.issue ctx 0x24 w (fun _ x => x.predicate w (fun i => decide ((i : Int) < signedOf 64 (x.sr w.a)))))

/-- PCNT (R372). -/
def execPcnt (ctx : Nat) (w : Fields) (s : State) : Out :=
  .next (s.issue ctx 0x25 w (fun _ x => (x.setS w.d (((List.range (lanes w.fmt)).filter (fun i => bitOf (x.pr w.a) i)).length)).next))

/-- VADD (R373 to R376). -/
def execVadd (ctx : Nat) (w : Fields) (s : State) : Out :=
  .next (s.issue ctx 0x30 w (fun k x => (x.arith k w addVal).next))

/-- VSUB (R373 to R376). -/
def execVsub (ctx : Nat) (w : Fields) (s : State) : Out :=
  .next (s.issue ctx 0x31 w (fun k x => (x.arith k w (fun a b => addVal a (negVal b))).next))

/-- VMUL (R373 to R376). -/
def execVmul (ctx : Nat) (w : Fields) (s : State) : Out :=
  .next (s.issue ctx 0x32 w (fun k x => (x.arith k w mulVal).next))

/-- VFMA (R373, R374). -/
def execVfma (ctx : Nat) (w : Fields) (s : State) : Out :=
  .next (s.issue ctx 0x33 w (fun k x => (x.fma k w).next))

/-- VNEG (R373 to R376). -/
def execVneg (ctx : Nat) (w : Fields) (s : State) : Out :=
  .next (s.issue ctx 0x34 w (fun k x => (x.arith1 k w negVal).next))

/-- VABS (R373 to R376). -/
def execVabs (ctx : Nat) (w : Fields) (s : State) : Out :=
  .next (s.issue ctx 0x35 w (fun k x => (x.arith1 k w absVal).next))

/-- VMIN (R373, R377). -/
def execVmin (ctx : Nat) (w : Fields) (s : State) : Out :=
  .next (s.issue ctx 0x36 w (fun k x => (x.minmax k w true).next))

/-- VMAX (R373, R377). -/
def execVmax (ctx : Nat) (w : Fields) (s : State) : Out :=
  .next (s.issue ctx 0x37 w (fun k x => (x.minmax k w false).next))

/-- VDOT (R373): over governed lanes, exact. -/
def execVdot (ctx : Nat) (w : Fields) (s : State) : Out :=
  .next (s.issue ctx 0x38 w (fun _ x => (x.setSi w.d (List.zipWith (· * ·) (x.govInts w (x.vr w.a)) (x.govInts w (x.vr w.b))).sum).next))

/-- VHSUM (R373): over governed lanes, exact. -/
def execVhsum (ctx : Nat) (w : Fields) (s : State) : Out :=
  .next (s.issue ctx 0x39 w (fun _ x => (x.setSi w.d (x.govInts w (x.vr w.a)).sum).next))

/-- VCMP (R378, R379). -/
def execVcmp (ctx : Nat) (w : Fields) (s : State) : Out :=
  .next (s.issue ctx 0x40 w (fun _ x => (x.vcompare w).next))

/-- VSEL (R378): pP selects; every lane is written. -/
def execVsel (ctx : Nat) (w : Fields) (s : State) : Out :=
  .next (s.issue ctx 0x41 w (fun _ x => x.select w))

/-- VMOV (R378). -/
def execVmov (ctx : Nat) (w : Fields) (s : State) : Out :=
  .next (s.issue ctx 0x48 w (fun _ x => (x.setV w.d (x.vr w.a)).next))

/-- VBCAST (R378). -/
def execVbcast (ctx : Nat) (w : Fields) (s : State) : Out :=
  .next (s.issue ctx 0x49 w (fun _ x => (x.writeLanes w w.fmt w.d (fun _ => (x.sr w.a % 2 ^ w.fmt.bits, 0))).next))

/-- VIOTA (R378). -/
def execViota (ctx : Nat) (w : Fields) (s : State) : Out :=
  .next (s.issue ctx 0x4A w (fun _ x => (x.writeLanes w w.fmt w.d (fun i => ((x.sr w.a + i) % 2 ^ w.fmt.bits, 0))).next))

/-- VZERO (R378). -/
def execVzero (ctx : Nat) (w : Fields) (s : State) : Out :=
  .next (s.issue ctx 0x4B w (fun _ x => (x.setV w.d 0).next))

/-- VCVT (R380, R381). -/
def execVcvt (ctx : Nat) (w : Fields) (s : State) : Out :=
  .next (s.issue ctx 0x50 w (fun k x => (x.convert k w).next))

/-- VQNT (R380, R381). -/
def execVqnt (ctx : Nat) (w : Fields) (s : State) : Out :=
  .next (s.issue ctx 0x51 w (fun k x => (x.quantiseVec k w).next))

/-- VDQNT (R380, R381). -/
def execVdqnt (ctx : Nat) (w : Fields) (s : State) : Out :=
  .next (s.issue ctx 0x52 w (fun k x => (x.dequantise k w).next))

/-- VSORT (R382, R383). -/
def execVsort (ctx : Nat) (w : Fields) (s : State) : Out :=
  .next (s.issue ctx 0x58 w (fun _ x => (x.sort w).next))

/-- VMERGE (R382, R383). -/
def execVmerge (ctx : Nat) (w : Fields) (s : State) : Out :=
  .next (s.issue ctx 0x59 w (fun _ x => (x.merge w).next))

/-- VGATHC (R384, R385). -/
def execVgathc (ctx : Nat) (w : Fields) (s : State) : Out :=
  .next (s.issue ctx 0x60 w (fun _ x => x.gatherCtx w))

/-- VGATHS (R384, R385). -/
def execVgaths (ctx : Nat) (w : Fields) (s : State) : Out :=
  .next (s.issue ctx 0x61 w (fun _ x => x.gatherStream w))

/-- VLDC (R347, R384, R385). -/
def execVldc (ctx : Nat) (w : Fields) (s : State) : Out :=
  .next (s.issue ctx 0x62 w (fun _ x => x.loadCtx w))

/-- VSTC (R347, R384 to R386). -/
def execVstc (ctx : Nat) (w : Fields) (s : State) : Out :=
  .next (s.issue ctx 0x63 w (fun _ x => x.storeCtx w))

/-- VCOMP (R384). -/
def execVcomp (ctx : Nat) (w : Fields) (s : State) : Out :=
  .next (s.issue ctx 0x68 w (fun _ x => x.compact w))

/-- VCRC (R387). -/
def execVcrc (ctx : Nat) (w : Fields) (s : State) : Out :=
  .next (s.issue ctx 0x70 w (fun _ x => (x.writeLanes w w.fmt w.d (fun i => (crc32c (natLe 4 ((laneCodes .int32 (x.vr w.a)).getD i 0)), 0))).next))

/-- SCRC (R387): no bytes give 0. -/
def execScrc (ctx : Nat) (w : Fields) (s : State) : Out :=
  .next (s.issue ctx 0x71 w (fun _ x => x.hashBytes w))

/-- VRAND (R368, R387): the base is sA. -/
def execVrand (ctx : Nat) (w : Fields) (s : State) : Out :=
  .next (s.issue ctx 0x72 w (fun k x => (x.writeLanes w w.fmt w.d (fun i => (x.draw k (x.sr w.a) w.sel i, 0))).next))

/-- VLD (R341 to R343, R389). -/
def execVld (ctx : Nat) (w : Fields) (s : State) : Out :=
  .next (s.issue ctx 0x78 w (fun _ x => x.load w))

/-- VST (R341, R343, R366, R389). -/
def execVst (ctx : Nat) (w : Fields) (s : State) : Out :=
  .next (s.issue ctx 0x79 w (fun _ x => x.store w))

/-- EMITP (R388, R389). -/
def execEmitp (ctx : Nat) (w : Fields) (s : State) : Out :=
  .next (s.issue ctx 0x69 w (fun _ x => x.emitLanes w))

/-- SSUM (R320, R322, R325, R333, R334, R390): in fast mode its draws are free values. -/
def execSsum (ctx : Nat) (w : Fields) (s : State) : Out :=
  let before : Nat := ((s.ctx? ctx).map (fun c => c.summed)).getD 0
  let s' := s.issue ctx 0x7A w (fun k x => x.ssum k Config.freeNat s.freeCtr w)
  let after : Nat := ((s'.ctx? ctx).map (fun c => c.summed)).getD before
  .next { s' with freeCtr := if s.det.exact then s'.freeCtr else s'.freeCtr + (after - before) }

/-- INSN_BOUND_REACHED (R350, R371): a Crucible run that has executed INSN_BUDGET instructions without halt ends with BOUND and
the fault INSN_BUDGET; which PC it records is left open, a free value. -/
def execInsnBoundReached (ctx : Nat) (s : State) : Out :=
  match s.ctx? ctx with
  | none => .next s
  | some c => match c.run with
    | .kernel _ _ _ => .next s
    | .node _ _ _ _ _ =>
      if !c.ended && decide (c.budget ≤ c.executed) then .next (s.used.setCtx { c with bound := true, fault := 1, faultPc := s.free % 1024 }) else .next s

end Sys2Proof.Machine
end

