-- ==== Sys2Proof/Machine/Service.lean ====
section
/-! DEFINITION. Service loss and preparation by the twin peer (R507 to R509, R513). -/

namespace Sys2Proof.Machine

/-- Discard what a destination has in preparation from its first batch that has not closed (R188, R507). -/
def State.abandonDest (s : State) (q : DestQueue) : State :=
  let xs := s.pipe.samples.filter (fun x => decide (x.dest = q.dest) && x.synth.isNone)
  let s := xs.foldl (fun s x => (((s.evict x.id).dropBuffers x.owner x.buffers).removeSample x.id).freeEntry x) s
  (q.carry ++ q.opens.flatMap (fun b => b.cands)).foldl (fun s x => s.dropBuffers x.owner x.buffers) s

/-- A destination's first batch that has not closed, and its carry list as entries of R303. -/
def DestQueue.handover (q : DestQueue) : Nat × List (Nat × Nat × Nat) :=
  ((q.opens.head?.map (fun b => b.step)).getD q.next, q.carry.map (fun x => (x.step, x.k, x.attempt)))

/-- Stop preparing a destination; its closed batches stay. -/
def State.stopDest (s : State) (q : DestQueue) : State :=
  (s.abandonDest q).setDestQ { q with opens := [], carry := [], window := [], next := q.handover.1 }

/-- The destination of an index in the plan in force at a step. -/
def State.destAt (s : State) (step d : Nat) : Dest := match s.segmentAt step with
  | some (_, p) => p.dests.getD d ⟨0, 0, 0⟩
  | none => ⟨0, 0, 0⟩

/-- Step 1 of R507 for one destination: stop, and send its step and carry list to the twin peer. -/
def State.handOverDest (s : State) (d : Nat) : State := match s.destQOrNew d with
  | none => s
  | some q =>
    let x := q.handover
    let dest := s.destAt x.1 d
    let s := (s.putDestQ q).stopDest q
    let h : ProxyDest := { dest := dest, step := x.1, carry := x.2 }
    let s := { s with group := { s.group with handedOver := s.group.handedOver ++ [h] } }
    s.twinSay (.item (.proxy false dest x.1 x.2))

/-- This device has become SERVICE_LOST: each of its destinations goes to its twin peer (R507). -/
def State.handOverAll (s : State) : State := match s.segmentAt s.plan.nextStep with
  | none => s
  | some (_, p) => (s.localDests p).foldl State.handOverDest s

/-- Prepare a destination from a step with a carry list: its duplicate window is rebuilt from the steps before (R263, R303, R507,
R508). -/
def State.prepareFrom (s : State) (dest : Dest) (step : Nat) (carry : List (Nat × Nat × Nat)) : State :=
  match s.segmentAt step with
  | none => s
  | some (_, p) =>
    let d := placeOf dest p.dests
    let recipe := (s.recipeAt step).getD 0
    let window := match filterSection? (s.recipeBytes recipe) with
      | some f => if bitOf f.dupMode 0 then f.window else 0
      | none => 0
    let first := max p.startStep (step - window)
    let old := (s.destQ? d).getD (s.freshQueue p first d)
    let q : DestQueue := { old with stage := s.stageOfPort dest.port, next := first, opens := [], carry := [], window := [], head := (first, 0), packFrom := step }
    if d < p.dests.length then carry.foldl (fun s c => s.resumeSample p recipe d c) (s.putDestQ q) else s

/-- A destination comes to this device to prepare for its twin peer (R507 step 2). -/
def State.takeProxy (s : State) (dest : Dest) (step : Nat) (carry : List (Nat × Nat × Nat)) : State :=
  let h : ProxyDest := { dest := dest, step := step, carry := carry }
  ({ s with group := { s.group with proxyFor := s.group.proxyFor ++ [h] } }).prepareFrom dest step carry

/-- The twin peer asks for a destination again (R508): this proxy stops at its first batch that has not closed and hands its step
and carry list over. -/
def State.giveBack (s : State) (dest : Dest) : State :=
  if !s.group.proxyFor.any (fun x => decide (x.dest = dest)) then s
  else match s.segmentAt s.plan.nextStep with
    | none => s
    | some (_, p) => match s.destQ? (placeOf dest p.dests) with
      | none => s
      | some q =>
        let x := q.handover
        let s := s.stopDest q
        let s := { s with group := { s.group with proxyFor := s.group.proxyFor.filter (fun y => decide (y.dest ≠ dest)) } }
        s.twinSay (.item (.proxy true dest x.1 x.2))

/-- The proxy has handed a destination back: this device prepares it from there, and with the last one is no longer
SERVICE_LOST (R508). -/
def State.takeBack (s : State) (dest : Dest) (step : Nat) (carry : List (Nat × Nat × Nat)) : State :=
  let left := s.group.handedOver.filter (fun x => decide (x.dest ≠ dest))
  let s := ({ s with group := { s.group with handedOver := left } }).prepareFrom dest step carry
  if left.isEmpty ∧ s.group.serviceCause.isSome then
    ({ s with group := { s.group with serviceCause := none } }).sendPiece 5 (.state s.group.set.deviceId .active)
  else s

/-- A `proxy` item over the twin links (R507, R508): its destination's side tells which end this is. -/
def State.takeProxyItem (s : State) (back : Bool) (dest : Dest) (step : Nat) (carry : List (Nat × Nat × Nat)) : State :=
  if dest.device ≠ s.group.set.deviceId then s
  else if dest.side ≠ s.group.set.side then (if back then s.giveBack dest else s.takeProxy dest step carry)
  else if back then s.takeBack dest step carry else s

/-- PROXY_BATCH_RECEIVE (R299, R507 steps 3 and 4): a batch the proxy has closed joins the destination's queue. -/
def execProxyBatchReceive (dest step : Nat) (last : Bool) (header payload : Bytes) (s : State) : Out :=
  match s.destQ? dest with
  | none => .next s
  | some q =>
    if s.proxied q { step := step, last := last, header := header, payload := payload } then .next s
    else
      let b : Batch := { step := step, port := (s.destAt step dest).port, last := last, header := header, payload := payload }
      .next ((s.setDestQ { q with closed := q.closed ++ [b], ended := q.ended || last }).alarm dest)

/-- The checks of DEVICE_SERVICE (R507, R508, R513): action 0 HANDOVER, 1 RETURN, 2 REMOVE, of a device of this side. -/
def deviceServiceCheck (r : Req) (device action : Nat) (s : State) : Option Reject :=
  let g := s.group
  let st := s.memberState g.set.side device
  let mine : Bool := decide (device = g.set.deviceId)
  let here : Bool := decide (r.mb = 5) && !s.isManager
  let uncleared : Bool := mine && g.serviceCause.any s.causeHolds
  let bad : Bool :=
    if action = 0 then !here && (decide (st ≠ .active) || decide (device = g.manager))
    else if action = 1 then (!here && decide (st ≠ .serviceLost)) || uncleared
    else !here && (!liveStatus st || mine)
  firstReject [s.notManager r, s.heldBusy (.device device), (decide (127 < device), badParam 0), (decide (2 < action), badParam 2),
    (decide (action = 0) && !g.set.twin, badParam 2), (bad, ⟨.memberState, 0⟩)]

/-- What DEVICE_SERVICE does on the device it names: HANDOVER gives its destinations to the twin peer, RETURN asks for them
again. -/
def State.serveDevice (s : State) (action : Nat) : State :=
  if action = 0 then
    let s := { s with group := { s.group with serviceCause := s.group.serviceCause.or (some .handover) } }
    (s.setMember s.group.set.side s.group.set.deviceId .serviceLost).handOverAll
  else if action = 1 then s.group.handedOver.foldl (fun s x => s.twinSay (.item (.proxy true x.dest x.step []))) s
  else s

/-- DEVICE_SERVICE (R505, R507, R508, R513). -/
def execDeviceService (r : Req) (device action : Nat) (s : State) : Out :=
  let params := natLe 2 device ++ natLe 1 action
  let effect : State :=
    if r.mb = 5 ∧ !s.isManager then
      (if device = s.group.set.deviceId then s.serveDevice action else s).answer r 0x0444 .ok
    else if action = 0 then
      ((s.setMember s.group.set.side device .serviceLost).sendPiece 5 (.state device .serviceLost)).forward r 0x0444 params
    else if action = 1 then s.forward r 0x0444 params
    else (s.setLost s.group.set.side device).forward r 0x0444 params
  .next (s.finish r 0x0444 (deviceServiceCheck r device action s) effect)

end Sys2Proof.Machine
end

