-- ==== Sys2Proof/Machine/Ring.lean ====
section
/-! DEFINITION. The management ring: pieces passed on, acted on in order, sent again; what a distributed item does on a member;
a ring that folds (R391, R392, R497, R500 to R504, R510). -/

namespace Sys2Proof.Machine

/-! ### What a piece says (R391, R496) -/

/-- A HEARTBEAT (R502, R504, R506): of this side's manager, or of the other side's over the twin links, which the relay sends
round. A worker that had lost its manager takes the one it hears again. -/
def State.takeHeartbeat (s : State) (h : Hello) : State :=
  let g := s.group
  if h.side ≠ g.set.side then
    let s : State := { s with group := { g with keepaliveAt := some s.now, split := false } }
    if s.relays then ({ s with group := { s.group with heartbeatAt := some s.now } }).sendPiece 5 (.heartbeat h)
    else if s.group.actedFor then { s with group := { s.group with heartbeatAt := some s.now } } else s
  else if s.isManager ∨ !h.isManager then s
  else if h.sender = g.manager then
    { s with group := { g with heartbeatAt := some s.now, managerLost := false, actedFor := false, relay := none } }
  else if g.managerLost ∧ !g.set.twin then
    let set : GroupSettings := { g.set with managerId := h.sender }
    { s with group := { g with heartbeatAt := some s.now, managerLost := false, manager := h.sender, set := set } }
  else s

/-- A STATE piece (R494, R497 step 8, R505, R507, R510): the manager's view governs; a worker reports its own service loss and
its end to the manager. -/
def State.takeState (s : State) (sender d : Nat) (st : MemberStatus) : State :=
  let side := s.group.set.side
  let me := s.group.set.deviceId
  let was := s.memberState side d
  if s.isManager then
    if sender = d ∧ liveStatus was ∧ (st = .serviceLost ∨ st = .active) then (s.setMember side d st).sendPiece 5 (.state d st) else s
  else if sender ≠ s.group.manager ∧ sender < 128 then s
  else
    let s := if s.relays ∧ 128 ≤ sender then s.sendPiece 5 (.state d st) else s
    match st with
    | .lost => if liveStatus was then s.loseMember side d else s.setMember side d .lost
    | .joining =>
      if was = .joining then s
      else
        let s := (s.setMember side d .joining).resetNumbers
        (if d = me then { s with group := { s.group with forming := none } } else s).connectAll
    | .active =>
      let s := s.setMember side d .active
      if s.group.forming.isSome ∧ s.ids.all (fun i => decide (s.memberState side i = .active)) then s.formedHere else s
    | .serviceLost =>
      let s := s.setMember side d .serviceLost
      if d = me then s.handOverAll else s
    | .absent | .forming => s.setMember side d st

/-- Act on a piece of channel 5, a collection of ranges, or an MB5 answer; a piece that has a command of its own is acted on by
that command. A forwarded command from another sender than the manager is dropped (R517). -/
def State.actPiece (s : State) (p : Piece) : State := match p.body with
  | .hello h => s.takeHello h
  | .neighbour h => s.takeNeighbour h
  | .exchanges _ times =>
    let x := s.hopOf times
    (if s.ids.length ≤ 1 then s else s.sendPiece 5 (.hop x.1 x.2)).takeHop s.group.set.deviceId x
  | .hop delay offset => s.takeHop p.sender (delay, offset)
  | .heartbeat h => (s.takeHeartbeat h).checkService
  | .mode exact => if 128 ≤ p.sender then { s with group := { s.group with peerExact := exact } } else s
  | .state d st => s.takeState p.sender d st
  | .collect dataset => if s.isManager ∧ p.sender < 128 then s else s.reportRanges dataset
  | .ranges dataset total l => if s.isManager then (s.takeJoinRanges (p.sender % 128) dataset total l).takeRanges (p.sender % 128) dataset total l else s
  | .mb5 code status result => if s.isManager then s.takeMb5 p.sender code status result else s
  | .item (.command _ _) =>
    if p.sender = s.group.manager ∨ 128 ≤ p.sender then s
    else { s with lock := { s.lock with mb5Dropped := s.lock.mb5Dropped + 1 } }
  | .item _ | .summary _ _ | .publication _ _ _ | .weirOpen _ | .correction _ | .ckptAck _ _ | .ack _ _ _ | .weirAck _ => s

/-! ### Passing on and order (R392) -/

/-- Place the next waiting piece of a channel on the ring when fewer than 64 are in flight. -/
def State.launchQueued (s : State) (ch : Nat) : State :=
  let g := s.group
  match g.queued.find? (fun p => decide (p.channel = ch)) with
  | none => s
  | some p =>
    if (g.flying.filter (fun x => decide (x.1.channel = ch))).length < 64 then
      { s with group := { g with queued := g.queued.filter (fun x => decide (x ≠ p)), flying := g.flying ++ [(p, s.now, 0)] }
               sent := s.sent ++ [.piece p] }
    else s

/-- This device's own piece has completed a pass (R392 steps 2 and 3, R503): after the second intact one it is removed. -/
def State.ownReturned (s : State) (p : Piece) (intact : Bool) : State :=
  let g := s.group
  match g.flying.find? (fun x => decide (x.1.channel = p.channel) && decide (x.1.seq = p.seq)) with
  | none => s
  | some x =>
    if !intact then s
    else if x.2.2 = 0 then
      let flying := updateFirst (fun y => decide (y = x)) (fun y => (y.1, y.2.1, 1)) g.flying
      { s with group := { g with flying := flying }, sent := s.sent ++ [.passed p] }
    else ({ s with group := { g with flying := g.flying.filter (fun y => decide (y ≠ x)) } }).launchQueued p.channel

/-- Both ends run numbered exchanges: from formation or admission on (R392; log entry 73). -/
def State.synced (s : State) (sender : Nat) : Bool :=
  liveStatus (s.memberState s.group.set.side s.group.set.deviceId) && liveStatus (s.memberState s.group.set.side sender)

/-- Act on a piece and note its number. -/
def State.actNumbered (s : State) (p : Piece) : State :=
  ({ s with group := { s.group with acted := assign s.group.acted (p.sender, p.channel) p.seq } }).actPiece p

/-- Act on the held pieces of a sender and channel that follow on (R392 step 4). -/
def State.drainReorder (s : State) (sender ch : Nat) : Nat → State
  | 0 => s
  | n + 1 =>
    let last := lookupD s.group.acted (sender, ch) 65535
    match s.group.reorder.find? (fun p => decide (p.sender = sender) && decide (p.channel = ch) && decide (p.seq = (last + 1) % 65536)) with
    | none => s
    | some p =>
      let s := { s with group := { s.group with reorder := s.group.reorder.filter (fun x => decide (x ≠ p)) } }
      (s.actNumbered p).drainReorder sender ch n

/-- A copy of another member's piece (R392 step 4). -/
def State.takeCopy (s : State) (p : Piece) : State :=
  if !s.synced p.sender then s.actNumbered p
  else
    let g := s.group
    let last := lookupD g.acted (p.sender, p.channel) 65535
    let held := g.reorder.filter (fun x => decide (x.sender = p.sender) && decide (x.channel = p.channel))
    let duplicate : State := { s with group := { g with duplicates := g.duplicates + 1 } }
    let dropped : State := { s with group := { g with dropped := g.dropped + 1 } }
    match serialCmp p.seq last 16 with
    | .equal | .before => duplicate
    | .outside => dropped
    | .after =>
      if p.seq = (last + 1) % 65536 then (s.actNumbered p).drainReorder p.sender p.channel 64
      else if held.any (fun x => decide (x.seq = p.seq)) then duplicate
      else if 64 ≤ held.length then dropped
      else { s with group := { g with reorder := g.reorder ++ [p] } }

/-- The relay passes its side's pieces for the manager over the twin links (R506). -/
def State.relayUp (s : State) (p : Piece) : State :=
  if s.relays ∧ (p.channel = 1 ∨ p.channel = 3 ∨ p.channel = 4) then s.twinSay p.body else s

/-- RING_PIECE_RECEIVE (R392, R497, R500, R504, R506): senders 128 and up are of the other side, heard over the twin links. -/
def execRingPieceReceive (p : Piece) (fcsOk : Bool) (s : State) : Out :=
  if 128 ≤ p.sender then .next (if fcsOk then s.actPiece p else s)
  else if p.sender = s.group.set.deviceId then .next (s.ownReturned p fcsOk)
  else
    let s := { s with sent := s.sent ++ [.passed p] }
    if !fcsOk then .next s
    else
      let s := if s.isManager then { s with group := { s.group with heard := assign s.group.heard p.sender s.now } } else s
      .next ((s.relayUp p).takeCopy p)

/-- RING_PIECE_RESEND (R392 step 5): under the same sequence number. -/
def execRingPieceResend (channel seq : Nat) (s : State) : Out :=
  let hit (x : Piece × Nat × Nat) : Bool := decide (x.1.channel = channel) && decide (x.1.seq = seq)
  match s.group.flying.find? hit with
  | none => .next s
  | some x => .next { s with group := { s.group with flying := updateFirst hit (fun y => (y.1, s.now, 0)) s.group.flying }
                             sent := s.sent ++ [.piece x.1] }

/-- RING_LINK_DOWN (R503, R592): the device folds the ring; its timebase PLL leaves ring-in. -/
def execRingLinkDown (out : Bool) (s : State) : Out :=
  let g := s.group
  let s := { s with group := { g with ringOut := g.ringOut && !out, ringIn := g.ringIn && out, folded := decide (1 < s.ids.length) }
                    power := { s.power with tbRing := false, tbChanges := s.power.tbChanges + s.power.tbRing.toNat } }
  .next (if s.group.folded then s.raise .ringFolded out.toNat else s)

/-! ### Distributed items (R391, R500, R501) -/

/-- Send the manager a body: the relay over the twin links, others round the ring (R500, R506). -/
def State.toManager (s : State) (ch : Nat) (b : Body) : State := if s.relays then s.twinSay b else s.sendPiece ch b

/-- Store an item, or act on it. -/
def State.storeItem (s : State) (i : Item) : State := match i with
  | .catalogue d t es => s.storeCatalogue { datasetId := d, total := t, entries := es }
  | .plan h bs => { s with plan := { s.plan with plans := assign s.plan.plans h (planOf bs) } }
  | .recipe h bs => { s with plan := { s.plan with recipes := assign s.plan.recipes h bs } }
  | .vocab h bs => s.setPipe { s.pipe with vocabs := s.pipe.vocabs.filter (fun v => decide (v.handle ≠ h)) ++ [⟨h, sha256 bs, bs⟩] }
  | .program h bs => s.storeProgram h bs
  | .dupSet h bs => s.setPipe { s.pipe with dupSets := s.pipe.dupSets.filter (fun v => decide (v.handle ≠ h)) ++ [⟨h, sha256 bs, bs⟩] }
  | .armEvent e => if s.gauge.armed.any (fun x => decide (x.handle = e.handle)) then s else s.armEvent e
  | .cancelEvent h => s.cancelEvent h
  | .weir t a => s.armWeir t a
  | .fence f => { s with gauge := { s.gauge with fence := max s.gauge.fence f } }
  | .membership bs => if s.group.forming.isSome then (if s.isManager then s else s.connectAll) else (s.applyRecord bs).recordNow
  | .command c _ =>
    if c = 0x0446 then { s with group := { s.group with actedFor := false, managerLost := false, relay := none } } else s
  | .ckptDone _ => s.finishCkpt
  | .ckptFailed _ => s.failCkpt
  | .proxy back dest step carry => s.takeProxyItem back dest step carry
  | .join d step plan recipe exact =>
    let s := { s with group := { s.group with joins := s.group.joins ++ [{ device := d, step := step }] } }
    if d ≠ s.group.set.deviceId then s
    else
      let s := { s with det := { s.det with exact := exact } }
      match plan with
      | some (h, bs) =>
        let p := planOf bs
        ({ s with plan := { s.plan with plans := assign s.plan.plans h p } }).runPlan h p (recipe.getD 0) step
      | none => s

/-- The item whose digest a member acknowledges: a membership record as the member itself holds it, and a catalogue that the
other side's manager has built itself (R161, R497, R500). -/
def State.ownCopy (s : State) (i : Item) : Item := match i with
  | .membership _ => .membership (if s.group.forming.isSome then s.formRecord else s.membership)
  | .catalogue d _ _ => match s.catalogue? d with
    | some c => .catalogue d c.total c.entries
    | none => i
  | _ => i

/-- Acknowledge an item: a member on channel 4; the other side's manager once its own side has (R500, R501). -/
def State.ackItem (s : State) (i : Item) (early : Bool) : State :=
  let digest := itemDigest (s.ownCopy i)
  if !s.isManager then s.toManager 4 (.ack (itemSubject i) digest early)
  else
    let here := s.audience.filter (fun d => decide (d < 128))
    if here.isEmpty then s.twinSay (.ack (itemSubject i) digest early)
    else
      let q : Quorum := ⟨itemDigest i, itemSubject i, here, .relay (itemSubject i) digest, early⟩
      let s := s.sendPiece (itemChannel i) (.item i)
      { s with group := { s.group with quorums := s.group.quorums ++ [q] } }

/-- A member cannot take a recipe change: its feed rings are too small (R308). -/
def State.cannotTake (s : State) (i : Item) : Option Status := match i with
  | .armEvent e => if e.kind = .recipeChange ∧ s.ringsTooSmall e.item then some .feedSlotSmall else none
  | _ => none

/-- A member admitted a launch of a checkpoint's step or later already (R431). -/
def State.earlyFor (s : State) (i : Item) : Bool := match i with
  | .armEvent e => decide (e.kind = .checkpoint) && s.admittedFrom e.target.step
  | _ => false

/-- An item that its receiver does not acknowledge: a command is answered on MB5, the others are reports. -/
def unacknowledged : Item → Bool
  | .command c _ => decide (c ≠ 0x0446)
  | .ckptDone _ | .ckptFailed _ | .proxy _ _ _ _ => true
  | _ => false

/-- DISTRIBUTION_RECEIVE (R391, R500, R501, R506, R510): a member stores the item and acknowledges its digest; the relay sends it
round its ring, the other side's manager round its own. -/
def execDistributionReceive (i : Item) (s : State) : Out :=
  let around : Bool := s.relays || (s.isManager && !s.leads)
  match i with
  | .ckptFailed _ | .proxy _ _ _ _ =>
    let s := if around ∧ itemChannel i = 3 ∧ s.audience.any (fun d => decide (d < 128)) then s.sendPiece 3 (.item i) else s
    .next (s.storeItem i)
  | .membership _ | .catalogue _ _ _ =>
    let foreign : Bool := s.isManager && decide (itemChannel i = 0)
    if s.leads ∧ !s.group.set.twin ∨ (s.isManager ∧ s.group.forming.isSome) then .next s
    else .next ((if foreign then s else s.storeItem i).ackItem i false)
  | _ =>
    if s.leads then .next s
    else match s.cannotTake i with
      | some st => .next (s.toManager 4 (.mb5 (itemSubject i) st.value 0))
      | none =>
        let early := s.earlyFor i
        let s := s.storeItem i
        let s := if s.relays ∨ (around ∧ unacknowledged i ∧ itemChannel i = 3) then s.sendPiece (itemChannel i) (.item i) else s
        .next (if unacknowledged i then s else s.ackItem i early)

end Sys2Proof.Machine
end

