-- ==== Sys2Proof/Machine/Dispatch.lean ====
section
/-! DEFINITION. The effect of every command, one arm per row of the opcode table. -/

namespace Sys2Proof.Machine

/-- The effect of a command on everything but the queue of waiting commands. -/
def exec (i : Instr) (s : State) : Host.Outcome State Fault Refusal :=
  match i with
  | .gaugeFrame port payload => Sys2Proof.Machine.execGaugeFrame port payload s
  | .deviceSummarySend => Sys2Proof.Machine.execDeviceSummarySend s
  | .summaryReceive device lo hi => Sys2Proof.Machine.execSummaryReceive device lo hi s
  | .gaugePublish => Sys2Proof.Machine.execGaugePublish s
  | .gaugePublicationReceive twin committed leading fence => Sys2Proof.Machine.execGaugePublicationReceive twin committed leading fence s
  | .gaugeTimeoutExpiry => Sys2Proof.Machine.execGaugeTimeoutExpiry s
  | .gaugeConfig r jobTag maxJump timeout horizon lead => Sys2Proof.Machine.execGaugeConfig r jobTag maxJump timeout horizon lead s
  | .gaugeRead r port => Sys2Proof.Machine.execGaugeRead r port s
  | .gaugeSourceCtrl r port action mark step => Sys2Proof.Machine.execGaugeSourceCtrl r port action mark step s
  | .eventArm r kind mark step item ckptKind ckptFlags ckptDest ckptAddr => Sys2Proof.Machine.execEventArm r kind mark step item ckptKind ckptFlags ckptDest ckptAddr s
  | .eventCancel r handle => Sys2Proof.Machine.execEventCancel r handle s
  | .weirArm r mark actions step gateList => Sys2Proof.Machine.execWeirArm r mark actions step gateList s
  | .weirStatus r => Sys2Proof.Machine.execWeirStatus r s
  | .weirOpen tOpen => Sys2Proof.Machine.execWeirOpen tOpen s
  | .weirOpenTime => Sys2Proof.Machine.execWeirOpenTime s
  | .timebaseCorrectionSend => Sys2Proof.Machine.execTimebaseCorrectionSend s
  | .timebaseCorrectionReceive count => Sys2Proof.Machine.execTimebaseCorrectionReceive count s
  | .poolAllocate pool ready => Sys2Proof.Machine.execPoolAllocate pool ready s
  | .bufferReturn requester pointer => Sys2Proof.Machine.execBufferReturn requester pointer s
  | .bufferHandoff pointer holder receiver => Sys2Proof.Machine.execBufferHandoff pointer holder receiver s
  | .poolCacheRefill pool => Sys2Proof.Machine.execPoolCacheRefill pool s
  | .poolCacheSpill pool => Sys2Proof.Machine.execPoolCacheSpill pool s
  | .poolCreate r pool space bufSize count base ringBase heldBase => Sys2Proof.Machine.execPoolCreate r pool space bufSize count base ringBase heldBase s
  | .poolDestroy r pool => Sys2Proof.Machine.execPoolDestroy r pool s
  | .poolQuotaSet r pool first quotas => Sys2Proof.Machine.execPoolQuotaSet r pool first quotas s
  | .poolRead r pool => Sys2Proof.Machine.execPoolRead r pool s
  | .nandOpComplete channel target op pass => Sys2Proof.Machine.execNandOpComplete channel target op pass s
  | .nandOpTimeout channel target op => Sys2Proof.Machine.execNandOpTimeout channel target op s
  | .stageProgram => Sys2Proof.Machine.execStageProgram s
  | .journalCommit => Sys2Proof.Machine.execJournalCommit s
  | .journalSnapshot => Sys2Proof.Machine.execJournalSnapshot s
  | .relocationStart superblock => Sys2Proof.Machine.execRelocationStart superblock s
  | .gcStart => Sys2Proof.Machine.execGcStart s
  | .wearLevelStart => Sys2Proof.Machine.execWearLevelStart s
  | .readCountRefresh superblock block => Sys2Proof.Machine.execReadCountRefresh superblock block s
  | .slcFold superblock => Sys2Proof.Machine.execSlcFold superblock s
  | .dieRebuildComplete stripeSet => Sys2Proof.Machine.execDieRebuildComplete stripeSet s
  | .mediaPolicySet r policy => Sys2Proof.Machine.execMediaPolicySet r policy s
  | .mediaPolicyGet r => Sys2Proof.Machine.execMediaPolicyGet r s
  | .mediaHealth r => Sys2Proof.Machine.execMediaHealth r s
  | .mediaFormat r convSize spareReserve => Sys2Proof.Machine.execMediaFormat r convSize spareReserve s
  | .sqTail qp value => Sys2Proof.Machine.execSqTail qp value s
  | .cqHead qp value => Sys2Proof.Machine.execCqHead qp value s
  | .sqFetch => Sys2Proof.Machine.execSqFetch s
  | .cqPost qp => Sys2Proof.Machine.execCqPost qp s
  | .coalTimeExpiry vector => Sys2Proof.Machine.execCoalTimeExpiry vector s
  | .read qp e => Sys2Proof.Machine.execRead qp e s
  | .write qp e => Sys2Proof.Machine.execWrite qp e s
  | .zoneAppend qp e => Sys2Proof.Machine.execZoneAppend qp e s
  | .zoneReset qp e => Sys2Proof.Machine.execZoneReset qp e s
  | .zoneFinish qp e => Sys2Proof.Machine.execZoneFinish qp e s
  | .trim qp e => Sys2Proof.Machine.execTrim qp e s
  | .flush qp e => Sys2Proof.Machine.execFlush qp e s
  | .writeDurable => Sys2Proof.Machine.execWriteDurable s
  | .identify qp e => Sys2Proof.Machine.execIdentify qp e s
  | .getLog qp e => Sys2Proof.Machine.execGetLog qp e s
  | .getFeature qp e => Sys2Proof.Machine.execGetFeature qp e s
  | .setFeature qp e => Sys2Proof.Machine.execSetFeature qp e s
  | .fwDownload qp e => Sys2Proof.Machine.execFwDownload qp e s
  | .fwCommit qp e => Sys2Proof.Machine.execFwCommit qp e s
  | .createQueue qp e => Sys2Proof.Machine.execCreateQueue qp e s
  | .deleteQueue qp e => Sys2Proof.Machine.execDeleteQueue qp e s
  | .resetQueue qp e => Sys2Proof.Machine.execResetQueue qp e s
  | .queueAdminSetup r depth sqBase cqBase => Sys2Proof.Machine.execQueueAdminSetup r depth sqBase cqBase s
  | .queueAdminReset r => Sys2Proof.Machine.execQueueAdminReset r s
  | .datasetLoad r source address length => Sys2Proof.Machine.execDatasetLoad r source address length s
  | .datasetUnload r dataset => Sys2Proof.Machine.execDatasetUnload r dataset s
  | .datasetRead r dataset => Sys2Proof.Machine.execDatasetRead r dataset s
  | .catalogueBuild r dataset => Sys2Proof.Machine.execCatalogueBuild r dataset s
  | .recipeLoad r source address length => Sys2Proof.Machine.execRecipeLoad r source address length s
  | .recipeDrop r recipe => Sys2Proof.Machine.execRecipeDrop r recipe s
  | .jobSeed r seed => Sys2Proof.Machine.execJobSeed r seed s
  | .planLoad r source address length => Sys2Proof.Machine.execPlanLoad r source address length s
  | .planRead r => Sys2Proof.Machine.execPlanRead r s
  | .planQuery r plan mode a b c => Sys2Proof.Machine.execPlanQuery r plan mode a b c s
  | .planStart r plan recipe => Sys2Proof.Machine.execPlanStart r plan recipe s
  | .planStop r => Sys2Proof.Machine.execPlanStop r s
  | .planDrop r plan => Sys2Proof.Machine.execPlanDrop r plan s
  | .stepPrepare => Sys2Proof.Machine.execStepPrepare s
  | .peerFetchRequest qp => Sys2Proof.Machine.execPeerFetchRequest qp s
  | .peerFetchReply qp => Sys2Proof.Machine.execPeerFetchReply qp s
  | .recordArrival sample => Sys2Proof.Machine.execRecordArrival sample s
  | .sampleDispatch sample => Sys2Proof.Machine.execSampleDispatch sample s
  | .slotHeaderCheck riffle slot => Sys2Proof.Machine.execSlotHeaderCheck riffle slot s
  | .slotAlloc riffle slot => Sys2Proof.Machine.execSlotAlloc riffle slot s
  | .decodeFieldEnd riffle slot => Sys2Proof.Machine.execDecodeFieldEnd riffle slot s
  | .engineYield riffle slot => Sys2Proof.Machine.execEngineYield riffle slot s
  | .budgetExceeded riffle slot => Sys2Proof.Machine.execBudgetExceeded riffle slot s
  | .transformDone riffle slot => Sys2Proof.Machine.execTransformDone riffle slot s
  | .sampleWatchdogExpiry sample => Sys2Proof.Machine.execSampleWatchdogExpiry sample s
  | .riffleEccError riffle => Sys2Proof.Machine.execRiffleEccError riffle s
  | .riffleStallTimeout riffle slot => Sys2Proof.Machine.execRiffleStallTimeout riffle slot s
  | .reseqRelease dest => Sys2Proof.Machine.execReseqRelease dest s
  | .riffleStatus r riffle => Sys2Proof.Machine.execRiffleStatus r riffle s
  | .sampleReportRead r first count => Sys2Proof.Machine.execSampleReportRead r first count s
  | .textStreamAssign sample name => Sys2Proof.Machine.execTextStreamAssign sample name s
  | .textEncodeDone plate stream => Sys2Proof.Machine.execTextEncodeDone plate stream s
  | .synthStreamAssign => Sys2Proof.Machine.execSynthStreamAssign s
  | .detokDone plate stream => Sys2Proof.Machine.execDetokDone plate stream s
  | .drawplateEccError plate => Sys2Proof.Machine.execDrawplateEccError plate s
  | .drawplateStallTimeout plate stream => Sys2Proof.Machine.execDrawplateStallTimeout plate stream s
  | .vocabLoad r source address length => Sys2Proof.Machine.execVocabLoad r source address length s
  | .vocabDrop r vocab => Sys2Proof.Machine.execVocabDrop r vocab s
  | .drawplateStatus r plate => Sys2Proof.Machine.execDrawplateStatus r plate s
  | .textProbe r recipe direction item output limit input => Sys2Proof.Machine.execTextProbe r recipe direction item output limit input s
  | .sampleScreen sample => Sys2Proof.Machine.execSampleScreen sample s
  | .kernelBoundReached ctx => Sys2Proof.Machine.execKernelBoundReached ctx s
  | .anvilRowTileSubmit stage => Sys2Proof.Machine.execAnvilRowTileSubmit stage s
  | .anvilRowTileTimeout stage => Sys2Proof.Machine.execAnvilRowTileTimeout stage s
  | .anvilJobComplete queue => Sys2Proof.Machine.execAnvilJobComplete queue s
  | .anvilEccError => Sys2Proof.Machine.execAnvilEccError s
  | .anvilTileTimeout => Sys2Proof.Machine.execAnvilTileTimeout s
  | .dupSetLoad r source address length => Sys2Proof.Machine.execDupSetLoad r source address length s
  | .dupSetDrop r set => Sys2Proof.Machine.execDupSetDrop r set s
  | .filterStatus r stage => Sys2Proof.Machine.execFilterStatus r stage s
  | .anvilStatus r => Sys2Proof.Machine.execAnvilStatus r s
  | .batchStart dest => Sys2Proof.Machine.execBatchStart dest s
  | .batchClose dest => Sys2Proof.Machine.execBatchClose dest s
  | .feedSlotWrite dest => Sys2Proof.Machine.execFeedSlotWrite dest s
  | .creditRead port => Sys2Proof.Machine.execCreditRead port s
  | .ingotClose => Sys2Proof.Machine.execIngotClose s
  | .feedRingSet r port qp baseVa rkey slots slotBytes tag => Sys2Proof.Machine.execFeedRingSet r port qp baseVa rkey slots slotBytes tag s
  | .feedRingClear r port => Sys2Proof.Machine.execFeedRingClear r port s
  | .feedQueueSet r dest depth low => Sys2Proof.Machine.execFeedQueueSet r dest depth low s
  | .feedStatus r dest => Sys2Proof.Machine.execFeedStatus r dest s
  | .synthConfig r pool dataset nextRecord firstZone lastZone records bytes => Sys2Proof.Machine.execSynthConfig r pool dataset nextRecord firstZone lastZone records bytes s
  | .synthFlush r => Sys2Proof.Machine.execSynthFlush r s
  | .synthStatus r => Sys2Proof.Machine.execSynthStatus r s
  | .formatTableRead r => Sys2Proof.Machine.execFormatTableRead r s
  | .programLoad r program source address length => Sys2Proof.Machine.execProgramLoad r program source address length s
  | .programDrop r program => Sys2Proof.Machine.execProgramDrop r program s
  | .programRead r program => Sys2Proof.Machine.execProgramRead r program s
  | .channelProgramSet r channel program => Sys2Proof.Machine.execChannelProgramSet r channel program s
  | .insnBoundReached ctx => Sys2Proof.Machine.execInsnBoundReached ctx s
  | .halt ctx w => Sys2Proof.Machine.execHalt ctx w s
  | .br ctx w => Sys2Proof.Machine.execBr ctx w s
  | .brz ctx w => Sys2Proof.Machine.execBrz ctx w s
  | .brnz ctx w => Sys2Proof.Machine.execBrnz ctx w s
  | .brany ctx w => Sys2Proof.Machine.execBrany ctx w s
  | .brnone ctx w => Sys2Proof.Machine.execBrnone ctx w s
  | .brend ctx w => Sys2Proof.Machine.execBrend ctx w s
  | .loop ctx w => Sys2Proof.Machine.execLoop ctx w s
  | .stset ctx w => Sys2Proof.Machine.execStset ctx w s
  | .smovi ctx w => Sys2Proof.Machine.execSmovi ctx w s
  | .slui ctx w => Sys2Proof.Machine.execSlui ctx w s
  | .sadd ctx w => Sys2Proof.Machine.execSadd ctx w s
  | .saddi ctx w => Sys2Proof.Machine.execSaddi ctx w s
  | .ssub ctx w => Sys2Proof.Machine.execSsub ctx w s
  | .smul ctx w => Sys2Proof.Machine.execSmul ctx w s
  | .sand ctx w => Sys2Proof.Machine.execSand ctx w s
  | .sor ctx w => Sys2Proof.Machine.execSor ctx w s
  | .sxor ctx w => Sys2Proof.Machine.execSxor ctx w s
  | .sshl ctx w => Sys2Proof.Machine.execSshl ctx w s
  | .sshr ctx w => Sys2Proof.Machine.execSshr ctx w s
  | .ssra ctx w => Sys2Proof.Machine.execSsra ctx w s
  | .scmp ctx w => Sys2Proof.Machine.execScmp ctx w s
  | .sget ctx w => Sys2Proof.Machine.execSget ctx w s
  | .sput ctx w => Sys2Proof.Machine.execSput ctx w s
  | .pand ctx w => Sys2Proof.Machine.execPand ctx w s
  | .por ctx w => Sys2Proof.Machine.execPor ctx w s
  | .pxor ctx w => Sys2Proof.Machine.execPxor ctx w s
  | .pnot ctx w => Sys2Proof.Machine.execPnot ctx w s
  | .pfirst ctx w => Sys2Proof.Machine.execPfirst ctx w s
  | .pcnt ctx w => Sys2Proof.Machine.execPcnt ctx w s
  | .vadd ctx w => Sys2Proof.Machine.execVadd ctx w s
  | .vsub ctx w => Sys2Proof.Machine.execVsub ctx w s
  | .vmul ctx w => Sys2Proof.Machine.execVmul ctx w s
  | .vfma ctx w => Sys2Proof.Machine.execVfma ctx w s
  | .vneg ctx w => Sys2Proof.Machine.execVneg ctx w s
  | .vabs ctx w => Sys2Proof.Machine.execVabs ctx w s
  | .vmin ctx w => Sys2Proof.Machine.execVmin ctx w s
  | .vmax ctx w => Sys2Proof.Machine.execVmax ctx w s
  | .vdot ctx w => Sys2Proof.Machine.execVdot ctx w s
  | .vhsum ctx w => Sys2Proof.Machine.execVhsum ctx w s
  | .vcmp ctx w => Sys2Proof.Machine.execVcmp ctx w s
  | .vsel ctx w => Sys2Proof.Machine.execVsel ctx w s
  | .vmov ctx w => Sys2Proof.Machine.execVmov ctx w s
  | .vbcast ctx w => Sys2Proof.Machine.execVbcast ctx w s
  | .viota ctx w => Sys2Proof.Machine.execViota ctx w s
  | .vzero ctx w => Sys2Proof.Machine.execVzero ctx w s
  | .vcvt ctx w => Sys2Proof.Machine.execVcvt ctx w s
  | .vqnt ctx w => Sys2Proof.Machine.execVqnt ctx w s
  | .vdqnt ctx w => Sys2Proof.Machine.execVdqnt ctx w s
  | .vsort ctx w => Sys2Proof.Machine.execVsort ctx w s
  | .vmerge ctx w => Sys2Proof.Machine.execVmerge ctx w s
  | .vgathc ctx w => Sys2Proof.Machine.execVgathc ctx w s
  | .vgaths ctx w => Sys2Proof.Machine.execVgaths ctx w s
  | .vldc ctx w => Sys2Proof.Machine.execVldc ctx w s
  | .vstc ctx w => Sys2Proof.Machine.execVstc ctx w s
  | .vcomp ctx w => Sys2Proof.Machine.execVcomp ctx w s
  | .vcrc ctx w => Sys2Proof.Machine.execVcrc ctx w s
  | .scrc ctx w => Sys2Proof.Machine.execScrc ctx w s
  | .vrand ctx w => Sys2Proof.Machine.execVrand ctx w s
  | .vld ctx w => Sys2Proof.Machine.execVld ctx w s
  | .vst ctx w => Sys2Proof.Machine.execVst ctx w s
  | .emitp ctx w => Sys2Proof.Machine.execEmitp ctx w s
  | .ssum ctx w => Sys2Proof.Machine.execSsum ctx w s
  | .launchDescriptor qp => Sys2Proof.Machine.execLaunchDescriptor qp s
  | .launchTimeoutExpiry launch => Sys2Proof.Machine.execLaunchTimeoutExpiry launch s
  | .voteReceive qp => Sys2Proof.Machine.execVoteReceive qp s
  | .nodeRun launch chunk rank level node => Sys2Proof.Machine.execNodeRun launch chunk rank level node s
  | .nodeRunEnd ctx fate => Sys2Proof.Machine.execNodeRunEnd ctx fate s
  | .partialReceive data => Sys2Proof.Machine.execPartialReceive data s
  | .chunkCommit launch chunk rank => Sys2Proof.Machine.execChunkCommit launch chunk rank s
  | .resultReceive data => Sys2Proof.Machine.execResultReceive data s
  | .launchRelease launch => Sys2Proof.Machine.execLaunchRelease launch s
  | .channelConfig r channel weight timeout spec => Sys2Proof.Machine.execChannelConfig r channel weight timeout spec s
  | .channelRead r channel => Sys2Proof.Machine.execChannelRead r channel s
  | .collPortSet r port qp => Sys2Proof.Machine.execCollPortSet r port qp s
  | .residualCreate r store elems => Sys2Proof.Machine.execResidualCreate r store elems s
  | .residualReset r store => Sys2Proof.Machine.execResidualReset r store s
  | .residualDrop r store => Sys2Proof.Machine.execResidualDrop r store s
  | .treePlanSet r policy => Sys2Proof.Machine.execTreePlanSet r policy s
  | .collectiveStatus r channel => Sys2Proof.Machine.execCollectiveStatus r channel s
  | .detModeSet r mode => Sys2Proof.Machine.execDetModeSet r mode s
  | .detRecordRead r step => Sys2Proof.Machine.execDetRecordRead r step s
  | .detRecordSign r nonce => Sys2Proof.Machine.execDetRecordSign r nonce s
  | .checkpointRead r => Sys2Proof.Machine.execCheckpointRead r s
  | .checkpointResume r flags place address => Sys2Proof.Machine.execCheckpointResume r flags place address s
  | .checkpointImageWrite outcome => Sys2Proof.Machine.execCheckpointImageWrite outcome s
  | .checkpointAckReceive device crc length => Sys2Proof.Machine.execCheckpointAckReceive device crc length s
  | .frameReceive port frame => Sys2Proof.Machine.execFrameReceive port frame s
  | .reseqArrival ingress egress number eccError => Sys2Proof.Machine.execReseqArrival ingress egress number eccError s
  | .reseqHoldTimeout egress => Sys2Proof.Machine.execReseqHoldTimeout egress s
  | .egressSelect port => Sys2Proof.Machine.execEgressSelect port s
  | .residueRetry port => Sys2Proof.Machine.execResidueRetry port s
  | .auditPass ownerless corrupt => Sys2Proof.Machine.execAuditPass ownerless corrupt s
  | .portLinkChange port up => Sys2Proof.Machine.execPortLinkChange port up s
  | .portConfig r block entries => Sys2Proof.Machine.execPortConfig r block entries s
  | .portStatus r port => Sys2Proof.Machine.execPortStatus r port s
  | .endpointSet r first entries => Sys2Proof.Machine.execEndpointSet r first entries s
  | .mcastGroupSet r group bitmap => Sys2Proof.Machine.execMcastGroupSet r group bitmap s
  | .classMapSet r port tables => Sys2Proof.Machine.execClassMapSet r port tables s
  | .queueConfig r port queue params => Sys2Proof.Machine.execQueueConfig r port queue params s
  | .shaperSet r port queue rate burst overhead => Sys2Proof.Machine.execShaperSet r port queue rate burst overhead s
  | .policerSet r policer params => Sys2Proof.Machine.execPolicerSet r policer params s
  | .gateListLoad r handle list => Sys2Proof.Machine.execGateListLoad r handle list s
  | .gateListDrop r handle => Sys2Proof.Machine.execGateListDrop r handle s
  | .switchStatus r => Sys2Proof.Machine.execSwitchStatus r s
  | .rdmaPacketReceive port packet => Sys2Proof.Machine.execRdmaPacketReceive port packet s
  | .contextFetchComplete qp => Sys2Proof.Machine.execContextFetchComplete qp s
  | .rdmaPacketSend qp => Sys2Proof.Machine.execRdmaPacketSend qp s
  | .ackTimer qp => Sys2Proof.Machine.execAckTimer qp s
  | .ackTimeout qp => Sys2Proof.Machine.execAckTimeout qp s
  | .rnrTimerExpiry qp => Sys2Proof.Machine.execRnrTimerExpiry qp s
  | .rdmaAddrSet r mac gids => Sys2Proof.Machine.execRdmaAddrSet r mac gids s
  | .rdmaStoreSet r store address => Sys2Proof.Machine.execRdmaStoreSet r store address s
  | .qpCreate r index service pool domain pin => Sys2Proof.Machine.execQpCreate r index service pool domain pin s
  | .qpModify r index attributes => Sys2Proof.Machine.execQpModify r index attributes s
  | .qpQuery r index => Sys2Proof.Machine.execQpQuery r index s
  | .qpDestroy r index => Sys2Proof.Machine.execQpDestroy r index s
  | .mrRegister r index address length vaBase domain access => Sys2Proof.Machine.execMrRegister r index address length vaBase domain access s
  | .mrDeregister r index => Sys2Proof.Machine.execMrDeregister r index s
  | .ccProfileSet r profile target ai beta cwndMin cwndMax cwndInit cnpEnable => Sys2Proof.Machine.execCcProfileSet r profile target ai beta cwndMin cwndMax cwndInit cnpEnable s
  | .rdmaStatus r block => Sys2Proof.Machine.execRdmaStatus r block s
  | .ringPieceReceive p fcsOk => Sys2Proof.Machine.execRingPieceReceive p fcsOk s
  | .ringPieceResend channel seq => Sys2Proof.Machine.execRingPieceResend channel seq s
  | .distributionReceive item => Sys2Proof.Machine.execDistributionReceive item s
  | .quorumAckReceive device ack => Sys2Proof.Machine.execQuorumAckReceive device ack s
  | .helloSend => Sys2Proof.Machine.execHelloSend s
  | .heartbeatSend => Sys2Proof.Machine.execHeartbeatSend s
  | .twinKeepaliveSend => Sys2Proof.Machine.execTwinKeepaliveSend s
  | .formationRetry => Sys2Proof.Machine.execFormationRetry s
  | .formTimeoutExpiry => Sys2Proof.Machine.execFormTimeoutExpiry s
  | .memberSilenceTimeout device => Sys2Proof.Machine.execMemberSilenceTimeout device s
  | .managerSilenceTimeout => Sys2Proof.Machine.execManagerSilenceTimeout s
  | .ringLinkDown out => Sys2Proof.Machine.execRingLinkDown out s
  | .proxyBatchReceive dest step last header payload => Sys2Proof.Machine.execProxyBatchReceive dest step last header payload s
  | .groupConfig r groupId side deviceId managerId twin expected formTimeout mgrTimeout twinLag => Sys2Proof.Machine.execGroupConfig r groupId side deviceId managerId twin expected formTimeout mgrTimeout twinLag s
  | .groupForm r => Sys2Proof.Machine.execGroupForm r s
  | .groupStatus r => Sys2Proof.Machine.execGroupStatus r s
  | .deviceAdmit r device => Sys2Proof.Machine.execDeviceAdmit r device s
  | .deviceService r device action => Sys2Proof.Machine.execDeviceService r device action s
  | .managerTakeover r => Sys2Proof.Machine.execManagerTakeover r s
  | .managerRestore r => Sys2Proof.Machine.execManagerRestore r s
  | .answerTimeout r => Sys2Proof.Machine.execAnswerTimeout r s
  | .lkWatchdogExpiry => Sys2Proof.Machine.execLkWatchdogExpiry s
  | .lkSramEccError error => Sys2Proof.Machine.execLkSramEccError error s
  | .mgmtRestartEnd crcOk => Sys2Proof.Machine.execMgmtRestartEnd crcOk s
  | .identityRead r => Sys2Proof.Machine.execIdentityRead r s
  | .mailboxStatus r mailbox => Sys2Proof.Machine.execMailboxStatus r mailbox s
  | .unitMapRead r => Sys2Proof.Machine.execUnitMapRead r s
  | .echo r data => Sys2Proof.Machine.execEcho r data s
  | .configRead r copy offset length => Sys2Proof.Machine.execConfigRead r copy offset length s
  | .configWrite r image => Sys2Proof.Machine.execConfigWrite r image s
  | .calRead r layer field => Sys2Proof.Machine.execCalRead r layer field s
  | .calWrite r field offset => Sys2Proof.Machine.execCalWrite r field offset s
  | .ownerEnrol r record => Sys2Proof.Machine.execOwnerEnrol r record s
  | .ownerRevoke r revocation => Sys2Proof.Machine.execOwnerRevoke r revocation s
  | .attest r nonce => Sys2Proof.Machine.execAttest r nonce s
  | .certRead r index => Sys2Proof.Machine.execCertRead r index s
  | .fwImageWrite r offset data => Sys2Proof.Machine.execFwImageWrite r offset data s
  | .fwImageCommit r action => Sys2Proof.Machine.execFwImageCommit r action s
  | .fwStatusRead r => Sys2Proof.Machine.execFwStatusRead r s
  | .reset r scope target => Sys2Proof.Machine.execReset r scope target s
  | .domainSet r domain action => Sys2Proof.Machine.execDomainSet r domain action s
  | .powerRead r => Sys2Proof.Machine.execPowerRead r s
  | .throttleSet r limit => Sys2Proof.Machine.execThrottleSet r limit s
  | .logRead r log offset length => Sys2Proof.Machine.execLogRead r log offset length s
  | .counterRead r block first count => Sys2Proof.Machine.execCounterRead r block first count s
  | .telemetrySet r on interval destination place extent => Sys2Proof.Machine.execTelemetrySet r on interval destination place extent s
  | .eventMaskSet r bitmap => Sys2Proof.Machine.execEventMaskSet r bitmap s
  | .sensorRead r index => Sys2Proof.Machine.execSensorRead r index s
  | .logClear r log => Sys2Proof.Machine.execLogClear r log s
  | .norWriteComplete pass => Sys2Proof.Machine.execNorWriteComplete pass s
  | .retireRecordWrite => Sys2Proof.Machine.execRetireRecordWrite s
  | .fwRestartBegin => Sys2Proof.Machine.execFwRestartBegin s
  | .fwWriteBackDone pass => Sys2Proof.Machine.execFwWriteBackDone pass s
  | .probationEnd => Sys2Proof.Machine.execProbationEnd s
  | .fwSessionIdleTimeout => Sys2Proof.Machine.execFwSessionIdleTimeout s
  | .hlResetReqCold => Sys2Proof.Machine.execHlResetReqCold s
  | .hlResetReqWarm => Sys2Proof.Machine.execHlResetReqWarm s
  | .allocReq block value => Sys2Proof.Machine.execAllocReq block value s
  | .returnReg block value => Sys2Proof.Machine.execReturnReg block value s
  | .mbDoorbell mailbox => Sys2Proof.Machine.execMbDoorbell mailbox s
  | .respReady mailbox => Sys2Proof.Machine.execRespReady mailbox s
  | .mb7Pop => Sys2Proof.Machine.execMb7Pop s
  | .registerWrite offset size value => Sys2Proof.Machine.execRegisterWrite offset size value s
  | .hostMemAccess address length data => Sys2Proof.Machine.execHostMemAccess address length data s
  | .ucieModuleLost module => Sys2Proof.Machine.execUcieModuleLost module s
  | .lpddr6Ue address reader => Sys2Proof.Machine.execLpddr6Ue address reader s
  | .sysRstN low => Sys2Proof.Machine.execSysRstN low s
  | .powerOn => Sys2Proof.Machine.execPowerOn s
  | .pllLockLoss pll => Sys2Proof.Machine.execPllLockLoss pll s
  | .shadowParityError => Sys2Proof.Machine.execShadowParityError s
  | .poolPointerEcc pool => Sys2Proof.Machine.execPoolPointerEcc pool s
  | .resetRelease bootSrc clkMode => Sys2Proof.Machine.execResetRelease bootSrc clkMode s
  | .mgmtRegionRelease norReadable => Sys2Proof.Machine.execMgmtRegionRelease norReadable s
  | .rstOutNRelease => Sys2Proof.Machine.execRstOutNRelease s
  | .lpddr6TrainingDone failed found => Sys2Proof.Machine.execLpddr6TrainingDone failed found s
  | .journalRecoveryDone => Sys2Proof.Machine.execJournalRecoveryDone s
  | .configApply => Sys2Proof.Machine.execConfigApply s
  | .blockResetRelease target => Sys2Proof.Machine.execBlockResetRelease target s
  | .selfTestDone target pass => Sys2Proof.Machine.execSelfTestDone target pass s
  | .domainDrainDone domain => Sys2Proof.Machine.execDomainDrainDone domain s
  | .domainPowerGood domain good => Sys2Proof.Machine.execDomainPowerGood domain good s
  | .domainPowerUpTimeout domain => Sys2Proof.Machine.execDomainPowerUpTimeout domain s
  | .d2dReplayFail link => Sys2Proof.Machine.execD2dReplayFail link s
  | .d2dRetrainTimeout link => Sys2Proof.Machine.execD2dRetrainTimeout link s
  | .sensorSample temperatures rails => Sys2Proof.Machine.execSensorSample temperatures rails s
  | .throttleEval power domainPower throttleLow => Sys2Proof.Machine.execThrottleEval power domainPower throttleLow s
  | .telemetryEmit => Sys2Proof.Machine.execTelemetryEmit s
  | .ucieLinkTrained modules => Sys2Proof.Machine.execUcieLinkTrained modules s
  | .d2dRetrainDone link => Sys2Proof.Machine.execD2dRetrainDone link s
  | .lpddr6PatrolScrub channel lines corrected => Sys2Proof.Machine.execLpddr6PatrolScrub channel lines corrected s
  | .maintenanceDatagram source message => Sys2Proof.Machine.execMaintenanceDatagram source message s
  | .mboxDataScan message => Sys2Proof.Machine.execMboxDataScan message s

end Sys2Proof.Machine
end

