-- ==== Sys2Proof/Safety.lean ====
section
/-! DEFINITION. What the statements about the block are said in: the form of a request, who may lead, and the part of the state
that answers and messages may change. -/

namespace Sys2Proof.Machine

/-- The payload of a request passes the checks of its form, of length and of padding (R523, R640). -/
abbrev FormOk (s : State) (r : Req) (code : Nat) : Prop := s.verdict r code none = none

/-- A manager command of this request is not turned away with NOT_MANAGER (R519, R523, R542). -/
abbrev MayManage (s : State) (r : Req) : Prop := r.mb = 5 ∨ r.mb = 7 ∨ s.leads = true

/-- `s` with the mailboxes, MB7, the held objects, the noted entry, the MSI-X messages, the ring's sending side and the record of
what was sent as they are in `t`. -/
def State.voicedAs (s t : State) : State :=
  { s with lock := { s.lock with boxes := t.lock.boxes, held := t.lock.held, mb7 := t.lock.mb7, entry := t.lock.entry }
           link := { s.link with msix := t.link.msix, pba := t.link.pba }
           group := { s.group with nextSeq := t.group.nextSeq, flying := t.group.flying, queued := t.group.queued }
           sent := t.sent }

/-- Nothing but what the block says differs between two states: an answer, an event, a piece of the ring, a message. -/
abbrev OnlySpeaks (s t : State) : Prop := t = s.voicedAs t

/-- The LPDDR6 image is in canonical form: addresses strictly rising, no entry that an unlisted address would read as. -/
abbrev MemoryOk (s : State) : Prop := s.mem.wf = true

/-- Every sticky log holds at most its CAPACITY (R610). -/
abbrev LogsBounded (s : State) : Prop := ∀ l ∈ s.tel.logs, l.entries.length ≤ l.id.capacity

/-- Context `c` of number `ctx` is about to execute the word of opcode `op` and fields `w` (R336, R350, R371). -/
abbrev Issues (s : State) (ctx op : Nat) (w : Fields) (c : NgCtx) : Prop := s.ctx? ctx = some c ∧ c.about op w = true

/-- The registers of a context hold what fits them: 16 vectors of 4,096 bits, 16 scalars of 64 bits, 8 predicates (R338). -/
def NgCtx.fits (c : NgCtx) : Bool :=
  decide (c.v.length = 16) && c.v.all (fun n => decide (n < 2 ^ 4096)) && decide (c.s.length = 16) &&
    c.s.all (fun n => decide (n < 2 ^ 64)) && decide (c.p.length = 8)

/-- A scalar register as a word of 64 bits (R372). -/
def NgCtx.word (c : NgCtx) (n : Nat) : BitVec 64 := BitVec.ofNat 64 (c.sr n)

/-- Context `c` after it has executed an instruction that goes on. -/
def NgCtx.after (c : NgCtx) : NgCtx := { c with pc := c.pc + 1, executed := c.executed + 1 }

/-- Context `c` after a scalar result `v` in register `d`. -/
def NgCtx.scalarAfter (c : NgCtx) (d : Nat) (v : BitVec 64) : NgCtx := { c.after with s := c.s.set d v.toNat }

/-- Context `c` after a branch. -/
def NgCtx.branchAfter (c : NgCtx) (taken : Bool) (target : Nat) : NgCtx :=
  { c with pc := if taken then target else c.pc + 1, executed := c.executed + 1 }

/-- Lane `i` of a register in the element view of `f` (R339). -/
def laneOf (f : Fmt) (reg i : Nat) : Nat := reg / 2 ^ (f.bits * i) % 2 ^ f.bits

/-- Context `u` differs from `c` only in vector register `d`, its flags and statistics, and has executed one more instruction. -/
def VectorOnly (c u : NgCtx) (d : Nat) : Prop :=
  u = { c.after with v := u.v, flags := u.flags, stats := u.stats } ∧ ∀ n, n ≠ d → u.vr n = c.vr n

/-- The leaves below an operand of a tree, from left to right (R409). -/
def leavesUnder (ns : List TNode) : Nat → Opnd → List Nat
  | _, .leaf i => [i]
  | 0, .node _ => []
  | fuel + 1, .node k => match ns.find? (fun t => decide (t.k = k)) with
    | none => []
    | some t => leavesUnder ns fuel t.left ++ leavesUnder ns fuel t.right

/-- A run of `n` steps meets no fault and no refusal. -/
def runsSafely : Nat → State → Bool
  | 0, _ => true
  | n + 1, s => match step s with
    | .next t => runsSafely n t
    | .fault _ => false
    | .refused _ => false

end Sys2Proof.Machine
end

