-- ==== Sys2Proof/WellFormed.lean ====
section
/-! DEFINITION. When a command is well formed: its operands fit the fields that carry them (R130, R360, R520, R522) and name units
that exist (R44). -/

namespace Sys2Proof

/-- A number fits a field of so many bytes. -/
def sized (n v : Nat) : Bool := decide (v < 2 ^ (8 * n))

/-- A number lies below a count. -/
def below (n v : Nat) : Bool := decide (v < n)

/-- A request of MB0 to MB6 with its 32-bit TAG and 16-bit SEQUENCE (R517, R520). -/
def Req.wf (r : Req) : Bool := below 7 r.mb && sized 4 r.tag && sized 2 r.seq

/-- A submission entry whose fields fit R130. -/
def SqEntry.wf (e : SqEntry) : Bool :=
  sized 1 e.opcode && sized 1 e.flags && sized 2 e.cmdId && sized 4 e.reserved4 && sized 8 e.bufAddr && sized 8 e.slba
    && sized 4 e.nlb && sized 4 e.reserved28 && decide (e.params.length = 8) && e.params.all (sized 4)

/-- Fields of an instruction word that fit R360. -/
def Fields.wf (w : Fields) : Bool :=
  below 16 w.d && below 16 w.a && below 16 w.b && below 16 w.c && below 8 w.p && below 2 w.pe && below 32 w.f && below 4 w.rm
    && below (2 ^ 28) w.imm

/-- A command whose operands fit their fields. -/
def Instr.wellFormed : Instr → Bool
  | .gaugeFrame port _ => below 256 port
  | .deviceSummarySend => true
  | .summaryReceive device _ _ => below 128 device
  | .gaugePublish => true
  | .gaugePublicationReceive _ _ _ _ => true
  | .gaugeTimeoutExpiry => true
  | .gaugeConfig r jobTag maxJump timeout horizon lead => r.wf && sized 2 jobTag && sized 2 maxJump && sized 4 timeout && sized 1 horizon && sized 4 lead
  | .gaugeRead r port => r.wf && sized 2 port
  | .gaugeSourceCtrl r port action mark step => r.wf && sized 2 port && sized 1 action && sized 1 mark && sized 8 step
  | .eventArm r kind mark step item ckptKind ckptFlags ckptDest ckptAddr => r.wf && sized 1 kind && sized 1 mark && sized 8 step && sized 2 item && sized 1 ckptKind && sized 1 ckptFlags && sized 1 ckptDest && sized 8 ckptAddr
  | .eventCancel r handle => r.wf && sized 4 handle
  | .weirArm r mark actions step gateList => r.wf && sized 1 mark && sized 1 actions && sized 8 step && sized 2 gateList
  | .weirStatus r => r.wf
  | .weirOpen tOpen => sized 8 tOpen
  | .weirOpenTime => true
  | .timebaseCorrectionSend => true
  | .timebaseCorrectionReceive _ => true
  | .poolAllocate pool ready => below 64 pool && ready.all (below 256)
  | .bufferReturn requester pointer => below 256 requester && sized 8 pointer
  | .bufferHandoff pointer holder receiver => below 256 holder && below 256 receiver && sized 8 pointer
  | .poolCacheRefill pool => below 64 pool
  | .poolCacheSpill pool => below 64 pool
  | .poolCreate r pool space bufSize count base ringBase heldBase => r.wf && sized 2 pool && sized 1 space && sized 4 bufSize && sized 4 count && sized 8 base && sized 8 ringBase && sized 8 heldBase
  | .poolDestroy r pool => r.wf && sized 2 pool
  | .poolQuotaSet r pool first quotas => r.wf && sized 2 pool && sized 2 first && quotas.all (sized 4)
  | .poolRead r pool => r.wf && sized 2 pool
  | .nandOpComplete channel target _ _ => below 48 channel && below 16 target
  | .nandOpTimeout channel target _ => below 48 channel && below 16 target
  | .stageProgram => true
  | .journalCommit => true
  | .journalSnapshot => true
  | .relocationStart _ => true
  | .gcStart => true
  | .wearLevelStart => true
  | .readCountRefresh _ block => below 16 block
  | .slcFold _ => true
  | .dieRebuildComplete stripeSet => below 48 stripeSet
  | .mediaPolicySet r _ => r.wf
  | .mediaPolicyGet r => r.wf
  | .mediaHealth r => r.wf
  | .mediaFormat r convSize spareReserve => r.wf && sized 8 convSize && sized 1 spareReserve
  | .sqTail qp value => below 256 qp && sized 4 value
  | .cqHead qp value => below 256 qp && sized 4 value
  | .sqFetch => true
  | .cqPost qp => below 256 qp
  | .coalTimeExpiry vector => below 32 vector
  | .read qp e => below 256 qp && e.wf
  | .write qp e => below 256 qp && e.wf
  | .zoneAppend qp e => below 256 qp && e.wf
  | .zoneReset qp e => below 256 qp && e.wf
  | .zoneFinish qp e => below 256 qp && e.wf
  | .trim qp e => below 256 qp && e.wf
  | .flush qp e => below 256 qp && e.wf
  | .writeDurable => true
  | .identify qp e => below 256 qp && e.wf
  | .getLog qp e => below 256 qp && e.wf
  | .getFeature qp e => below 256 qp && e.wf
  | .setFeature qp e => below 256 qp && e.wf
  | .fwDownload qp e => below 256 qp && e.wf
  | .fwCommit qp e => below 256 qp && e.wf
  | .createQueue qp e => below 256 qp && e.wf
  | .deleteQueue qp e => below 256 qp && e.wf
  | .resetQueue qp e => below 256 qp && e.wf
  | .queueAdminSetup r depth sqBase cqBase => r.wf && sized 2 depth && sized 8 sqBase && sized 8 cqBase
  | .queueAdminReset r => r.wf
  | .datasetLoad r source address length => r.wf && sized 1 source && sized 8 address && sized 4 length
  | .datasetUnload r dataset => r.wf && sized 8 dataset
  | .datasetRead r dataset => r.wf && sized 8 dataset
  | .catalogueBuild r dataset => r.wf && sized 8 dataset
  | .recipeLoad r source address length => r.wf && sized 1 source && sized 8 address && sized 4 length
  | .recipeDrop r recipe => r.wf && sized 2 recipe
  | .jobSeed r _ => r.wf
  | .planLoad r source address length => r.wf && sized 1 source && sized 8 address && sized 4 length
  | .planRead r => r.wf
  | .planQuery r plan mode a b c => r.wf && sized 2 plan && sized 1 mode && sized 8 a && sized 8 b && sized 8 c
  | .planStart r plan recipe => r.wf && sized 2 plan && sized 2 recipe
  | .planStop r => r.wf
  | .planDrop r plan => r.wf && sized 2 plan
  | .stepPrepare => true
  | .peerFetchRequest qp => below 65536 qp
  | .peerFetchReply qp => below 65536 qp
  | .recordArrival _ => true
  | .sampleDispatch _ => true
  | .slotHeaderCheck riffle slot => below 8 riffle && below 24 slot
  | .slotAlloc riffle slot => below 8 riffle && below 24 slot
  | .decodeFieldEnd riffle slot => below 8 riffle && below 24 slot
  | .engineYield riffle slot => below 8 riffle && below 24 slot
  | .budgetExceeded riffle slot => below 8 riffle && below 24 slot
  | .transformDone riffle slot => below 8 riffle && below 24 slot
  | .sampleWatchdogExpiry _ => true
  | .riffleEccError riffle => below 8 riffle
  | .riffleStallTimeout riffle slot => below 8 riffle && below 24 slot
  | .reseqRelease _ => true
  | .riffleStatus r riffle => r.wf && sized 1 riffle
  | .sampleReportRead r first count => r.wf && sized 8 first && sized 2 count
  | .textStreamAssign _ _ => true
  | .textEncodeDone plate stream => below 2 plate && below 24 stream
  | .synthStreamAssign => true
  | .detokDone plate stream => below 2 plate && below 24 stream
  | .drawplateEccError plate => below 2 plate
  | .drawplateStallTimeout plate stream => below 2 plate && below 24 stream
  | .vocabLoad r source address length => r.wf && sized 1 source && sized 8 address && sized 4 length
  | .vocabDrop r vocab => r.wf && sized 2 vocab
  | .drawplateStatus r plate => r.wf && sized 1 plate
  | .textProbe r recipe direction item output limit _ => r.wf && sized 2 recipe && sized 1 direction && sized 4 item && sized 8 output && sized 4 limit
  | .sampleScreen _ => true
  | .kernelBoundReached _ => true
  | .anvilRowTileSubmit stage => below 2 stage
  | .anvilRowTileTimeout stage => below 2 stage
  | .anvilJobComplete queue => below 2 queue
  | .anvilEccError => true
  | .anvilTileTimeout => true
  | .dupSetLoad r source address length => r.wf && sized 1 source && sized 8 address && sized 4 length
  | .dupSetDrop r set => r.wf && sized 2 set
  | .filterStatus r stage => r.wf && sized 1 stage
  | .anvilStatus r => r.wf
  | .batchStart _ => true
  | .batchClose _ => true
  | .feedSlotWrite _ => true
  | .creditRead port => below 256 port
  | .ingotClose => true
  | .feedRingSet r port qp baseVa rkey slots slotBytes tag => r.wf && sized 2 port && sized 2 qp && sized 8 baseVa && sized 4 rkey && sized 2 slots && sized 4 slotBytes && sized 4 tag
  | .feedRingClear r port => r.wf && sized 2 port
  | .feedQueueSet r dest depth low => r.wf && sized 2 dest && sized 1 depth && sized 1 low
  | .feedStatus r dest => r.wf && sized 2 dest
  | .synthConfig r pool dataset nextRecord firstZone lastZone records bytes => r.wf && sized 2 pool && sized 8 dataset && sized 8 nextRecord && sized 4 firstZone && sized 4 lastZone && sized 4 records && sized 4 bytes
  | .synthFlush r => r.wf
  | .synthStatus r => r.wf
  | .formatTableRead r => r.wf
  | .programLoad r program source address length => r.wf && sized 2 program && sized 1 source && sized 8 address && sized 4 length
  | .programDrop r program => r.wf && sized 2 program
  | .programRead r program => r.wf && sized 2 program
  | .channelProgramSet r channel program => r.wf && sized 2 channel && sized 2 program
  | .insnBoundReached _ => true
  | .halt _ w => w.wf
  | .br _ w => w.wf
  | .brz _ w => w.wf
  | .brnz _ w => w.wf
  | .brany _ w => w.wf
  | .brnone _ w => w.wf
  | .brend _ w => w.wf
  | .loop _ w => w.wf
  | .stset _ w => w.wf
  | .smovi _ w => w.wf
  | .slui _ w => w.wf
  | .sadd _ w => w.wf
  | .saddi _ w => w.wf
  | .ssub _ w => w.wf
  | .smul _ w => w.wf
  | .sand _ w => w.wf
  | .sor _ w => w.wf
  | .sxor _ w => w.wf
  | .sshl _ w => w.wf
  | .sshr _ w => w.wf
  | .ssra _ w => w.wf
  | .scmp _ w => w.wf
  | .sget _ w => w.wf
  | .sput _ w => w.wf
  | .pand _ w => w.wf
  | .por _ w => w.wf
  | .pxor _ w => w.wf
  | .pnot _ w => w.wf
  | .pfirst _ w => w.wf
  | .pcnt _ w => w.wf
  | .vadd _ w => w.wf
  | .vsub _ w => w.wf
  | .vmul _ w => w.wf
  | .vfma _ w => w.wf
  | .vneg _ w => w.wf
  | .vabs _ w => w.wf
  | .vmin _ w => w.wf
  | .vmax _ w => w.wf
  | .vdot _ w => w.wf
  | .vhsum _ w => w.wf
  | .vcmp _ w => w.wf
  | .vsel _ w => w.wf
  | .vmov _ w => w.wf
  | .vbcast _ w => w.wf
  | .viota _ w => w.wf
  | .vzero _ w => w.wf
  | .vcvt _ w => w.wf
  | .vqnt _ w => w.wf
  | .vdqnt _ w => w.wf
  | .vsort _ w => w.wf
  | .vmerge _ w => w.wf
  | .vgathc _ w => w.wf
  | .vgaths _ w => w.wf
  | .vldc _ w => w.wf
  | .vstc _ w => w.wf
  | .vcomp _ w => w.wf
  | .vcrc _ w => w.wf
  | .scrc _ w => w.wf
  | .vrand _ w => w.wf
  | .vld _ w => w.wf
  | .vst _ w => w.wf
  | .emitp _ w => w.wf
  | .ssum _ w => w.wf
  | .launchDescriptor qp => below 65536 qp
  | .launchTimeoutExpiry _ => true
  | .voteReceive qp => below 65536 qp
  | .nodeRun _ _ _ _ _ => true
  | .nodeRunEnd _ _ => true
  | .partialReceive _ => true
  | .chunkCommit _ _ _ => true
  | .resultReceive _ => true
  | .launchRelease _ => true
  | .channelConfig r channel weight timeout _ => r.wf && sized 2 channel && sized 1 weight && sized 4 timeout
  | .channelRead r channel => r.wf && sized 2 channel
  | .collPortSet r port qp => r.wf && sized 2 port && sized 2 qp
  | .residualCreate r store elems => r.wf && sized 2 store && sized 4 elems
  | .residualReset r store => r.wf && sized 2 store
  | .residualDrop r store => r.wf && sized 2 store
  | .treePlanSet r policy => r.wf && sized 1 policy
  | .collectiveStatus r channel => r.wf && sized 2 channel
  | .detModeSet r mode => r.wf && sized 1 mode
  | .detRecordRead r step => r.wf && sized 8 step
  | .detRecordSign r _ => r.wf
  | .checkpointRead r => r.wf
  | .checkpointResume r flags place address => r.wf && sized 1 flags && sized 8 place && sized 1 address
  | .checkpointImageWrite _ => true
  | .checkpointAckReceive device crc length => below 128 device && sized 4 crc && sized 8 length
  | .frameReceive port _ => below 256 port
  | .reseqArrival ingress egress _ _ => below 256 ingress && below 256 egress
  | .reseqHoldTimeout egress => below 256 egress
  | .egressSelect port => below 256 port
  | .residueRetry port => below 256 port
  | .auditPass _ _ => true
  | .portLinkChange port _ => below 256 port
  | .portConfig r block entries => r.wf && sized 2 block && sized 2 entries.length
  | .portStatus r port => r.wf && sized 2 port
  | .endpointSet r first entries => r.wf && sized 2 first && below 256 entries.length
  | .mcastGroupSet r group _ => r.wf && sized 2 group
  | .classMapSet r port _ => r.wf && sized 2 port
  | .queueConfig r port queue _ => r.wf && sized 2 port && sized 2 queue
  | .shaperSet r port queue rate burst overhead => r.wf && sized 2 port && sized 2 queue && sized 4 rate && sized 4 burst && sized 1 overhead
  | .policerSet r policer _ => r.wf && sized 2 policer
  | .gateListLoad r handle _ => r.wf && sized 2 handle
  | .gateListDrop r handle => r.wf && sized 2 handle
  | .switchStatus r => r.wf
  | .rdmaPacketReceive port _ => below 256 port
  | .contextFetchComplete qp => below 65536 qp
  | .rdmaPacketSend qp => below 65536 qp
  | .ackTimer qp => below 65536 qp
  | .ackTimeout qp => below 65536 qp
  | .rnrTimerExpiry qp => below 65536 qp
  | .rdmaAddrSet r mac gids => r.wf && sized 8 mac && below 5 gids.length
  | .rdmaStoreSet r store address => r.wf && sized 1 store && sized 8 address
  | .qpCreate r index service pool domain pin => r.wf && sized 2 index && sized 1 service && sized 2 pool && sized 2 domain && sized 1 pin
  | .qpModify r index _ => r.wf && sized 2 index
  | .qpQuery r index => r.wf && sized 2 index
  | .qpDestroy r index => r.wf && sized 2 index
  | .mrRegister r index address length vaBase domain access => r.wf && sized 2 index && sized 8 address && sized 8 length && sized 8 vaBase && sized 2 domain && sized 1 access
  | .mrDeregister r index => r.wf && sized 2 index
  | .ccProfileSet r profile target ai beta cwndMin cwndMax cwndInit cnpEnable => r.wf && sized 1 profile && sized 4 target && sized 4 ai && sized 1 beta && sized 4 cwndMin && sized 4 cwndMax && sized 4 cwndInit && sized 1 cnpEnable
  | .rdmaStatus r block => r.wf && sized 2 block
  | .ringPieceReceive _ _ => true
  | .ringPieceResend channel seq => below 6 channel && sized 2 seq
  | .distributionReceive _ => true
  | .quorumAckReceive device _ => below 128 device
  | .helloSend => true
  | .heartbeatSend => true
  | .twinKeepaliveSend => true
  | .formationRetry => true
  | .formTimeoutExpiry => true
  | .memberSilenceTimeout device => below 128 device
  | .managerSilenceTimeout => true
  | .ringLinkDown _ => true
  | .proxyBatchReceive _ _ _ _ _ => true
  | .groupConfig r groupId side deviceId managerId twin expected formTimeout mgrTimeout twinLag => r.wf && sized 8 groupId && sized 1 side && sized 2 deviceId && sized 2 managerId && sized 1 twin && sized 16 expected && sized 4 formTimeout && sized 4 mgrTimeout && sized 2 twinLag
  | .groupForm r => r.wf
  | .groupStatus r => r.wf
  | .deviceAdmit r device => r.wf && sized 2 device
  | .deviceService r device action => r.wf && sized 2 device && sized 1 action
  | .managerTakeover r => r.wf
  | .managerRestore r => r.wf
  | .answerTimeout r => r.wf
  | .lkWatchdogExpiry => true
  | .lkSramEccError _ => true
  | .mgmtRestartEnd _ => true
  | .identityRead r => r.wf
  | .mailboxStatus r mailbox => r.wf && sized 1 mailbox
  | .unitMapRead r => r.wf
  | .echo r _ => r.wf
  | .configRead r copy offset length => r.wf && sized 1 copy && sized 4 offset && sized 4 length
  | .configWrite r _ => r.wf
  | .calRead r layer field => r.wf && sized 1 layer && sized 2 field
  | .calWrite r field offset => r.wf && sized 2 field && decide (-2147483648 ≤ offset) && decide (offset < 2147483648)
  | .ownerEnrol r _ => r.wf
  | .ownerRevoke r _ => r.wf
  | .attest r _ => r.wf
  | .certRead r index => r.wf && sized 1 index
  | .fwImageWrite r offset _ => r.wf && sized 4 offset
  | .fwImageCommit r action => r.wf && sized 1 action
  | .fwStatusRead r => r.wf
  | .reset r scope target => r.wf && sized 1 scope && sized 2 target
  | .domainSet r domain action => r.wf && sized 1 domain && sized 1 action
  | .powerRead r => r.wf
  | .throttleSet r limit => r.wf && sized 4 limit
  | .logRead r log offset length => r.wf && sized 2 log && sized 4 offset && sized 4 length
  | .counterRead r block first count => r.wf && sized 2 block && sized 4 first && sized 2 count
  | .telemetrySet r on interval destination place extent => r.wf && sized 1 on && sized 4 interval && sized 1 destination && sized 8 place && sized 2 extent
  | .eventMaskSet r _ => r.wf
  | .sensorRead r index => r.wf && sized 2 index
  | .logClear r log => r.wf && sized 2 log
  | .norWriteComplete _ => true
  | .retireRecordWrite => true
  | .fwRestartBegin => true
  | .fwWriteBackDone _ => true
  | .probationEnd => true
  | .fwSessionIdleTimeout => true
  | .hlResetReqCold => true
  | .hlResetReqWarm => true
  | .allocReq block value => below 15 block && sized 8 value
  | .returnReg block value => below 15 block && sized 8 value
  | .mbDoorbell mailbox => below 4 mailbox
  | .respReady mailbox => below 4 mailbox
  | .mb7Pop => true
  | .registerWrite offset _ value => below 65536 offset && sized 8 value
  | .hostMemAccess address _ _ => sized 8 address
  | .ucieModuleLost module => below 4 module
  | .lpddr6Ue address _ => sized 8 address
  | .sysRstN _ => true
  | .powerOn => true
  | .pllLockLoss pll => decide (1 ≤ pll) && below 11 pll
  | .shadowParityError => true
  | .poolPointerEcc pool => below 64 pool
  | .resetRelease _ _ => true
  | .mgmtRegionRelease _ => true
  | .rstOutNRelease => true
  | .lpddr6TrainingDone failed found => failed.all (below 48) && found.all (fun f => below 48 f.channel && below 16 f.target)
  | .journalRecoveryDone => true
  | .configApply => true
  | .blockResetRelease target => below 0x61E target
  | .selfTestDone target _ => below 0x61E target
  | .domainDrainDone domain => below 30 domain
  | .domainPowerGood domain _ => below 30 domain
  | .domainPowerUpTimeout domain => below 30 domain
  | .d2dReplayFail link => below 9 link
  | .d2dRetrainTimeout link => below 9 link
  | .sensorSample temperatures rails => decide (temperatures.length = 16) && decide (rails.length = 8)
  | .throttleEval _ domainPower _ => decide (domainPower.length = 30)
  | .telemetryEmit => true
  | .ucieLinkTrained modules => modules.all (below 4)
  | .d2dRetrainDone link => below 9 link
  | .lpddr6PatrolScrub channel _ _ => below 48 channel
  | .maintenanceDatagram source _ => sized 4 source
  | .mboxDataScan _ => true

end Sys2Proof
end

