-- ==== Sys2Proof/Certificates/Slice0/Obligations.lean ====
section
/-! DEFINITION. The statements about the block, for the provers. -/

open Sys2Proof Sys2Proof.Machine


/-! ### Chapter 02: the Gauge and the Weir -/

/-- The filter of R57 with the reasons of R58: the first check that fails names the reason, the eighth rejection in a row
quarantines the source and raises its event, and an accepted frame moves the source's Gauge and clears its rejections. A device
without a job tag takes no frame's tag as its own (the model's choice, log entry 21). -/
def Obligations.GaugeFrameFilter : Prop :=
  ∀ (s : State) (p : Nat) (payload : Bytes), s.isAccel p = true → (s.source p).quarantined = false →
    let x := s.source p
    let mark := fieldAt payload 1 1
    let d := (fieldAt payload 4 4 + 2 ^ 32 - x.lastStep % 2 ^ 32) % 2 ^ 32
    let reason : Nat :=
      if fieldAt payload 0 1 ≠ 1 ∨ 16 ≤ mark ∨ (payload.drop 8).any (· ≠ 0) = true then 1
      else if fieldAt payload 2 2 ≠ s.gauge.jobTag ∨ s.gauge.jobTag = 0 then 2
      else if s.within x.lastTime (s.us 2) = true then 3
      else if d = 2 ^ 31 then 6
      else if 2 ^ 31 < d then 4
      else if s.gauge.maxJump < d then 5
      else if d = 0 ∧ mark < x.lastMark then 4 else 0
    ∃ t, exec (.gaugeFrame p payload) s = .next t ∧
      (∀ q, q ≠ p → t.source q = s.source q) ∧
      (reason = 0 → (t.source p).lastStep = x.lastStep + d ∧ (t.source p).lastMark = mark ∧ (t.source p).lastTime = some s.now
        ∧ (t.source p).rejects = 0 ∧ (t.source p).quarantined = false
        ∧ t = { s with gauge := { s.gauge with sources := t.gauge.sources } }) ∧
      (reason ≠ 0 → t.source p = { x with rejects := x.rejects + 1, quarantined := decide (x.rejects + 1 = 8) }
        ∧ t.counter (.gauge (s.portIndex p) reason) = satAdd (s.counter (.gauge (s.portIndex p) reason)) 1
        ∧ (x.rejects + 1 = 8 → ∃ u : State, t = u.raise .gaugeSourceQuarantined p ∧ u.lock = s.lock)
        ∧ (x.rejects + 1 ≠ 8 → t.lock = s.lock))

/-- No published value decreases, and the fence does not either (R61, R175): GAUGE_PUBLISH in every state. -/
def Obligations.PublishedGaugeNeverDecreases : Prop :=
  ∀ s : State, ∃ t, exec .gaugePublish s = .next t ∧
    Gauge.lt t.gauge.pubCommitted s.gauge.pubCommitted = false ∧ Gauge.lt t.gauge.pubLeading s.gauge.pubLeading = false ∧
    s.gauge.pubFence ≤ t.gauge.pubFence ∧
    (∀ lo hi, s.isManager = true → s.within s.gauge.pubAt (s.us 1) = false → s.reduced = some (lo, hi) →
      t.gauge.pubCommitted = (if Gauge.lt s.gauge.pubCommitted lo then lo else s.gauge.pubCommitted) ∧
      t.gauge.pubLeading = (if Gauge.lt s.gauge.pubLeading hi then hi else s.gauge.pubLeading)) ∧
    t.gauge.committed = s.gauge.committed ∧ t.gauge.leading = s.gauge.leading ∧ t.mem = s.mem ∧ t.media = s.media

/-- The settings of the Gauge (R66): their ranges, one BAD_PARAM for the first that lies outside, and what a command in range
sets; reset leaves the defaults of its table. -/
def Obligations.GaugeSettings : Prop :=
  (State.reset.gauge.maxJump = 16 ∧ State.reset.gauge.timeoutS = 30 ∧ State.reset.gauge.horizon = 8 ∧ State.reset.gauge.weirLead = 20) ∧
  ∀ (s : State) (r : Req) (tag jump timeout horizon lead : Nat), FormOk s r 0x0410 → MayManage s r →
    (1 ≤ tag → tag ≤ 65535 → 1 ≤ jump → jump ≤ 1024 → 1 ≤ timeout → timeout ≤ 3600 → 1 ≤ horizon → horizon ≤ 64 → 2 ≤ lead → lead ≤ 1000 →
      exec (.gaugeConfig r tag jump timeout horizon lead) s = .next (State.forward
        { s with gauge := { s.gauge with jobTag := tag, maxJump := jump, timeoutS := timeout, horizon := horizon, weirLead := lead } } r
        0x0410 (natLe 2 tag ++ natLe 2 jump ++ natLe 4 timeout ++ natLe 2 horizon ++ natLe 4 lead))) ∧
    (¬(1 ≤ tag ∧ tag ≤ 65535 ∧ 1 ≤ jump ∧ jump ≤ 1024 ∧ 1 ≤ timeout ∧ timeout ≤ 3600 ∧ 1 ≤ horizon ∧ horizon ≤ 64 ∧ 2 ≤ lead ∧ lead ≤ 1000) →
      ∃ (n : Nat) (t : State), n ∈ [0, 2, 4, 8, 12] ∧ exec (.gaugeConfig r tag jump timeout horizon lead) s = .next t
        ∧ t = s.answer r 0x0410 .badParam n ∧ OnlySpeaks s t)

/-- Chapter 02, the Gauge: a summary sent and taken, the hold, reading and controlling a source, the timebase (R58 to R64, R74,
R76). Chapter 02, publications, events and the Weir (R63, R65, R69, R70, R77, R78). -/
def Obligations.GaugeAndWeirRun : Prop :=
  ((∀ (s : State) (lo hi : Gauge), s.summary = some (lo, hi) → s.isManager = false → s.within s.gauge.sentSummaryAt (s.us 1) = false →
     s.gauge.sentSummary ≠ some (lo, hi) →
     exec .deviceSummarySend s = .next (State.sendPiece
       { s with gauge := { s.gauge with sentSummary := some (lo, hi), sentSummaryAt := some s.now } } 1 (.summary lo hi))) ∧
   (∀ (s : State) (d : Nat) (lo hi : Gauge) (x : Summary), s.isManager = true →
     s.gauge.summaries.find? (fun y => decide (y.device = d)) = some x →
     s.gauge.summaries.any (fun y => decide (y.device = d) && y.removed) = false →
     ∃ t, exec (.summaryReceive d lo hi) s = .next t ∧
       t.gauge.summaries.find? (fun y => decide (y.device = d))
         = some (if Gauge.lt lo x.lo || Gauge.lt hi x.hi then { x with ignored := x.ignored + 1 }
             else { x with lo := lo, hi := hi }) ∧
       t = { s with gauge := { s.gauge with summaries := t.gauge.summaries }
                    group := { s.group with heard := assign s.group.heard d s.now } }) ∧
   (∀ s : State, s.gauge.hold = false →
     exec .gaugeTimeoutExpiry s = .next (State.raise { s with gauge := { s.gauge with hold := true } } .gaugeHold)) ∧
   (∀ (s : State) (r : Req) (p : Nat), FormOk s r 0x0411 → p ≤ 255 → s.isAccel p = true →
     exec (.gaugeRead r p) s = .next (s.answer r 0x0411 .ok 0 []
       ([s.gauge.committed.step, s.gauge.committed.mark, s.gauge.leading.step, s.gauge.leading.mark, s.gauge.fence,
         s.gauge.hold.toNat, s.gauge.jobTag, s.gauge.maxJump, s.gauge.timeoutS, s.gauge.horizon, s.gauge.weirLead]
         ++ (s.gauge.sources.filter (fun x => decide (x.port = p))).flatMap s.sourceReport))) ∧
   (∀ (s : State) (r : Req) (p action mark step : Nat), FormOk s r 0x0412 → p ≤ 255 → action ≤ 1 → mark ≤ 15 → s.isAccel p = true →
     ∃ u : State, exec (.gaugeSourceCtrl r p action mark step) s = .next (u.answer r 0x0412 .ok) ∧
       u = { s with gauge := { s.gauge with sources := u.gauge.sources } } ∧ (∀ q, q ≠ p → u.source q = s.source q) ∧
       (u.source p).quarantined = false ∧ (u.source p).rejects = 0 ∧ (u.source p).excluded = decide (action = 1) ∧
       (action = 0 → (u.source p).lastStep = step ∧ (u.source p).lastMark = mark ∧ (u.source p).lastTime = none) ∧
       (action = 1 → (u.source p).lastStep = (s.source p).lastStep ∧ (u.source p).lastMark = (s.source p).lastMark)) ∧
   (∀ s : State, s.isManager = true → s.power.clkMode ≠ 2#2 →
     exec .timebaseCorrectionSend s = .next (s.sendPiece 2 (.correction s.gauge.timebase))) ∧
   (∀ (s : State) (count : Nat), s.isManager = false → s.power.tbRing = false →
     exec (.timebaseCorrectionReceive count) s = .next { s with gauge := { s.gauge with
       slew := ((count + s.gauge.delayPs * s.fuse.clockBin / 10000 : Nat) : Int) - s.gauge.timebase } })) ∧
  ((∀ (s : State) (c l : Gauge) (f : Nat),
     ∃ t, exec (.gaugePublicationReceive false c l f) s = .next t ∧
       (Gauge.lt s.gauge.committed c = false →
         t = { s with gauge := { s.gauge with committed := c, leading := l, fence := f } }) ∧
       (Gauge.lt s.gauge.committed c = true → s.gauge.hold = true → ∃ u : State, t = u.raise .gaugeResumed)) ∧
   (∀ (s : State) (r : Req) (kind mark step item ckptKind ckptFlags ckptDest ckptAddr : Nat), FormOk s r 0x0413 →
     eventArmCheck r kind mark step item ckptKind ckptFlags ckptDest s = none →
     let e : ArmedEvent :=
       { handle := s.gauge.lastHandle % (2 ^ 32 - 1) + 1, kind := eventKindOf kind, target := ⟨step, mark⟩, item := item
         ckpt := if kind = 0 then some { full := decide (ckptKind = 1), pause := bitOf ckptFlags 0, toMedia := decide (ckptDest = 1)
                                         address := ckptAddr } else none }
     exec (.eventArm r kind mark step item ckptKind ckptFlags ckptDest ckptAddr) s = .next (s.armAndSpread r e) ∧
     (s.armEvent e).gauge = { s.gauge with armed := s.gauge.armed ++ [e], lastHandle := e.handle }) ∧
   (∀ (s : State) (r : Req) (handle : Nat) (e : ArmedEvent), FormOk s r 0x0414 → MayManage s r →
     s.gauge.armed.find? (fun x => decide (x.handle = handle)) = some e → s.followsCommitted e.target = true →
     exec (.eventCancel r handle) s = .next ((s.cancelEvent handle).distribute r 0x0414 (.cancelEvent handle) (.answer r 0x0414 0 [] [])) ∧
     (e.kind ≠ .checkpoint → (s.cancelEvent handle).gauge = { s.gauge with
       armed := s.gauge.armed.filter (fun x => decide (x.handle ≠ handle))
       fenceHolds := s.gauge.fenceHolds.filter (fun h => decide (h.1 ≠ handle)) })) ∧
   (∀ (s : State) (r : Req) (mark actions step gateList : Nat), FormOk s r 0x0420 →
     weirArmCheck r mark actions step gateList s = none →
     let a : WeirActions := { startFeed := bitOf actions 0, gateList := if bitOf actions 1 then some gateList else none
                              releasePipeline := bitOf actions 2, bothSides := bitOf actions 3 }
     exec (.weirArm r mark actions step gateList) s = .next (State.distribute
       { s with gauge := { s.gauge with weir := some { target := ⟨step, mark⟩, actions := a } } } r 0x0420
       (.weir ⟨step, mark⟩ a) (.weir r 0x0420))) ∧
   (∀ (s : State) (r : Req), FormOk s r 0x0421 →
     (s.gauge.weir = none → exec (.weirStatus r) s = .next (s.answer r 0x0421 .ok 0 [] [0])) ∧
     (∀ w, s.gauge.weir = some w →
       let st : Nat := if w.phase = .armed then 1 else if w.phase = .sent then 2 else if w.phase = .opened ∧ s.weirMissing w = true then 3 else 4
       exec (.weirStatus r) s = .next (s.answer r 0x0421 .ok 0 []
         [st, w.target.step, w.target.mark, w.tOpen.getD 0, maxD (w.acks.map (·.2)) w.lateness]))) ∧
   (∀ (s : State) (w : Weir) (t : Nat), s.gauge.weir = some w → w.phase = .armed → s.isManager = false →
     (s.gauge.timebase ≤ t →
       exec (.weirOpen t) s = .next { s with gauge := { s.gauge with weir := some { w with phase := .sent, tOpen := some t } } }) ∧
     (t < s.gauge.timebase → w.actions.gateList = none → ∃ u, exec (.weirOpen t) s = .next u ∧
       u.gauge.weir = some { w with phase := .opened, tOpen := some t, lateness := s.gauge.timebase - t } ∧
       (w.actions.startFeed = true → u.pipe.feedStarted = true))) ∧
   (∀ (s : State) (w : Weir) (t : Nat), s.gauge.weir = some w → w.phase = .sent → w.tOpen = some t → t ≤ s.gauge.timebase →
     w.actions = { startFeed := true, gateList := none, releasePipeline := false, bothSides := false } →
     s.isManager = true → s.det.resumeWaiter = none →
     ∃ u : State, exec .weirOpenTime s = .next u ∧ u.gauge.weir = some { w with phase := .opened, lateness := 0 } ∧ u.pipe.feedStarted = true))

/-! ### Chapter 03: buffer pools -/

/-- An allocation that finds quota and a free buffer grants the winner of the arbiter a buffer that nobody holds; the requester
holds it from then on (R83, R84, R92). Which free buffer it is stays open. A requester without quota gets QUOTA, one that finds
the pool empty gets POOL_EMPTY: the failure is counted and no buffer changes hands (R83, R84). -/
def Obligations.PoolsAllocate : Prop :=
  (∀ (s : State) (n q : Nat) (ready : List Nat) (p : Pool), s.pool? n = some p →
     arbWinner p.arb (ready.filter (fun x => decide (x < 256))) = some q → p.heldBy q < p.quota q → 0 < s.grantable p → 0 < p.cached →
     p.held.Pairwise (fun a b => a.1 < b.1) → (∀ h ∈ p.held, h.1 < p.count) →
     ∃ (t : State) (i : Nat) (p' : Pool), exec (.poolAllocate n ready) s = .next t ∧ i < p.count ∧ lookup? p.held i = none ∧
       t.pool? n = some p' ∧ p'.held = insertHeld i q p.held ∧ lookup? p'.held i = some q ∧ p'.cached = p.cached - 1 ∧
       p'.arb = (q + 1) % 256 ∧ p'.quotas = p.quotas ∧ t.counter (.pool n 0) = satAdd (s.counter (.pool n 0)) 1 ∧
       (∀ m, m ≠ n → t.pool? m = s.pool? m) ∧ t.mem = s.mem ∧ t.lock = s.lock) ∧
  (∀ (s : State) (n q : Nat) (ready : List Nat) (p : Pool), s.pool? n = some p →
     arbWinner p.arb (ready.filter (fun x => decide (x < 256))) = some q → (p.quota q ≤ p.heldBy q ∨ s.grantable p = 0) →
     let k : Nat := if p.quota q ≤ p.heldBy q then 2 else 1
     ∃ (t : State) (p' : Pool), exec (.poolAllocate n ready) s = .next t ∧ t.pool? n = some p' ∧ p'.held = p.held ∧
       p'.cached = p.cached ∧ lookupD p'.fails q 0 = lookupD p.fails q 0 + 1 ∧
       t.counter (.pool n k) = satAdd (s.counter (.pool n k)) 1 ∧ (∀ m, m ≠ n → t.pool? m = s.pool? m))

/-- R89: every returned pointer is checked in the order of the rule's table; the first check that fails names the reason, a
refused pointer frees nothing, and an accepted one frees the buffer it names. -/
def Obligations.ReturnChecksInOrder : Prop :=
  ∀ (s : State) (q pointer : Nat),
    let n := pointer / 2 ^ 41 % 64
    let space := pointer / 2 ^ 40 % 2
    let a := pointer % 2 ^ 40
    let t := (s.returnBuffer q pointer).1
    let reason := (s.returnBuffer q pointer).2
    exec (.bufferReturn q pointer) s = .next t ∧
    (pointer / 2 ^ 47 ≠ 0 → reason = 1) ∧
    (pointer / 2 ^ 47 = 0 → s.pool? n = none → reason = 2) ∧
    (∀ p : Pool, pointer / 2 ^ 47 = 0 → s.pool? n = some p →
      (space ≠ p.space → reason = 3) ∧
      (space = p.space →
        ((a < p.base ∨ p.base + p.count * p.bufSize ≤ a) → reason = 4) ∧
        (p.base ≤ a → a < p.base + p.count * p.bufSize →
          ((a - p.base) % p.bufSize ≠ 0 → reason = 5) ∧
          ((a - p.base) % p.bufSize = 0 →
            let i := (a - p.base) / p.bufSize
            (lookup? p.held i = none → reason = 6) ∧
            (∀ owner, lookup? p.held i = some owner → owner ≠ q → reason = 7) ∧
            (lookup? p.held i = some q → reason = 0 ∧
              t.pool? n = some { p with held := erase p.held i, cached := p.cached + 1, lastReturn := some (s.fclk, i) } ∧
              (∀ m, m ≠ n → t.pool? m = s.pool? m) ∧ t.tel = s.tel ∧ t.lock = s.lock))))) ∧
    (reason ≠ 0 → (∀ m, (t.pool? m).map (fun p => (p.held, p.cached)) = (s.pool? m).map (fun p => (p.held, p.cached))) ∧
      t.counter (.pool n (2 + reason)) = satAdd (s.counter (.pool n (2 + reason))) 1)

/-- Chapter 03, the other commands: a handoff, the refill and spill of the on-chip cache, creating, destroying, setting quotas
of and reading a pool (R81 to R91). -/
def Obligations.PoolCommandsRun : Prop :=
  (∀ (s : State) (pointer a b i : Nat) (p : Pool), s.pool? (bitsOf pointer 46 41) = some p → s.checkReturn a pointer = (0, i) →
    exec (.bufferHandoff pointer a b) s = .next (s.setPool { p with held := assign p.held i b })) ∧
  (∀ (s : State) (n : Nat) (p : Pool), s.pool? n = some p → p.num = n → p.cached ≤ 64 → p.held.length + p.cached < p.count →
    s.pools.waitRefill = [] →
    exec (.poolCacheRefill n) s = .next (s.setPool
      { p with cached := p.cached + min 128 (p.count - p.held.length - p.cached) })) ∧
  (∀ (s : State) (n : Nat) (p : Pool), s.pool? n = some p → 448 ≤ p.cached →
    exec (.poolCacheSpill n) s = .next (s.setPool { p with cached := p.cached - 128 })) ∧
  (∀ (s : State) (r : Req) (n space size count base ring held : Nat), FormOk s r 0x0230 →
    let p : Pool := { num := n, space := space, bufSize := size, count := count, base := base, ringBase := ring, heldBase := held }
    poolCreateCheck p s = none → count ≤ 65536 →
    exec (.poolCreate r n space size count base ring held) s = .next (State.answer
      { s with pools := { s.pools with pools := s.pools.pools ++ [p] } } r 0x0230 .ok)) ∧
  (∀ (s : State) (r : Req) (n space size count base ring held : Nat), FormOk s r 0x0230 →
    let p : Pool := { num := n, space := space, bufSize := size, count := count, base := base, ringBase := ring, heldBase := held }
    poolCreateCheck p s = none → 65536 < count →
    exec (.poolCreate r n space size count base ring held) s = .next (State.answerLong
      { s with pools := { s.pools with pools := s.pools.pools ++ [p] } } r 0x0230 .ok)) ∧
  (∀ (s : State) (r : Req) (n : Nat) (p : Pool), FormOk s r 0x0231 → s.isHeld (.pool n) = false → n ≤ 63 → s.pool? n = some p →
    (p.held = [] → exec (.poolDestroy r n) s = .next (State.answer
      { s with pools := { s.pools with pools := s.pools.pools.filter (fun p => decide (p.num ≠ n)) } } r 0x0231 .ok)) ∧
    (p.held ≠ [] → exec (.poolDestroy r n) s = .next (s.answer r 0x0231 .poolInUse))) ∧
  (∀ (s : State) (r : Req) (n first : Nat) (quotas : List Nat) (p : Pool), FormOk s r 0x0232 →
    poolQuotaCheck n first quotas s = none → s.pool? n = some p →
    exec (.poolQuotaSet r n first quotas) s = .next ((s.setPool { p with quotas := setQuotas p.quotas first quotas }).answer r 0x0232 .ok)) ∧
  (∀ (s : State) (r : Req) (n : Nat) (p : Pool), FormOk s r 0x0233 → n ≤ 63 → s.pool? n = some p →
    exec (.poolRead r n) s = .next (s.answer r 0x0233 .ok 0 [] ([p.free] ++ (List.range 256).map (fun q => p.heldBy q)
      ++ (List.range 256).map (fun q => lookupD p.fails q 0) ++ (List.range 7).map (fun i => s.counter (.pool p.num (3 + i))))))

/-! ### Chapter 04: the Reservoir -/

/-- Chapter 04, what an operation on the NAND leaves (R112, R113, R120, R122, R125): a corrected codeword is counted; one that
nothing recovers is counted, its block is retired and the logical block stays unreadable; the third failure in a row fails the
die; a program that passes ends the run of failures. Chapter 04, staging and the journal (R126 to R135): a staged write
programmed, a journal entry committed, a snapshot, a relocation started by its cause. Chapter 04, the media commands (R123,
R125, R136): a policy in range takes effect, its staging size once nothing is staged; a format empties the Reservoir; the health
and the policy are read. -/
def Obligations.ReservoirRuns : Prop :=
  ((∀ (s : State) (c t lba sb block : Nat) (b : Superblock), s.superblock? sb = some b →
     ∃ u, exec (.nandOpComplete c t (.read lba sb block 2) true) s = .next u ∧
       u.media.counters = { s.media.counters with correctedCw := s.media.counters.correctedCw + 1 } ∧
       u.superblock? sb = some { b with reads := b.reads.modify block (fun n => min (n + 1) (2 ^ 32 - 1)) } ∧
       u.media.unreadable = s.media.unreadable ∧ u.media.data = s.media.data ∧ u.mem = s.mem) ∧
   (∀ (s : State) (c t lba sb block k : Nat), s.media.waitingWrites = [] →
     ∃ u, exec (.nandOpTimeout c t (.read lba sb block k)) s = .next u ∧
       u.media.counters.unrecoveredCw = s.media.counters.unrecoveredCw + 1 ∧
       u.media.counters.growBad = s.media.counters.growBad + 1 ∧ lba ∈ u.media.unreadable ∧ u.mem = s.mem) ∧
   (∀ (s : State) (c t sb block : Nat) (d : NandDie), s.media.waitingWrites = [] → s.die? c t = some d → d.failed = false →
     ∃ (u : State) (d' : NandDie), exec (.nandOpComplete c t (.erase sb block false) false) s = .next u ∧ u.die? c t = some d' ∧
       d'.failRun = d.failRun + 1 ∧ d'.failed = decide (3 ≤ d.failRun + 1) ∧
       u.media.counters.diesFailed = s.media.counters.diesFailed + (if 3 ≤ d.failRun + 1 then 1 else 0)) ∧
   (∀ (s : State) (c t sb block : Nat) (d : NandDie), s.media.waitingWrites = [] → s.die? c t = some d →
     ∃ u, exec (.nandOpComplete c t (.program sb block false) true) s = .next u ∧ u.die? c t = some { d with failRun := 0 } ∧
       u.media.counters.mediaBytes = satAdd s.media.counters.mediaBytes 16384)) ∧
  ((∀ (s : State) (w : Staged), s.media.staged.find? (fun w => !w.programmed) = some w → s.convBlocks ≤ w.lba →
     ∃ t, exec .stageProgram s = .next t ∧ t.media.journalOpen = s.media.journalOpen ++ [(s.media.journalSeq, .write w.seq)] ∧
       t.media.journalSeq = s.media.journalSeq + 1 ∧
       t.media.counters.mediaBytes = satAdd s.media.counters.mediaBytes w.data.length ∧ t.media.data = s.media.data ∧
       t.media.staged = updateFirst (fun x => decide (x.seq = w.seq)) (fun x => { x with programmed := true }) s.media.staged) ∧
   (∀ (s : State) (n k : Nat) (rest : List (Nat × JournalOp)), s.media.journalOpen = (n, .write k) :: rest →
     exec .journalCommit s = .next (State.synthDurable { s with media := { s.media with
       journalOpen := rest, journal := s.media.journal ++ [(n, .write k)], journalBytes := s.media.journalBytes + 1
       staged := updateFirst (fun w => decide (w.seq = k)) (fun w => { w with committed := true }) s.media.staged } })) ∧
   (∀ s : State, exec .journalSnapshot s = .next { s with media := { s.media with
     snapshotSeq := some s.media.journalSeq, journal := [], journalBytes := 0 } }) ∧
   (∀ (s : State) (n : Nat) (b : Superblock), s.superblock? n = some b → b.refresh = true →
     s.media.relocations.any (fun r => decide (r.cause = .refresh)
       && decide (((s.superblock? r.src).map (·.stripeSet)) = some b.stripeSet)) = false →
     exec (.relocationStart n) s = .next (s.startRelocation n .refresh)) ∧
   (∀ (s : State) (b : Superblock), s.freeConv.length ≤ s.media.policy.gcStart →
     (s.media.superblocks.filter (fun b => decide (b.usage = .conv) && !s.relocating b.num && decide (s.media.convOpen ≠ some b.num))) = [b] →
     exec .gcStart s = .next (State.startRelocation { s with media := { s.media with gcActive := true } } b.num .gc)) ∧
   (∀ s : State, s.media.policy.wlSpread < s.eraseSpread →
     ∃ t, exec .wearLevelStart s = .next t ∧ t.media.wlActive = true ∧
       (t.media.relocations = s.media.relocations ∨ ∃ x : Relocation, t.media.relocations = s.media.relocations ++ [x] ∧ x.cause = .wear)) ∧
   (∀ (s : State) (n block : Nat) (b : Superblock), s.superblock? n = some b → s.readThreshold b.erases ≤ b.reads.getD block 0 →
     exec (.readCountRefresh n block) s = .next (s.setSuperblock { b with refresh := true })) ∧
   (∀ (s : State) (n : Nat) (b : Superblock), s.superblock? n = some b → b.usage = .slc →
     exec (.slcFold n) s = .next (s.startRelocation n .fold)) ∧
   (∀ (s : State) (n : Nat) (b d : Superblock) (cause : RelocCause), s.superblock? n = some b → s.relocating n = false →
     s.pickSuperblock (s.destinations b) = some d → cause ∈ [RelocCause.refresh, .gc, .fold] →
     (s.startRelocation n cause).media.relocations
       = s.media.relocations ++ [{ src := b.num, dst := d.num, cause := cause, blocks := b.valid }]) ∧
   (∀ (s : State) (k : Nat), exec (.dieRebuildComplete k) s = .next { s with media := { s.media with
     rebuilding := s.media.rebuilding.filter (fun x => decide (x ≠ k)) } })) ∧
  ((∀ (s : State) (r : Req) (k : PolicyParams), FormOk s r 0x0801 → 50 ≤ k.wlSpread → k.wlSpread ≤ 5000 → 1 ≤ k.wlBw → k.wlBw ≤ 10 →
     10000 ≤ k.rdBaseTlc → k.rdBaseTlc ≤ 1000000 → 5000 ≤ k.rdBaseQlc → k.rdBaseQlc ≤ 1000000 → 10 ≤ k.rdFloor → k.rdFloor ≤ 1000 →
     4 ≤ k.gcStart → k.gcStart ≤ 64 → k.gcStart + 4 ≤ k.gcStop → k.gcStop ≤ 128 → 1 ≤ k.stageGiB → k.stageGiB ≤ 16 →
     exec (.mediaPolicySet r k) s = .next (State.answer { s with media := { s.media with
       policy := if s.media.staged.isEmpty then k else { k with stageGiB := s.media.policy.stageGiB }
       stagePending := if s.media.staged.isEmpty then none else some k.stageGiB } } r 0x0801 .ok)) ∧
   (∀ (s : State) (r : Req), FormOk s r 0x0802 → exec (.mediaPolicyGet r) s = .next (s.answer r 0x0802 .ok 0 []
     [s.media.policy.wlSpread, s.media.policy.wlBw, s.media.policy.rdBaseTlc, s.media.policy.rdBaseQlc, s.media.policy.rdFloor,
       s.media.policy.gcStart, s.media.policy.gcStop, s.media.policy.stageGiB,
       s.media.convSuperblocks * (s.media.geometry.dataBlocks * 4096), s.media.spareReserve])) ∧
   (∀ (s : State) (r : Req), FormOk s r 0x0803 → exec (.mediaHealth r) s = .next (s.answer r 0x0803 .ok 0 s.healthLog)) ∧
   (∀ (s : State) (r : Req) (conv spare : Nat), FormOk s r 0x0804 → s.isHeld .media = false →
     conv ≤ s.convMax * (s.media.geometry.dataBlocks * 4096) → 1 ≤ spare → spare ≤ 5 →
     ∃ u : State, exec (.mediaFormat r conv spare) s = .next (u.answerLong r 0x0804 .ok) ∧ u.media.data = [] ∧
       u.media.unreadable = [] ∧ u.media.zones = [] ∧ u.media.staged = [] ∧ u.media.journal = [] ∧ u.media.relocations = [] ∧
       u.media.readOnly = false ∧ u.media.spareReserve = spare ∧
       u.media.convSuperblocks = conv / (s.media.geometry.dataBlocks * 4096) ∧ u.mem = s.mem))

/-! ### Chapter 05: storage queues -/

/-- A storage command that ends in a failure freezes its pair (R143, R144): its completion is the one left to post, the
completions that waited are withdrawn into the error page, the freeze is counted; other pairs and all memory stay as they were.
-/
def Obligations.FailedReadFreezesPair : Prop :=
  ∀ (s : State) (q slot : Nat) (e : SqEntry) (p : QueuePair) (f : StorageFault), s.beginning q e = some slot → s.qp? q = some p →
    p.frozen = false → p.resetting = none → p.logWaiters = [] → s.readFault e.slba e.nlb = some f →
    ∃ (t : State) (p' : QueuePair), exec (.read q e) s = .next t ∧ t.qp? q = some p' ∧ p'.frozen = true ∧
      p'.waiting = [⟨0, e.cmdId, f.status.value, slot, e.opcode, 0, f.info⟩] ∧
      p'.errors = p.waiting.map (fun c => ⟨c.cmdId, c.slot, c.status, c.opcode, c.effect, c.info⟩) ∧
      p'.fetched = p.fetched.filter (fun x => decide (x.slot ≠ slot)) ∧
      lookupD t.queues.freezeCounts q 0 = lookupD s.queues.freezeCounts q 0 + 1 ∧
      (∀ m, m ≠ q → t.qp? m = s.qp? m) ∧ t.mem = s.mem ∧ t.media = s.media

/-- A READ without a fault puts the blocks' logical bytes at its buffer and waits with OK for its completion (R114, R132, R136).
Chapter 05, writing (R114, R135, R138): a WRITE or ZONE_APPEND that passes its checks is staged with its bytes, at the place of
its space; a zone takes it at its write pointer. Chapter 05, zones, trimming and flushing (R137, R138). -/
def Obligations.BlocksAreReadAndWritten : Prop :=
  (∀ (s : State) (q slot : Nat) (e : SqEntry) (p : QueuePair), s.beginning q e = some slot → s.qp? q = some p →
     p.frozen = false → p.resetting = none → p.logWaiters = [] → s.readFault e.slba e.nlb = none →
     ∃ (t : State) (p' : QueuePair), exec (.read q e) s = .next t ∧ t.qp? q = some p' ∧ p'.frozen = false ∧
       p'.waiting = p.waiting ++ [⟨0, e.cmdId, 0, slot, e.opcode, 1, 0⟩] ∧
       p'.fetched = p.fetched.filter (fun x => decide (x.slot ≠ slot)) ∧ p'.sqHead = p.sqHead ∧ p'.cqTail = p.cqTail ∧
       t.mem = s.mem.writeBytes e.bufAddr (s.logicalRead e.slba e.nlb) ∧ t.media = s.media ∧ (∀ m, m ≠ q → t.qp? m = s.qp? m)) ∧
  ((∀ (s : State) (q slot : Nat) (e : SqEntry), s.beginning q e = some slot → s.media.waitingWrites.any (fun x => decide (x.1 = q)) = false →
     s.media.readOnly = false → e.slba < s.convBlocks → s.mayStage e.slba e.nlb = true →
     exec (.write q e) s = .next (s.acceptWrite q slot e e.slba 0)) ∧
   (∀ (s : State) (q slot : Nat) (e : SqEntry), s.beginning q e = some slot → s.media.waitingWrites.any (fun x => decide (x.1 = q)) = false →
     s.media.readOnly = false → s.convBlocks ≤ e.slba → e.opcode = 3 → s.zoneWriteFault (s.zoneOf e.slba) e.nlb none = none →
     s.mayStage e.slba e.nlb = true →
     let at_ := s.zoneStart (s.zoneOf e.slba) + (s.zone (s.zoneOf e.slba)).wp
     exec (.zoneAppend q e) s = .next ((s.advanceZone (s.zoneOf e.slba) e.nlb).acceptWrite q slot e at_ at_) ∧
     ((s.advanceZone (s.zoneOf e.slba) e.nlb).zone (s.zoneOf e.slba)).wp = (s.zone (s.zoneOf e.slba)).wp + e.nlb) ∧
   (∀ (s : State) (q slot lba result : Nat) (e : SqEntry), ∃ u : State,
     u.media.staged = s.media.staged ++ [{ seq := s.media.stageSeq, lba := lba, data := s.memRead e.bufAddr (e.nlb * 4096)
                                           source := some (q, slot, e.cmdId, e.opcode, result)
                                           through := decide (s.queues.writeThrough = 1) }] ∧
     s.acceptWrite q slot e lba result = if s.queues.writeThrough = 1 then u else u.endStorage q slot e .ok result)) ∧
  ((∀ (s : State) (q slot : Nat) (e : SqEntry), s.beginning q e = some slot →
     let z := s.zoneOf e.slba
     let u := s.begun q slot
     let st := (s.zone z).status
     (st = .readOnly → exec (.zoneReset q e) s = .next (u.endStorage q slot e .zoneReadOnly) ∧
       exec (.zoneFinish q e) s = .next (u.endStorage q slot e .zoneReadOnly)) ∧
     (st = .offline → exec (.zoneReset q e) s = .next (u.endStorage q slot e .zoneOffline) ∧
       exec (.zoneFinish q e) s = .next (u.endStorage q slot e .zoneOffline)) ∧
     (st = .empty → exec (.zoneReset q e) s = .next (u.endStorage q slot e .ok) ∧
       exec (.zoneFinish q e) s = .next ((u.setZone z { s.zone z with status := .full, wp := s.media.geometry.dataBlocks }).endStorage q slot e .ok)) ∧
     (st = .full → exec (.zoneReset q e) s = .next ((u.resetZone z).endStorage q slot e .ok) ∧
       exec (.zoneFinish q e) s = .next (u.endStorage q slot e .ok)) ∧
     (st = .open → exec (.zoneReset q e) s = .next ((u.resetZone z).endStorage q slot e .ok) ∧
       ∃ v : State, exec (.zoneFinish q e) s = .next (v.endStorage q slot e .ok) ∧
         v.zone z = { s.zone z with status := .full, wp := s.media.geometry.dataBlocks })) ∧
   (∀ (s : State) (q slot : Nat) (e : SqEntry), s.beginning q e = some slot → s.media.readOnly = false →
     exec (.trim q e) s = .next ((((s.begun q slot).clearBlocks e.slba e.nlb).journalAdd (.trim e.slba e.nlb)).endStorage q slot e .ok) ∧
     (((s.begun q slot).clearBlocks e.slba e.nlb).journalAdd (.trim e.slba e.nlb)).media.data
       = Memory.clear s.media.data (e.slba * 4096) (e.nlb * 4096)) ∧
   (∀ (s : State) (q slot : Nat) (e : SqEntry), s.beginning q e = some slot → s.media.readOnly = false →
     let u : State := (s.begun q slot).setMedia { s.media with interimParity := s.media.interimParity + s.openStripes }
     exec (.flush q e) s = .next (if (s.media.staged.filter (·.posted)).isEmpty then u.endStorage q slot e .ok
       else u.setMedia { u.media with flushes := s.media.flushes ++ [(q, slot, e.cmdId, (s.media.staged.filter (·.posted)).map (·.seq))] })) ∧
   (∀ (s : State) (w : Staged), s.media.staged = [w] → w.durable = true → w.through = false → s.media.flushes = [] → s.media.waitingWrites = [] →
     s.media.stagePending = none →
     exec .writeDurable s = .next { s with media := { s.media with
       data := Memory.writeBytes s.media.data (w.lba * 4096) w.data, staged := []
       unreadable := s.media.unreadable.filter (fun b => decide (b < w.lba) || decide (w.lba + w.data.length / 4096 ≤ b)) } }))

/-- Chapter 05, the rings (R126 to R133, R142, R574): doorbells, fetching, posting and signalling. Chapter 05, the admin
commands of queue pair 0 and of the mailbox (R139 to R146). -/
def Obligations.StorageQueuesRun : Prop :=
  ((∀ (s : State) (q v : Nat) (p : QueuePair), s.qp? q = some p →
     ((v < p.depth ∧ ringCount p.depth p.sqHead p.sqTail ≤ ringCount p.depth p.sqHead v) →
       exec (.sqTail q v) s = .next (s.setQp { p with sqDoorbell := v, sqTail := v })) ∧
     (p.frozen = false → (p.depth ≤ v ∨ ringCount p.depth p.sqHead v < ringCount p.depth p.sqHead p.sqTail) →
       ∃ t p', exec (.sqTail q v) s = .next t ∧ t.qp? q = some p' ∧ p'.frozen = true ∧ p'.doorbellFault = true ∧
         p'.sqTail = p.sqTail ∧ p'.waiting = [] ∧ p'.cause.map (·.cmdId) = some 0xFFFF ∧ p'.cause.map (·.info) = some v)) ∧
   (∀ (s : State) (q v : Nat) (p : QueuePair), s.qp? q = some p → v < p.depth →
     ringCount p.depth p.cqHead v ≤ ringCount p.depth p.cqHead p.cqTail →
     exec (.cqHead q v) s = .next (s.setQp { p with cqDoorbell := v, cqHead := v })) ∧
   (∀ (s : State) (q v : Nat), s.qp? q = none → exec (.sqTail q v) s = .next (s.hlError 3) ∧ exec (.cqHead q v) s = .next (s.hlError 3)) ∧
   (∀ (s : State) (q : Nat), ((s.queues.pairs.filter s.mayFetch).map (·.num)).contains 0 = false →
     arbWinner s.queues.arb ((s.queues.pairs.filter s.mayFetch).map (·.num)) = some q →
     exec .sqFetch s = .next (State.fetchUpTo { s with queues := { s.queues with arb := (q + 1) % 256 } } q s.queues.arbBurst)) ∧
   (∀ (s : State) (q n : Nat) (p : QueuePair), s.qp? q = some p → s.mayFetch p = true →
     s.fetchUpTo q (n + 1) = (s.fetchOne p).fetchUpTo q n) ∧
   (∀ (s : State) (p : QueuePair), s.qp? p.num = some p →
     let e := entryOf (s.memRead (p.sqBase + 64 * p.sqHead) 64)
     let u := s.setQp { p with sqHead := (p.sqHead + 1) % p.depth, fetched := p.fetched ++ [{ slot := p.sqHead, entry := e }] }
     s.fetchOne p = match u.checkEntry p e with
       | none => u
       | some f => u.endStorage p.num p.sqHead e f.status 0 f.info) ∧
   (∀ (s : State) (q : Nat) (p : QueuePair) (c : Completion) (rest : List Completion), s.qp? q = some p → p.waiting = c :: rest →
     p.cqFull = false →
     ∃ (t : State) (p' : QueuePair), exec (.cqPost q) s = .next t ∧ t.qp? q = some p' ∧ p'.waiting = rest ∧
       p'.cqTail = (p.cqTail + 1) % p.depth ∧ p'.phase = (if (p.cqTail + 1) % p.depth = 0 then !p.phase else p.phase) ∧
       t.mem = s.mem.writeBytes (p.cqBase + 16 * p.cqTail) (completionBytes p c)) ∧
   (∀ (s : State) (v : Nat), 8 ≤ v → v ≤ 31 → s.queues.unsignalled.getD (v - 8) 0 ≠ 0 →
     exec (.coalTimeExpiry v) s = .next (State.msix
       { s with queues := { s.queues with unsignalled := s.queues.unsignalled.set (v - 8) 0 } } v))) ∧
  ((∀ (s : State) (q slot : Nat) (e : SqEntry), s.beginning q e = some slot →
     let u := s.begun q slot
     let a (k : Nat) : Nat := e.params.getD k 0
     (a 0 = 0 → exec (.identify q e) s = .next ((u.memWrite e.bufAddr u.identifyPage).endStorage q slot e .ok)) ∧
     (a 0 = 0x10 → 4 ≤ a 4 → a 4 ≤ 16777216 → a 4 % 4 = 0 →
       exec (.getLog q e) s = .next ((u.giveLog e u.healthLog).endStorage q slot e .ok)) ∧
     (a 0 = 0x12 → 4 ≤ a 4 → a 4 ≤ 16777216 → a 4 % 4 = 0 →
       exec (.getLog q e) s = .next ((u.giveLog e u.fwStatus).endStorage q slot e .ok)) ∧
     (1 ≤ a 0 → a 0 ≤ 5 → exec (.getFeature q e) s = .next (u.endStorage q slot e .ok (u.feature (a 0)))) ∧
     (featureBad (a 0) (a 1) = false → exec (.setFeature q e) s = .next ((u.setFeature (a 0) (a 1)).endStorage q slot e .ok) ∧
       (u.setFeature (a 0) (a 1)).feature (a 0) = a 1) ∧
     (u.sessionFault (.storage q) (a 0) (e.nlb * 4096) = none → exec (.fwDownload q e) s = .next
       ((u.sessionWrite (.storage q) (a 0) (u.memRead e.bufAddr (e.nlb * 4096))).endStorage q slot e .ok)) ∧
     (a 0 = 0 → s.commitFault (.storage q) = none → exec (.fwCommit q e) s = .next (u.commitSession none (some (q, slot)))) ∧
     (let n : QueuePair := { num := a 0, depth := a 1, sqBase := a 2 + a 3 * 2 ^ 32, cqBase := a 4 + a 5 * 2 ^ 32 }
      1 ≤ n.num → n.num ≤ 255 → (s.pairFaults n 36 40 48).any (·.1) = false → s.qp? n.num = none →
       exec (.createQueue q e) s = .next
         (State.endStorage { u with queues := { u.queues with pairs := u.queues.pairs ++ [n] } } q slot e .ok)) ∧
     (∀ p, 1 ≤ a 0 → a 0 ≤ 255 → u.qp? (a 0) = some p → p.resetting = none →
       exec (.deleteQueue q e) s = .next (u.startReset p (.storage slot e true)) ∧
       exec (.resetQueue q e) s = .next (u.startReset p (.storage slot e false)))) ∧
   (∀ (s : State) (r : Req) (depth sq cq : Nat), FormOk s r 0x0810 →
     let n : QueuePair := { num := 0, depth := depth, sqBase := sq, cqBase := cq }
     (s.pairFaults n 0 8 16).any (·.1) = false → s.qp? 0 = none →
     exec (.queueAdminSetup r depth sq cq) s = .next (State.answer
       { s with queues := { s.queues with pairs := s.queues.pairs ++ [n] } } r 0x0810 .ok)) ∧
   (∀ (s : State) (r : Req) (p : QueuePair), FormOk s r 0x0811 → s.isHeld (.storageQp 0) = false → s.qp? 0 = some p →
     exec (.queueAdminReset r) s = .next ((s.answerInProgress r 0x0811 [.storageQp 0]).startReset p (.mailbox r 0x0811))))

/-! ### Chapter 06: datasets and the plan -/

/-- The record permutation of every epoch (R164): over a plan of 1 to 2^48 records each position has one record, each record one
position, and `unpermute` undoes `permute`. -/
def Obligations.EpochPermutation : Prop :=
  ∀ (p : Plan) (key : Bytes) (e x : Nat), 1 ≤ p.total → p.total ≤ 2 ^ 48 → x < p.total →
    p.record key e x < p.total ∧ p.unrecord key e x < p.total ∧
    p.unrecord key e (p.record key e x) = x ∧ p.record key e (p.unrecord key e x) = x

/-- The places of a step's samples (R167, R168): within the epoch's window, no two slots of one step take the same position, and
no two steps of one epoch do. -/
def Obligations.SchedulePlacesApart : Prop :=
  ∀ (p : Plan) (s s' d d' k k' : Nat), p.startStep ≤ s → p.startStep ≤ s' → 1 ≤ p.perDest → 1 ≤ p.spe →
    d < p.dests.length → d' < p.dests.length → k < p.perDest → k' < p.perDest →
    p.positionOf s d k < p.window ∧
    (p.epochOf s = p.epochOf s' → p.positionOf s d k = p.positionOf s' d' k' → s = s' ∧ d = d' ∧ k = k')

/-- What a LOAD command does with bytes it can read and that its checks pass: the item is stored under the lowest free handle
and sent to the other members, which must acknowledge its digest (R160, R180 to R182, R213, R246, R354, R500). What a DROP
command does with a handle that nothing uses: the item is gone here and on every member (R181, R182, R213, R246, R354). -/
def Obligations.LoadsAndDropsRun : Prop :=
  ((∀ (s : State) (r : Req) (src a n : Nat) (bs : Bytes), FormOk s r 0x0301 → s.loadSource src a n = .ok bs →
     s.checkManifest n bs = none →
     exec (.datasetLoad r src a n) s = .next (State.answerLong { s with plan := { s.plan with datasets := s.plan.datasets ++
       [{ id := fieldAt bs 8 8, total := fieldAt bs 16 8, ingots := (manifestEntries bs).map s.loadedIngot }] } } r 0x0301 .ok)) ∧
   (∀ (s : State) (r : Req) (src a n h : Nat) (bs : Bytes), FormOk s r 0x0310 → MayManage s r → s.loadSource src a n = .ok bs →
     leastFault (recipeFaults n bs s.pipe.vocabs s.pipe.dupSets ++ s.recipeSigFault bs) = none →
     freeHandle (s.plan.recipes.map (fun x => x.1)) 16 = some h →
     let body := bs.take (fieldAt bs 8 4)
     exec (.recipeLoad r src a n) s = .next ((State.answerInProgress
       { s with plan := { s.plan with recipes := s.plan.recipes ++ [(h, body)] } } r 0x0310 [.recipe h]).distribute r 0x0310
         (.recipe h body) (.answer r 0x0310 h (sha256 body) []) h (sha256 body))) ∧
   (∀ (s : State) (r : Req) (src a n h : Nat) (bs : Bytes), FormOk s r 0x0402 → MayManage s r → s.loadSource src a n = .ok bs →
     leastFault (s.planFaultsHere n bs) = none → freeHandle (s.plan.plans.map (fun x => x.1)) 16 = some h →
     exec (.planLoad r src a n) s = .next ((State.answerInProgress
       { s with plan := { s.plan with plans := s.plan.plans ++ [(h, planOf bs)] } } r 0x0402 [.plan h]).distribute r 0x0402
         (.plan h bs) (.answer r 0x0402 h (sha256 bs) []) h (sha256 bs))) ∧
   (∀ (s : State) (r : Req) (src a n h : Nat) (bs : Bytes), FormOk s r 0x0330 → MayManage s r → s.loadSource src a n = .ok bs →
     vocabFault n bs = none → freeHandle (s.pipe.vocabs.map (fun v => v.handle)) 4 = some h →
     s.pipe.vocabs.any (fun v => decide (v.digest = sha256 bs)) = false →
     exec (.vocabLoad r src a n) s = .next ((State.answerInProgress
       { s with pipe := { s.pipe with vocabs := s.pipe.vocabs ++ [⟨h, sha256 bs, bs⟩] } } r 0x0330 [.vocab h]).distribute r 0x0330
         (.vocab h bs) (.answer r 0x0330 h (sha256 bs) []) h (sha256 bs))) ∧
   (∀ (s : State) (r : Req) (src a n h : Nat) (bs : Bytes), FormOk s r 0x0340 → MayManage s r → s.loadSource src a n = .ok bs →
     dupSetFault n bs = none → freeHandle (s.pipe.dupSets.map (fun v => v.handle)) 2 = some h →
     s.pipe.dupSets.any (fun v => decide (v.digest = sha256 bs)) = false →
     exec (.dupSetLoad r src a n) s = .next ((State.answerInProgress
       { s with pipe := { s.pipe with dupSets := s.pipe.dupSets ++ [⟨h, sha256 bs, bs⟩] } } r 0x0340 [.dupSet h]).distribute r 0x0340
         (.dupSet h bs) (.answer r 0x0340 h (sha256 bs) []) h (sha256 bs))) ∧
   (∀ (s : State) (r : Req) (h src a n : Nat) (bs : Bytes), FormOk s r 0x0501 → MayManage s r → s.isHeld (.program h) = false →
     h ≤ 63 → src ≤ 1 → s.loadSource src a n = .ok bs → imageFault n bs = none → s.storeWords + fieldAt bs 8 4 ≤ 8192 →
     lookup? s.ngayx.programs h = none →
     let image := bs.take (64 + 8 * fieldAt bs 8 4)
     let u := s.storeProgram h image
     exec (.programLoad r h src a n) s = .next ((u.answerInProgress r 0x0501 [.program h]).distribute r 0x0501 (.program h image)
       (.answer r 0x0501 0 (sha256 image) [8192 - u.storeWords]) 0 (sha256 image) [8192 - u.storeWords]) ∧
     lookup? u.ngayx.programs h = some image)) ∧
  ((∀ (s : State) (r : Req) (d : Nat), FormOk s r 0x0302 → s.isHeld (.dataset d) = false → (s.dataset? d).isSome = true →
     s.plansInUse.any (fun p => decide (p.datasetId = d)) = false →
     exec (.datasetUnload r d) s = .next (State.answer { s with plan := { s.plan with
       datasets := s.plan.datasets.filter (fun x => decide (x.id ≠ d))
       catalogues := s.plan.catalogues.filter (fun c => decide (c.datasetId ≠ d)) } } r 0x0302 .ok)) ∧
   (∀ (s : State) (r : Req) (h : Nat), FormOk s r 0x0311 → MayManage s r → s.isHeld (.recipe h) = false → h ≤ 15 →
     (lookup? s.plan.recipes h).isSome = true → s.plan.recipe ≠ some h → (s.armedOf .recipeChange).any (fun e => decide (e.item = h)) = false →
     exec (.recipeDrop r h) s = .next (State.forward { s with plan := { s.plan with recipes := erase s.plan.recipes h } } r 0x0311 (natLe 2 h))) ∧
   (∀ (s : State) (r : Req) (h : Nat), FormOk s r 0x0407 → MayManage s r → s.isHeld (.plan h) = false → h ≤ 15 →
     (s.plan? h).isSome = true → (∀ x, s.plan.active = some x → x.1 ≠ h) → (s.armedOf .planChange).any (fun e => decide (e.item = h)) = false →
     exec (.planDrop r h) s = .next (State.forward { s with plan := { s.plan with plans := erase s.plan.plans h } } r 0x0407 (natLe 2 h))) ∧
   (∀ (s : State) (r : Req) (h : Nat), FormOk s r 0x0331 → MayManage s r → s.isHeld (.vocab h) = false → h ≤ 3 →
     s.pipe.vocabs.any (fun v => decide (v.handle = h)) = true →
     (∀ v ∈ s.pipe.vocabs, v.handle = h → ∀ x ∈ s.plan.recipes, vocabDigest x.2 ≠ some v.digest) →
     exec (.vocabDrop r h) s = .next (State.forward { s with pipe := { s.pipe with
       vocabs := s.pipe.vocabs.filter (fun v => decide (v.handle ≠ h)) } } r 0x0331 (natLe 2 h))) ∧
   (∀ (s : State) (r : Req) (h : Nat), FormOk s r 0x0341 → MayManage s r → s.isHeld (.dupSet h) = false → h ≤ 1 →
     s.pipe.dupSets.any (fun v => decide (v.handle = h)) = true →
     (∀ v ∈ s.pipe.dupSets, v.handle = h → ∀ x ∈ s.plan.recipes, ∀ f, filterSection? x.2 = some f →
       bitOf f.dupMode 1 = true → f.dupDigest ≠ v.digest) →
     exec (.dupSetDrop r h) s = .next (State.forward { s with pipe := { s.pipe with
       dupSets := s.pipe.dupSets.filter (fun v => decide (v.handle ≠ h)) } } r 0x0341 (natLe 2 h))) ∧
   (∀ (s : State) (r : Req) (h : Nat), FormOk s r 0x0502 → MayManage s r → s.isHeld (.program h) = false → h ≤ 63 →
     (lookup? s.ngayx.programs h).isSome = true → s.programLaunched h = false → s.ngayx.bindings.any (fun b => decide (b.2 = h)) = false →
     exec (.programDrop r h) s = .next ((State.recordNow
       { s with ngayx := { s.ngayx with programs := erase s.ngayx.programs h } }).forward r 0x0502 (natLe 2 h))))

/-- Chapter 06, the plan's commands (R160, R161, R165, R171 to R174). Chapters 06 and 07, preparation begins (R71, R170, R171,
R175, R179 to R187): a step within horizon and fence, a record that has arrived, a peer's fetch. -/
def Obligations.PlansRun : Prop :=
  ((∀ (s : State) (r : Req) (d : Nat) (x : Dataset), FormOk s r 0x0303 → s.dataset? d = some x →
     exec (.datasetRead r d) s = .next (s.answer r 0x0303 .ok 0
       (match s.catalogue? d with | some c => sha256 c.bytes | none => natLe 32 0)
       [(x.ingots.map (fun i => i.recordCount)).sum, x.ingots.length, (x.ingots.filter (fun i => i.lost)).length])) ∧
   (∀ (s : State) (r : Req) (d : Nat), FormOk s r 0x0304 → MayManage s r → s.isHeld (.dataset d) = false →
     let u := s.answerInProgress r 0x0304 [.dataset d]
     exec (.catalogueBuild r d) s = .next (if (s.audience.filter (fun x => decide (x < 128))).isEmpty then u.finishCatalogue r d
       else State.sendPiece { u with plan := { u.plan with building := some (r, d, s.audience.filter (fun x => decide (x < 128))) } } 0
         (.collect d))) ∧
   (∀ (s : State) (r : Req) (seed : Bytes), FormOk s r 0x0401 → MayManage s r → 32 ≤ seed.length → seed.length ≤ 256 →
     s.plan.active = none →
     exec (.jobSeed r seed) s = .next ((State.recordNow { s with plan := { s.plan with seed := some seed } }).forward r 0x0401 seed)) ∧
   (∀ (s : State) (r : Req) (h : Nat) (p : Plan), FormOk s r 0x0403 → s.plan.active = some (h, p) →
     exec (.planRead r) s = .next (s.answer r 0x0403 .ok 0 p.digest [h, s.gauge.epoch, s.gauge.fence, p.spe, p.window, p.reserve])) ∧
   (∀ (s : State) (r : Req) (h e x : Nat) (p : Plan) (c : Catalogue), FormOk s r 0x0404 → h ≤ 15 → s.plan? h = some p →
     s.catalogue? p.datasetId = some c → e < 2 ^ 32 → x < p.total →
     exec (.planQuery r h 1 e x 0) s = .next (s.answer r 0x0404 .ok 0 [] (planAnswer p c s.jobKey e x)) ∧
     exec (.planQuery r h 2 e x 0) s = .next (s.answer r 0x0404 .ok 0 [] (planAnswer p c s.jobKey e (p.unrecord s.jobKey e x))) ∧
     (∀ step d k, p.startStep ≤ step → step ≤ p.lastStep → d < p.dests.length → k < p.perDest →
       exec (.planQuery r h 0 step d k) s = .next (s.answer r 0x0404 .ok 0 []
         (planAnswer p c s.jobKey (p.epochOf step) (p.positionOf step d k))))) ∧
   (∀ (s : State) (r : Req) (h recipe : Nat) (p : Plan), FormOk s r 0x0405 → planStartCheck r h recipe s = none → s.plan? h = some p →
     ∃ u : State, exec (.planStart r h recipe) s = .next (u.forward r 0x0405 (natLe 2 h ++ natLe 2 recipe)) ∧
       u.plan.active = some (h, p) ∧ u.plan.recipe = some recipe ∧ u.plan.nextStep = p.startStep ∧ u.plan.startGauge = ⟨p.startStep, 0⟩ ∧
       u.gauge.committed = ⟨p.startStep, 0⟩ ∧ u.gauge.leading = ⟨p.startStep, 0⟩ ∧ u.gauge.hold = false ∧
       u.gauge.weir.map (·.target) = some ⟨p.startStep, 0⟩ ∧ u.pipe.feedStarted = false) ∧
   (∀ (s : State) (r : Req), FormOk s r 0x0406 → MayManage s r → s.plan.active.isSome = true →
     ∃ u : State, exec (.planStop r) s = .next (u.forward r 0x0406 []) ∧ u.plan.active = none ∧ u.plan.recipe = none ∧
       u.pipe.dests = [] ∧ u.pipe.feedStarted = false ∧ u.gauge.fenceHolds = [])) ∧
  ((∀ (s : State) (h : Nat) (p : Plan), s.segmentAt s.plan.nextStep = some (h, p) → s.plan.epochLimit = false →
     s.plan.nextStep ≤ s.gauge.leading.step + s.gauge.horizon → s.plan.nextStep ≤ s.gauge.fence →
     (s.plan.nextStep ≤ p.lastStep → exec .stepPrepare s = .next (s.beginStep p s.plan.nextStep)) ∧
     (p.lastStep < s.plan.nextStep →
       exec .stepPrepare s = .next (State.raise { s with plan := { s.plan with epochLimit := true } } .epochLimit))) ∧
   (∀ (s : State) (h : Nat) (p : Plan), s.segmentAt s.plan.nextStep = some (h, p) →
     (s.gauge.leading.step + s.gauge.horizon < s.plan.nextStep ∨ s.gauge.fence < s.plan.nextStep) → exec .stepPrepare s = .next s) ∧
   (∀ (s : State) (id : Nat) (x : Sample) (fs : List FieldFrame), s.sample? id = some x → x.phase = .reading → x.lost = none →
     x.buffers ≠ [] → checkRecord x.record x.bytes = .ok fs →
     ∃ (t : State) (y : Sample), exec (.recordArrival id) s = .next t ∧ t.sample? id = some y ∧ y.phase = .checked ∧
       y.owner = 58 + x.stage ∧ y.buffers = x.buffers ∧
       y.fields = (namedFields (s.recipeBytes x.recipe) fs).map (fun f => { frame := f })) ∧
   (∀ (s : State) (id reason : Nat) (x : Sample), s.sample? id = some x → x.phase = .reading → x.lost = some reason →
     exec (.recordArrival id) s = .next (s.rejectSample x reason 0xFFFF 0)) ∧
   (∀ (s : State) (qp : Nat) (m : Inbound), s.inboxOf qp 32 = some m → fieldAt m.bytes 6 2 = 0 → fieldAt m.bytes 30 2 = 0 →
     qp < 256 → (s.catalogue? (s.datasetHolding (fieldAt m.bytes 0 6))).bind (fun c => c.owner (fieldAt m.bytes 0 6)) ≠ some s.group.set.deviceId →
     ∃ u : State, exec (.peerFetchRequest qp) s = .next (u.post qp
       { kind := .send, data := fetchReply (fieldAt m.bytes 28 2) 1 0 0, user := .owner }) ∧ u.rdma.inbox = s.rdma.inbox.erase m) ∧
   (∀ (s : State) (qp : Nat) (m : Inbound) (f : Fetch), s.inboxOf qp 16 = some m → m.pointer = none → s.fetch? qp (fieldAt m.bytes 0 2) = some f →
     fieldAt m.bytes 2 1 = 0 → fieldAt m.bytes 4 4 = f.received.length + fieldAt m.bytes 8 4 → 0 < fieldAt m.bytes 8 4 →
     let u : State := { s with rdma := { s.rdma with inbox := s.rdma.inbox.erase m } }
     exec (.peerFetchReply qp) s = .next (u.endFetch f
       (f.received ++ s.memRead (bitsOf f.pointer 39 0) (fieldAt m.bytes 8 4)))))

/-! ### Chapters 07 and 08: Riffles and Drawplates -/

/-- Chapter 07, a sample through a Riffle slot (R190 to R212): dispatch, the header, the output buffers, decoding, the budget
and the transform. What the media codecs give is left open; each outcome of theirs has its own effect here. Chapter 07, the
other events and commands (R207, R214 to R220): the watchdog, a Riffle's faults, the release of a sample in order, the reports.
-/
def Obligations.RifflesRun : Prop :=
  ((∀ (s : State) (id : Nat) (x : Sample), s.sample? id = some x → x.entry = true → x.phase = .checked →
     let ready : Sample := { x with phase := .units, fields := x.fields.map (fun p => fieldAtDispatch (s.recipeBytes x.recipe) p.frame) }
     (riffleFields (s.recipeBytes x.recipe) x = [] → exec (.sampleDispatch id) s = .next (s.settleSample ready)) ∧
     (∀ f rest n i, riffleFields (s.recipeBytes x.recipe) x = f :: rest → s.pickSlot x.stage = some (n, i) →
       exec (.sampleDispatch id) s = .next (s.placeInSlot ready n i f.nameId))) ∧
   (∀ (s : State) (n i o : Nat) (x : Sample) (f : FieldFrame) (d : DecodeDesc), s.slotWork n i .header = some (x, f, o, d) →
     let hd := s.headerOf x o d f
     exec (.slotHeaderCheck n i) s = .next (match headerReject d f.typ f.codec f.payload.length hd.2.2 hd.1 with
       | some reason => s.rejectInSlot n i x reason 0
       | none => s.setSlot n i { s.slot n i with state := .alloc })) ∧
   (∀ (s : State) (n i o : Nat) (x : Sample) (f : FieldFrame) (d : DecodeDesc), s.slotWork n i .alloc = some (x, f, o, d) →
     let hd := s.headerOf x o d f
     let limit := outputLimit d (declaredSize f.typ f.codec hd.1 hd.2.2) (decide (f.codec / 16 ≠ 0)) f.payload.length
     let got := s.takeBuffers (48 + n) limit
     exec (.slotAlloc n i) s = .next (match got.2 with
       | none => got.1
       | some l => (got.1.setSlot n i { got.1.slot n i with
           state := .decode, consumed := 0, lastUnit := got.1.now, buffers := (got.1.slot n i).buffers ++ l
           engine := (got.1.riffle n).freeEngine }).setSample { x with decodeAt := some (x.decodeAt.getD got.1.now) })) ∧
   (∀ (s : State) (n i o e : Nat) (x : Sample) (f : FieldFrame) (d : DecodeDesc), s.slotWork n i .decode = some (x, f, o, d) →
     (s.slot n i).engine = some e →
     let run := s.runOf x o d f
     let u := s.addUnits n (run.steps.sum - (s.slot n i).consumed)
     match passesAt (s.limitOf x o d f) run.steps 0 with
     | some c => exec (.budgetExceeded n i) s = .next ((s.addUnits n (c - (s.slot n i).consumed)).rejectInSlot n i x 230 c)
     | none => exec (.decodeFieldEnd n i) s = .next (match u.decodeFault x o d f with
         | some w => u.rejectInSlot n i x w.1 w.2
         | none => (u.setSlot n i { s.slot n i with state := .transform, engine := none, consumed := run.steps.sum
                                                    lastUnit := s.now }).giveEngine n e)) ∧
   (∀ (s : State) (n i o e : Nat) (x : Sample) (f : FieldFrame) (d : DecodeDesc), s.slotWork n i .decode = some (x, f, o, d) →
     (s.slot n i).engine = some e → (s.riffle n).waiting ≠ [] →
     exec (.engineYield n i) s = .next (if (s.runOf x o d f).steps.sum < (s.slot n i).consumed + 65536 then s
       else ((s.addUnits n 65536).giveEngine n e).setSlot n i { s.slot n i with
         engine := none, consumed := (s.slot n i).consumed + 65536, lastUnit := ((s.addUnits n 65536).giveEngine n e).now })) ∧
   (∀ (s : State) (n i o : Nat) (x : Sample) (f : FieldFrame) (d : DecodeDesc), s.slotWork n i .transform = some (x, f, o, d) →
     match s.transformed x o d ((x.field? f.nameId).getD { frame := f }) with
     | .error reason => exec (.transformDone n i) s = .next (s.rejectInSlot n i x reason 0)
     | .ok p =>
       let y := x.setField p
       let u : State := match p.tensor with
         | some t => if d.rounding = 2 ∧ f.typ ≤ 3 then s.usedFor t else s
         | none => s
       exec (.transformDone n i) s = .next (match nextRiffleField (s.recipeBytes x.recipe) y f.nameId with
         | some name => (u.setSample y).setSlot n i { u.slot n i with state := .header, name := name, lastUnit := u.now }
         | none => u.slotDone n i y))) ∧
  ((∀ (s : State) (id : Nat) (x : Sample), s.sample? id = some x → x.decodeAt.isSome = true → x.slow = false → x.phase = .units →
     let ms := watchdogMs (s.recipeBytes x.recipe)
     (s.det.exact = false → lateDefer (s.recipeBytes x.recipe) = true → exec (.sampleWatchdogExpiry id) s = .next
       (((s.setSample { x with slow := true, deferred := true }).writeReport (x.report 4 0 0xFFFF ms)).settlePosition x.dest x.step)) ∧
     ((s.det.exact = true ∨ lateDefer (s.recipeBytes x.recipe) = false) → exec (.sampleWatchdogExpiry id) s = .next
       (((s.setSample { x with slow := true }).writeReport (x.report 3 0 0xFFFF ms)).raiseSlow x))) ∧
   (∀ (s : State) (n i : Nat), n < 8 → (s.riffle n).state ≠ .out →
     exec (.riffleEccError n) s = .next (s.riffleFault n) ∧
     (((s.slot n i).state = .decode ∨ (s.slot n i).state = .transform) → exec (.riffleStallTimeout n i) s = .next (s.riffleFault n)) ∧
     (s.samplesIn n = [] → (s.riffle n).sinceFault = none → n < s.pipe.riffles.length →
       ((s.riffleFault n).riffle n).state = .reset ∧ ((s.riffleFault n).riffle n).faults = (s.riffle n).faults + 1 ∧
       (s.riffleFault n).power.blocks.any (fun b => decide (b.target = 0x0200 + n)) = true)) ∧
   (∀ (s : State) (d : Nat) (q : DestQueue) (x : Sample), s.destQ? d = some q → s.headOf q = some x →
     (x.phase ≠ .kept ∨ x.resumed = true) → exec (.reseqRelease d) s = .next (s.releaseHead q x q.window)) ∧
   (∀ (s : State) (d : Nat) (q : DestQueue) (x : Sample), s.destQ? d = some q → s.headOf q = some x → x.phase = .kept →
     x.resumed = false → (batchOf q x).isSome = true → filterSection? (s.recipeBytes x.recipe) = none →
     exec (.reseqRelease d) s = .next (s.releaseHead q x q.window)) ∧
   (∀ (s : State) (r : Req) (n : Nat), FormOk s r 0x0320 → (n ≤ 7 ∨ n = 255) →
     exec (.riffleStatus r n) s = .next (s.answer r 0x0320 .ok 0 []
       ((if n = 255 then List.range 8 else [n]).flatMap s.riffleReport ++ s.pipe.stages.map (fun g => g.reserved)))) ∧
   (∀ (s : State) (r : Req) (first count : Nat), FormOk s r 0x0321 → 1 ≤ count → count ≤ 100 →
     let oldest := s.pipe.reportSeq - s.pipe.reports.length
     let from_ := max first oldest
     let got := (s.pipe.reports.drop (from_ - oldest)).take count
     exec (.sampleReportRead r first count) s = .next (s.answer r 0x0321 .ok 0 (got.flatMap Report.bytes)
       [(decide (first < oldest)).toNat, from_ + got.length, s.pipe.reportOverflow])))

/-- Chapter 08 (R221 to R250): a text field takes a stream and comes back as tokens or a rejection, a synthetic message as text;
a Drawplate's faults, its status, and the probe. -/
def Obligations.DrawplatesRun : Prop :=
  (∀ (s : State) (id name : Nat) (x : Sample) (p : PField) (d : TextDesc), s.sample? id = some x →
    s.waitingText x name = some (p, d) →
    (s.noPlates = true → exec (.textStreamAssign id name) s = .next (s.rejectSample x 305 name 0)) ∧
    (s.noPlates = false → d.maxBytes < (p.data.getD []).length → exec (.textStreamAssign id name) s = .next (s.rejectSample x 304 name 0)) ∧
    (∀ n i, s.noPlates = false → (p.data.getD []).length ≤ d.maxBytes → s.streamFor x.stage false = some (n, i) →
      exec (.textStreamAssign id name) s = .next (s.takeStream n i (.encode id name)))) ∧
  (∀ (s : State) (n i id name : Nat) (x : Sample) (p : PField) (d : TextDesc), s.streamUse n i = some (.encode id name) →
    s.sample? id = some x → x.field? name = some p → textDescOf (s.recipeBytes x.recipe) name = some d →
    let e := encodeText (s.vocabOf (s.recipeBytes x.recipe)) d (p.data.getD [])
    match e.result with
    | .error reason =>
      let u := s.freeStreamAt n i
      exec (.textEncodeDone n i) s = .next ((u.setPlate n { u.plate n with
        rejections := bump (u.plate n).rejections reason, replacements := (u.plate n).replacements + e.replaced }).rejectSample x reason name 0)
    | .ok ts =>
      let t := tokenTensor ts
      let got := s.takeBuffers (56 + n) t.bytes.length
      exec (.textEncodeDone n i) s = .next (match got.2 with
        | none => got.1
        | some l =>
          let u := (got.1.handOffAll l (56 + n) x.owner).freeStreamAt n i
          (u.setPlate n ((u.plate n).fieldDone (p.data.getD []).length e.replaced)).settleSample
            ({ x with buffers := x.buffers ++ l }.setField { p with tokens := some ts, tensor := some t, arrived := true }))) ∧
  (∀ (s : State) (m : Inbound) (n i : Nat), s.synthMessage = some m → s.synthFault m.bytes = none →
    s.streamFor (s.stageOfPort m.port) true = some (n, i) →
    ∃ t, exec .synthStreamAssign s = .next t ∧ t.pipe.nextId = s.pipe.nextId + 1 ∧ t.rdma.inbox = s.rdma.inbox.erase m ∧
      t.pipe.synth.received = s.pipe.synth.received + 1 ∧
      t.pipe.samples.map (·.id) = s.pipe.samples.map (·.id) ++ [s.pipe.nextId]) ∧
  (∀ (s : State) (n i id reason : Nat) (x : Sample) (y : SynthPart) (p : Profile), s.streamUse n i = some (.decode id) →
    s.sample? id = some x → x.synth = some y → profile? (s.recipeBytes x.recipe) y.profile = some p →
    decodeTokens (s.vocabOf (s.recipeBytes x.recipe)) p y.tokens = .error reason →
    exec (.detokDone n i) s = .next ((s.setPlate n { s.plate n with
      rejections := bump (s.plate n).rejections reason, dropped := (s.plate n).dropped + 1 }).dropSynthSample x 4)) ∧
  (∀ (s : State) (n i id : Nat) (x : Sample) (y : SynthPart) (p : Profile) (d : Decoded),
    s.streamUse n i = some (.decode id) → s.sample? id = some x → x.synth = some y →
    profile? (s.recipeBytes x.recipe) y.profile = some p → y.pointer = none →
    decodeTokens (s.vocabOf (s.recipeBytes x.recipe)) p y.tokens = .ok d →
    let got := s.takeBuffers (56 + n) d.text.length
    exec (.detokDone n i) s = .next (match got.2 with
      | none => got.1
      | some l =>
        let v := (got.1.handOffAll l (56 + n) x.owner).freeStreamAt n i
        (v.setPlate n { v.plate n with
          messages := (v.plate n).messages + 1, bytesOut := (v.plate n).bytesOut + d.text.length
          replacements := (v.plate n).replacements + d.replaced, stops := bump (v.plate n).stops d.reason }).settleSample
            { x with buffers := l, fields := synthFields (s.recipeBytes x.recipe) p y.tokens d
                     synth := some { y with report := d.report, pointer := none } })) ∧
  (∀ (s : State) (n i : Nat), (s.plate n).state ≠ .out →
    exec (.drawplateEccError n) s = .next (s.plateFault n) ∧
    ((s.streamUse n i).isSome = true → exec (.drawplateStallTimeout n i) s = .next (s.plateFault n)) ∧
    ((s.plate n).sinceFault = none → ∃ u : State, s.plateFault n = u.blockReset (0x0300 + n) ∧
      u.pipe.plates = (s.emptyPlate n).pipe.plates.set n
        { (s.emptyPlate n).plate n with state := .reset, faults := (s.plate n).faults + 1, sinceFault := some 0 })) ∧
  (∀ (s : State) (r : Req) (n : Nat), FormOk s r 0x0332 → (n ≤ 1 ∨ n = 255) →
    exec (.drawplateStatus r n) s = .next (s.answer r 0x0332 .ok 0 [] ((if n = 255 then [0, 1] else [n]).flatMap s.plateReport))) ∧
  (∀ (s : State) (r : Req) (recipe item out limit : Nat) (input bs rep : Bytes) (dir : Nat), FormOk s r 0x0333 → recipe ≤ 15 → dir ≤ 1 →
    (lookup? s.plan.recipes recipe).isSome = true → inWindow out limit = true → input.length ≤ 4000 → (dir = 1 → input.length % 4 = 0) →
    s.probe (s.recipeBytes recipe) dir item input = some (.ok (bs, rep)) → bs.length ≤ limit →
    exec (.textProbe r recipe dir item out limit input) s = .next ((s.memWrite out bs).answer r 0x0333 .ok bs.length rep))

/-! ### Chapters 09 to 12: screening, the Anvil, the feed and programs -/

/-- Chapter 09, screening (R251 to R262): a sample whose recipe has no filters is kept; the checks reject with the reason that
fails; a kernel that reaches its bound ends as one that did. Chapter 09, the Anvil (R265 to R284): row tiles of up to 128
vectors, the end of a job, its faults and status. -/
def Obligations.ScreeningAndAnvilRun : Prop :=
  ((∀ (s : State) (id : Nat) (x : Sample), s.sample? id = some x → x.phase = .screening → x.screen = .first → x.synth = none →
     filterSection? (s.recipeBytes x.recipe) = none → x.stage < s.pipe.stages.length →
     ∃ (t : State) (y : Sample), exec (.sampleScreen id) s = .next t ∧ t.sample? id = some y ∧ y = { x with phase := .kept } ∧
       (t.stageOf x.stage).screened = (s.stageOf x.stage).screened + 1 ∧ (t.stageOf x.stage).kept = (s.stageOf x.stage).kept + 1 ∧
       t.mem = s.mem ∧ t.pools = s.pools) ∧
   (∀ (s : State) (id e name : Nat) (x : Sample) (f : FilterSection), s.sample? id = some x → x.phase = .screening → x.screen = .first →
     filterSection? (s.recipeBytes x.recipe) = some f → fixedFault f x = some (e, name) →
     exec (.sampleScreen id) s = .next (s.screenReject x e name)) ∧
   (∀ (s : State) (id e : Nat) (x : Sample) (f : FilterSection), s.sample? id = some x → x.phase = .screening → x.screen = .scored →
     filterSection? (s.recipeBytes x.recipe) = some f → s.setFault f x = some e →
     exec (.sampleScreen id) s = .next (s.screenReject x e 0xFFFF)) ∧
   (∀ (s : State) (ctx stage id k : Nat) (c : NgCtx), s.ngayx.contexts.find? (fun c => decide (c.id = ctx)) = some c →
     c.run = .kernel stage id k → c.ended = false → c.budget ≤ c.executed →
     exec (.kernelBoundReached ctx) s = .next (s.kernelEnded { c with bound := true }) ∧
     (∀ x, s.sample? id = some x → ∃ u : State,
       s.kernelEnded { c with bound := true } = u.screenReject x (460 + k) 0xFFFF ∧
       u.ngayx.contexts = s.ngayx.contexts.filter (fun y => decide (y.id ≠ c.id))))) ∧
  ((∀ (s : State) (stage : Nat), stage < 2 →
     exec (.anvilRowTileTimeout stage) s = .next (s.submitTile stage) ∧
     (128 ≤ (s.stageOf stage).vectors.length → exec (.anvilRowTileSubmit stage) s = .next (s.submitTile stage)) ∧
     (s.rowTile stage).length ≤ 128 ∧
     (s.rowTile stage ≠ [] → (s.submitTile stage).pipe.anvil.jobs = s.pipe.anvil.jobs ++ [(2 * stage, .feature (s.rowTile stage))])) ∧
   (∀ (s : State) (stage : Nat) (l : List Nat), s.pipe.anvil.state = .active →
     s.pipe.anvil.jobs = [(2 * stage, .feature l)] →
     ∃ t, exec (.anvilJobComplete (2 * stage)) s = .next t ∧ t.pipe.anvil.jobs = [] ∧
       t.pipe.anvil.done = s.pipe.anvil.done.set (2 * stage) (s.pipe.anvil.done.getD (2 * stage) 0 + 1) ∧
       t.pipe.anvil.arb = (2 * stage + 1) % 4) ∧
   (∀ s : State, s.pipe.anvil.state ≠ .out → s.pipe.anvil.jobs ≠ [] →
     ∃ t, exec .anvilEccError s = .next t ∧ exec .anvilTileTimeout s = .next t ∧ t.pipe.anvil.state = .reset ∧
       t.pipe.anvil.faults = s.pipe.anvil.faults + 1 ∧ t.power.blocks.any (fun b => decide (b.target = 0x0400)) = true) ∧
   (∀ (s : State) (r : Req), FormOk s r 0x0343 →
     exec (.anvilStatus r) s = .next (s.answer r 0x0343 .ok 0 []
       ([s.pipe.anvil.state.value] ++ s.pipe.anvil.pairs ++ s.pipe.anvil.done ++ [s.pipe.anvil.discards, s.pipe.anvil.faults, s.weightBytes]))) ∧
   (∀ (s : State) (r : Req) (n : Nat), FormOk s r 0x0342 → (n ≤ 1 ∨ n = 255) →
     exec (.filterStatus r n) s = .next (s.answer r 0x0342 .ok 0 [] ((if n = 255 then [0, 1] else [n]).flatMap s.filterReport))))

/-- Chapter 10, batches and slots (R285 to R303): a batch starts within depth, horizon and fence; it closes when every position
has settled; its bytes go to the ring's next slot; the credit word returns slots. Chapter 10, the commands of the feed and of
the synthetic path (R304 to R310). -/
def Obligations.BatchesAndFeedRun : Prop :=
  ((∀ (s : State) (d h x : Nat) (q : DestQueue) (p : Plan), s.destQOrNew d = some q → s.segmentAt q.next = some (x, p) →
     s.recipeAt q.next = some h → s.mayPrepare q.next = true → q.next ≤ p.lastStep → q.building < (s.queueSet d).1 →
     (s.localDests p).contains d = true → s.plan.nextStep ≤ q.next →
     let port := (p.dests.getD d ⟨0, 0, 0⟩).port
     let b : OpenBatch := { step := q.next, recipe := h, port := port, last := decide (q.next = p.lastStep)
                            packs := !decide (q.next < s.plan.startGauge.step) && decide (q.packFrom ≤ q.next) }
     exec (.batchStart d) s = .next (s.putDestQ { q with
       next := q.next + 1, depth := (s.queueSet d).1, opens := q.opens ++ [b], stage := s.stageOfPort port })) ∧
   (∀ (s : State) (d : Nat) (q : DestQueue) (b : OpenBatch) (rest : List OpenBatch) (k : PackSection), s.destQ? d = some q →
     q.opens = b :: rest → s.batchSettled q b = true → b.packs = true → packSection? (s.recipeBytes b.recipe) = some k →
     exec (.batchClose d) s = .next (s.closePacked q b k)) ∧
   (∀ (s : State) (d : Nat) (q : DestQueue) (b : Batch) (g : Ring), s.destQ? d = some q →
     q.closed.find? (fun b => b.index.isNone) = some b → s.proxied q b = false → s.ring? b.port = some g → s.pipe.feedStarted = true →
     s.rqpReady g.qp = true → g.slotReady = true →
     let closed := updateFirst (fun x => x.index.isNone) (fun x => { x with index := some g.written }) q.closed
     exec (.feedSlotWrite d) s = .next (((s.setDestQ { q with closed := closed }).postBatch g b).count (.feed d 0))) ∧
   (∀ (s : State) (port : Nat) (g : Ring), s.ring? port = some g →
     let v := leNat (s.memRead g.credit 8)
     (g.lastRead = some v → exec (.creditRead port) s = .next s) ∧
     (g.lastRead ≠ some v → g.ignores v = false → ∃ u : State,
       exec (.creditRead port) s = .next (u.creditBatches port (g.accepted + (v % 2 ^ 32 + 2 ^ 32 - g.accepted % 2 ^ 32) % 2 ^ 32)) ∧
       u.pipe.consumed = bump s.pipe.consumed port ((v % 2 ^ 32 + 2 ^ 32 - g.accepted % 2 ^ 32) % 2 ^ 32)) ∧
     (g.lastRead ≠ some v → g.ignores v = true → g.ignoredRun = 7 →
       ∃ u : State, exec (.creditRead port) s = .next (u.raise .feedCreditFault port)))) ∧
  ((∀ (s : State) (r : Req) (port qp va rkey slots size tag i : Nat), FormOk s r 0x0350 → s.isAccel port = true → 2 ≤ slots → slots ≤ 256 →
     4096 ≤ size → size ≤ 1073741824 → size % 4096 = 0 → tag ≠ 0 → (s.rqp? qp).isSome = true →
     s.boundsInUse.any (fun b => decide (size < b)) = false → s.ring? port = none → (s.dropRing port).highestFree 16383 = some i →
     let u := (s.dropRing port).registerRing port qp va rkey slots size tag i
     exec (.feedRingSet r port qp va rkey slots size tag) s = .next (u.answer r 0x0350 .ok
       (match u.ring? port with | some g => g.credit | none => 0) (natLe 4 (u.rkeyOf i) ++ natLe 4 0))) ∧
   (∀ (s : State) (r : Req) (port : Nat), FormOk s r 0x0351 → s.isAccel port = true → (s.ring? port).isSome = true → s.portPlanned port = false →
     exec (.feedRingClear r port) s = .next ((s.dropRing port).answer r 0x0351 .ok)) ∧
   (∀ (s : State) (r : Req) (d depth low : Nat), FormOk s r 0x0352 → 1 ≤ depth → depth ≤ 64 → low ≤ depth →
     (d ≤ 14335 → exec (.feedQueueSet r d depth low) s = .next (State.answer { s with pipe := { s.pipe with
       queueSets := s.pipe.queueSets.filter (fun q => decide (q.1 ≠ d)) ++ [(d, depth, low)] } } r 0x0352 .ok)) ∧
     (d = 0xFFFF → exec (.feedQueueSet r d depth low) s = .next (State.answer { s with pipe := { s.pipe with
       queueSets := [], queueDepth := depth, lowWater := low } } r 0x0352 .ok))) ∧
   (∀ (s : State) (r : Req) (d : Nat) (q : DestQueue), FormOk s r 0x0353 → d ≤ 14335 → s.destQ? d = some q →
     exec (.feedStatus r d) s = .next (s.answer r 0x0353 .ok 0 [] (s.feedReport q))) ∧
   (∀ (s : State) (r : Req) (pool ds next z1 z2 recs bytes : Nat), FormOk s r 0x0354 → pool ≤ 63 → ds ≠ 0 → next < 2 ^ 48 →
     z1 ≤ z2 → z2 < s.media.zoneCount → 1 ≤ recs → recs ≤ 16777216 → 1048576 ≤ bytes → bytes ≤ 1073741824 → bytes % 4096 = 0 →
     (s.pool? pool).isSome = true → s.pipe.synth.building = none →
     exec (.synthConfig r pool ds next z1 z2 recs bytes) s = .next (State.answer { s with pipe := { s.pipe with synth := { s.pipe.synth with
       config := some (pool, ds, z1, z2, recs, bytes), nextRecord := next, zone := z1, stopped := false } } } r 0x0354 .ok)) ∧
   (∀ (s : State) (r : Req), FormOk s r 0x0355 →
     let u := s.answerInProgress r 0x0355 []
     exec (.synthFlush r) s = .next ((State.closeIngot { u with pipe := { u.pipe with synth := { u.pipe.synth with
       flushes := u.pipe.synth.flushes ++ [(r, if u.pipe.synth.building.isSome then none else some u.pipe.synth.ingots)] } } }).synthDurable)) ∧
   (∀ (s : State) (r : Req), FormOk s r 0x0356 →
     exec (.synthStatus r) s = .next (s.answer r 0x0356 .ok 0 [] ([s.pipe.synth.received, s.pipe.synth.kept]
       ++ (List.range 6).map (fun i => lookupD s.pipe.synth.drops (i + 1) 0)
       ++ [s.pipe.synth.records, s.pipe.synth.ingots, s.pipe.synth.nextRecord]))) ∧
   (∀ s : State, s.pipe.synth.due = true → exec .ingotClose s = .next s.closeIngot.synthDurable))

/-- Chapters 11 and 12 (R317, R351 to R355): the format table and its digest, reading a program, binding a channel, and a
context that reaches its instruction bound. R336, R350: an instruction takes effect in its own context and nowhere else but the
grant its launch shares (R347) and the executor's arbiter; a command that names another instruction than the one at the PC
changes nothing. R370: the control instructions. -/
def Obligations.ProgramsAndControlRun : Prop :=
  ((∀ (s : State) (r : Req), FormOk s r 0x0110 →
     exec (.formatTableRead r) s = .next (s.answer r 0x0110 .ok 0 (numberFormats ++ sha256 numberFormats))) ∧
   (∀ (s : State) (r : Req) (h : Nat) (image : Bytes), FormOk s r 0x0503 → h ≤ 63 → lookup? s.ngayx.programs h = some image →
     exec (.programRead r h) s = .next (s.answer r 0x0503 .ok 0 (image.take 64 ++ sha256 image) [s.programRuns h])) ∧
   (∀ (s : State) (r : Req) (h : Nat), FormOk s r 0x0503 → 64 ≤ h → h ≤ 67 →
     ∃ v, exec (.programRead r h) s = .next (s.answer r 0x0503 .ok 0 [] v) ∧ v.getLast? = some (s.programRuns h)) ∧
   (∀ (s : State) (r : Req) (c h : Nat), FormOk s r 0x0504 → MayManage s r → s.isHeld (.channel c) = false → s.isHeld (.program h) = false →
     8 ≤ c → c ≤ 1023 →
     (h ≤ 79 → s.programKnown h = true → exec (.channelProgramSet r c h) s = .next ((State.recordNow
       { s with ngayx := { s.ngayx with bindings := assign s.ngayx.bindings c h } }).forward r 0x0504 (natLe 2 c ++ natLe 2 h))) ∧
     (h = 0xFFFF → exec (.channelProgramSet r c h) s = .next ((State.recordNow
       { s with ngayx := { s.ngayx with bindings := erase s.ngayx.bindings c } }).forward r 0x0504 (natLe 2 c ++ natLe 2 h)))) ∧
   (∀ (s : State) (ctx launch chunk node tree idx : Nat) (c : NgCtx), s.ctx? ctx = some c →
     c.run = .node launch chunk node tree idx → c.ended = false → c.budget ≤ c.executed →
     ∃ (t : State) (c' : NgCtx), exec (.insnBoundReached ctx) s = .next t ∧ t.ctx? ctx = some c' ∧ c'.fault = 1 ∧ c'.ended = true ∧
       c'.pc = c.pc ∧ c'.v = c.v ∧ c'.s = c.s)) ∧
  ((∀ (s : State) (ctx op : Nat) (w : Fields) (f : Bytes → NgCtx → NgCtx), (∀ c, s.ctx? ctx = some c → c.about op w = false) →
     s.issue ctx op w f = s) ∧
   (∀ (s : State) (c : NgCtx) (y : NgCtx) (l chunk level node cr : Nat), s.ctx? c.id = some y → y.run = .node l chunk level node cr →
     c.run = y.run →
     let t := s.issued c
     t.ctx? c.id = some c ∧ t.ngayx.contexts.length = s.ngayx.contexts.length ∧
     (∀ k z, k ≠ c.id → s.ctx? k = some z → ∃ g, t.ctx? k = some { z with grant := g } ∧
       ((∀ a b d e, z.run ≠ .node l a b d e) → g = z.grant)) ∧
     t.ngayx.arbs = s.ngayx.arbs.set (executorOf c.id).1 (arbNext (executorOf c.id).2.2 (executorOf c.id).2.1) ∧
     t = { s with ngayx := { s.ngayx with contexts := t.ngayx.contexts, arbs := t.ngayx.arbs }
                  coll := { s.coll with launches := t.coll.launches } } ∧
     (∀ z ∈ t.coll.launches, ∃ o ∈ s.coll.launches, z = { o with grant := z.grant } ∧ (o.id ≠ l → z = o)))) ∧
  (∀ (s : State) (ctx : Nat) (w : Fields) (c : NgCtx), c.fits = true → w.wf = true →
    (Issues s ctx 0x01 w c → exec (.halt ctx w) s = .next (s.issued { c with halted := true, executed := c.executed + 1 })) ∧
    (Issues s ctx 0x02 w c → exec (.br ctx w) s = .next (s.issued (c.branchAfter true (w.imm % 1024)))) ∧
    (Issues s ctx 0x03 w c → exec (.brz ctx w) s = .next (s.issued (c.branchAfter (c.word w.a == 0) (w.imm % 1024)))) ∧
    (Issues s ctx 0x04 w c → exec (.brnz ctx w) s = .next (s.issued (c.branchAfter (c.word w.a != 0) (w.imm % 1024)))) ∧
    (∀ b : Bool, (b = true ↔ ∃ i, i < lanes w.fmt ∧ bitOf (c.pr w.a) i = true) →
      (Issues s ctx 0x05 w c → exec (.brany ctx w) s = .next (s.issued (c.branchAfter b (w.imm % 1024)))) ∧
      (Issues s ctx 0x06 w c → exec (.brnone ctx w) s = .next (s.issued (c.branchAfter (!b) (w.imm % 1024))))) ∧
    (Issues s ctx 0x07 w c → exec (.brend ctx w) s = .next (s.issued (c.branchAfter (c.ins.getD w.a {}).ended (w.imm % 1024)))) ∧
    (Issues s ctx 0x08 w c → exec (.loop ctx w) s = .next (s.issued
      { c.branchAfter (c.word w.a != 1) (w.imm % 1024) with s := c.s.set w.a (c.word w.a - 1).toNat })) ∧
    (Issues s ctx 0x09 w c → exec (.stset ctx w) s = .next (s.issued { c.after with user := w.imm % 2 ^ 16 })))

/-! ### Chapter 13: Ngayx -/

/-- R372: the scalar instructions compute on words of 64 bits and write nothing but sD. R363, R372: the predicate instructions
write the governed bits of pD; bits at or above lanes(F) become 0. -/
def Obligations.NgayxScalarsRun : Prop :=
  (∀ (s : State) (ctx : Nat) (w : Fields) (c : NgCtx), c.fits = true → w.wf = true →
    let a := c.word w.a
    let b := c.word w.b
    let imm := BitVec.ofNat 28 w.imm
    let put (v : BitVec 64) : State := s.issued (c.scalarAfter w.d v)
    (Issues s ctx 0x10 w c → exec (.smovi ctx w) s = .next (put (imm.signExtend 64))) ∧
    (Issues s ctx 0x11 w c → exec (.slui ctx w) s = .next (put ((c.word w.d <<< 28) + imm.setWidth 64))) ∧
    (Issues s ctx 0x12 w c → exec (.sadd ctx w) s = .next (put (a + b))) ∧
    (Issues s ctx 0x13 w c → exec (.saddi ctx w) s = .next (put (a + imm.signExtend 64))) ∧
    (Issues s ctx 0x14 w c → exec (.ssub ctx w) s = .next (put (a - b))) ∧
    (Issues s ctx 0x15 w c → exec (.smul ctx w) s = .next (put (a * b))) ∧
    (Issues s ctx 0x16 w c → exec (.sand ctx w) s = .next (put (a &&& b))) ∧
    (Issues s ctx 0x17 w c → exec (.sor ctx w) s = .next (put (a ||| b))) ∧
    (Issues s ctx 0x18 w c → exec (.sxor ctx w) s = .next (put (a ^^^ b))) ∧
    (Issues s ctx 0x19 w c → exec (.sshl ctx w) s = .next (put (a <<< (b.toNat % 64)))) ∧
    (Issues s ctx 0x1A w c → exec (.sshr ctx w) s = .next (put (a >>> (b.toNat % 64)))) ∧
    (Issues s ctx 0x1B w c → exec (.ssra ctx w) s = .next (put (a.sshiftRight (b.toNat % 64)))) ∧
    (Issues s ctx 0x1C w c → exec (.scmp ctx w) s = .next (put (if
      match w.imm % 8 with
      | 0 => a == b
      | 1 => a != b
      | 2 => a.slt b
      | 3 => a.sle b
      | 4 => a.ult b
      | _ => a.ule b
      then 1 else 0))) ∧
    (Issues s ctx 0x1D w c → w.fmt.cls ≠ .blk → w.imm % 1024 < lanes w.fmt →
      let lane := BitVec.ofNat w.fmt.bits (laneOf w.fmt (c.vr w.a) (w.imm % 1024))
      exec (.sget ctx w) s = .next (put (if w.fmt.cls = .flt then lane.setWidth 64 else lane.signExtend 64))) ∧
    (Issues s ctx 0x25 w c → exec (.pcnt ctx w) s = .next (put (BitVec.ofNat 64
      ((List.range (lanes w.fmt)).countP (fun i => bitOf (c.pr w.a) i)))))) ∧
  (∀ (s : State) (ctx : Nat) (w : Fields) (c : NgCtx), c.fits = true → w.wf = true →
    ∀ (op : Nat) (mk : Nat → Fields → Instr) (g : Nat → Bool), (op, mk, g) ∈
      [(0x20, Instr.pand, fun i => bitOf (c.pr w.a) i && bitOf (c.pr w.b) i), (0x21, Instr.por, fun i => bitOf (c.pr w.a) i || bitOf (c.pr w.b) i),
       (0x22, Instr.pxor, fun i => bitOf (c.pr w.a) i != bitOf (c.pr w.b) i), (0x23, Instr.pnot, fun i => !bitOf (c.pr w.a) i),
       (0x24, Instr.pfirst, fun i => decide ((i : Int) < (c.word w.a).toInt))] →
      Issues s ctx op w c → ∃ n : Nat, exec (mk ctx w) s = .next (s.issued { c.after with p := c.p.set (w.d % 8) n }) ∧ n < 2 ^ lanes w.fmt ∧
        ∀ i, i < lanes w.fmt → bitOf n i = if c.gov w i then g i else bitOf (c.pr w.d) i)

/-- R362, R373 to R377: the arithmetic instructions in FLT and INT formats round each governed lane once from its exact value
and leave the others and every other register as they were. R362, R376: in block formats an arithmetic instruction quantises
each governed block once from its exact element results; a block that is not governed keeps its tag and scale, unless it holds
an element NaN and the register is narrowed under it. -/
def Obligations.NgayxArithmeticRuns : Prop :=
  (∀ (s : State) (ctx : Nat) (w : Fields) (c : NgCtx), c.fits = true → w.wf = true → w.fmt.cls ≠ .blk →
    let f := w.fmt
    let val (r i : Nat) : Val := f.value (laneOf f (c.vr r) i)
    ∀ (op : Nat) (mk : Nat → Fields → Instr) (g : Nat → Val), (op, mk, g) ∈
      [(0x30, Instr.vadd, fun i => addVal (val w.a i) (val w.b i)), (0x31, Instr.vsub, fun i => addVal (val w.a i) (negVal (val w.b i))),
       (0x32, Instr.vmul, fun i => mulVal (val w.a i) (val w.b i)),
       (0x33, Instr.vfma, fun i => addVal (mulVal (val w.a i) (val w.b i)) (val w.d i)),
       (0x34, Instr.vneg, fun i => negVal (val w.a i)), (0x35, Instr.vabs, fun i => absVal (val w.a i)),
       (0x36, Instr.vmin, fun i => pickVal true (val w.a i) (val w.b i)),
       (0x37, Instr.vmax, fun i => pickVal false (val w.a i) (val w.b i))] →
      Issues s ctx op w c → ∃ u, exec (mk ctx w) s = .next (s.issued u) ∧ VectorOnly c u w.d ∧ u.fits = true ∧
        ∀ i, i < lanes f → laneOf f (u.vr w.d) i = if c.gov w i
          then (roundLane f w.mode (c.lane s.jobKey w i) (g i)).1 % 2 ^ f.bits else laneOf f (c.vr w.d) i) ∧
  (∀ (s : State) (ctx : Nat) (w : Fields) (c : NgCtx), c.fits = true → w.wf = true → w.fmt.cls = .blk →
    let f := w.fmt
    ∀ (op : Nat) (mk : Nat → Fields → Instr) (second : Nat) (g : Val → Val → Val), (op, mk, second, g) ∈
      [(0x30, Instr.vadd, w.b, addVal), (0x31, Instr.vsub, w.b, fun a b => addVal a (negVal b)), (0x32, Instr.vmul, w.b, mulVal),
       (0x34, Instr.vneg, w.a, fun a _ => negVal a), (0x35, Instr.vabs, w.a, fun a _ => absVal a),
       (0x36, Instr.vmin, w.b, pickVal true), (0x37, Instr.vmax, w.b, pickVal false)] →
      Issues s ctx op w c → ∃ u, exec (mk ctx w) s = .next (s.issued u) ∧ VectorOnly c u w.d ∧
        ∀ b, b < 8 →
          let tag (x : NgCtx) : Nat := x.vr w.d / 2 ^ (8 * b) % 256
          let scale (x : NgCtx) : Nat := x.vr w.d / 2 ^ (64 + 8 * b) % 256
          let quiet : Prop := ∀ k ∈ ((regBlocks f (c.vr w.d)).getD b (zeroBlock f)).elems, (viewFmt f (c.vr w.d)).value k ≠ .nan
          (c.gov w (32 * b) = false → quiet → tag u = tag c ∧ scale u = scale c) ∧
          (c.gov w (32 * b) = false → ¬ quiet → (tag u = tag c ∧ scale u = scale c) ∨ (tag u = (nanBlock f).tag ∧ scale u = 0xFF)) ∧
          (∀ p q, c.gov w (32 * b) = true → (readReg f (c.vr w.a) b).1 = some p → (readReg f (c.vr second) b).1 = some q →
            let us := if w.mode = .sr then (List.range 32).map (fun i => c.lane s.jobKey w (32 * b + i)) else []
            let e := (emit f w.mode c.escBound (List.zipWith g p q) us).block
            tag u = e.tag % 256 ∧ scale u = e.scale % 256) ∧
          (c.gov w (32 * b) = true → ((readReg f (c.vr w.a) b).1 = none ∨ (readReg f (c.vr second) b).1 = none) →
            tag u = (nanBlock f).tag ∧ scale u = 0xFF))

/-- R373, R378, R379, R387: the exact sums, the comparison, the moves, the hashes and the draws. R380 to R383: VCVT and VDQNT
round each destination lane that has a source once, VQNT quantises whole blocks, VSORT and VMERGE give the pairs in order,
stable: pairs of equal keys keep their order, X before Y. -/
def Obligations.NgayxMovesAndConvertRun : Prop :=
  (∀ (s : State) (ctx : Nat) (w : Fields) (c : NgCtx), c.fits = true → w.wf = true →
    let f := w.fmt
    let num (r i : Nat) : Int := signedOf f.bits (laneOf f (c.vr r) i)
    let kept := (List.range (lanes f)).filter (fun i => c.gov w i)
    (Issues s ctx 0x38 w c → f.cls ≠ .blk → exec (.vdot ctx w) s = .next (s.issued (c.scalarAfter w.d
      (BitVec.ofInt 64 (kept.map (fun i => num w.a i * num w.b i)).sum)))) ∧
    (Issues s ctx 0x39 w c → f.cls ≠ .blk → exec (.vhsum ctx w) s = .next (s.issued (c.scalarAfter w.d
      (BitVec.ofInt 64 (kept.map (fun i => num w.a i)).sum)))) ∧
    (let val (r i : Nat) : Val := if f.cls = .blk then (blockLanes (readReg f (c.vr r) (i / 32))).getD (i % 32) .nan
       else f.value (laneOf f (c.vr r) i)
     Issues s ctx 0x40 w c → ∃ (n fl : Nat),
      exec (.vcmp ctx w) s = .next (s.issued { c.after with p := c.p.set (w.d % 8) n, flags := c.flags ||| fl }) ∧ n < 2 ^ lanes f ∧
      ∀ i, i < lanes f → bitOf n i = if c.gov w i then compare (w.imm % 8) (val w.a i) (val w.b i) else bitOf (c.pr w.d) i) ∧
    (Issues s ctx 0x41 w c → f.cls ≠ .blk → ∃ u, exec (.vsel ctx w) s = .next (s.issued u) ∧ VectorOnly c u w.d ∧ u.flags = c.flags ∧
      ∀ i, i < lanes f → laneOf f (u.vr w.d) i = laneOf f (if bitOf (c.pr w.p) i then c.vr w.a else c.vr w.b) i) ∧
    (Issues s ctx 0x48 w c → exec (.vmov ctx w) s = .next (s.issued { c.after with v := c.v.set w.d (c.vr w.a) })) ∧
    (Issues s ctx 0x4B w c → exec (.vzero ctx w) s = .next (s.issued { c.after with v := c.v.set w.d 0 })) ∧
    (Issues s ctx 0x1E w c → f.cls ≠ .blk → ∃ u, exec (.sput ctx w) s = .next (s.issued u) ∧ VectorOnly c u w.d ∧ u.flags = c.flags ∧
      ∀ i, i < lanes f → laneOf f (u.vr w.d) i = if i = w.imm % 1024 then c.sr w.a % 2 ^ f.bits else laneOf f (c.vr w.d) i) ∧
    (∀ (op : Nat) (mk : Nat → Fields → Instr) (g : Nat → Nat), (op, mk, g) ∈
      [(0x49, Instr.vbcast, fun _ => c.sr w.a), (0x4A, Instr.viota, fun i => c.sr w.a + i),
       (0x70, Instr.vcrc, fun i => crc32c (natLe 4 (laneOf .int32 (c.vr w.a) i))),
       (0x72, Instr.vrand, fun i => c.draw s.jobKey (c.sr w.a) w.sel i)] → f.cls ≠ .blk → (op = 0x70 ∨ op = 0x72 → f.bits = 32) →
      Issues s ctx op w c → ∃ u, exec (mk ctx w) s = .next (s.issued u) ∧ VectorOnly c u w.d ∧ u.flags = c.flags ∧
        ∀ i, i < lanes f → laneOf f (u.vr w.d) i = if c.gov w i then g i % 2 ^ f.bits else laneOf f (c.vr w.d) i) ∧
    (Issues s ctx 0x71 w c → exec (.scrc ctx w) s = .next (s.issued (c.scalarAfter w.d (BitVec.ofNat 64
      (if c.sr w.b = 0 then 0 else crc32c (natLe (min (c.sr w.b) 512) (c.vr w.a)))))))) ∧
  (∀ (s : State) (ctx : Nat) (w : Fields) (c : NgCtx), c.fits = true → w.wf = true →
    let f := w.fmt
    let g := w.gFmt
    let ns := lanes f
    let nd := lanes g
    let old (i : Nat) : Nat := laneOf g (c.vr w.d) i
    let round (i : Nat) (v : Val) : Nat := (g.round w.mode (c.lane s.jobKey w i) v).1 % 2 ^ g.bits
    let inOrder (p q : Nat × Nat) : Prop := mayPrecede f (bitOf w.imm 0) p q = true
    let ofKey (k : Int) (l : List (Nat × Nat)) : List (Nat × Nat) := l.filter (fun p => decide (sortKey f p.1 = k))
    (Issues s ctx 0x50 w c → f.cls ≠ .blk → g.cls ≠ .blk → (nd < ns → w.hSel < ns / nd) → ∃ u, exec (.vcvt ctx w) s = .next (s.issued u) ∧ VectorOnly c u w.d ∧
      ∀ i, i < nd → laneOf g (u.vr w.d) i = if c.gov w i = false then old i
        else if nd < ns then round i (f.value (laneOf f (c.vr w.a) (w.hSel * nd + i)))
        else if w.hSel * ns ≤ i ∧ i < w.hSel * ns + ns then round i (f.value (laneOf f (c.vr w.a) (i - w.hSel * ns))) else old i) ∧
    (Issues s ctx 0x51 w c → ∃ u, exec (.vqnt ctx w) s = .next (s.issued u) ∧ VectorOnly c u w.d ∧
      ∀ b, b < 8 → c.gov w (32 * b) = false → (∀ k ∈ ((regBlocks g (c.vr w.d)).getD b (zeroBlock g)).elems, (viewFmt g (c.vr w.d)).value k ≠ .nan) →
          u.vr w.d / 2 ^ (64 + 8 * b) % 256 = c.vr w.d / 2 ^ (64 + 8 * b) % 256) ∧
    (Issues s ctx 0x52 w c → f.cls = .blk → g.cls ≠ .blk → ∃ u, exec (.vdqnt ctx w) s = .next (s.issued u) ∧ VectorOnly c u w.d ∧
      let elem (k : Nat) : Val := (blockLanes (readReg f (c.vr w.a) (k / 32))).getD (k % 32) .nan
      ∀ i, i < nd → (c.gov w i = false → laneOf g (u.vr w.d) i = old i) ∧
        (nd = 128 → w.hSel < 2 → c.gov w i = true → laneOf g (u.vr w.d) i = round i (elem (128 * w.hSel + i))) ∧
        (nd ≠ 128 → c.gov w i = true → laneOf g (u.vr w.d) i =
          if 256 * w.hSel ≤ i ∧ i < 256 * w.hSel + 256 then round i (elem (i - 256 * w.hSel)) else old i)) ∧
    (Issues s ctx 0x58 w c → w.d ≠ w.c → ∃ u, exec (.vsort ctx w) s = .next (s.issued u) ∧ u = { c.after with v := u.v } ∧
      (∀ n, n ≠ w.d → n ≠ w.c → u.vr n = c.vr n) ∧ (u.pairs w.d w.c).Pairwise inOrder ∧
      ∀ k, ofKey k (u.pairs w.d w.c) = ofKey k (c.pairs w.a w.b)) ∧
    (Issues s ctx 0x59 w c → w.d ≠ w.c → w.a % 2 = 0 → w.b % 2 = 0 → w.c % 2 = 0 → w.d % 2 = 0 →
      ∃ u, exec (.vmerge ctx w) s = .next (s.issued u) ∧ u = { c.after with v := u.v } ∧
      (∀ n, n / 2 ≠ w.d / 2 → n / 2 ≠ w.c / 2 → u.vr n = c.vr n) ∧
      let x := c.pairs w.a (w.a + 1)
      let y := c.pairs w.b (w.b + 1)
      let out := u.pairs w.d (w.d + 1) ++ u.pairs w.c (w.c + 1)
      (x.Pairwise inOrder → y.Pairwise inOrder → out.Pairwise inOrder ∧ ∀ k, ofKey k out = ofKey k x ++ ofKey k y)))

/-- R347, R384 to R386: context memory is read and written inside the grant, at offsets of 64 bytes, and faults with CTX_RANGE
outside it. R341, R342, R388 to R390: VLD takes the next register's worth of its port, VST and EMITP append to theirs within
MAX_CHUNK, VCOMP packs governed lanes, SSUM appends to out0 and reads every port. -/
def Obligations.NgayxMemoryRuns : Prop :=
  (∀ (s : State) (ctx : Nat) (w : Fields) (c : NgCtx), c.fits = true → w.wf = true →
    let imm : Int := (BitVec.ofNat 28 w.imm).toInt
    let off (n : Nat) : Int := (signedOf 64 (c.sr n) + imm) - (signedOf 64 (c.sr n) + imm) % 64
    let inside (o : Int) (n : Nat) : Prop := 0 ≤ o ∧ o + n ≤ c.grantBytes
    let faulted (code : Nat) : State := s.issued { c with fault := code, faultPc := c.pc, executed := c.executed + 1 }
    (Issues s ctx 0x62 w c → inside (off w.a) 512 →
      exec (.vldc ctx w) s = .next (s.issued { c.after with v := c.v.set w.d (leNat (c.grant.readBytes (off w.a).toNat 512) % 2 ^ 4096) })) ∧
    (Issues s ctx 0x62 w c → ¬ inside (off w.a) 512 → exec (.vldc ctx w) s = .next (faulted 2)) ∧
    (Issues s ctx 0x63 w c → c.grant.wf = true → inside (off w.b) 512 → ∃ u, exec (.vstc ctx w) s = .next (s.issued u) ∧
      u = { c.after with grant := u.grant } ∧ u.grant.wf = true ∧ leNat (u.grant.readBytes (off w.b).toNat 512) = c.vr w.a ∧
      ∀ k : Nat, ((k : Int) < off w.b ∨ off w.b + 512 ≤ k) → u.grant.read k = c.grant.read k) ∧
    (Issues s ctx 0x63 w c → ¬ inside (off w.b) 512 → exec (.vstc ctx w) s = .next (faulted 2)) ∧
    (let f := w.fmt
     let n := f.bits / 8
     let lane (i : Nat) : Nat := 128 * (w.imm % 8) + i
     let index (i : Nat) : Int := signedOf 32 (laneOf .int32 (c.vr w.b) i)
     let at' (i : Nat) : Int := signedOf 64 (c.sr w.a) + index i * n
     f.cls ≠ .blk → 8 ≤ f.bits → w.imm % 8 < lanes f / 128 →
     (Issues s ctx 0x60 w c → (∀ i, i < 128 → c.gov w (lane i) = true → 0 ≤ index i ∧ inside (at' i) n) →
      ∃ u, exec (.vgathc ctx w) s = .next (s.issued u) ∧ u = { c.after with v := u.v } ∧ (∀ k, k ≠ w.d → u.vr k = c.vr k) ∧
      (∀ i, i < 128 → laneOf f (u.vr w.d) (lane i) = if c.gov w (lane i)
        then leNat (c.grant.readBytes (at' i).toNat n) % 2 ^ f.bits else laneOf f (c.vr w.d) (lane i)) ∧
      (∀ j, j < lanes f → j / 128 ≠ w.imm % 8 → laneOf f (u.vr w.d) j = laneOf f (c.vr w.d) j)) ∧
     (Issues s ctx 0x60 w c → (∃ i, i < 128 ∧ c.gov w (lane i) = true ∧ (index i < 0 ∨ ¬ inside (at' i) n)) →
      exec (.vgathc ctx w) s = .next (faulted 2)) ∧
     (Issues s ctx 0x61 w c → (∀ g, (c.ins.getD w.a {}).fmt = some g → g = f) →
      (∀ i, i < 128 → c.gov w (lane i) = true → 0 ≤ index i ∧ index i < ((c.ins.getD w.a {}).bytes.length / n : Nat)) →
      ∃ u, exec (.vgaths ctx w) s = .next (s.issued u) ∧ u = { c.after with v := u.v } ∧ (∀ k, k ≠ w.d → u.vr k = c.vr k) ∧
      (∀ i, i < 128 → laneOf f (u.vr w.d) (lane i) = if c.gov w (lane i)
        then fieldAt (c.ins.getD w.a {}).bytes ((index i).toNat * n) n % 2 ^ f.bits else laneOf f (c.vr w.d) (lane i))) ∧
     (Issues s ctx 0x61 w c → (∀ g, (c.ins.getD w.a {}).fmt = some g → g = f) →
      (∃ i, i < 128 ∧ c.gov w (lane i) = true ∧ (index i < 0 ∨ ((c.ins.getD w.a {}).bytes.length / n : Nat) ≤ index i)) →
      exec (.vgaths ctx w) s = .next (faulted 5)) ∧
     (∀ g, Issues s ctx 0x61 w c → (c.ins.getD w.a {}).fmt = some g → g ≠ f → exec (.vgaths ctx w) s = .next (faulted 4)))) ∧
  (∀ (s : State) (ctx : Nat) (w : Fields) (c : NgCtx), c.fits = true → w.wf = true →
    let f := w.fmt
    let faulted (code : Nat) : State := s.issued { c with fault := code, faultPc := c.pc, executed := c.executed + 1 }
    let kept (r : Nat) : List Nat := ((List.range (lanes f)).filter (fun i => c.gov w i)).map (fun i => laneOf f (c.vr r) i)
    (∀ p, Issues s ctx 0x78 w c → f.cls ≠ .blk → c.ins[w.a]? = some p → (∀ g, p.fmt = some g → g = f) → ∃ u,
      exec (.vld ctx w) s = .next (s.issued u) ∧ u = { c.after with v := u.v, s := u.s, ins := u.ins } ∧
      (∀ k, k ≠ w.d → u.vr k = c.vr k) ∧ u.vr w.d = leNat ((p.bytes.drop p.off).take 512) % 2 ^ 4096 ∧
      let n := min 512 (p.bytes.length - p.off)
      u.s = c.s.set w.c (min (lanes f) ((8 * n + f.bits - 1) / f.bits)) ∧
      u.ins = c.ins.set w.a { p with off := p.off + n, ended := decide (p.bytes.length ≤ p.off + n) }) ∧
    (∀ p, Issues s ctx 0x78 w c → f.cls = .blk → c.ins[w.a]? = some p → (∀ g, p.fmt = some g → g = f) →
      let taken := takeBlocks f 8 (p.bytes.drop p.off)
      let end_ := p.off + taken.2
      let blocks : List (Block × Fmt) := taken.1 ++ List.replicate (8 - taken.1.length) (zeroBlock f, f)
      let fl := (packFlags f blocks).1
      let q : InPort := { p with off := end_, ended := decide (p.bytes.length ≤ end_) }
      exec (.vld ctx w) s = .next (s.issued { c.after with
        v := c.v.set w.d (packReg f blocks % 2 ^ 4096)
        s := c.s.set w.c taken.1.length
        ins := c.ins.set w.a q
        flags := c.flags ||| fl })) ∧
    (∀ p g, Issues s ctx 0x78 w c → c.ins[w.a]? = some p → p.fmt = some g → g ≠ f → exec (.vld ctx w) s = .next (faulted 4)) ∧
    (∀ o, Issues s ctx 0x79 w c → f.cls ≠ .blk → c.outs[w.b]? = some o → (∀ g, o.fmt = some g → g = f) →
      let m := min (c.sr w.c) (lanes f)
      let n := if f = .int4 then m + m % 2 else m
      let bytes := natLe (n * f.bits / 8) (c.vr w.a)
      exec (.vst ctx w) s = .next (if c.maxChunk < o.bytes.length + n * f.bits / 8 then faulted 3
        else s.issued { c.after with outs := c.outs.set w.b { o with bytes := o.bytes ++ bytes } })) ∧
    (∀ o, Issues s ctx 0x79 w c → f.cls = .blk → c.outs[w.b]? = some o → (∀ g, o.fmt = some g → g = f) →
      let blocks := ((regBlocks f (c.vr w.a)).take (min (c.sr w.c) 8)).map (portBlock f (viewFmt f (c.vr w.a)))
      let bytes := blocks.flatMap (fun b => b.1)
      let fl := orFlags (blocks.map (fun b => b.2.1))
      let count := min (c.stats.saturations + (blocks.map (fun b => b.2.2)).sum) (2 ^ 64 - 1)
      let stats : NumStats := { c.stats with saturations := count, flags := c.stats.flags ||| fl }
      exec (.vst ctx w) s = .next (if c.maxChunk < o.bytes.length + bytes.length then faulted 3
        else s.issued { c.after with outs := c.outs.set w.b { o with bytes := o.bytes ++ bytes }, flags := c.flags ||| fl, stats := stats })) ∧
    (∀ o g, (Issues s ctx 0x79 w c ∨ Issues s ctx 0x69 w c) → c.outs[w.b]? = some o → o.fmt = some g → g ≠ f →
      (Issues s ctx 0x79 w c → exec (.vst ctx w) s = .next (faulted 4)) ∧
      (Issues s ctx 0x69 w c → exec (.emitp ctx w) s = .next (faulted 4))) ∧
    (∀ o, Issues s ctx 0x69 w c → f.cls ≠ .blk → 8 ≤ f.bits → c.outs[w.b]? = some o → (∀ g, o.fmt = some g → g = f) →
      let bytes := (kept w.a).flatMap (natLe (f.bits / 8))
      exec (.emitp ctx w) s = .next (if c.maxChunk < o.bytes.length + bytes.length then faulted 3
        else s.issued { c.after with outs := c.outs.set w.b { o with bytes := o.bytes ++ bytes } })) ∧
    (Issues s ctx 0x68 w c → f.cls ≠ .blk → ∃ u, exec (.vcomp ctx w) s = .next (s.issued u) ∧ u = { c.after with v := u.v, s := u.s } ∧
      (∀ k, k ≠ w.d → u.vr k = c.vr k) ∧ u.s = c.s.set w.c (kept w.a).length ∧
      ∀ i, i < lanes f → laneOf f (u.vr w.d) i = (kept w.a).getD i 0) ∧
    (Issues s ctx 0x7A w c → (∀ p ∈ c.ins, ∀ g, p.fmt = some g → g = f) → (∀ p ∈ c.ins, p.ended = true) →
      exec (.ssum ctx w) s = .next (s.issued c.after)) ∧
    (Issues s ctx 0x7A w c → (∃ p ∈ c.ins, ∃ g, p.fmt = some g ∧ g ≠ f) → exec (.ssum ctx w) s = .next (faulted 4)) ∧
    (∀ l chunk level node cr, Issues s ctx 0x7A w c → c.run = .node l chunk level node cr → ∃ (u : NgCtx) (n : Nat), exec (.ssum ctx w) s = .next { s.issued u with freeCtr := s.freeCtr + n } ∧
      (s.det.exact = true → n = 0) ∧ u.executed = c.executed + 1 ∧ u.v = c.v ∧ u.s = c.s ∧ u.p = c.p ∧ u.grant = c.grant ∧
      ∀ k, k ≠ 0 → u.outs[k]? = c.outs[k]?) ∧
    (∀ o, Issues s ctx 0x7A w c → s.det.exact = true → c.exact = true → f.cls ≠ .blk → (∀ p ∈ c.ins, ∀ g, p.fmt = some g → g = f) →
      (∃ p ∈ c.ins, p.ended = false) → c.outs[0]? = some o → (∀ g, o.fmt = some g → g = f) → c.residuals = none →
      let taken := c.ins.map (fun p => readPort p f)
      let count := (taken.map (fun t => t.2.1)).foldl max 0
      let sum (i : Nat) : Val := sumVals (taken.map (fun t => f.value (laneOf f t.1 i)))
      let draw (i : Nat) : Nat := if w.mode = .sr then nodeDraw s.jobKey c.site.step c.site.channel c.site.ordinal c.site.level c.site.node
        (c.x0 + c.summed + i) else 0
      let codes := (List.range count).map (fun i => (roundLane f w.mode (draw i) (sum i)).1)
      let bytes := natLe (count * f.bits / 8) (packElems f.bits codes)
      o.bytes.length + count * f.bits / 8 ≤ c.maxChunk →
      ∃ u, exec (.ssum ctx w) s = .next (s.issued u) ∧ u = { c.after with
        ins := taken.map (fun t => t.2.2)
        outs := c.outs.set 0 { o with bytes := o.bytes ++ bytes }
        summed := c.summed + count
        newResiduals := u.newResiduals
        flags := u.flags
        stats := u.stats }) ∧
    (∀ x : NgCtx, ∀ l chunk level node cr, s.ctx? ctx = some x → x.run = .node l chunk level node cr → x.ended = false → x.budget ≤ x.executed →
      exec (.insnBoundReached ctx) s = .next (s.used.setCtx { x with bound := true, fault := 1, faultPc := s.free % 1024 })))

/-- R338: every instruction keeps the registers of every context within their widths. -/
def Obligations.NgayxRegistersFit : Prop :=
 ∀ (s t : State) (ctx : Nat) (w : Fields) (i : Instr),
  (∀ c ∈ s.ngayx.contexts, c.fits = true ∧ ∃ l chunk level node cr, c.run = .node l chunk level node cr) → i ∈
    [.halt ctx w, .br ctx w, .brz ctx w, .brnz ctx w, .brany ctx w, .brnone ctx w, .brend ctx w, .loop ctx w, .stset ctx w,
     .smovi ctx w, .slui ctx w, .sadd ctx w, .saddi ctx w, .ssub ctx w, .smul ctx w, .sand ctx w, .sor ctx w, .sxor ctx w,
     .sshl ctx w, .sshr ctx w, .ssra ctx w, .scmp ctx w, .sget ctx w, .sput ctx w, .pand ctx w, .por ctx w, .pxor ctx w,
     .pnot ctx w, .pfirst ctx w, .pcnt ctx w, .vadd ctx w, .vsub ctx w, .vmul ctx w, .vfma ctx w, .vneg ctx w, .vabs ctx w,
     .vmin ctx w, .vmax ctx w, .vdot ctx w, .vhsum ctx w, .vcmp ctx w, .vsel ctx w, .vmov ctx w, .vbcast ctx w, .viota ctx w,
     .vzero ctx w, .vcvt ctx w, .vqnt ctx w, .vdqnt ctx w, .vsort ctx w, .vmerge ctx w, .vgathc ctx w, .vgaths ctx w, .vldc
     ctx w, .vstc ctx w, .vcomp ctx w, .vcrc ctx w, .scrc ctx w, .vrand ctx w, .vld ctx w, .vst ctx w, .emitp ctx w, .ssum
     ctx w] →
  exec i s = .next t → ∀ c ∈ t.ngayx.contexts, c.fits = true

/-- R360: the fields of an instruction word are those it was built from, at every value the fields admit, and the opcode too;
bit 35 is reserved and 0. -/
def Obligations.NgayxWordRoundTrip : Prop :=
 ∀ (op : Nat) (w : Fields), op < 256 → w.wf = true →
  fieldsOf (wordOf op w) = w ∧ opOf (wordOf op w) = op ∧ bitOf (wordOf op w) 35 = false ∧ wordOf op w < 2 ^ 64 ∧
  ∀ word : Nat, word < 2 ^ 64 → bitOf word 35 = false → wordOf (opOf word) (fieldsOf word) = word

/-! ### Chapter 14: collectives -/

/-- R396, R397: a descriptor from a participant forms the channel's next launch or joins the one that misses it; the ordinal
counts the launches of one STEP_LO; others are dropped and counted, and a privileged channel answers BAD_PARAM. R400: a launch
runs when every vote is ADMIT with equal digests; otherwise it fails with the first status of the order 105, 3, 96, 106, 41 that
a vote carries, and its blocks are free again. -/
def Obligations.LaunchesAreDecided : Prop :=
  ((∀ (s : State) (qp port : Nat) (m : Inbound), s.rdma.inbox.find? (fun m => decide (m.qp = qp) && m.imm.isNone) = some m →
     s.collPortOf qp = some port → m.bytes.length = 96 →
     let b := m.bytes
     let ch := fieldAt b 2 2
     let c := s.channel ch
     let member : Prop := c.spec ≠ [] ∧ s.self ∈ specMembers c.spec ∧ port ∈ specPorts c.spec
     let waiting := s.coll.launches.find? (fun l => decide (l.channel = ch) && l.missing.contains port)
     (ch < 8 → ∃ l, exec (.launchDescriptor qp) s = .next ((s.consume m).writeRecord l 3 false port) ∧ l.channel = ch ∧ l.descs = [(port, b)]) ∧
     (8 ≤ ch → (1023 < ch ∨ ¬ member) → exec (.launchDescriptor qp) s = .next ((s.consume m).setChannel { c with dropped := c.dropped + 1 })) ∧
     (∀ l, 8 ≤ ch → ch ≤ 1023 → member → waiting = some l →
       exec (.launchDescriptor qp) s = .next ((s.consume m).joinLaunch l port b)) ∧
     (8 ≤ ch → ch ≤ 1023 → member → waiting = none → ∃ (l : Launch) (v : State),
       exec (.launchDescriptor qp) s = .next (v.checkLaunch l.id) ∧ v.coll.launches = s.coll.launches ++ [l] ∧
       (v.channel ch).last = some (descStep b, l.ordinal) ∧ l.channel = ch ∧ l.stepLo = descStep b ∧ l.descs = [(port, b)] ∧
       l.missing = (specPorts c.spec).filter (fun p => decide (p ≠ port)) ∧ l.phase = .matching ∧
       (∀ st o, c.last = some (st, o) → l.ordinal = (if st = descStep b then o + 1 else 0)) ∧ (c.last = none → l.ordinal = 0) ∧
       (l.misplaced = true ↔ (∃ st o, c.last = some (st, o) ∧ serialCmp (descStep b) st 32 = .before) ∨ 4095 < l.ordinal))) ∧
   (∀ (s : State) (id : Nat) (l : Launch), s.launch? id = some l → l.phase = .matching → l.missing ≠ [] →
     exec (.launchTimeoutExpiry id) s = .next (s.castVote id 106)) ∧
   (∀ (s : State) (qp : Nat) (m : Inbound), s.inboxOf qp 48 = some m → exec (.voteReceive qp) s = .next ((s.consume m).takeVote m.bytes)) ∧
   (∀ (s : State) (id : Nat) (l : Launch), s.launch? id = some l → l.finished = true →
     exec (.launchRelease id) s = .next (s.releaseLaunch l) ∧ (s.releaseLaunch l).coll.freeBlocks = s.coll.freeBlocks + l.blocks ∧
     (s.releaseLaunch l).coll.launches.any (fun x => decide (x.id = id)) = false)) ∧
  ((∀ votes : List (Nat × Bytes), launchFailure votes =
     if (∃ v ∈ votes, v.1 = 105) ∨ (∃ a ∈ votes, ∃ b ∈ votes, a.2 ≠ b.2) then some 105
     else if ∃ v ∈ votes, v.1 = 3 then some 3
     else if ∃ v ∈ votes, v.1 = 96 then some 96
     else if ∃ v ∈ votes, v.1 = 106 then some 106
     else if ∃ v ∈ votes, v.1 = 41 then some 41
     else none) ∧
   (∀ (s : State) (id : Nat) (l : Launch) (votes : List (Nat × Bytes)), s.launch? id = some l → l.phase = .voting →
     (specMembers l.spec).map (fun m => lookup? l.votes m) = votes.map some →
     (launchFailure votes = none → s.decideLaunch id = s.runLaunch id) ∧
     (∀ st, launchFailure votes = some st → s.decideLaunch id = s.endUnrun id st ∧
       (s.endUnrun id st).coll.freeBlocks = s.coll.freeBlocks + l.blocks ∧ (s.endUnrun id st).ngayx = s.ngayx ∧
       (s.endUnrun id st).mem = s.mem)) ∧
   (∀ (s : State) (id : Nat) (l : Launch), s.launch? id = some l → l.phase = .voting →
     (∃ m ∈ specMembers l.spec, lookup? l.votes m = none) → s.decideLaunch id = s))

/-- R409: the fixed tree over n leaves reduces each leaf once, in order; its nodes are numbered in the order of their making,
the root last; the left side of a node holds the largest power of two of leaves below the node's. -/
def Obligations.TreesReduceInOrder : Prop :=
  (∀ n : Nat, 0 < n →
    let t := level2Tree n
    let under := leavesUnder t.1 n
    t.1.map (fun x => x.k) = List.range (n - 1) ∧ t.2 = (if n = 1 then .leaf 0 else .node (n - 2)) ∧ under t.2 = List.range n ∧
    (∀ x ∈ t.1, x.crucible = x.k % 16) ∧
    (∀ x ∈ t.1, let a := (under x.left).length
      let b := (under x.right).length
      0 < b ∧ b ≤ a ∧ ∃ e, a = 2 ^ e)) ∧
  (∀ n g : Nat, 0 < n → 0 < g →
    let t := level1Tree n g
    t.1.map (fun x => x.k) = List.range (n - 1) ∧ t.2 = (if n = 1 then .leaf 0 else .node (n - 2)) ∧ leavesUnder t.1 n t.2 = List.range n ∧
    (n ≤ g → t = level2Tree n)) ∧
  (∀ side device k : Nat, side < 2 → device < 128 → k < 256 →
    (∀ s d j, s < 2 → d < 128 → j < 256 → nodeIndex 1 side device k = nodeIndex 1 s d j → s = side ∧ d = device ∧ j = k) ∧
    nodeIndex 1 side device k < 65536)

/-- R406 to R410, R416: a tree node takes its operands in its place of the tree, on a served Crucible with a free context; its
end commits its output or runs it again; a chunk's output is committed once and sent. R394, R395, R411, R413, R419: the
collective commands. -/
def Obligations.CollectivesRun : Prop :=
  ((∀ (s : State) (launch chunk rank level node n id : Nat) (l : Launch) (c c' : Chunk) (r : ActiveRun),
     let u := s.progress launch
     u.launch? launch = some l → l.chunk? chunk rank = some c →
     c.runs.find? (fun r => decide (r.level = level) && decide (r.k = node) && r.ctx.isNone) = none →
     u.nodeRunOf l c level node = some (r, c') → c'.started = true → c'.ended = false → l.scratchReady chunk level r.k = true →
     r.inputs.any (fun o => o.part.failed) = false → u.servedFrom r.crucible = some n → u.crucibleDown n = false → u.freeCtx n = some id →
     exec (.nodeRun launch chunk rank level node) s = .next (u.startRun l c' { r with crucible := n } id) ∧ id / 8 = n ∧ n < 16 ∧
     ∃ x, (u.startRun l c' { r with crucible := n } id).ngayx.contexts = u.ngayx.contexts ++ [x]) ∧
   (∀ (s : State) (l : Launch) (c c' : Chunk) (level node : Nat) (r : ActiveRun), l.reduces = true → l.exact = true →
     s.nodeRunOf l c level node = some (r, c') → ∃ t ∈ (l.tree level).1, ∃ a ∈ c.ops, ∃ b ∈ c.ops, t.k = node ∧ r.inputs = [a, b] ∧
       a.src = t.left ∧ b.src = t.right ∧ a.level = level ∧ b.level = level ∧ r.crucible = t.crucible) ∧
   (∀ ps : List Part, let j := joinParts ps
     j.failed = ps.any (fun p => p.failed) ∧ (∀ i, bitOf j.flags i = ps.any (fun p => bitOf p.flags i)) ∧
     (∀ i, bitOf j.events i = ps.any (fun p => bitOf p.events i)) ∧ (j.fault = 0 ↔ ∀ p ∈ ps, p.fault = 0) ∧
     (∀ p ∈ ps, p.fault ≠ 0 → j.fault ≤ p.fault) ∧ (j.fault = 0 ∨ ∃ p ∈ ps, p.fault = j.fault)) ∧
   (∀ (s : State) (ctx : Nat) (x : NgCtx) (l : Launch) (c : Chunk) (r : ActiveRun), s.ctx? ctx = some x → s.nodeOf ctx = some (l, c, r) →
     (x.ended = true → exec (.nodeRunEnd ctx .good) s = .next (s.commitRun l c r x)) ∧
     (x.ended = true → exec (.nodeRunEnd ctx .mismatch) s = .next (s.rerun l c r x)) ∧
     exec (.nodeRunEnd ctx .hwError) s = .next (s.rerun l c r x)) ∧
   (∀ (s : State) (launch chunk rank : Nat) (l : Launch) (c : Chunk) (p : Part), s.launch? launch = some l → l.chunk? chunk rank = some c →
     c.out = some p → ∃ u : State, exec (.chunkCommit launch chunk rank) s = .next (u.progress launch)) ∧
   (∀ (s : State) (d : CollData), let here := s.coll.launches.find? (fun l => dataIsOf d l && decide (l.phase ≠ .ended))
     (∀ l, here = some l → l.phase = .running → exec (.partialReceive d) s = .next (s.takePartial l.id d) ∧
       exec (.resultReceive d) s = .next (s.takeResult l.id d)) ∧
     ((∀ l, here = some l → l.phase ≠ .running) →
       exec (.partialReceive d) s = .next (s.setColl { s.coll with earlyData := s.coll.earlyData ++ [(false, d)] }) ∧
       exec (.resultReceive d) s = .next (s.setColl { s.coll with earlyData := s.coll.earlyData ++ [(true, d)] })))) ∧
  ((∀ (s : State) (r : Req) (ch weight timeout : Nat) (spec : Bytes), FormOk s r 0x0510 → MayManage s r → (s.heldBusy (.channel ch)).1 = false →
     8 ≤ ch → ch ≤ 1023 → 1 ≤ weight → weight ≤ 255 → 1 ≤ timeout → timeout ≤ 10000 → s.specFault spec = none →
     s.coll.launches.any (fun l => decide (l.channel = ch) && decide (l.phase ≠ .ended)) = false →
     ∃ u : State, exec (.channelConfig r ch weight timeout spec) s =
       .next (u.forward r 0x0510 (natLe 2 ch ++ natLe 1 weight ++ [0] ++ natLe 4 timeout ++ spec)) ∧
       u.channel ch = { s.channel ch with spec := spec, timeout := timeout } ∧ lookupD u.switch.channelWeight ch 16 = weight ∧
       (∀ k, k ≠ ch → u.channel k = s.channel k) ∧ u.coll.launches = s.coll.launches ∧ u.mem = s.mem) ∧
   (∀ (s : State) (r : Req) (ch : Nat), FormOk s r 0x0511 → ch ≤ 1023 →
     exec (.channelRead r ch) s = .next (s.answer r 0x0511 .ok 0 (s.channel ch).spec (s.channelReport (s.channel ch)))) ∧
   (∀ (s : State) (r : Req) (port qp : Nat) (q : Qp), FormOk s r 0x0512 → s.isAccel port = true → s.rqp? qp = some q → q.service = 1 →
     s.coll.launches.any (fun l => decide (l.phase = .running) && (specPorts l.spec).contains port) = false →
     ∃ u : State, exec (.collPortSet r port qp) s = .next (u.answer r 0x0512 .ok) ∧ lookup? u.coll.ports port = some qp ∧
       (∀ p, p ≠ port → lookup? u.coll.ports p = lookup? s.coll.ports p) ∧ u = s.setColl { s.coll with ports := u.coll.ports }) ∧
   (∀ (s : State) (r : Req) (h elems base : Nat), FormOk s r 0x0513 → MayManage s r → (s.heldBusy (.residual h)).1 = false → h ≤ 63 → 1 ≤ elems →
     elems ≤ 2 ^ 31 → s.store? h = none → s.residualPlace (2 * elems) = some base →
     exec (.residualCreate r h elems) s = .next ((s.createStore h elems base).forward r 0x0513 (natLe 2 h ++ natLe 2 0 ++ natLe 4 elems)) ∧
     (s.createStore h elems base).store? h = some { handle := h, base := base, elems := elems } ∧
     (s.mem.wf = true → ∀ a, a < 2 * elems → (s.createStore h elems base).mem.read (base + a) = 0)) ∧
   (∀ (s : State) (r : Req) (h : Nat) (x : Residual), FormOk s r 0x0514 → MayManage s r → (s.heldBusy (.residual h)).1 = false → h ≤ 63 →
     s.store? h = some x → x.bound = none → ∃ u : State, exec (.residualReset r h) s = .next (u.forward r 0x0514 (natLe 2 h)) ∧
       u.store? h = some { x with key := none } ∧ (s.mem.wf = true → ∀ a, a < 2 * x.elems → u.mem.read (x.base + a) = 0)) ∧
   (∀ (s : State) (r : Req) (h : Nat) (x : Residual), FormOk s r 0x0515 → MayManage s r → (s.heldBusy (.residual h)).1 = false → h ≤ 63 →
     s.store? h = some x → x.bound = none → ∃ u : State, exec (.residualDrop r h) s = .next (u.forward r 0x0515 (natLe 2 h)) ∧
       u.store? h = none ∧ u.mem = s.mem) ∧
   (∀ (s : State) (r : Req) (policy : Nat), FormOk s r 0x0516 → MayManage s r → policy ≤ 1 → ∃ u : State,
     exec (.treePlanSet r policy) s = .next (u.forward r 0x0516 (natLe 1 policy)) ∧ u.det.treePolicy = policy) ∧
   (∀ (s : State) (r : Req) (ch : Nat), FormOk s r 0x0517 → (ch ≤ 1023 ∨ ch = 0xFFFF) →
     exec (.collectiveStatus r ch) s = .next (s.answer r 0x0517 .ok 0
       (if ch = 0xFFFF then [] else (s.channel ch).stats.bytes) s.crucibleReport)))

/-! ### Chapter 15: determinism -/

/-- R425, R427: a new record is issued when, and only when, a field other than FROM_STEP has changed; the last 64 are kept, and
a step is governed by the latest record issued at or before it. R420, R427, R428, R442: the mode, the records and their
signature, the state of the checkpoint. -/
def Obligations.DeterminismRecordsRun : Prop :=
  ((∀ (s : State) (step : Nat),
     let d := s.detNow step
     (∀ old, s.det.records.getLast? = some old → { old with fromStep := step } = d → s.issueRecord step = s) ∧
     ((∀ old, s.det.records.getLast? = some old → { old with fromStep := step } ≠ d) → OnlySpeaks
       { s with det := { s.det with records := (s.det.records ++ [d]).drop (s.det.records.length + 1 - 64) } } (s.issueRecord step)) ∧
     (s.det.records.length ≤ 64 → (s.issueRecord step).det.records.length ≤ 64) ∧
     (s.issueRecord step).det.records.getLast?.map (fun r => { r with fromStep := step }) = some d) ∧
   (∀ (s : State) (step : Nat) (r : DetRecord), s.recordAt step = some r → r ∈ s.det.records ∧ r.fromStep ≤ step) ∧
   (∀ (s : State) (step : Nat), s.recordAt step = none ↔ ∀ r ∈ s.det.records, step < r.fromStep) ∧
   (∀ d : DetRecord, (∀ b ∈ [d.seed, d.recipe, d.plan, d.format, d.membership, d.map, d.programs], b.length = 32) → d.bytes.length = 256)) ∧
  ((∀ (s : State) (r : Req) (mode : Nat), FormOk s r 0x0430 → MayManage s r → mode ≤ 1 → s.plan.active = none → ∃ u : State,
     exec (.detModeSet r mode) s = .next (u.forward r 0x0430 (natLe 1 mode)) ∧ u.det.exact = decide (mode = 0) ∧
     u.plan = s.plan ∧ u.mem = s.mem ∧ u.coll = s.coll) ∧
   (∀ (s : State) (r : Req) (mode : Nat), FormOk s r 0x0430 → MayManage s r → mode ≤ 1 → s.plan.active ≠ none →
     exec (.detModeSet r mode) s = .next (s.answer r 0x0430 .inUse)) ∧
   (∀ (s : State) (r : Req) (step : Nat) (d : DetRecord), FormOk s r 0x0431 → step ≠ 2 ^ 64 - 1 → s.recordAt step = some d →
     exec (.detRecordRead r step) s = .next (s.answer r 0x0431 .ok 0 (d.bytes ++ sha256 d.bytes))) ∧
   (∀ (s : State) (r : Req) (step : Nat), FormOk s r 0x0431 → step ≠ 2 ^ 64 - 1 → s.recordAt step = none →
     exec (.detRecordRead r step) s = .next (s.answer r 0x0431 .notFound)) ∧
   (∀ (s : State) (r : Req) (d : DetRecord), FormOk s r 0x0431 → s.det.records.getLast? = some d →
     exec (.detRecordRead r (2 ^ 64 - 1)) s = .next (s.answer r 0x0431 .ok 0 (d.bytes ++ sha256 d.bytes))) ∧
   (∀ (s : State) (r : Req) (nonce : Bytes) (d : DetRecord), FormOk s r 0x0432 → s.det.records.getLast? = some d →
     exec (.detRecordSign r nonce) s = .next (s.used.answer r 0x0432 .ok 0
       (d.bytes ++ nonce ++ natLe 64 (Config.ecdsaSign (identityKey (s.fuse.seed.getD (List.replicate 32 0)) s.fuse.uid) s.free
         (sha256 (d.bytes ++ nonce)))))) ∧
   (∀ (s : State) (r : Req), FormOk s r 0x0433 → ∃ l : List Nat, exec (.checkpointRead r) s = .next (s.answer r 0x0433 .ok 0 [] l) ∧
     (s.det.ckpt = none → l = [0, 0, 0, s.heldLaunches.length]) ∧
     (∀ c, s.det.ckpt = some c → l.take 4 = [c.step, c.phase.value, c.params.full.toNat, s.heldLaunches.length])))

/-- R435: the image a member writes passes the checks a resume makes of it: it names its device, and its IMAGE_CRC covers all of
it but itself. -/
def Obligations.CheckpointImageIsAccepted : Prop :=
 ∀ (s : State) (c : Ckpt) (n : CkptSnap) (l : List (Nat × List (Nat × Nat × Nat))),
  s.group.set.deviceId < 128 → s.group.set.side < 2 → n.events.length ≤ 256 → n.dests.length ≤ 256 → s.coll.stores.length ≤ 64 →
  let b := s.ckptImage c n l
  s.imageOk b = true ∧ fieldAt b 60 4 = crc32c (b.take 60 ++ b.drop 64) ∧ fieldAt b 8 8 = c.step % 2 ^ 64 ∧
  fieldAt b 6 1 = c.params.full.toNat ∧ fieldAt b 32 8 = b.length % 2 ^ 64 ∧ sliceAt b 64 n.record.length = n.record

/-- R432, R433: a member writes its image once the earlier launches with residuals have released; a member that cannot fails the
checkpoint; the manager completes it with the last acknowledgement. R437, R438: a resume whose checks pass takes the plan, the
step and the epoch of the image and arms the first Weir; the checks before the records end it with IN_USE, WEIR_BUSY or
CHECKPOINT_INVALID. -/
def Obligations.CheckpointsRun : Prop :=
  ((∀ (s : State) (c : Ckpt) (n : CkptSnap) (l : List (Nat × List (Nat × Nat × Nat))), s.det.ckpt = some c → c.snap = some n →
     c.phase = .capturing → s.earlierReleased c.step = true →
     n.dests.map (fun d => ((s.destQ? d).bind (fun q => q.carryAt c.step)).map (fun l => (d, l))) = l.map some →
     let image := s.ckptImage c n l
     let crc := fieldAt image 60 4
     (∀ u, s.placeImage c.params.toMedia c.params.address image = some u →
       let v : State := { u with det := { u.det with
         ckpt := some { c with phase := .written, own := some (crc, image.length) }
         lights := if c.params.full then u.det.lights else u.det.lights ++ [crc] } }
       exec (.checkpointImageWrite .written) s = .next (if u.isManager then v.takeCkptAck u.group.set.deviceId crc image.length
         else (v.sendPiece 3 (.ckptAck crc image.length)).startDue)) ∧
     (s.leads = true → ∃ u : State, exec (.checkpointImageWrite .failed) s = .next u.releaseHolds ∧
       (s.lock.restartDue = none → u.det.ckpt = some { c with phase := .failed }) ∧
       (s.lock.restartDue = none → ∀ e ∈ u.gauge.armed, e.kind ≠ .checkpoint)) ∧
     (s.leads = false → exec (.checkpointImageWrite .failed) s = .next (s.sendPiece 3 (.item (.ckptFailed c.step))))) ∧
   (∀ (s : State) (c : Ckpt) (device crc length : Nat), s.isManager = true → s.det.ckpt = some c →
     let acks := c.acks.filter (fun a => decide (a.1 ≠ device)) ++ [(device, crc, length)]
     let v : State := { s with det := { s.det with ckpt := some { c with acks := acks } } }
     ((c.phase ≠ .written ∨ ∃ d ∈ s.audience ++ [s.group.set.deviceId], ∀ a ∈ acks, a.1 ≠ d) →
       exec (.checkpointAckReceive device crc length) s = .next v) ∧
     (c.phase = .written → (∀ d ∈ s.audience ++ [s.group.set.deviceId], ∃ a ∈ acks, a.1 = d) → s.leads = true →
       exec (.checkpointAckReceive device crc length) s =
         .next ((v.raise .checkpointDone 0 (natLe 8 c.step)).spread (.ckptDone c.step)).finishCkpt)) ∧
   (∀ (s : State) (device crc length : Nat), s.isManager = false → exec (.checkpointAckReceive device crc length) s = .next s)) ∧
  ((∀ (s : State) (r : Req) (flags place address : Nat) (b : Bytes), FormOk s r 0x0434 → MayManage s r → flags ≤ 1 → place ≤ 1 →
     s.plan.active = none → (r.mb ≠ 5 → s.weirBusy = false) → s.readImage place address = some b →
     firstReject (s.resumeCheck flags (some b)) = none →
     let g : Gauge := ⟨fieldAt b 8 8, 0⟩
     (r.mb = 5 → exec (.checkpointResume r flags place address) s = .next (((s.resumeHere b).firstWeir r g).answer r 0x0434 .ok)) ∧
     (r.mb ≠ 5 → s.audience = [] → ∃ u : State, u = (s.answerInProgress r 0x0434 []).resumeHere b ∧
       exec (.checkpointResume r flags place address) s =
         .next { u.firstWeir r g with det := { (u.firstWeir r g).det with resumeWaiter := some r } })) ∧
   (∀ (s : State) (r : Req) (flags place address : Nat), FormOk s r 0x0434 → MayManage s r → flags ≤ 1 → place ≤ 1 →
     (s.plan.active ≠ none → exec (.checkpointResume r flags place address) s = .next (s.answer r 0x0434 .inUse)) ∧
     (s.plan.active = none → r.mb ≠ 5 → s.weirBusy = true →
       exec (.checkpointResume r flags place address) s = .next (s.answer r 0x0434 .weirBusy)) ∧
     (s.plan.active = none → s.weirBusy = false → (∀ b, s.readImage place address = some b → s.imageOk b = false) →
       exec (.checkpointResume r flags place address) s = .next (s.answer r 0x0434 .checkpointInvalid s.group.set.deviceId))) ∧
   (∀ (s : State) (b : Bytes), (∀ q ∈ imageCarries b, q.2 = []) → (s.resumeHere b).gauge.epoch = fieldAt b 16 4 ∧
     (s.resumeHere b).gauge.committed = ⟨fieldAt b 8 8, 0⟩ ∧ (s.resumeHere b).plan.startGauge = ⟨fieldAt b 8 8, 0⟩ ∧
     ∃ h, (s.resumeHere b).plan.active = some (h, imagePlan b)))

/-! ### Chapter 16: Confluence -/

/-- R448: a received frame is disposed of in the order FCS, MTU, ring, Gauge, MAC control, device MAC, forwarding; the first
step that ends it decides. -/
def Obligations.FramesAreDisposed : Prop :=
 ∀ (s : State) (port : Nat) (p : Port) (f : Frame), s.port? port = some p → p.up = true →
  let u := (s.count (.port port 0)).count (.port port 2) f.length
  let ring : Prop := p.kind = .ringIn ∨ p.kind = .ringOut
  (f.fcsOk = false → exec (.frameReceive port f) s = .next (s.setPort { p with fcsErrors := p.fcsErrors + 1 })) ∧
  (f.fcsOk = true → p.mtu < f.length → exec (.frameReceive port f) s = .next (u.drop port 1)) ∧
  (f.fcsOk = true → f.length ≤ p.mtu →
    (ring → f.ringPiece = true →
      exec (.frameReceive port f) s = .next { u with switch := { u.switch with toRing := s.switch.toRing + 1 } }) ∧
    (ring → f.ringPiece = false → exec (.frameReceive port f) s = .next (u.drop port 2)) ∧
    (¬ ring → f.etherType = 0x88B5 → p.kind = .accel → exec (.frameReceive port f) s =
      .next (({ u with switch := { u.switch with toGauge := s.switch.toGauge + 1 } }).takeGaugeFrame port f.payload)) ∧
    (¬ ring → f.etherType = 0x88B5 → p.kind ≠ .accel → exec (.frameReceive port f) s = .next (u.drop port 3)) ∧
    (¬ ring → f.etherType = 0x8808 → exec (.frameReceive port f) s = .next (u.drop port 4)) ∧
    (¬ ring → f.etherType ≠ 0x88B5 → f.etherType ≠ 0x8808 → f.dst = s.rdma.mac → f.udp.map (·.2) = some 4791 →
      exec (.frameReceive port f) s = .next { u with switch := { u.switch with toRdma := s.switch.toRdma + 1 } }) ∧
    (¬ ring → f.etherType ≠ 0x88B5 → f.etherType ≠ 0x8808 → f.dst = s.rdma.mac → f.udp.map (·.2) ≠ some 4791 →
      exec (.frameReceive port f) s = .next (u.drop port 5)) ∧
    (¬ ring → f.etherType ≠ 0x88B5 → f.etherType ≠ 0x8808 → f.dst ≠ s.rdma.mac →
      exec (.frameReceive port f) s = .next (u.forwardFrame p f)))

/-- R456 to R458: admission depends on depth and free cells only; a unicast frame goes whole to the plane with the most free
cells, the lower one on a tie, and takes the next number of its pair. R459: a stamped frame in sequence is released to its queue
and its number advances; a later one is held; an earlier one is dropped as RESEQ_LATE; a plane's ECC error drops it as
PLANE_ECC. -/
def Obligations.FramesThroughThePlanes : Prop :=
  ((∀ (s : State) (port queue c colour : Nat) (p : Port), s.port? port = some p →
     let k := (p.queues.getD queue {}).params
     let d := s.depth port queue
     let limit := min k.maxCells (s.freeShared * 2 ^ k.alpha / 64)
     (s.admits port queue c colour = true ↔ d + c ≤ k.minCells ∨
       (d + c ≤ (if colour = 1 then limit * k.yellowPct / 100 else limit) ∧ c ≤ s.freeShared))) ∧
   (∀ free : List Nat, free ≠ [] → freestPlane free < free.length ∧ (∀ k, k < free.length → free.getD k 0 ≤ free.getD (freestPlane free) 0) ∧
     (∀ k, k < freestPlane free → free.getD k 0 < free.getD (freestPlane free) 0)) ∧
   (∀ (s : State) (ingress queue colour : Nat) (out : Port) (dei : Bool) (f : Frame) (ch : Option Nat),
     let c := cellsOf f.length
     let plane := freestPlane s.switch.freeCells
     let pair := (ingress, out.logical)
     let t := s.admitUnicast ingress out queue colour dei f ch
     s.switch.freeCells.length = 4 → s.admits out.logical queue c colour = true → c ≤ s.switch.freeCells.getD plane 0 →
     (s.switch.transit.filter (fun x => decide ((x.ingress, x.egress) = pair))).length < 512 →
     t.switch.freeCells.getD plane 0 = s.switch.freeCells.getD plane 0 - c ∧
     (∀ k, k ≠ plane → t.switch.freeCells.getD k 0 = s.switch.freeCells.getD k 0) ∧
     t.switch.stored = s.switch.stored ++ [⟨s.switch.nextFrame, plane, c, ingress, 1, f.length⟩] ∧
     t.switch.transit = s.switch.transit ++ [{ ingress := ingress, egress := out.logical, number := lookupD s.switch.nextStamp pair 0
                                               queue := queue, frame := { id := s.switch.nextFrame, length := f.length, channel := ch
                                                                          ce := s.marks out.logical queue f, dei := dei } }] ∧
     lookupD t.switch.nextStamp pair 0 = (lookupD s.switch.nextStamp pair 0 + 1) % 65536 ∧ t.switch.ports = s.switch.ports ∧ t.mem = s.mem) ∧
   (∀ (s : State) (ingress queue colour : Nat) (out : Port) (dei : Bool) (f : Frame) (ch : Option Nat),
     s.admits out.logical queue (cellsOf f.length) colour = false →
     (ingress < 256 → s.admitUnicast ingress out queue colour dei f ch = s.drop out.logical 8) ∧
     (256 ≤ ingress → (s.admitUnicast ingress out queue colour dei f ch).tel = s.tel ∧
       ∃ q, (s.admitUnicast ingress out queue colour dei f ch).switch.waiting = s.switch.waiting ++ [(ingress, out.logical, queue, q)]))) ∧
  (∀ (s : State) (i e n : Nat) (x : Stamped),
    s.switch.transit.find? (fun x => decide (x.ingress = i) && decide (x.egress = e) && decide (x.number = n)) = some x →
    let u : State := { s with switch := { s.switch with transit := s.switch.transit.erase x } }
    let due := lookupD s.switch.expected (i, e) 0
    (exec (.reseqArrival i e n true) s = .next ((u.drop i 12).leave x.frame.id).retryAll) ∧
    (n = due → exec (.reseqArrival i e n false) s = .next ((u.releaseStamped x).releaseRun i e s.switch.held.length).retryAll ∧
      lookupD (u.releaseStamped x).switch.expected (i, e) 0 = (n + 1) % 65536 ∧
      (∀ p, s.port? e = some p → p.logical = e → (u.releaseStamped x).port? e =
        some { p with queues := p.queues.modify x.queue (fun q => { q with frames := q.frames ++ [x.frame] }) })) ∧
    (serialCmp n due 16 = .after → (s.switch.held.filter (fun y => decide (y.egress = e))).length < 4096 →
      exec (.reseqArrival i e n false) s =
        .next (State.retryAll { u with switch := { u.switch with held := s.switch.held ++ [{ x with since := s.fclk }] } })) ∧
    (serialCmp n due 16 ≠ .after → n ≠ due → n < 65536 → due < 65536 →
      exec (.reseqArrival i e n false) s = .next ((u.drop e 11).leave x.frame.id).retryAll) ∧
    exec (.reseqHoldTimeout e) s = .next (s.skipGap e))

/-- R453, R454, R465, R466: a frame starts only from an eligible queue of the highest PRIO, whose gate is open and whose shapers
are not negative; OPEN is that of the last entry of the gate list at or before the Gauge's place in the cycle. R461, R462:
residue copies are tried again in order; the audit returns cells found ownerless twice and takes corrupt entries off the free
list. -/
def Obligations.EgressAndBufferRun : Prop :=
  ((∀ (s : State) (port : Nat) (p : Port), s.port? port = some p → p.up = true →
     (s.schedule p = none → exec (.egressSelect port) s = .next s) ∧
     (∀ i ds prio, s.schedule p = some (i, ds, prio) → exec (.egressSelect port) s = .next (s.startFrame p i ds prio).retryAll ∧
       i ∈ s.eligible p ∧ (p.queues.getD i {}).params.prio = prio ∧
       ∀ j ∈ s.eligible p, (p.queues.getD j {}).params.prio ≤ prio)) ∧
   (∀ (s : State) (p : Port) (i : Nat), i ∈ s.eligible p ↔ i < 16 ∧ (p.queues.getD i {}).frames ≠ [] ∧ p.openMask.getLsbD i = true ∧
     s.bucketReady (p.queues.getD i {}).shaper = true ∧ s.bucketReady p.shaper = true) ∧
   (∀ (s : State) (b : Bucket) (bytes : Nat), b.rate ≠ 0 → b.at_ = s.now → b.level ≤ (b.burst * s.byteUnit : Nat) →
     (s.bucketReady b = true ↔ 0 ≤ b.level) ∧ (s.chargeBucket b bytes).level = b.level - (bytes * s.byteUnit : Nat)) ∧
   (∀ (l : GateList) (origin : Nat) (g : Gauge) (a b : List (Nat × Nat × Nat)) (e : Nat × Nat × Nat), l.entries = a ++ e :: b →
     let o := (((g.step : Int) - origin).emod l.cycle).toNat
     ((e.1 < o ∨ (e.1 = o ∧ e.2.1 ≤ g.mark)) → (∀ x ∈ b, o < x.1 ∨ (o = x.1 ∧ g.mark < x.2.1)) → gateOpen l origin g = e.2.2) ∧
     ((∀ x ∈ l.entries, o < x.1 ∨ (o = x.1 ∧ g.mark < x.2.1)) → b = [] → gateOpen l origin g = e.2.2))) ∧
  ((∀ (s : State) (port : Nat), exec (.residueRetry port) s =
     .next (State.retryResidue { s with switch := { s.switch with residue := [] } } port s.switch.residue)) ∧
   (∀ (s : State) (port : Nat), (∀ x ∈ s.switch.residue, ∀ w ∈ x.waiting, w.1 ≠ port) → exec (.residueRetry port) s = .next s) ∧
   (∀ (s : State) (ownerless corrupt : List (Nat × Nat)), ∃ u, exec (.auditPass ownerless corrupt) s = .next u ∧
     let twice := ownerless.filter (fun c => s.switch.suspects.contains c)
     u.switch.leaked = s.switch.leaked + twice.length ∧ u.switch.auditFaults = s.switch.auditFaults + corrupt.length ∧
     u.switch.suspects = ownerless.filter (fun c => !s.switch.suspects.contains c) ∧
     (∀ k, k < s.switch.freeCells.length →
       u.switch.freeCells.getD k 0 = s.switch.freeCells.getD k 0 + twice.countP (fun c => decide (c.1 = k))
         - corrupt.countP (fun c => decide (c.1 = k))) ∧
     u.switch.stored = s.switch.stored ∧ u.mem = s.mem ∧
     (ownerless = [] → corrupt = [] → u = { s with switch := { s.switch with suspects := [] } })) ∧
   (∀ (s : State) (port : Nat) (p : Port), s.port? port = some p →
     (∀ up, p.up = up → exec (.portLinkChange port up) s = .next s) ∧
     (∀ up, p.up ≠ up → exec (.portLinkChange port up) s = .next (s.setLink p up))))

/-- R443 to R447, R449, R451, R452, R454 to R456, R463, R466, R468: the port and switch commands. -/
def Obligations.SwitchCommandsRun : Prop :=
  (∀ (s : State) (r : Req) (block : Nat) (es : List PortEntry), FormOk s r 0x0601 → block ≤ 63 → es.length ≤ 8 →
    listFault portEntryFault 16 es 8 = none → s.portConflict block es = false → s.portRemoved block es = false →
    exec (.portConfig r block es) s = .next (((s.putPorts block es).blockReset block).answer r 0x0601 .ok)) ∧
  (∀ (s : State) (r : Req) (port : Nat) (p : Port), FormOk s r 0x0602 → port ≤ 255 → s.port? port = some p →
    exec (.portStatus r port) s = .next (s.answer r 0x0602 .ok 0 []
      ((s.switch.ports.filter (fun p => decide (port = 0xFFFF) || decide (p.logical = port))).flatMap s.portReport))) ∧
  (∀ (s : State) (r : Req) (first : Nat) (es : List Endpoint), FormOk s r 0x0610 → MayManage s r → first + es.length ≤ 65536 →
    first ≤ 65535 → 1 ≤ es.length → es.length ≤ 255 → listFault endpointFault 16 es 8 = none → ∃ u : State,
    exec (.endpointSet r first es) s = .next (u.forward r 0x0610 (natLe 2 first ++ es.flatMap endpointBytes) 0 u.endpointDigest) ∧
    (∀ (i : Nat) (e : Endpoint), es[i]? = some e → lookup? u.switch.endpoints (first + i) = if e.kind = 0 then none else some e) ∧
    (∀ k, (k < first ∨ first + es.length ≤ k) → lookup? u.switch.endpoints k = lookup? s.switch.endpoints k) ∧
    u.switch.ports = s.switch.ports ∧ u.mem = s.mem) ∧
  (∀ (s : State) (r : Req) (g : Nat) (b : BitVec 256), FormOk s r 0x0611 → g ≤ 4095 → ∃ u : State,
    exec (.mcastGroupSet r g b) s = .next (u.answer r 0x0611 .ok) ∧ lookupD u.switch.groups g 0 = b ∧
    (∀ k, k ≠ g → lookupD u.switch.groups k 0 = lookupD s.switch.groups k 0)) ∧
  (∀ (s : State) (r : Req) (port : Nat) (m : ClassMap) (p : Port), FormOk s r 0x0620 → s.port? port = some p → port ≤ 255 →
    m.pcp.length = 8 → m.dscp.length = 64 → m.queue.length = 32 → m.colour.length = 16 → classMapFault m = none →
    exec (.classMapSet r port m) s = .next ((s.setPort { p with maps := m }).answer r 0x0620 .ok)) ∧
  (∀ (s : State) (r : Req) (port queue : Nat) (k : QueueParams), FormOk s r 0x0621 → queueConfigCheck port queue k s = none → ∃ u : State,
    exec (.queueConfig r port queue k) s = .next (u.answer r 0x0621 .ok) ∧
    u.switch.ports = s.switch.ports.map (fun p => if port = 0xFFFF ∨ p.logical = port then p.putQueue queue k else p)) ∧
  (∀ (s : State) (r : Req) (port queue rate burst overhead : Nat) (p : Port), FormOk s r 0x0622 → s.port? port = some p → port ≤ 255 →
    (queue ≤ 15 ∨ queue = 255) → rate ≤ p.rate → 2048 ≤ burst → burst ≤ 16777216 → overhead ≤ 64 → ∃ q : Port,
    exec (.shaperSet r port queue rate burst overhead) s = .next ((s.setPort q).answer r 0x0622 .ok) ∧ q.overhead = overhead ∧
    (queue = 255 → q.shaper.rate = rate ∧ q.queues = p.queues) ∧
    (queue ≠ 255 → q.shaper = p.shaper ∧ ∀ j, j ≠ queue → q.queues.getD j {} = p.queues.getD j {})) ∧
  (∀ (s : State) (r : Req) (n : Nat) (k : PolicerParams), FormOk s r 0x0623 → policerCheck n k = none → ∃ u : State,
    exec (.policerSet r n k) s = .next (u.answer r 0x0623 .ok) ∧
    ∀ a ∈ k.assign, (u.switch.policers.find? (fun x => x.params.assign.contains a)).map (·.num) = some n) ∧
  (∀ (s : State) (r : Req) (h : Nat) (bs : Bytes), FormOk s r 0x0630 → MayManage s r → h ≤ 63 → bs.length = 48 + 4 * fieldAt bs 3 1 →
    gateFault bs = none → s.switch.gateLists.any (fun l => decide (l.handle = h)) = false →
    exec (.gateListLoad r h bs) s = .next ((s.addGateList h bs).forward r 0x0630 (natLe 2 h ++ bs))) ∧
  (∀ (s : State) (r : Req) (h : Nat), FormOk s r 0x0631 → MayManage s r → h ≤ 63 →
    s.switch.gateLists.any (fun l => decide (l.handle = h)) = true →
    (s.gateUsed h = false → ∃ u : State, exec (.gateListDrop r h) s = .next (u.forward r 0x0631 (natLe 2 h)) ∧
      u.switch.gateLists = s.switch.gateLists.filter (fun l => decide (l.handle ≠ h))) ∧
    (s.gateUsed h = true → exec (.gateListDrop r h) s = .next (s.answer r 0x0631 .inUse))) ∧
  (∀ (s : State) (r : Req), FormOk s r 0x0640 → ∃ l : List Nat, exec (.switchStatus r) s = .next (s.answer r 0x0640 .ok 0 [] (s.switch.freeCells ++ l)) ∧
    l.take 4 = [s.switch.residue.length, s.switch.gaps, s.switch.leaked, s.switch.auditFaults])

/-! ### Chapter 17: remote memory -/

/-- R475, R476: the checks of a received packet, in order; the first that fails disposes of it. R477, R478: the packet at the
expected PSN is executed; one after it draws a single NAK; a duplicate SEND or WRITE is acknowledged and touches no memory, no
buffer and no inbox; one outside the window is dropped. -/
def Obligations.RdmaPacketsAreChecked : Prop :=
  (∀ (s : State) (port : Nat) (p : RdmaPacket),
    let i := p.qpn - 0x10000
    let run := exec (.rdmaPacketReceive port p) s
    let u : State := { s with rdma := { s.rdma with hits := s.rdma.hits + 1 } }.touch i
    ((p.dgid = 0 ∨ p.dgid ∉ s.rdma.gids) → run = .next s) ∧
    (p.dgid ≠ 0 → p.dgid ∈ s.rdma.gids →
      (p.icrcOk = false → run = .next (s.rdmaDrop port 1)) ∧
      (p.icrcOk = true → p.headerOk = false → run = .next (s.rdmaDrop port 2)) ∧
      (p.icrcOk = true → p.headerOk = true →
        ((p.qpn < 0x10000 ∨ 0x1FFFF < p.qpn ∨ s.rqp? i = none) → run = .next (s.rdmaDrop port 3)) ∧
        (∀ q, 0x10000 ≤ p.qpn → p.qpn ≤ 0x1FFFF → s.rqp? i = some q →
          ((s.cached i = false ∨ s.buffered i = true) → run = .next (s.missBuffer port i p)) ∧
          (s.cached i = true → s.buffered i = false →
            (q.state ≠ .rtr → q.state ≠ .rts → run = .next (u.rdmaDrop port 4)) ∧
            ((q.state = .rtr ∨ q.state = .rts) → p.pkey ≠ q.attr.pkey → run = .next (u.rdmaDrop port 5)) ∧
            ((q.state = .rtr ∨ q.state = .rts) → p.pkey = q.attr.pkey → run = .next (u.takePacket port p))))))) ∧
  (∀ (s : State) (q : Qp) (port : Nat) (p : RdmaPacket), s.rqp? q.index = some q →
    (serialCmp p.psn q.expected 24 = .equal → s.respondTo q port p = s.execute q port p) ∧
    (serialCmp p.psn q.expected 24 = .after → q.nakSent = true → s.respondTo q port p = s) ∧
    (serialCmp p.psn q.expected 24 = .after → q.nakSent = false →
      (s.respondTo q port p).rqp? q.index = some { q with nakSent := true } ∧
      (s.respondTo q port p).rdma.out = s.rdma.out ++ [(q.index, { q.packet .ack q.expected with aeth := 2, aethCode := 0 })]) ∧
    (serialCmp p.psn q.expected 24 = .outside → s.respondTo q port p = s.rdmaDrop port 6) ∧
    (serialCmp p.psn q.expected 24 = .before →
      p.op ∈ [BthOp.sendFirst, .sendMiddle, .sendLast, .sendOnly, .writeFirst, .writeMiddle, .writeLast, .writeLastImm, .writeOnly, .writeOnlyImm] →
      let t := s.respondTo q port p
      t.mem = s.mem ∧ t.pools = s.pools ∧ t.rdma.inbox = s.rdma.inbox ∧ t.rdma.immediates = s.rdma.immediates ∧
      t.rqp? q.index = some { q with duplicates := q.duplicates + 1, unacked := 0, unackedAt := none } ∧
      t.rdma.out = s.rdma.out ++ [(q.index, q.packet .ack (q.expected + 2 ^ 24 - 1))]))

/-- R473, R476, R480, R485: a WRITE in a registered region stores its payload there and nowhere else; an atomic on 8 aligned
bytes returns what they held; a request the memory checks refuse stores nothing and ends the pair. -/
def Obligations.RdmaMemoryEffects : Prop :=
 ∀ (s : State) (q : Qp) (port : Nat) (p : RdmaPacket), s.rqp? q.index = some q → s.mem.wf = true →
  (∀ g, p.op = .writeOnly → q.assembling = .none → p.payload.length = p.dmaLength → p.payload.length ≤ q.mtu →
    s.regionFor q p.rkey p.va p.dmaLength (fun g => g.write) = some g →
    let t := s.execute q port p
    let a := g.address + (p.va - g.vaBase)
    t.mem.readBytes a p.payload.length = p.payload ∧ (∀ k, (k < a ∨ a + p.payload.length ≤ k) → t.mem.read k = s.mem.read k) ∧
    (t.rqp? q.index).map (fun y => y.expected) = some ((q.expected + 1) % 2 ^ 24) ∧ t.pools = s.pools ∧ t.rdma.regions = s.rdma.regions) ∧
  (∀ g, (p.op = .fetchAdd ∨ p.op = .compareSwap) → q.assembling = .none → p.va % 8 = 0 → p.swap < 2 ^ 64 →
    s.regionFor q p.rkey p.va 8 (fun g => g.atomic) = some g →
    let t := s.execute q port p
    let a := g.address + (p.va - g.vaBase)
    let old := leNat (s.mem.readBytes a 8)
    leNat (t.mem.readBytes a 8) = (if p.op = .fetchAdd then (old + p.swap) % 2 ^ 64 else if old = p.compare then p.swap else old) ∧
    (∀ k, (k < a ∨ a + 8 ≤ k) → t.mem.read k = s.mem.read k) ∧
    (q.index, { q.packet .atomicAck p.psn with swap := old }) ∈ t.rdma.out) ∧
  (invalidRequest q p = false → s.accessRefused q p = true →
    s.execute q port p = s.refuse q p 2 3)

/-- R479, R481, R482, R483: the requester's side and the timers; a packet starts within the congestion window or when no byte is
in flight, and carries at most PMTU bytes. R474: the moves of a queue pair: those the rule lists, and to ERROR and RESET from
anywhere; another move fails with QP_STATE and changes nothing but the answer. -/
def Obligations.RdmaPairsRun : Prop :=
  ((∀ (s : State) (i : Nat) (q : Qp) (x : Port), s.rqp? i = some q → s.egressOf q = some x → x.up = true → q.state = .rts → q.rnrUntil = none →
     (q.queue ≠ [] ∨ q.flight.any (fun x => x.again) = true) →
     (s.cached i = true → exec (.rdmaPacketSend i) s = .next ((s.touch i).sendOne q)) ∧
     (s.cached i = false → exec (.rdmaPacketSend i) s = .next (s.fetchContext i))) ∧
   (∀ (s : State) (q : Qp) (w : Work) (rest : List Work), q.flight.any (fun x => x.again) = false → q.queue = w :: rest → w.kind = .send →
     q.offset ≤ w.data.length →
     let n := min q.mtu (w.data.length - q.offset)
     (q.inFlight ≠ 0 → q.cwnd < q.inFlight + n → s.sendOne q = s) ∧
     ((q.inFlight = 0 ∨ q.inFlight + n ≤ q.cwnd) → s.rqp? q.index = some q → ∃ (p : RdmaPacket) (y : SentPacket),
       (s.sendOne q).rdma.out = s.rdma.out ++ [(q.index, p)] ∧ p.payload = (w.data.drop q.offset).take n ∧ p.psn = q.nextPsn % 2 ^ 24 ∧
       (s.sendOne q).rqp? q.index = some { q with
         flight := q.flight ++ [y]
         nextPsn := (q.nextPsn + 1) % 2 ^ 24
         queue := if w.data.length ≤ q.offset + q.mtu then rest else w :: rest
         offset := if w.data.length ≤ q.offset + q.mtu then 0 else q.offset + q.mtu
         sinceAckReq := if p.ackReq then 0 else q.sinceAckReq + 1 } ∧
       (p.ackReq = true ↔ w.data.length ≤ q.offset + q.mtu ∨ q.sinceAckReq + 1 = 16))) ∧
   (∀ (s : State) (i : Nat) (q : Qp), s.rqp? i = some q → 0 < q.unacked → (q.state = .rtr ∨ q.state = .rts) →
     exec (.ackTimer i) s = .next (s.sendAck i)) ∧
   (∀ (s : State) (i : Nat) (q : Qp) (x : SentPacket) (xs : List SentPacket), s.rqp? i = some q → q.flight = x :: xs → q.state = .rts →
     (q.retriesLeft = 0 → exec (.ackTimeout i) s = .next (s.failQp i 1)) ∧
     (0 < q.retriesLeft → exec (.ackTimeout i) s = .next ((s.setRqp { q with retriesLeft := q.retriesLeft - 1 }).resendFrom i x.psn))) ∧
   (∀ (s : State) (i : Nat) (q : Qp), s.rqp? i = some q → exec (.rnrTimerExpiry i) s = .next (s.setRqp { q with rnrUntil := none })) ∧
   (∀ (s : State) (i : Nat), s.rdma.fetching.contains i = true → (∀ m ∈ s.rdma.missed, m.2.qpn ≠ 0x10000 + i) → s.rdma.missWait = [] →
     ∃ t, exec (.contextFetchComplete i) s = .next t ∧ t.rdma.fetching = s.rdma.fetching.erase i ∧ t.rdma.missed = s.rdma.missed ∧
       t.mem = s.mem ∧ t.rdma.qps = s.rdma.qps)) ∧
  ((∀ (st : QpState) (target : Nat), moveOf st target ≠ .unlisted ↔ target = 0 ∨ target = 4 ∨ (st = .reset ∧ target = 1) ∨
     (st = .init ∧ target = 2) ∨ ((st = .rtr ∨ st = .rts) ∧ target = 3)) ∧
   (∀ (s : State) (r : Req) (i : Nat) (b : Bytes) (q : Qp), FormOk s r 0x0711 → (s.heldBusy (.qp i)).1 = false → 512 ≤ i → i ≤ 65535 →
     s.rqp? i = some q → fieldAt b 0 1 ≤ 4 → zeroAt b 48 16 = true →
     let m := moveOf q.state (fieldAt b 0 1)
     let a := attrOf b
     (m = .unlisted → exec (.qpModify r i b) s = .next (s.answer r 0x0711 .qpState)) ∧
     (m ≠ .unlisted → (moveFaults m a ++ s.routeFaults m q a).all (fun x => !x.1) = true →
       exec (.qpModify r i b) s = .next ((s.moved m q a).answer r 0x0711 .ok)) ∧
     (m = .toInit → a.sgid ≤ 3 → exec (.qpModify r i b) s =
       .next ((s.setRqp { q with state := .init, attr := { q.attr with pkey := a.pkey, sgid := a.sgid } }).answer r 0x0711 .ok)) ∧
     (m = .toRts → (moveFaults .toRts a).all (fun x => !x.1) = true → ∃ y : Qp,
       exec (.qpModify r i b) s = .next ((s.setRqp y).answer r 0x0711 .ok) ∧ y.state = .rts ∧ y.nextPsn = a.sqPsn ∧ y.grad = 0 ∧ y.last = 0 ∧
       y.attr = { q.attr with sqPsn := a.sqPsn, timeout := a.timeout, retry := a.retry, initDepth := a.initDepth, ccProfile := a.ccProfile }) ∧
     (m = .toError → exec (.qpModify r i b) s = .next ((s.failQp q.index 7).answer r 0x0711 .ok))))

/-- R486: one sample moves the congestion window by the rule of its profile and keeps it within CWND_MIN and CWND_MAX; the
example of the rule gives 891,290 and 872,722 bytes. -/
def Obligations.CongestionWindow : Prop :=
  (∀ (c : CcProfile) (q : Qp) (r : Int) (sent now : Nat), c.cwndMin ≤ c.cwndMax →
    (sent < q.last → onSample c q r sent now = q) ∧
    (q.last ≤ sent →
      let t := onSample c q r sent now
      let grad : Int := q.grad + ((r - q.prev) - q.grad) / 4
      let cut (m d : Int) : Int := q.cwnd - (q.cwnd * c.beta * m) / d
      let clamp (w : Int) : Nat := (min (c.cwndMax : Int) (max (c.cwndMin : Int) w)).toNat
      c.cwndMin ≤ t.cwnd ∧ t.cwnd ≤ c.cwndMax ∧ t.prev = r ∧ t.grad = grad ∧ t.last = now ∧
      (r ≤ c.target → t.cwnd = clamp (q.cwnd + c.ai)) ∧
      ((c.target : Int) < r → 2 * c.target < r → t.cwnd = clamp (cut (r - c.target) (256 * r))) ∧
      ((c.target : Int) < r → r ≤ 2 * c.target → 0 < grad → t.cwnd = clamp (cut (min grad c.target) (256 * c.target))) ∧
      ((c.target : Int) < r → r ≤ 2 * c.target → grad ≤ 0 → t.cwnd = clamp q.cwnd))) ∧
  (let c : CcProfile := {}
   let q : Qp := { index := 512, service := 1, cwnd := 1048576, prev := 6000 }
   (onSample c q 15000 0 1).cwnd = 891290 ∧
   ∀ y : Qp, y.cwnd = 891290 → y.last = 1 → y.grad + ((8000 - y.prev) - y.grad) / 4 = 500 → (onSample c y 8000 1 2).cwnd = 872722)

/-- R474, R485, R486, R491: the RDMA commands. -/
def Obligations.RdmaCommandsRun : Prop :=
  (∀ (s : State) (r : Req) (mac : Nat) (gids : List Nat), FormOk s r 0x0701 →
    let busy := s.rdma.qps.any (fun q => decide (q.state = .rtr) || decide (q.state = .rts))
    (busy = true → exec (.rdmaAddrSet r mac gids) s = .next (s.answer r 0x0701 .inUse)) ∧
    (busy = false → exec (.rdmaAddrSet r mac gids) s = .next (State.answer { s with
      rdma := { s.rdma with mac := mac % 2 ^ 48, gids := (List.range 4).map (fun i => gids.getD i 0) } } r 0x0701 .ok))) ∧
  (∀ (s : State) (r : Req) (store address : Nat), FormOk s r 0x0702 → store ≤ 1 →
    (store = 1 → inWindow address 33554432 = true ∧ address % 4096 = 0) → s.rdma.qps.any (fun q => decide (512 ≤ q.index)) = false →
    exec (.rdmaStoreSet r store address) s = .next (State.answer { s with
      rdma := { s.rdma with storeSel := store, storeAddr := address } } r 0x0702 .ok)) ∧
  (∀ (s : State) (r : Req) (i service pool domain pin : Nat), FormOk s r 0x0710 → (s.heldBusy (.qp i)).1 = false → 512 ≤ i → i ≤ 65535 →
    service ≤ 2 → (service = 1 ∨ service = 2 → pool ≤ 63) → domain ≤ 0xFFFE → pin ≤ 1 → s.rqp? i = none →
    (pin = 1 → s.pinnedCount < 2048) → ∃ u : State,
    exec (.qpCreate r i service pool domain pin) s = .next (u.answer r 0x0710 .ok (0x10000 + i)) ∧
    u.rqp? i = some { index := i, service := service, pool := pool, domain := domain, pinned := decide (pin = 1) } ∧
    (∀ k, k ≠ i → u.rqp? k = s.rqp? k) ∧ u.mem = s.mem) ∧
  (∀ (s : State) (r : Req) (i : Nat) (q : Qp), FormOk s r 0x0712 → i ≤ 65535 → s.rqp? i = some q →
    exec (.qpQuery r i) s = .next (s.answer r 0x0712 .ok 0 q.block
      [q.state.value, q.cause, q.cwnd, q.nextPsn, q.expected, q.retries, q.rnrNaks, q.duplicates])) ∧
  (∀ (s : State) (r : Req) (i : Nat), FormOk s r 0x0712 → i ≤ 65535 → s.rqp? i = none →
    exec (.qpQuery r i) s = .next (s.answer r 0x0712 .notFound)) ∧
  (∀ (s : State) (r : Req) (i : Nat) (q : Qp), FormOk s r 0x0713 → (s.heldBusy (.qp i)).1 = false → 512 ≤ i → i ≤ 65535 →
    s.rqp? i = some q → q.state = .reset → s.qpBound q = false → ∃ u : State,
    exec (.qpDestroy r i) s = .next (u.answer r 0x0713 .ok) ∧ u.rqp? i = none ∧ (∀ k, k ≠ i → u.rqp? k = s.rqp? k) ∧ u.mem = s.mem) ∧
  (∀ (s : State) (r : Req) (i address length va domain access : Nat), FormOk s r 0x0720 → (s.heldBusy (.region i)).1 = false → i ≤ 16383 →
    s.registrable address length = true → 1 ≤ length → length ≤ 2 ^ 40 → domain ≤ 0xFFFE → access ≤ 7 → s.regionFree i = true →
    let g : Region := { index := i, address := address, length := length, vaBase := va, domain := domain
                        write := bitOf access 0, read := bitOf access 1, atomic := bitOf access 2 }
    exec (.mrRegister r i address length va domain access) s = .next ((s.register g).answer r 0x0720 .ok
      (i * 256 + (lookupD s.rdma.keys i 0 + 1) % 256))) ∧
  (∀ (s : State) (r : Req) (i : Nat), FormOk s r 0x0721 → (s.heldBusy (.region i)).1 = false → i ≤ 16383 → s.regionFree i = false →
    s.rdma.regions.any (fun g => decide (g.index = i) && g.firmware) = false → ∃ u : State,
    exec (.mrDeregister r i) s = .next (u.answer r 0x0721 .ok) ∧ u.regionFree i = true ∧ u.rdma.keys = s.rdma.keys ∧
    (∀ g ∈ s.rdma.regions, g.index ≠ i → g ∈ u.rdma.regions)) ∧
  (∀ (s : State) (r : Req) (n target ai beta lo hi init cnp : Nat), FormOk s r 0x0730 → n ≤ 7 → 1000 ≤ target → target ≤ 100000 →
    256 ≤ ai → ai ≤ 65536 → 1 ≤ beta → beta ≤ 255 → 1024 ≤ lo → lo ≤ 1048576 → lo ≤ hi → hi ≤ 67108864 → lo ≤ init → init ≤ hi → cnp ≤ 1 →
    exec (.ccProfileSet r n target ai beta lo hi init cnp) s = .next (State.answer { s with rdma := { s.rdma with
      profiles := s.rdma.profiles.set n { target := target, ai := ai, beta := beta, cwndMin := lo, cwndMax := hi, cwndInit := init
                                          cnpEnable := cnp } } } r 0x0730 .ok)) ∧
  (∀ (s : State) (r : Req) (block : Nat), FormOk s r 0x0740 → (block ≤ 63 ∨ block = 255) → ∃ l : List Nat,
    exec (.rdmaStatus r block) s = .next (s.answer r 0x0740 .ok 0 []
      ((if block = 255 then List.range 64 else [block]).flatMap s.blockReport ++ l)) ∧
    l.take 6 = [s.rdma.hits, s.rdma.misses, s.rdma.writeBacks, s.pinnedCount, s.rdma.cnpsSent, s.rdma.cnpsReceived])

/-! ### Chapter 18: groups and the twin -/

/-- R392: the sender's pieces carry rising numbers, at most 64 of a channel wait for their return, a piece goes round twice and
is sent again under its number; a member acts on the next number only, drops and counts duplicates and holds at most 64 later
pieces. -/
def Obligations.RingPiecesInOrder : Prop :=
  (∀ (s : State) (ch : Nat) (b : Body),
    let p : Piece := ⟨s.group.set.deviceId, ch, lookupD s.group.nextSeq ch 0, b⟩
    let away (t : State) (k : Nat) : Nat := (t.group.flying.filter (fun x => decide (x.1.channel = k))).length
    lookupD (s.sendPiece ch b).group.nextSeq ch 0 = (lookupD s.group.nextSeq ch 0 + 1) % 65536 ∧
    (∀ k, away s k ≤ 64 → away (s.sendPiece ch b) k ≤ 64) ∧
    (away s ch < 64 → s.group.queued.any (fun x => decide (x.channel = ch)) = false → (s.sendPiece ch b).sent = s.sent ++ [.piece p]) ∧
    ((64 ≤ away s ch ∨ s.group.queued.any (fun x => decide (x.channel = ch)) = true) →
      (s.sendPiece ch b).sent = s.sent ∧ (s.sendPiece ch b).group.queued = s.group.queued ++ [p])) ∧
  (∀ (s : State) (p : Piece) (x : Piece × Nat × Nat), p.sender = s.group.set.deviceId → p.sender < 128 →
    s.group.flying.find? (fun x => decide (x.1.channel = p.channel) && decide (x.1.seq = p.seq)) = some x →
    (x.2.2 = 0 → ∃ t, exec (.ringPieceReceive p true) s = .next t ∧ t.sent = s.sent ++ [.passed p] ∧
      t.group.flying = updateFirst (fun y => decide (y = x)) (fun y => (y.1, y.2.1, 1)) s.group.flying) ∧
    (x.2.2 ≠ 0 → exec (.ringPieceReceive p true) s = .next (State.launchQueued { s with
      group := { s.group with flying := s.group.flying.filter (fun y => decide (y ≠ x)) } } p.channel)) ∧
    exec (.ringPieceReceive p false) s = .next s ∧
    exec (.ringPieceResend p.channel p.seq) s = .next { s with
      group := { s.group with flying := updateFirst (fun (x : Piece × Nat × Nat) => decide (x.1.channel = p.channel) && decide (x.1.seq = p.seq))
                                          (fun y => (y.1, s.now, 0)) s.group.flying }
      sent := s.sent ++ [.piece x.1] }) ∧
  (∀ (s : State) (p : Piece), s.synced p.sender = true →
    let last := lookupD s.group.acted (p.sender, p.channel) 65535
    let held := s.group.reorder.filter (fun x => decide (x.sender = p.sender) && decide (x.channel = p.channel))
    ((serialCmp p.seq last 16 = .equal ∨ serialCmp p.seq last 16 = .before) →
      s.takeCopy p = { s with group := { s.group with duplicates := s.group.duplicates + 1 } }) ∧
    (serialCmp p.seq last 16 = .outside → s.takeCopy p = { s with group := { s.group with dropped := s.group.dropped + 1 } }) ∧
    (last < 65536 → p.seq = (last + 1) % 65536 → s.takeCopy p = (s.actNumbered p).drainReorder p.sender p.channel 64) ∧
    (serialCmp p.seq last 16 = .after → p.seq ≠ (last + 1) % 65536 → (∀ x ∈ held, x.seq ≠ p.seq) →
      (held.length < 64 → s.takeCopy p = { s with group := { s.group with reorder := s.group.reorder ++ [p] } }) ∧
      (64 ≤ held.length → s.takeCopy p = { s with group := { s.group with dropped := s.group.dropped + 1 } }))) ∧
  (∀ (s : State) (p : Piece), p.sender < 128 → p.sender ≠ s.group.set.deviceId → s.isManager = false → s.relays = false →
    exec (.ringPieceReceive p true) s = .next (State.takeCopy { s with sent := s.sent ++ [.passed p] } p) ∧
    exec (.ringPieceReceive p false) s = .next { s with sent := s.sent ++ [.passed p] })

/-- R503 to R506: silence and broken links: a silent member is set LOST, a silent manager is reported once, and outside a twin
the workers hold the Gauge; heartbeats and keep-alives are sent; a broken ring link folds the ring. R492, R497, R513: the
settings, formation and the status of the group. -/
def Obligations.GroupFormsAndWatches : Prop :=
  ((∀ (s : State) (d : Nat), s.isManager = true → d < 128 → d ≠ s.group.set.deviceId → liveStatus (s.memberState s.group.set.side d) = true →
     exec (.memberSilenceTimeout d) s = .next (s.setLost s.group.set.side d)) ∧
   (∀ (s : State) (d : Nat), s.isManager = false → exec (.memberSilenceTimeout d) s = .next s) ∧
   (∀ s : State, s.isManager = false → s.group.forming = none → s.group.managerLost = false → s.group.set.twin = false →
     ∃ t, exec .managerSilenceTimeout s = .next t ∧ t.group.managerLost = true ∧ t.gauge.hold = true ∧
       OnlySpeaks { s with group := { s.group with managerLost := true }, gauge := { s.gauge with hold := true } } t) ∧
   (∀ s : State, s.isManager = false → s.group.managerLost = true → exec .managerSilenceTimeout s = .next s) ∧
   (∀ s : State, s.isManager = true → s.group.forming = none → s.group.set.twin = true → s.group.split = false → s.group.acting = false →
     exec .managerSilenceTimeout s = .next (State.setLost (State.raise { s with group := { s.group with acting := true } } .managerLost s.group.manager)
       (1 - s.group.set.side) s.group.set.managerId)) ∧
   (∀ s : State, s.isManager = true → s.group.forming = none → 1 < s.ids.length → s.group.acting = false →
     exec .heartbeatSend s = .next (s.sendPiece 5 (.heartbeat s.ownHello))) ∧
   (∀ s : State, s.isManager = false → exec .heartbeatSend s = .next s ∧ exec .twinKeepaliveSend s = .next s) ∧
   (∀ s : State, s.isManager = true → s.group.set.twin = true → s.group.split = false →
     exec .twinKeepaliveSend s = .next { s with sent := s.sent ++ [.twin (.heartbeat s.ownHello), .twin (.mode s.det.exact)] }) ∧
   (∀ (s : State) (out : Bool), ∃ t, exec (.ringLinkDown out) s = .next t ∧ t.group.folded = decide (1 < s.ids.length) ∧ t.power.tbRing = false ∧
     t.group.ringOut = (s.group.ringOut && !out) ∧ t.group.ringIn = (s.group.ringIn && out) ∧ t.mem = s.mem ∧ t.group.members = s.group.members)) ∧
  ((∀ (s : State) (r : Req) (id side device manager twin expected form mgr lag : Nat), FormOk s r 0x0440 →
     groupConfigCheck id side device manager twin expected form mgr lag s = none →
     let g : GroupSettings := { groupId := id, side := side, deviceId := device, managerId := manager, twin := decide (twin = 1)
                                expected := BitVec.ofNat 128 expected, formTimeout := form, mgrTimeout := mgr, twinLag := lag }
     let u : State := { s with group := { s.group with next := some g } }
     (r.mb = 7 → exec (.groupConfig r id side device manager twin expected form mgr lag) s = .next (u.answer r 0x0440 .ok)) ∧
     (r.mb ≠ 7 → exec (.groupConfig r id side device manager twin expected form mgr lag) s =
       .next ((u.answerInProgress r 0x0440 [.nor]).writeNorRecord .config (s.deviceCopy (groupBytes g)) (some (r, 0x0440))))) ∧
   (∀ (s : State) (id side device manager twin expected form mgr lag : Nat),
     groupConfigCheck id side device manager twin expected form mgr lag s = none ↔
       (1 ≤ id ∧ id ≤ 2 ^ 64 - 1) ∧ side ≤ 1 ∧ device ≤ 127 ∧ manager ≤ 127 ∧ twin ≤ 1 ∧
       (expected.testBit device = true ∧ expected.testBit manager = true) ∧ (1 ≤ form ∧ form ≤ 600) ∧ (10 ≤ mgr ∧ mgr ≤ 10000) ∧
       (1 ≤ lag ∧ lag ≤ 1024) ∧ (s.memberState s.group.set.side s.group.set.deviceId = .absent ∨
         s.memberState s.group.set.side s.group.set.deviceId = .forming)) ∧
   (∀ (s : State) (r : Req), FormOk s r 0x0441 →
     ((s.group.next.getD s.group.set).groupId ≠ 0 → exec (.groupForm r) s = .next ((s.answerInProgress r 0x0441 []).startForming (some r))) ∧
     ((s.group.next.getD s.group.set).groupId = 0 → exec (.groupForm r) s = .next (s.answer r 0x0441 .memberState))) ∧
   (∀ (s : State) (r : Req), FormOk s r 0x0442 → ∃ l : List Nat,
     exec (.groupStatus r) s = .next (s.answer r 0x0442 .ok 0 (s.membership ++ sha256 s.membership) l) ∧ l.head? = some s.group.manager) ∧
   (∀ (s : State) (f : Formation), s.group.forming = some f →
     (f.step = .neighbours → exec .helloSend s = .next { s with sent := s.sent ++ [.neighbour s.ownHello] }) ∧
     (f.step ≠ .neighbours → exec .helloSend s = .next (s.sendPiece 5 (.hello s.ownHello))) ∧
     ((f.failed = 0 ∨ f.timedOut = true) → exec .formationRetry s = .next s) ∧
     (f.failed ≠ 0 → f.timedOut = false → ∃ u : State, exec .formationRetry s = .next u.advanceForming ∧
       u.group.forming = some { start := f.start } ∧ u.group.hellos = [] ∧ u.group.hops = [] ∧ u.sent = s.sent ++ [.neighbour s.ownHello]) ∧
     (f.step ≠ .neighbours → f.step ≠ .hellos → exec .formTimeoutExpiry s = .next (s.withForming (fun f => { f with timedOut := true }))) ∧
     ((f.step = .neighbours ∨ f.step = .hellos) → ∃ d, exec .formTimeoutExpiry s =
       .next ((s.withForming (fun f => { f with timedOut := true })).failForming .formTimeout d))))

/-- R500, R501: a member stores what its manager distributes and acknowledges its digest; the command completes with the last
acknowledgement, and a member that acknowledges a different digest is set LOST. R506 to R508, R510, R513: admission, service,
takeover and restoration, and the batches a proxy sends. -/
def Obligations.GroupServes : Prop :=
  ((∀ (s : State) (h : Nat) (bs : Bytes), s.isManager = false → s.relays = false → ∀ i, i ∈ [Item.recipe h bs, .plan h bs, .program h bs] →
     exec (.distributionReceive i) s = .next ((s.storeItem i).sendPiece 4 (.ack (itemSubject i) (itemDigest i) false))) ∧
   (∀ (s : State) (h : Nat) (bs : Bytes), lookup? (s.storeItem (.recipe h bs)).plan.recipes h = some bs) ∧
   (∀ (s : State) (r : Req) (code : Nat) (i : Item) (goal : QuorumGoal), s.audience ≠ [] → r.mb ≠ 5 → r.mb ≠ 7 →
     (s.distribute r code i goal).group.quorums = s.group.quorums ++ [⟨itemDigest i, code, s.audience, goal, false⟩]) ∧
   (∀ (s : State) (device subject : Nat) (digest : Bytes) (r : Req) (code result : Nat) (payload : Bytes) (values : List Nat),
     s.isManager = true → device < 128 →
     let q : Quorum := ⟨digest, subject, [device], .answer r code result payload values, false⟩
     let u : State := { s with group := { s.group with heard := assign s.group.heard device s.now } }
     s.group.quorums = [q] →
     exec (.quorumAckReceive device (.ack subject digest false)) s =
       .next (State.answer { u with group := { u.group with quorums := [] } } r code .ok result payload values)) ∧
   (∀ (s : State) (device subject : Nat) (digest other : Bytes) (waiting : List Nat) (r : Req) (code result : Nat) (payload : Bytes)
     (values : List Nat), s.isManager = true → device < 128 → device ∈ waiting → other ≠ digest →
     s.group.quorums = [⟨digest, subject, waiting, .answer r code result payload values, false⟩] →
     exec (.quorumAckReceive device (.ack subject other false)) s = .next (State.setLost
       { s with group := { s.group with heard := assign s.group.heard device s.now } } s.group.set.side device)) ∧
   (∀ (s : State) (device : Nat) (b : Body), s.isManager = false → device < 128 →
     exec (.quorumAckReceive device b) s = .next { s with group := { s.group with heard := assign s.group.heard device s.now } })) ∧
  ((∀ (s : State) (r : Req) (d : Nat), FormOk s r 0x0443 → deviceAdmitCheck r d s = none → s.plan.catalogues = [] → ∃ (u : State) (j : Join),
     exec (.deviceAdmit r d) s = .next (u.admitNow j) ∧ u.group.joins = s.group.joins ++ [j] ∧ j.device = d ∧ j.waiter = some r) ∧
   (∀ (s : State) (r : Req) (d : Nat), FormOk s r 0x0443 → MayManage s r → (s.heldBusy (.device d)).1 = false → d ≤ 127 →
     s.memberState (s.admitSide d) d = .active → exec (.deviceAdmit r d) s = .next (s.answer r 0x0443 .memberState)) ∧
   (∀ (s : State) (r : Req) (d action : Nat), FormOk s r 0x0444 → deviceServiceCheck r d action s = none →
     let params := natLe 2 d ++ natLe 1 action
     (r.mb = 5 → s.isManager = false → d = s.group.set.deviceId →
       exec (.deviceService r d action) s = .next ((s.serveDevice action).answer r 0x0444 .ok)) ∧
     (r.mb ≠ 5 → action = 1 → exec (.deviceService r d action) s = .next (s.forward r 0x0444 params)) ∧
     (r.mb ≠ 5 → action = 2 → exec (.deviceService r d action) s = .next ((s.setLost s.group.set.side d).forward r 0x0444 params)) ∧
     (r.mb ≠ 5 → action = 0 → ∃ u : State, exec (.deviceService r d action) s = .next (u.forward r 0x0444 params) ∧
       u.memberState s.group.set.side d = .serviceLost)) ∧
   (∀ (s : State) (r : Req), FormOk s r 0x0445 → s.group.managerLost = true → s.group.set.twin = false → s.isManager = false →
     ∃ u v : State, v = u.setLost s.group.set.side s.group.manager ∧ u.group.manager = s.group.set.deviceId ∧ u.group.managerLost = false ∧
       u.gauge.pubCommitted = s.gauge.committed ∧ u.gauge.summaries = [] ∧
       exec (.managerTakeover r) s = .next (v.writeNorRecord .config
         (s.deviceCopy (groupBytes { s.group.set with managerId := s.group.set.deviceId })) (some (r, 0x0445)))) ∧
   (∀ (s : State) (r : Req), FormOk s r 0x0446 → s.group.acting = true →
     (s.memberState (1 - s.group.set.side) s.group.set.managerId ≠ .active → exec (.managerRestore r) s = .next (s.answer r 0x0446 .memberState)) ∧
     (s.memberState (1 - s.group.set.side) s.group.set.managerId = .active → ∃ (t : State) (q : Quorum), exec (.managerRestore r) s = .next t ∧
       t.group.quorums.getLast? = some q ∧ q.awaiting = [128 + s.group.set.managerId] ∧ q.goal = .restore r ∧ t.group.acting = true)) ∧
   (∀ (s : State) (dest step : Nat) (last : Bool) (header payload : Bytes) (q : DestQueue), s.destQ? dest = some q →
     let b : Batch := { step := step, port := (s.destAt step dest).port, last := last, header := header, payload := payload }
     s.proxied q { step := step, last := last, header := header, payload := payload } = false →
     exec (.proxyBatchReceive dest step last header payload) s =
       .next ((s.setDestQ { q with closed := q.closed ++ [b], ended := q.ended || last }).alarm dest)))

/-! ### Chapter 19: mailboxes -/

/-- R517, R520 to R523: a message meets the header check first, then its sequence number, then whether its command is known, the
recovery image, its class, the manager commands and BUSY; what passes waits for the Lockkeeper, and what fails has only an
answer. -/
def Obligations.MessagesMeetChecksInOrder : Prop :=
  (∀ (s : State) (mb : Nat) (bs : Bytes), s.listens mb = true → 32 ≤ bs.length →
    let r := reqOf mb bs
    let code := fieldAt bs 0 2
    let b := s.box mb
    let seen (t : State) : State := t.setBox mb { b with lastSeq := some r.seq, accepted := ((r.seq, r.tag) :: b.accepted).take 16 }
    (headerBad bs = true → s.receive mb bs = s.refuseMessage r code .badHeader 0) ∧
    (headerBad bs = false → (r.seq, r.tag) ∈ b.accepted → s.receive mb bs = s.answerRepeat mb r.seq r.tag) ∧
    (headerBad bs = false → (r.seq, r.tag) ∉ b.accepted →
      (headerSync bs = false → b.lastSeq = none → s.receive mb bs = s.refuseMessage r code .badSequence 0xFFFFFFFF) ∧
      (∀ n, headerSync bs = false → b.lastSeq = some n → r.seq ≠ (n + 1) % 65536 →
        s.receive mb bs = s.refuseMessage r code .badSequence ((n + 1) % 65536)) ∧
      ((headerSync bs = true ∨ ∃ n, b.lastSeq = some n ∧ r.seq = (n + 1) % 65536) →
        (∀ e, s.frontCheck mb code (messagePayload bs) = some e → s.receive mb bs = (seen s).respond r code e.status e.result [] []) ∧
        (s.frontCheck mb code (messagePayload bs) = none → s.receive mb bs = s.setBox mb
          { b with outstanding := b.outstanding ++ [{ req := r, command := code, payload := some (messagePayload bs), arrived := s.now }]
                   lastSeq := some r.seq
                   accepted := ((r.seq, r.tag) :: b.accepted).take 16 })))) ∧
  (∀ (s : State) (mb code : Nat) (payload : Bytes), layoutOf code payload = none →
    s.frontCheck mb code payload = some ⟨.badCommand, 0⟩) ∧
  (∀ (s : State) (mb code : Nat) (payload : Bytes) (l : Layout), layoutOf code payload = some l →
    (s.nor.running ≠ .main → code ∉ [0x0101, 0x0104, 0x0A01, 0x0A02, 0x0A03] → s.frontCheck mb code payload = some ⟨.recovery, 0⟩) ∧
    (s.nor.running = .main → s.permits mb code l = false → s.frontCheck mb code payload = some ⟨.notPermitted, 0⟩) ∧
    (s.nor.running = .main → s.permits mb code l = true →
      (l.manager = true → mb ≠ 5 → s.leads = false → s.frontCheck mb code payload = some ⟨.notManager, s.group.manager⟩) ∧
      ((l.manager = false ∨ mb = 5 ∨ s.leads = true) →
        s.frontCheck mb code payload = if s.frontBusy mb code then some ⟨.busy, 0⟩ else none))) ∧
  (∀ (s : State) (mb : Nat), mb < 4 →
    (s.now < (s.box mb).busyUntil → exec (.mbDoorbell mb) s = .next (s.hlError 5)) ∧
    ((s.box mb).busyUntil ≤ s.now → ∃ n ≤ s.us 1, exec (.mbDoorbell mb) s = .next (State.receive
      (s.used.setBox mb { s.box mb with busyUntil := s.now + n }) mb (Memory.readBytes (s.box mb).window 0 4096)))) ∧
  (∀ (s : State) (source : Nat) (m : Bytes), s.power.maintOff = false →
    (s.nor.maintenance.allows source = true → exec (.maintenanceDatagram source m) s = .next (s.receive 4 m)) ∧
    (s.nor.maintenance.allows source = false →
      exec (.maintenanceDatagram source m) s = .next { s with lock := { s.lock with mb4Dropped := s.lock.mb4Dropped + 1 } })) ∧
  (∀ (s : State) (m : Bytes), exec (.mboxDataScan m) s = .next (s.receive 6 m))

/-- R524, R525, R528, R572: IN_PROGRESS after 10 ms, the response windows, and MB7: 256 messages in order; what finds it full
waits in the reserve if it is a completion or critical and is else counted, and EVENTS_LOST comes before any later message. -/
def Obligations.AnswersAndEventsQueue : Prop :=
  (∀ (s : State) (r : Req) (o : Outstanding), s.outstanding? r = some o →
    (o.inProgress = false → ∃ t, exec (.answerTimeout r) s = .next t ∧ OnlySpeaks s t ∧
      (t.outstanding? r).map (·.inProgress) = some true ∧
      (r.mb ≠ 7 → ∃ m : Message, m ∈ (t.box r.mb).responses ∧ m.status = Status.inProgress.value ∧ m.tag = r.tag ∧ m.seq = r.seq ∧ m.response = true)) ∧
    (o.inProgress = true → exec (.answerTimeout r) s = .next s)) ∧
  (∀ (s : State) (mb : Nat) (m : Message) (rest : List Message), mb < 4 → (s.box mb).responses = m :: rest →
    let u := s.setBox mb { s.box mb with responses := rest, respReady := !rest.isEmpty }
    exec (.respReady mb) s = .next (if rest = [] then u else u.msix (1 + mb))) ∧
  (∀ (s : State) (m : Message) (rest : List Message), s.lock.mb7.queue = m :: rest →
    exec .mb7Pop s = .next (State.mb7Refill (s.setMb7 { s.lock.mb7 with queue := rest }))) ∧
  (∀ s : State, s.lock.mb7.queue = [] → exec .mb7Pop s = .next s) ∧
  (∀ s : State, s.lock.mb7.queue.length < 256 → s.lock.mb7.lost ≠ 0 → Event.eventsLost.value ∉ s.lock.mb7.mask →
    ∃ m : Message, m.event = true ∧ m.command = 0xE027 ∧ m.payload = natLe 8 s.lock.mb7.lost ∧
      (s.mb7Refill).lock.mb7.queue = s.lock.mb7.queue ++ [m] ++ s.lock.mb7.reserve.take (255 - s.lock.mb7.queue.length) ∧
      (s.mb7Refill).lock.mb7.lost = 0) ∧
  (∀ (s : State) (m : Message), let q := s.lock.mb7
    let t := s.mb7Push m
    (q.queue.length < 256 → q.reserve = [] → q.lost = 0 → t.lock.mb7 = { q with queue := q.queue ++ [m] }) ∧
    ((256 ≤ q.queue.length ∨ q.reserve ≠ [] ∨ q.lost ≠ 0) →
      (m.event = true → m.critical = false → t = s.setMb7 { q with lost := q.lost + 1, lostTotal := q.lostTotal + 1 }) ∧
      ((m.event = false ∨ m.critical = true) → t = s.setMb7 { q with reserve := q.reserve ++ [m] })) ∧
    (q.queue.length ≤ 256 → t.lock.mb7.queue.length ≤ 256)) ∧
  (∀ (s : State) (e : Event) (n : Nat) (p : Bytes), e.critical = false → e.value ∈ s.lock.mb7.mask →
    s.raise e n p = s.setMb7 { s.lock.mb7 with masked := s.lock.mb7.masked + 1 }) ∧
  (∀ s : State, ∀ mb, 64 ≤ s.lock.mb7.reserve.length → s.frontBusy mb 0x0104 = true)

/-- R515, R516, R531, R557, R561: the system commands, the watchdog, SRAM errors and the management restart. -/
def Obligations.LockkeeperRuns : Prop :=
  (∀ (s : State) (r : Req), FormOk s r 0x0101 → ∃ l : List Nat, l.length = 8 ∧
    l.take 7 = [s.fuse.clockBin, s.fuse.hostOption, s.fuse.stepping, s.fuse.es.toNat, s.fuse.serial, s.nor.fw.version, s.nor.fw.datapathRev] ∧
    exec (.identityRead r) s = .next (s.answer r 0x0101 .ok 0 [] l)) ∧
  (∀ (s : State) (r : Req), FormOk s r 0x0102 →
    exec (.mailboxStatus r 7) s = .next (s.answer r 0x0102 .ok 0 []
      [s.lock.mb7.queue.length, s.lock.mb7.reserve.length, s.lock.mb7.lostTotal])) ∧
  (∀ (s : State) (r : Req) (mb n : Nat), FormOk s r 0x0102 → mb < 7 → (s.box mb).lastSeq = some n → ∃ l : List Nat,
    exec (.mailboxStatus r mb) s = .next (s.answer r 0x0102 .ok 0 [] ((s.box mb).outstanding.length :: n :: l))) ∧
  (∀ (s : State) (r : Req), FormOk s r 0x0103 →
    exec (.unitMapRead r) s = .next (s.answer r 0x0103 .ok 0 (s.units.bytes ++ sha256 s.units.bytes))) ∧
  (∀ (s : State) (r : Req) (bs : Bytes), FormOk s r 0x0104 → bs.length ≤ 4064 →
    exec (.echo r bs) s = .next (s.answer r 0x0104 .ok 0 bs)) ∧
  (∀ (s : State) (r : Req) (bs : Bytes), FormOk s r 0x0C04 → bs.length = 128 → ∃ q : Mb7,
    exec (.eventMaskSet r bs) s = .next ((s.setMb7 q).answer r 0x0C04 .ok) ∧ q = { s.lock.mb7 with mask := q.mask } ∧
    (∀ e : Event, e.value ∈ q.mask ↔ e.critical = false ∧ fieldAt bs ((e.value - 0xE000) / 8) 1 / 2 ^ ((e.value - 0xE000) % 8) % 2 = 1)) ∧
  (∀ s : State, s.power.boot ≠ .held → s.power.boot ≠ .released →
    ((s.lock.restartByWatchdog && s.within s.lock.restartEnd (s.seconds 1)) = false →
      exec .lkWatchdogExpiry s = .next ((s.raise .watchdog).mgmtRestart .watchdog)) ∧
    ((s.lock.restartByWatchdog && s.within s.lock.restartEnd (s.seconds 1)) = true → ∃ u : State,
      exec .lkWatchdogExpiry s = .next (u.resetEvent .watchdog .warm) ∧ u.mem = s.mem ∧ u.now = s.now)) ∧
  (∀ s : State,
    exec (.lkSramEccError .single) s = .next { s with lock := { s.lock with sramCorrected := s.lock.sramCorrected + 1 } } ∧
    exec (.lkSramEccError .double) s = .next (s.resetEvent .lkSram .warm) ∧
    exec (.lkSramEccError .residue) s = .next ((s.logEntry .critical 0xE047 0 []).mgmtRestart .residue)) ∧
  (∀ (s : State) (c : RestartCause), s.lock.restart = none → s.capturing = false → ∃ t, s.mgmtRestart c = t ∧
    t.lock.restart = some c ∧ t.lock.boxes = s.lock.boxes ∧ t.lock.arb = 0 ∧ t.nor.session = none ∧
    t.nor.restartCount = s.nor.restartCount + 1 ∧ t.gauge = s.gauge ∧ t.plan = s.plan ∧ t.mem = s.mem) ∧
  (∀ (s : State) (cause : RestartCause) (ok : Bool), s.lock.restart = some cause → ∃ t, exec (.mgmtRestartEnd ok) s = .next t ∧
    t.lock.restart = none ∧ t.lock.handover = [] ∧ t.lock.restartEnd = some s.now ∧ t.lock.restartByWatchdog = decide (cause = .watchdog) ∧
    t.lock.boxes = s.lock.boxes ∧ t.gauge = s.gauge ∧ t.mem = s.mem ∧
    (s.restartCheck cause ok = none → t.nor.running = .main ∧ t.nor.runningImage = s.nor.image ∧ t.nor.lastCheck = 1) ∧
    (∀ k, s.restartCheck cause ok = some k → t.nor.lastCheck = k ∧ (s.nor.retained = none → t.nor.running = .recovery) ∧
      ∀ bs, s.nor.retained = some bs → t.nor.runningImage = bs ∧ t.nor.probation = none)) ∧
  (∀ s : State, s.nor.restartScheduled = true →
    exec .fwRestartBegin s = .next (State.mgmtRestart (s.setNor { s.nor with restartScheduled := false }) .commit))

/-! ### Chapter 20: settings and firmware -/

/-- R535, R541, R547, R551 to R553: the settings, the calibration layers, the owner key, the attestation and the certificates.
-/
def Obligations.SettingsCommandsRun : Prop :=
  (∀ (s : State) (r : Req) (copy offset n : Nat), FormOk s r 0x0201 → copy ≤ 2 → offset < 1048576 → 1 ≤ n → n ≤ 4064 →
    let bs := if copy = 0 then s.activeCopy else if copy = 1 then s.nor.config.a else s.nor.config.b
    exec (.configRead r copy offset n) s = .next (s.answer r 0x0201 .ok 0 ((bs.drop offset).take n))) ∧
  (∀ (s : State) (r : Req) (image : Bytes), FormOk s r 0x0202 →
    image.length = fieldAt image 12 4 + (if configSigned image then 64 else 0) →
    (s.configFault image = none →
      exec (.configWrite r image) s = .next ((s.answerInProgress r 0x0202 []).writeNorRecord .config image (some (r, 0x0202)))) ∧
    (∀ o, s.configFault image = some o → exec (.configWrite r image) s = .next (s.answer r 0x0202 .configInvalid o))) ∧
  (∀ (s : State) (r : Req) (layer f : Nat) (range : Int × Int), FormOk s r 0x0210 → layer ≤ 1 → calRange f = some range →
    exec (.calRead r layer f) s = .next (s.answer r 0x0210 .ok 0 []
      [wrapTo 16 (if layer = 0 then lookupD s.fuse.cal f 0 else lookupD s.userLayer f 0), wrapTo 16 range.1, wrapTo 16 range.2])) ∧
  (∀ (s : State) (r : Req) (f : Nat) (range : Int × Int) (offset : Int), FormOk s r 0x0211 → calRange f = some range →
    let v := max range.1 (min range.2 offset)
    exec (.calWrite r f offset) s = .next ((s.answerInProgress r 0x0211 []).writeNorRecord .ucal
      (ucalBytes (s.nextSeqOf .ucal) (putCal f v s.userLayer)) (some (r, 0x0211)) (wrapTo 16 v + if v = offset then 0 else 2 ^ 32))) ∧
  (∀ (s : State) (r : Req) (record : Bytes), FormOk s r 0x0901 → record.length = 136 → s.nor.ownerKey = none →
    fieldAt record 0 8 = s.fuse.uid → let key := sliceAt record 8 64
    exec (.ownerEnrol r record) s = .next (
      if Config.onCurve key = false then s.answer r 0x0901 .badParam 8
      else if Config.ecdsaVerify key (sha256 (record.take 72)) (sliceAt record 72 64) = false then s.answer r 0x0901 .sigInvalid
      else (s.answerInProgress r 0x0901 []).writeNorRecord .owner (ownerBytes 1 (s.nextSeqOf .owner) s.fuse.uid key) (some (r, 0x0901)))) ∧
  (∀ (s : State) (r : Req) (bs key : Bytes), FormOk s r 0x0902 → bs.length = 80 → bs.take 4 = [0x4F, 0x52, 0x45, 0x56] →
    s.nor.ownerKey = some key → fieldAt bs 4 4 = s.nor.ownerSeq → fieldAt bs 8 8 = s.fuse.uid →
    exec (.ownerRevoke r bs) s = .next (
      if Config.ecdsaVerify key (sha256 (bs.take 16)) (sliceAt bs 16 64) = false then s.answer r 0x0902 .sigInvalid
      else (s.answerInProgress r 0x0902 []).writeNorRecord .owner (ownerBytes 0 (s.nextSeqOf .owner) s.fuse.uid key) (some (r, 0x0902)))) ∧
  (∀ (s : State) (r : Req) (nonce : Bytes), FormOk s r 0x0903 → nonce.length = 32 → ∃ body : Bytes,
    exec (.attest r nonce) s = .next (s.used.answer r 0x0903 .ok 0 (body ++ s.identitySign body)) ∧ body = s.attestation nonce ∧
    body.take 4 = [0x41, 0x54, 0x53, 0x54] ∧ sliceAt body 32 32 = nonce) ∧
  (∀ (s : State) (r : Req) (i : Nat), FormOk s r 0x0904 →
    (i < 3 → exec (.certRead r i) s = .next (s.answer r 0x0904 .ok 0 (if i = 0 then s.fuse.cert else Config.imageCert s.nor.runningImage i))) ∧
    (i = 3 → exec (.certRead r i) s = .next (s.answer r 0x0904 .notFound))) ∧
  (∀ (s : State) (k : RecordKind) (p : Paired),
    (s.halfValid k p.a = false → s.halfValid k p.b = false → s.selectOf k p = (none, false)) ∧
    (s.halfValid k p.a = true → s.halfValid k p.b = false → s.selectOf k p = (some .a, false)) ∧
    (s.halfValid k p.a = false → s.halfValid k p.b = true → s.selectOf k p = (some .b, false)) ∧
    (s.halfValid k p.a = true → s.halfValid k p.b = true → s.selectOf k p =
      if serialCmp (halfSeq p.b) (halfSeq p.a) 32 = .after then (some .b, false)
      else if serialCmp (halfSeq p.b) (halfSeq p.a) 32 = .before then (some .a, false) else (some .a, true)))

/-- R536, R548, R551, R556 to R560, R563: NOR writes end in their order, and an image is downloaded, screened, committed, tried
and retained. -/
def Obligations.ImagesAndRecordsAreWritten : Prop :=
  (∀ (s : State) (k : RecordKind) (h : Half) (bs : Bytes) (r : Req) (code result : Nat) (rest : List NorWrite),
    s.nor.writes = { job := .record k h bs, waiter := some (r, code), result := result } :: rest →
    let u := s.setNor { s.nor with writes := rest }
    exec (.norWriteComplete true) s = .next (((u.setPaired k ((u.paired k).put h bs)).recordWritten k bs).answer r code .ok result) ∧
    exec (.norWriteComplete false) s = .next ((u.setPaired k ((u.paired k).put h [])).answer r code .configInvalid)) ∧
  (∀ (s : State) (bs : Bytes) (r : Req) (code : Nat) (rest : List NorWrite),
    s.nor.writes = { job := .image bs, waiter := some (r, code) } :: rest →
    (s.nor.running ≠ .recovery → exec (.norWriteComplete true) s = .next (State.answer (s.setNor { s.nor with
      writes := rest, image := bs, pendingVersion := some (fwInfoOf bs).version, restartScheduled := true }) r code .ok)) ∧
    exec (.norWriteComplete false) s = .next (State.answer (s.setNor { s.nor with writes := rest, image := [] }) r code .fwImageInvalid)) ∧
  (∀ (s : State) (bs : Bytes) (rest : List NorWrite), s.nor.writes = { job := .writeBack bs } :: rest →
    exec (.fwWriteBackDone true) s = .next (s.setNor { s.nor with writes := rest, image := bs, writeBack := .done }) ∧
    exec (.fwWriteBackDone false) s = .next (State.configLog (s.setNor { s.nor with writes := rest, image := [], writeBack := .failed }) 82 4 [])) ∧
  (∀ (s : State) (t : Nat), s.nor.retireDue = some t → ∃ bs : Bytes, (∃ head : Bytes, head.length = 32 ∧
      bs = head ++ sha256 (head ++ s.units.bytes) ++ s.units.bytes) ∧
    exec .retireRecordWrite s = .next (State.writeNorRecord (s.setNor { s.nor with retireDue := none }) .retire bs none)) ∧
  (∀ (s : State) (r : Req) (offset : Nat) (data : Bytes), FormOk s r 0x0A01 → offset + data.length ≤ 229376 →
    (s.nor.session = none → offset = 0 → s.nor.pendingVersion = none → s.nor.probation = none → s.nor.writeBack ≠ .running →
      exec (.fwImageWrite r 0 data) s = .next (State.answer (s.setNor { s.nor with session := some ⟨.mailbox r.mb, data, s.now⟩ }) r 0x0A01 .ok)) ∧
    (∀ x : FwSession, s.nor.session = some x → x.origin = .mailbox r.mb → offset = x.bytes.length →
      exec (.fwImageWrite r offset data) s = .next (State.answer (s.setNor { s.nor with
        session := some ⟨.mailbox r.mb, x.bytes ++ data, s.now⟩ }) r 0x0A01 .ok)) ∧
    (∀ x : FwSession, s.nor.session = some x → x.origin ≠ .mailbox r.mb →
      exec (.fwImageWrite r offset data) s = .next (s.answer r 0x0A01 .fwBusy))) ∧
  (∀ (s : State) (r : Req) (x : FwSession), FormOk s r 0x0A02 → s.nor.session = some x → x.origin = .mailbox r.mb →
    exec (.fwImageCommit r 1) s = .next (State.answer (s.setNor { s.nor with session := none }) r 0x0A02 .ok) ∧
    (s.nor.running ≠ .download → s.screen x.bytes = none → ∃ u : State, exec (.fwImageCommit r 0) s = .next u ∧
      u = State.queueNor (State.setNor (s.answerInProgress r 0x0A02 []) { s.nor with session := none })
        { job := .image x.bytes, waiter := some (r, 0x0A02) }) ∧
    (∀ e, s.screen x.bytes = some e → exec (.fwImageCommit r 0) s = .next (s.answer r 0x0A02 e.status e.result))) ∧
  (∀ (s : State) (bs : Bytes), (bs.take 4 ≠ [0x4C, 0x4B, 0x46, 0x57] → s.screen bs = some ⟨.fwImageInvalid, 0⟩) ∧
    (fieldAt bs 24 1 < s.fuse.securityMin → ∃ e, s.screen bs = some e)) ∧
  (∀ (s : State) (r : Req), FormOk s r 0x0A03 → ∃ bs : Bytes, bs.length = 64 ∧
    exec (.fwStatusRead r) s = .next (s.answer r 0x0A03 .ok 0 bs) ∧ fieldAt bs 8 1 = s.nor.lastCheck % 256) ∧
  (∀ s : State, exec .fwSessionIdleTimeout s = .next (s.setNor { s.nor with session := none })) ∧
  (∀ (s : State) (t : Nat), s.nor.probation = some t → exec .probationEnd s = .next { s with
    nor := { s.nor with probation := none, retained := some s.nor.runningImage }
    fuse := { s.fuse with securityMin := max s.fuse.securityMin s.nor.fw.securityVersion } })

/-! ### Chapter 21: the host link and memory -/

/-- R568, R571, R575, R576: the registers the host writes, allocation through them, and accesses to the host window. R579 to
R582, R569, R570: errors of the memory go to the unit that read the line; patrol scrub; the modules of the host link. -/
def Obligations.HostLinkRuns : Prop :=
  ((∀ (s : State) (h pool : Nat), h < 15 → (s.allocBlock h).done = true → pool ≤ 63 →
     exec (.allocReq h pool) s = .next (s.setAllocBlock h { s.allocBlock h with done := false, waitingPool := some pool })) ∧
   (∀ (s : State) (h value : Nat), h < 15 → (s.allocBlock h).done = true → 63 < value →
     exec (.allocReq h value) s = .next (s.setAllocBlock h { s.allocBlock h with status := 3, pointer := 0 })) ∧
   (∀ (s : State) (h value : Nat), h < 15 → (s.allocBlock h).done = false →
     exec (.allocReq h value) s = .next { s with link := { s.link with allocIgnored := s.link.allocIgnored + 1 } }) ∧
   (∀ (s : State) (h value : Nat), h < 15 → (s.allocBlock h).returnDone = true →
     let t := (s.returnBuffer (240 + h) value).1
     exec (.returnReg h value) s = .next (t.setAllocBlock h { t.allocBlock h with
       returnStatus := (s.returnBuffer (240 + h) value).2, returnDone := true })) ∧
   (∀ (s : State) (value : Nat), value < 2 ^ 32 →
     exec (.registerWrite 0xC 4 value) s = .next { s with link := { s.link with error := s.link.error &&& ~~~(BitVec.ofNat 32 value) } } ∧
     (value = 0xC01D → exec (.registerWrite 0x20 4 value) s = .next (s.resetEvent .hostLink .cold)) ∧
     (value = 0x3A3A → exec (.registerWrite 0x20 4 value) s = .next (s.resetEvent .hostLink .warm)) ∧
     (value ≠ 0xC01D → value ≠ 0x3A3A → exec (.registerWrite 0x20 4 value) s =
       .next { s with link := { s.link with resetIgnored := s.link.resetIgnored + 1 } })) ∧
   (∀ (s : State) (mb place value : Nat), mb < 4 → place < 4096 → place % 4 = 0 → value < 2 ^ 32 →
     exec (.registerWrite (0x1000 + 0x2000 * mb + place) 4 value) s =
       .next (s.setBox mb { s.box mb with window := putBytes (s.box mb).window place (natLe 4 value) })) ∧
   (∀ (s : State) (o value : Nat), exec (.registerWrite o 2 value) s = .next (s.hlError 3) ∧
     (0xA000 ≤ o → exec (.registerWrite o 4 value) s = .next (s.hlError 3))) ∧
   (∀ (s : State) (a : Nat) (bs : Bytes), s.link.hdmBase ≤ a → a + bs.length ≤ s.link.hdmBase + 0x1000000000 →
     let d := 0x5F80000000 + (a - s.link.hdmBase)
     exec (.hostMemAccess a bs.length (some bs)) s = .next { s with mem := s.mem.writeBytes d bs } ∧
     exec (.hostMemAccess a bs.length none) s = .next { s with link := { s.link with hostRead := s.mem.readBytes d bs.length } } ∧
     (s.mem.wf = true → (s.mem.writeBytes d bs).wf = true ∧ (s.mem.writeBytes d bs).readBytes d bs.length = bs ∧
       ∀ x, x < d ∨ d + bs.length ≤ x → (s.mem.writeBytes d bs).read x = s.mem.read x)) ∧
   (∀ (s : State) (a : Nat) (bs : Bytes), (a < s.link.hdmBase ∨ s.link.hdmBase + 0x1000000000 < a + bs.length) →
     let u : State := { s with link := { s.link with windowFaults := s.link.windowFaults + 1 } }
     exec (.hostMemAccess a bs.length (some bs)) s = .next (u.hlError 2) ∧
     exec (.hostMemAccess a bs.length none) s = .next { u.hlError 2 with
       link := { (u.hlError 2).link with hostRead := List.replicate bs.length 0 } })) ∧
  ((∀ (s : State) (a : Nat), s.installed ≤ a → ∀ u, exec (.lpddr6Ue a u) s = .fault (.noSuchAddress a)) ∧
   (∀ (s : State) (a : Nat) (u : MemReader), a < s.installed →
     let c := s.memChannel a
     exec (.lpddr6Ue a u) s = .next (((s.count (.memory c 1)).logEntry .memory 0 c [a, readerCode u]).ueFor u)) ∧
   (∀ s : State, s.ueFor .other = s ∧ (∀ n, n < 8 → s.ueFor (.riffle n) = s.riffleFault n) ∧ (∀ n, s.ueFor (.drawplate n) = s.plateFault n) ∧
     s.ueFor .anvil = s.anvilFault ∧ (∀ c, exec (.nodeRunEnd c .hwError) s = .next (s.ueFor (.crucible c)) ∨
       ∀ t, exec (.nodeRunEnd c .hwError) s ≠ .next t) ∧ (∀ q, s.ueFor (.context q) = s.failQp q 8) ∧
     (∀ p, s.ueFor (.pointer p) = s.resetEvent .poolPointer .warm 0 p) ∧
     ∀ n, ∃ u : State, s.ueFor (.host n) = u.hlError 4 ∧ u = { s with link := { s.link with hostRead := List.replicate n 0xFF } }) ∧
   (∀ (s : State) (a : Nat), s.enabledChannels ≠ [] → s.memChannel a ∈ s.enabledChannels ∧
     (s.units.lpddr6Off = 0#48 → s.memChannel a = a / 256 % 48)) ∧
   (∀ (s : State) (c lines n : Nat), c < 48 → ∃ t, exec (.lpddr6PatrolScrub c lines n) s = .next t ∧
     t.counter (.memory c 0) = satAdd (s.counter (.memory c 0)) n ∧ (∀ k, k ≠ .memory c 0 → t.counter k = s.counter k) ∧
     lookupD t.tel.patrolled c 0 = lookupD s.tel.patrolled c 0 + lines ∧ t.mem = s.mem ∧ t.tel.logs = s.tel.logs) ∧
   (∀ (s : State) (l : List Nat), s.power.ucieIdle = false → ∃ t, exec (.ucieLinkTrained l) s = .next t ∧
     (∀ m, m < 4 → (t.link.modules.getLsbD m = true ↔ m ∈ l)) ∧ t.power.locks.getLsbD 9 = true ∧ t.mem = s.mem) ∧
   (∀ (s : State) (m : Nat), m < 4 → ∃ t, exec (.ucieModuleLost m) s = .next t ∧ t.link.modules.getLsbD m = false ∧
     (∀ k, k < 4 → k ≠ m → t.link.modules.getLsbD k = s.link.modules.getLsbD k) ∧ t.link.error.getLsbD 1 = true ∧
     OnlySpeaks { s with link := { s.link with modules := t.link.modules, error := t.link.error } } t))

/-- R576: a host read beyond the decoder range returns zeros and a host write there is dropped; each such access is counted and
sets WINDOW_FAULT; the host die reaches no LPDDR6 outside the window: none of it changes, and none of it shows in what a read
returns. -/
def Obligations.HostReachesOnlyTheWindow : Prop :=
  (∀ (s : State) (a n : Nat) (data : Option Bytes), (∀ bs, data = some bs → n = bs.length) →
    ∃ t, exec (.hostMemAccess a n data) s = .next t ∧
      (∀ x, (x < windowBase ∨ windowBase + windowSize ≤ x) → t.mem.read x = s.mem.read x) ∧
      (data = none → t.mem = s.mem) ∧
      ((a < s.link.hdmBase ∨ s.link.hdmBase + windowSize < a + n) → t.mem = s.mem ∧ t.link.windowFaults = s.link.windowFaults + 1 ∧
        t.link.error.getLsbD 2 = true ∧ (data = none → t.link.hostRead = List.replicate n 0)) ∧
      (s.link.hdmBase ≤ a → a + n ≤ s.link.hdmBase + windowSize → t.link.windowFaults = s.link.windowFaults ∧ t.link.error = s.link.error)) ∧
  (∀ (s u : State) (a n : Nat), u.link = s.link → (∀ x, windowBase ≤ x → x < windowBase + windowSize → u.mem.read x = s.mem.read x) →
    ∃ t v, exec (.hostMemAccess a n none) s = .next t ∧ exec (.hostMemAccess a n none) u = .next v ∧ t.link.hostRead = v.link.hostRead)

/-! ### Chapter 22: reset, power and clocks -/

/-- R585 to R587, R589: what a cold or a warm reset clears and keeps, which reset becomes cold, and the rows that begin one. -/
def Obligations.ResetsClear : Prop :=
  (∀ (s : State) (e : ResetCause) (supply : Bool), s.resetting = false → ∃ t : State, t = s.enterReset e supply ∧
    t.power.boot = .held ∧ t.power.cause = e ∧ t.power.eventAt = s.now ∧ t.power.rstOut = true ∧ t.power.nandWp = true ∧
    t.power.nandCeHigh = true ∧ t.power.norCsHigh = true ∧ t.power.ucieIdle = true ∧ t.power.maintOff = true ∧ t.power.serdesOn = 0 ∧
    t.gauge = {} ∧ t.pools = {} ∧ t.plan = {} ∧ t.ngayx = {} ∧ t.coll = {} ∧ t.group = {} ∧
    t.lock.mb7 = {} ∧ t.lock.held = [] ∧ t.tel.counters = [] ∧ t.fuse = s.fuse ∧ t.units = s.fuse.unitMap ∧ t.now = s.now ∧
    t.pending = s.pending ∧ (t.media.data = s.media.data ∨ e.scope = .cold) ∧
    (s.nor.writes = [] → t.nor.image = s.nor.image ∧ t.nor.config = s.nor.config ∧ t.nor.ucal = s.nor.ucal ∧ t.nor.owner = s.nor.owner ∧
      t.nor.retire = s.nor.retire) ∧
    (e.scope = .cold → t.mem = [] ∧ t.det.records = [] ∧ t.power.coldAt = s.now ∧ t.power.lpddrResetLow = true ∧
      ∀ l ∈ t.tel.logs, l.id ≠ .media → l.id ≠ .resetHistory → l.entries = []) ∧
    (e.scope = .warm → t.mem = s.mem ∧ t.power.selfRefresh = true ∧ t.power.coldAt = s.power.coldAt ∧
      ∀ i, i ≠ .resetHistory → t.log i = s.log i)) ∧
  (∀ (s : State) (e : ResetCause) (supply : Bool), s.resetting = true →
    ((e.scope = .cold → s.power.cause.scope = .cold) → (s.enterReset e supply).power.cause = s.power.cause) ∧
    (e.scope = .cold → s.power.cause.scope = .warm → (s.enterReset e supply).power.cause = e)) ∧
  (∀ (s : State) (src : Source) (n unit : Nat), s.resetting = false →
    (src ∈ [.watchdog, .lkSram, .shadowParity, .poolPointer, .clockLock] → s.within s.power.warmEnd (s.seconds 1) = true →
      (s.resetEvent src .warm n unit).power.cause = ⟨.escalated, .cold, src.value, 0⟩) ∧
    (s.within s.power.warmEnd (s.seconds 1) = false → (s.resetEvent src .warm n unit).power.cause = ⟨src, .warm, 0, n⟩) ∧
    (s.resetEvent src .cold n unit).power.cause = ⟨src, .cold, 0, n⟩) ∧
  (∀ (s : State) (pool : Nat),
    exec .powerOn s = .next (s.resetEvent .powerOn .cold) ∧ exec .shadowParityError s = .next (s.resetEvent .shadowParity .warm) ∧
    exec (.poolPointerEcc pool) s = .next (s.resetEvent .poolPointer .warm 0 pool) ∧
    exec .hlResetReqCold s = .next (s.resetEvent .hostLink .cold) ∧ exec .hlResetReqWarm s = .next (s.resetEvent .hostLink .warm) ∧
    (s.power.sysRstLow = false → exec (.sysRstN true) s =
      .next (State.resetEvent (s.setPower { s.power with sysRstLow := true }) .sysRstN .cold)) ∧
    exec (.sysRstN false) s = .next (s.setPower { s.power with sysRstLow := false })) ∧
  (∀ (s : State) (pll : Nat), 1 ≤ pll → pll ≤ 10 → s.power.locks.getLsbD (pll - 1) = true →
    let lost := s.setPower { s.power with locks := s.power.locks &&& ~~~(BitVec.twoPow 10 (pll - 1)) }
    (pll ∈ [1, 2, 8, 9] → exec (.pllLockLoss pll) s = .next (lost.resetEvent .clockLock .warm pll)) ∧
    (pll = 3 → exec (.pllLockLoss pll) s = .next (s.setPower { s.power with tbRing := false, tbChanges := s.power.tbChanges + 1 })) ∧
    (pll ∈ [4, 5, 6, 7] → exec (.pllLockLoss pll) s = .next (lost.serdesLost (pll - 4))) ∧
    (pll = 10 → exec (.pllLockLoss pll) s = .next { lost with link := { lost.link with modules := 0#4 } })) ∧
  (∀ (s : State) (r : Req) (target : Nat), FormOk s r 0x0B01 →
    exec (.reset r 0 target) s = .next ((s.answer r 0x0B01 .ok).resetEvent .mailbox .cold) ∧
    exec (.reset r 1 target) s = .next ((s.answer r 0x0B01 .ok).resetEvent .mailbox .warm) ∧
    exec (.reset r 2 target) s = .next ((s.answer r 0x0B01 .ok).mgmtRestart .command) ∧
    (s.isHeld (.unit target) = false → s.targetThere target = true → exec (.reset r 3 target) s = .next (s.beginBlock r target)) ∧
    (s.isHeld (.unit target) = false → s.targetDomain target = none → exec (.reset r 3 target) s = .next (s.answer r 0x0B01 .badParam 2)) ∧
    (s.isHeld (.storageQp target) = false → target ≤ 255 → (s.qp? target).isSome = true →
      exec (.reset r 4 target) s = .next ((s.historyLine 4 4 0 0).resetPairFor r 0x0B01 target)))

/-- R587: a warm reset becomes cold with SOURCE ESCALATED when one of the sources 3, 7, 8, 9 and 10 begins it within 1 s of the
end of a previous warm reset, or when an LPDDR6 channel fails retraining during a warm reset; in no other case. -/
def Obligations.WarmResetEscalates : Prop :=
  (∀ (s : State) (src : Source) (n unit : Nat), s.resetting = false →
    let close := ∃ e, s.power.warmEnd = some e ∧ s.now < e + s.seconds 1
    let c := (s.resetEvent src .warm n unit).power.cause
    (src.value ∈ [3, 7, 8, 9, 10] → close → c = ⟨.escalated, .cold, src.value, 0⟩ ∧ (s.resetEvent src .warm n unit).mem = []) ∧
    ((src.value ∉ [3, 7, 8, 9, 10] ∨ ¬close) → c = ⟨src, .warm, 0, n⟩ ∧ (s.resetEvent src .warm n unit).mem = s.mem)) ∧
  (∀ (s : State) (failed : List Nat) (found : List FoundDie), s.power.boot = .booted → s.nor.running = .main →
    s.power.cause.scope = .warm → ∃ t, exec (.lpddr6TrainingDone failed found) s = .next t ∧
    ((∃ c ∈ failed, c < 48 ∧ s.units.lpddr6Off.getLsbD c = false) → t.power.cause = ⟨.escalated, .cold, s.power.cause.source.value, 0⟩ ∧
      t.power.boot = .held ∧ t.mem = []) ∧
    ((∀ c ∈ failed, c < 48 → s.units.lpddr6Off.getLsbD c = true) → t.power.cause = s.power.cause ∧ t.mem = s.mem))

/-- R590, R593, R595, R596: the rows of a reset, each after the one before it. R600, R602 to R606: block resets, and the power
domains: requests on a domain queue, no sequence is cut short, and all of them complete when the domain reaches a state with
nothing queued. -/
def Obligations.BootAndDomainsRun : Prop :=
  ((∀ (s : State) (src clk : BitVec 2), s.power.boot = .held → s.power.sysRstLow = false → s.power.tripDue = none → ∃ t,
     exec (.resetRelease src clk) s = .next t ∧ t.power.boot = .released ∧ t.power.strapsDue = false ∧
     (s.power.strapsDue = true → t.power.bootSrc = src ∧ t.power.clkMode = clk ∧ t.power.clkFault = decide (clk = 3#2)) ∧
     (s.power.strapsDue = false → t.power.bootSrc = s.power.bootSrc ∧ t.power.clkMode = s.power.clkMode)) ∧
   (∀ (s : State) (readable : Bool), s.power.boot = .released → ∃ t, exec (.mgmtRegionRelease readable) s = .next t ∧
     t.power.boot = .mgmt ∧ t.power.norCsHigh = false ∧ t.nor.readable = readable ∧ t.nor.bootCount = s.nor.bootCount + 1 ∧
     t.fuse.seed.isSome = true ∧ (∀ p ∈ [0, 1, 2], t.power.locks.getLsbD p = true) ∧ t.mem = s.mem ∧
     (s.power.bootSrc.getLsbD 1 = true → t.nor.running = .download) ∧
     (s.power.bootSrc.getLsbD 1 = false → readable = false → t.nor.running = .recovery)) ∧
   (∀ s : State, s.power.boot = .mgmt → ∃ t, exec .rstOutNRelease s = .next t ∧ t.power.boot = .booted ∧ t.power.rstOut = false ∧
     t.power.ucieIdle = false ∧ t.mem = s.mem ∧ t.nor.running = s.nor.running) ∧
   (∀ (s : State) (found : List FoundDie), s.power.boot = .booted → s.nor.running = .main → channelsOff s.units.lpddr6Off ≤ 13 → ∃ t,
     exec (.lpddr6TrainingDone [] found) s = .next t ∧ t.power.boot = .memory ∧ t.power.lpddrResetLow = false ∧ t.power.ckeLow = false ∧
     t.power.nandCeHigh = false ∧ t.mem = s.mem) ∧
   (∀ (s : State) (failed : List Nat) (found : List FoundDie), s.power.boot = .booted → s.nor.running = .main → s.power.cause.scope = .warm →
     (∃ c ∈ failed, c < 48 ∧ s.units.lpddr6Off.getLsbD c = false) →
     exec (.lpddr6TrainingDone failed found) s = .next (s.enterReset ⟨.escalated, .cold, s.power.cause.source.value, 0⟩ false)) ∧
   (∀ s : State, s.power.boot = .memory → (s.domain 28).status.stable = true → (s.domain 29).status.stable = true → ∃ t,
     exec .journalRecoveryDone s = .next t ∧ t.power.boot = .media ∧ t.power.nandWp = false ∧ t.mem = s.mem ∧
     ∀ d, s.lateDomain d = true → (s.domain d).status = .off → d < s.power.domains.length → (t.domain d).status = .poweringOn) ∧
   (∀ s : State, s.power.boot = .media → s.domainsRest = true → ∃ u v : State, u.power.boot = .running ∧ u.link.ready = true ∧
     exec .configApply s = .next ((u.recordNow.queueCause).reportReset.startForming none) ∧ u = v.ready ∧ v.power.maintOff = false) ∧
   (∀ s : State,
     (s.power.boot ≠ .held → ∀ a b, exec (.resetRelease a b) s = .next s) ∧
     (s.power.boot ≠ .released → ∀ a, exec (.mgmtRegionRelease a) s = .next s) ∧
     (s.power.boot ≠ .mgmt → exec .rstOutNRelease s = .next s) ∧
     (s.power.boot ≠ .booted → ∀ a b, exec (.lpddr6TrainingDone a b) s = .next s) ∧
     (s.power.boot ≠ .memory → exec .journalRecoveryDone s = .next s) ∧
     (s.power.boot ≠ .media → exec .configApply s = .next s))) ∧
  ((∀ (s : State) (target : Nat), s.blockHeld target = true →
     ((0x100 ≤ target ∧ target ≠ 0x500 ∧ target ≠ 0x501) → ∃ t, exec (.blockResetRelease target) s = .next t ∧
       t.power.blocks = updateFirst (fun b => decide (b.target = target)) (fun b => { b with testing := true }) s.power.blocks ∧
       t = { s with power := { s.power with blocks := t.power.blocks } }) ∧
     (target < 0x40 → exec (.blockResetRelease target) s = .next (((s.portPllLocked (22 + target / 16)).unitBack target).endBlock target .ok))) ∧
   (∀ (s : State) (target : Nat), target < 0x600 → s.power.blocks.any (fun b => decide (b.target = target) && b.testing) = true →
     exec (.selfTestDone target true) s = .next ((s.unitBack target).endBlock target .ok) ∧
     exec (.selfTestDone target false) s = .next (((s.used.retireUnit target)).endBlock target ((s.used.retireUnit target).failedStatus target))) ∧
   (∀ (s : State) (d : Nat), d < 30 → ((s.domain d).status = .poweringOn ∨ (s.domain d).status = .pendingOff) → (s.domain d).good = true →
     exec (.selfTestDone (0x600 + d) true) s = .next (s.domainOn d)) ∧
   (∀ (s : State) (r : Req) (d action : Nat), FormOk s r 0x0B02 → d ≤ 29 → fixedDomain d = false → s.domainSpare d = false → action ≤ 1 →
     (action = 1 → exec (.domainSet r d action) s = .next ((s.answerInProgress r 0x0B02 []).askDomain d true r)) ∧
     (action = 0 → s.offBarred d = true → exec (.domainSet r d action) s = .next (s.answer r 0x0B02 .inUse)) ∧
     (action = 0 → s.offBarred d = false → exec (.domainSet r d action) s = .next ((s.answerInProgress r 0x0B02 []).askDomain d false r))) ∧
   (∀ (s : State) (r : Req) (d : Nat), d < s.power.domains.length →
     ((s.domain d).status = .poweringOff → ((s.askDomain d true r).domain d).status = .pendingOn) ∧
     ((s.domain d).status = .poweringOn → ((s.askDomain d false r).domain d).status = .pendingOff) ∧
     ((s.domain d).status = .pendingOn → ((s.askDomain d false r).domain d).status = .poweringOff) ∧
     ((s.domain d).status = .pendingOff → ((s.askDomain d true r).domain d).status = .poweringOn) ∧
     ((s.domain d).status.stable = false → ∀ on, ((s.askDomain d on r).domain d).waiting = (s.domain d).waiting ++ [r])) ∧
   (∀ (s : State) (d : Nat), (s.domain d).phase = .draining →
     exec (.domainDrainDone d) s = .next (s.setDomain d { s.domain d with phase := .switching })) ∧
   (∀ (s : State) (d : Nat), ((s.domain d).status = .poweringOn ∨ (s.domain d).status = .pendingOff) →
     exec (.domainPowerGood d true) s = .next (State.portPllLocked (s.setDomain d { s.domain d with good := true }) d) ∧
     exec (.domainPowerUpTimeout d) s = .next (s.domainFailed d)) ∧
   (∀ (s : State) (d : Nat), (s.domain d).phase = .switching →
     ((s.domain d).status = .pendingOn → exec (.domainPowerGood d false) s = .next ((s.enterDomain d .off).powerUp d)) ∧
     ((s.domain d).status = .poweringOff → exec (.domainPowerGood d false) s = .next ((s.enterDomain d .off).endDomainSets d))) ∧
   (∀ (s : State) (d : Nat) (r : Req), d < s.power.domains.length → (s.domain d).waiting = [r] →
     s.endDomainSets d = State.answer (s.setDomain d { s.domain d with waiting := [] }) r 0x0B02 .ok (s.domain d).status.value))

/-! ### Chapter 23: logs, counters, telemetry -/

/-- R610 to R619: logs hold their capacity, counters stop at 2^64 - 1, and the commands that read and set what chapter 23 keeps.
R616, R617, R619: the sensors' medians, the throttle's duty, and the thermal trip. -/
def Obligations.LogsAndTelemetryRun : Prop :=
  ((∀ (s : State) (i : LogId) (code subject : Nat) (detail : List Nat), LogsBounded s → LogsBounded (s.logEntry i code subject detail)) ∧
   (∀ (l : Log) (e : LogEntry), (l.push e).nextSeq = l.nextSeq + 1 ∧
     (l.entries.length < l.id.capacity → (l.push e).entries = l.entries ++ [e] ∧ (l.push e).overflow = l.overflow) ∧
     (l.id.capacity ≤ l.entries.length → (l.push e).overflow = l.overflow + 1 ∧
       (l.id ≠ .critical → (l.push e).entries = l.entries.drop 1 ++ [e]) ∧
       ∀ first rest, l.id = .critical → l.entries = first :: rest → (l.push e).entries = first :: (rest.drop 1 ++ [e]))) ∧
   (∀ (s : State) (c : Counter) (n : Nat), (s.count c n).counter c = min (s.counter c + n) (2 ^ 64 - 1) ∧
     (∀ k, k ≠ c → (s.count c n).counter k = s.counter k) ∧ s.count c n = { s with tel := { s.tel with counters := (s.count c n).tel.counters } }) ∧
   (∀ (s : State) (r : Req) (log offset n : Nat) (i : LogId), FormOk s r 0x0C01 → logOf log = some i → 1 ≤ n → n ≤ 4064 →
     exec (.logRead r log offset n) s = .next (s.answer r 0x0C01 .ok 0 (((s.log i).bytes.drop offset).take n))) ∧
   (∀ (s : State) (r : Req) (log : Nat) (i : LogId), FormOk s r 0x0C06 → logOf log = some i → s.logBusy r log = false →
     exec (.logClear r log) s = .next ((s.clearLog i).answer r 0x0C06 .ok) ∧ (s.clearLog i).log i = { id := i }) ∧
   (∀ (s : State) (r : Req) (block first n size : Nat), FormOk s r 0x0C02 → blockSize block = some size → first + n ≤ size → 1 ≤ n → n ≤ 500 →
     exec (.counterRead r block first n) s =
       .next (s.answer r 0x0C02 .ok 0 ((List.range' first n).flatMap (fun i => natLe 8 (s.counterAt block i))))) ∧
   (∀ (s : State) (r : Req) (on ms address slots : Nat), FormOk s r 0x0C03 → on ≤ 1 → 1 ≤ ms → ms ≤ 10000 →
     (address % 4096 = 0 → inWindow address (slots * 4096) = true → 2 ≤ slots → slots ≤ 1024 →
       exec (.telemetrySet r on ms 0 address slots) s = .next (State.answer (s.setTel
         { s.tel with on := decide (on = 1), interval := ms, dest := some (.ring address slots), seq := 0 }) r 0x0C03 .ok)) ∧
     exec (.telemetrySet r on ms 1 address slots) s = .next (State.answer (s.setTel
       { s.tel with on := decide (on = 1), interval := ms, dest := some (.port address slots), seq := 0 }) r 0x0C03 .ok)) ∧
   (∀ (s : State) (r : Req) (limit : Nat), FormOk s r 0x0B04 → 300 ≤ limit → limit ≤ 1080 →
     exec (.throttleSet r limit) s = .next (State.answer (s.setTel { s.tel with limit := limit }) r 0x0B04 .ok)) ∧
   (∀ (s : State) (r : Req), FormOk s r 0x0B03 → ∃ l : List Nat, l.length = 8 ∧
     exec (.powerRead r) s = .next (s.used.answer r 0x0B03 .ok 0 [] (s.tel.domainPower ++ [s.tel.packagePower] ++ l))) ∧
   (∀ (s : State) (r : Req) (i : Nat) (v : Int), FormOk s r 0x0C05 → i < 16 → s.tempMedian i = some v →
     exec (.sensorRead r i) s = .next (s.used.answer r 0x0C05 .ok 0 [] [wrapTo 16 v])) ∧
   (∀ (s : State) (r : Req), FormOk s r 0x0C05 → ∃ l : List Nat, l.length = 24 ∧
     exec (.sensorRead r 0xFFFF) s = .next (s.used.answer r 0x0C05 .ok 0 [] l)) ∧
   (∀ (s : State) (slots base : Nat), s.tel.on = true → s.lock.restart = none → s.tel.dest = some (.ring base slots) →
     exec .telemetryEmit s = .next (State.memWrite (s.setTel { s.tel with seq := (s.tel.seq + 1) % 2 ^ 32 })
       (base + s.tel.seq % slots * 4096) s.telemetryRecord)) ∧
   (∀ s : State, s.tel.on = true → s.lock.restart ≠ none →
     exec .telemetryEmit s = .next (s.setTel { s.tel with seq := (s.tel.seq + 1) % 2 ^ 32 }))) ∧
  ((∀ (a b c : Int) (rest : List Int), ∃ m, medianOf (a :: b :: c :: rest) = some m ∧ (m = a ∨ m = b ∨ m = c) ∧
     (min a (min b c) ≤ m ∧ m ≤ max a (max b c)) ∧ 2 ≤ ([a, b, c].filter (fun x => decide (x ≤ m))).length ∧
     2 ≤ ([a, b, c].filter (fun x => decide (m ≤ x))).length) ∧
   (∀ (s : State) (power : Nat) (domains : List Nat) (low : Bool),
     let u : State := s.setTel { s.tel with packagePower := power, domainPower := domains, throttleLow := low }
     u.tripSensor = none →
     (u.hot = true → 2 < s.tel.duty → ∃ t, exec (.throttleEval power domains low) s = .next t ∧ t.tel.duty = s.tel.duty - 1 ∧ t.tel.cool = 0) ∧
     (u.hot = true → s.tel.duty ≤ 2 → ∃ t, exec (.throttleEval power domains low) s = .next t ∧ t.tel.duty = s.tel.duty ∧ t.tel.cool = 0) ∧
     (u.hot = false → u.coolNow = true → s.tel.cool < 9 →
       exec (.throttleEval power domains low) s = .next (u.setTel { u.tel with cool := s.tel.cool + 1 })) ∧
     (u.hot = false → u.coolNow = true → 9 ≤ s.tel.cool → ∃ t, exec (.throttleEval power domains low) s = .next t ∧
       t.tel.duty = min 8 (s.tel.duty + 1) ∧ t.tel.cool = 0) ∧
     (u.hot = false → u.coolNow = false → exec (.throttleEval power domains low) s = .next (u.setTel { u.tel with cool := 0 }))) ∧
   (∀ (s : State), (2 ≤ s.tel.duty ∧ s.tel.duty ≤ 8) → (2 ≤ (s.throttle).tel.duty ∧ (s.throttle).tel.duty ≤ 8)) ∧
   (∀ (s : State) (temps rails : List Int),
     let read (t : TelemetryState) : TelemetryState := { t with temps := s.addReadings 0x0870 t.temps temps }
     let u : State := s.setTel { read s.tel with rails := s.addReadings 0x0880 s.tel.rails rails }
     (u.tripSensor = none → exec (.sensorSample temps rails) s = .next u) ∧
     (∀ i, u.tripSensor = some i → s.power.boot ≠ .held →
       exec (.sensorSample temps rails) s = .next (u.resetEvent .thermalTrip .cold i))) ∧
   (∀ (s : State) (i : Nat), s.tripSensor = some i → i < 16 ∧ 1150 ≤ (s.tempMedian i).getD 0 ∧
     ∀ j, j < i → (s.tempMedian j).getD 0 < 1150) ∧
   (∀ (s : State) (link : Nat), link < 9 → link ∉ s.tel.retraining → ∃ t, exec (.d2dReplayFail link) s = .next t ∧
     t.tel.retraining = s.tel.retraining ++ [link] ∧ t.counter (.link link 1) = satAdd (s.counter (.link link 1)) 16 ∧
     t.counter (.link link 2) = satAdd (s.counter (.link link 2)) 1 ∧ t.gauge = s.gauge ∧ t.mem = s.mem) ∧
   (∀ (s : State) (link : Nat), exec (.d2dRetrainDone link) s = .next { s with
     tel := { s.tel with retraining := s.tel.retraining.filter (fun l => decide (l ≠ link)) } }) ∧
   (∀ (s : State) (link : Nat), link ∈ s.tel.retraining → link < 8 → exec (.d2dRetrainTimeout link) s =
     .next ((linkDomains link).foldl (fun s d => s.domainFailed d) ((s.retrained link).linkLine link 2))) ∧
   (∀ s : State, 8 ∈ s.tel.retraining → exec (.d2dRetrainTimeout 8) s = .next (((s.retrained 8).linkLine 8 2).loseModules 0#4)) ∧
   linkDomains 0 = [8, 9, 10, 11, 12, 13, 14] ∧ linkDomains 1 = [15, 16, 17, 18, 19, 20, 21] ∧
   (∀ l, 2 ≤ l → l ≤ 5 → linkDomains l = [20 + l]) ∧ linkDomains 6 = [26, 28] ∧ linkDomains 7 = [27, 29])

/-! ### The whole block -/

/-- A step carries out the command at the front of the queue with the queue's rest; on an empty queue the clock advances by one
ACLK cycle and nothing is commanded (DESIGN CHOICE, log entry 1). -/
def Obligations.StepRunsFrontCommand : Prop :=
  (∀ (c : Instr) (s : State) (rest : List Instr), step { s with pending := c :: rest } = exec c { s with pending := rest }) ∧
  (∀ s : State, s.pending = [] → ∃ t, step s = .next t ∧ t.now = s.now + 1 ∧ t.pending = [] ∧ t.mem = s.mem ∧ t.fuse = s.fuse) ∧
  ∀ (s : State) (nbits w : Nat), s.withFetchWord nbits w = s

/-- Every step, whatever the command and whatever the state, keeps the LPDDR6 image in canonical form, so that equal memories
are equal data (R583; the form is the model's choice, log entry 3): a write that puts back what an unlisted byte reads as leaves
no entry. -/
def Obligations.EveryStepKeepsMemory : Prop :=
  ∀ s t : State, MemoryOk s → step s = .next t → MemoryOk t

/-- What reset leaves (R595 step 1, R597, R36, R92, R521, R528, R590, R603, R617): the values the spec gives; memory is in
canonical form and every log within its capacity. -/
def Obligations.ResetLeaves : Prop :=
  State.reset.pending = [] ∧ MemoryOk State.reset ∧ LogsBounded State.reset ∧
  State.reset.power.boot = .held ∧ State.reset.power.rstOut = true ∧ State.reset.power.nandWp = true ∧ State.reset.power.nandCeHigh = true ∧
  State.reset.power.lpddrResetLow = true ∧ State.reset.power.ckeLow = true ∧ State.reset.power.norCsHigh = true ∧
  State.reset.power.ucieIdle = true ∧ State.reset.power.maintOff = true ∧ State.reset.power.serdesOn = 0 ∧
  State.reset.power.cause = ⟨.powerOn, .cold, 0, 0⟩ ∧ (∀ d < 30, (State.reset.domain d).status = .off) ∧ State.reset.power.domains.length = 30 ∧
  State.reset.tel.limit = 1080 ∧ State.reset.tel.duty = 8 ∧ State.reset.tel.counters = [] ∧
  State.reset.link.modules = 0 ∧ State.reset.link.ready = false ∧ State.reset.link.error = 0 ∧
  State.reset.lock.boxes.length = 7 ∧ (∀ b ∈ State.reset.lock.boxes, b.outstanding = [] ∧ b.lastSeq = none ∧ b.cache = [] ∧ b.accepted = []) ∧
  State.reset.lock.mb7.queue = [] ∧ State.reset.lock.mb7.reserve = [] ∧ State.reset.lock.arb = 0 ∧ State.reset.lock.held = [] ∧
  State.reset.gauge.sources = [] ∧ State.reset.pools.pools = [] ∧ State.reset.plan.active = none ∧ State.reset.ngayx.contexts = [] ∧
  State.reset.units = State.reset.fuse.unitMap

/-- R14, R523: a command that a check turns away has its answer and no other effect: for the rows named, either the checks pass
and the effect follows, or nothing but what the block says differs. -/
def Obligations.RejectedCommandOnlyAnswers : Prop :=
  (∀ (s : State) (r : Req) (code : Nat) (c : Option Reject) (effect : State),
    (s.verdict r code c = none ∧ s.finish r code c effect = effect) ∨
    ∃ e : Reject, s.verdict r code c = some e ∧ s.finish r code c effect = s.answer r code e.status e.result ∧
      OnlySpeaks s (s.finish r code c effect)) ∧
  (∀ (s : State) (r : Req) (code : Nat) (bs : Bytes) (c : Option Reject), s.payloadOf r = some bs →
    (c.map (·.early)).getD false = false →
    (∀ n, lengthFault code bs = some n → s.verdict r code c = some ⟨.badLength, n⟩) ∧
    (∀ o, lengthFault code bs = none → padFault code bs = some o → (c.map (fun e => e.before o)).getD false = false →
      s.verdict r code c = some (badParam o)) ∧
    (lengthFault code bs = none → padFault code bs = none → s.verdict r code c = c)) ∧
  (∀ (s : State) (r : Req) (code : Nat) (st : Status) (n : Nat) (p : Bytes) (vs : List Nat), OnlySpeaks s (s.answer r code st n p vs) ∧
    (r.mb < 7 → (s.answer r code st n p vs).outstanding? r = none)) ∧
  (∀ (s t : State) (r : Req) (limit : Nat), (limit < 300 ∨ 1080 < limit) → exec (.throttleSet r limit) s = .next t → OnlySpeaks s t) ∧
  (∀ (s t : State) (r : Req) (d action : Nat), fixedDomain d = true → exec (.domainSet r d action) s = .next t → OnlySpeaks s t) ∧
  (∀ (s t : State) (r : Req) (bs : Bytes), bs.length ≠ 128 → exec (.eventMaskSet r bs) s = .next t → OnlySpeaks s t) ∧
  (∀ (s t : State) (r : Req) (image : Bytes) (o : Nat), s.configFault image = some o → exec (.configWrite r image) s = .next t → OnlySpeaks s t)

/-- R92: the winner of every rotating-priority arbiter, and the pointer after a grant. -/
def Obligations.ArbiterWinner : Prop :=
  ∀ (ptr : Nat) (ready : List Nat),
    (ready = [] → arbWinner ptr ready = none) ∧
    (∀ i, arbWinner ptr ready = some i → i ∈ ready ∧
      ((ptr ≤ i ∧ ∀ j ∈ ready, ptr ≤ j → i ≤ j) ∨ (i < ptr ∧ (∀ j ∈ ready, j < ptr) ∧ ∀ j ∈ ready, i ≤ j))) ∧
    (ready ≠ [] → ∃ i, arbWinner ptr ready = some i) ∧
    (∀ i, ptr = 0 → arbWinner ptr ready = some i → ∀ j ∈ ready, i ≤ j) ∧
    (∀ n w : Nat, 0 < n → arbNext n w = (w + 1) % n ∧ arbNext n w < n)
end

