-- ==== Sys2Proof/Laws/Memory.lean ====
section
/-! SUPPORT. The laws of byte memories: a read after a write, and that every operation keeps the canonical form. -/

namespace Sys2Proof.Machine

theorem Memory.above_weaken {lo lo' : Option Nat} {m : Memory} (h : Memory.above lo m = true)
    (hl : ∀ x, lo' = some x → ∃ y, lo = some y ∧ x ≤ y) : Memory.above lo' m = true := by
  cases m with
  | nil => rfl
  | cons c m =>
    obtain ⟨k, b⟩ := c
    simp only [Memory.above, Bool.and_eq_true] at h ⊢
    refine ⟨⟨?_, h.1.2⟩, h.2⟩
    cases lo' with
    | none => rfl
    | some x =>
      obtain ⟨y, rfl, hxy⟩ := hl x rfl
      have := h.1.1
      simp only [decide_eq_true_eq] at this ⊢
      omega

/-- A write above a bound keeps the cells above it. -/
theorem Memory.write_above {lo : Option Nat} {m : Memory} (a : Nat) (v : Byte) (h : Memory.above lo m = true)
    (ha : ∀ l, lo = some l → l < a) : Memory.above lo (m.write a v) = true := by
  have front (rest : Memory) : Memory.above lo ((a, v) :: rest) = (decide (v ≠ Memory.blank) && Memory.above (some a) rest) := by
    cases lo with
    | none => simp [Memory.above]
    | some l => simp [Memory.above, ha l rfl]
  induction m generalizing lo with
  | nil =>
    unfold Memory.write
    split
    · rfl
    · rw [front]
      simpa [Memory.above] using ‹¬v = Memory.blank›
  | cons c m ih =>
    obtain ⟨k, b⟩ := c
    simp only [Memory.above, Bool.and_eq_true] at h
    obtain ⟨⟨h1, h2⟩, h3⟩ := h
    unfold Memory.write
    split
    · split
      · simp [Memory.above, h1, h2, h3]
      · rename_i hv
        rw [front]
        simp only [Memory.above, Bool.and_eq_true]
        exact ⟨by simpa using hv, ⟨by simpa using ‹a < k›, h2⟩, h3⟩
    · split
      · rename_i hak
        subst hak
        split
        · refine Memory.above_weaken h3 ?_
          intro x hx
          subst hx
          exact ⟨a, rfl, by simpa using (Nat.le_of_lt (ha x rfl))⟩
        · rename_i hv
          simp only [Memory.above, Bool.and_eq_true]
          exact ⟨⟨h1, by simpa using hv⟩, h3⟩
      · simp only [Memory.above, Bool.and_eq_true]
        have hk : ∀ l, some k = some l → l < a := by
          intro l hl
          cases hl
          omega
        refine ⟨⟨h1, h2⟩, ih h3 hk ?_⟩
        intro rest
        simp [Memory.above, hk k rfl]

/-- A write keeps the canonical form. -/
theorem Memory.write_wf {m : Memory} (a : Nat) (v : Byte) (h : m.wf = true) : (m.write a v).wf = true :=
  Memory.write_above a v h (by simp)

/-- Writing bytes keeps the canonical form. -/
theorem Memory.writeBytes_wf {m : Memory} (a : Nat) (bs : Bytes) (h : m.wf = true) : (m.writeBytes a bs).wf = true := by
  induction bs generalizing m a with
  | nil => exact h
  | cons b bs ih => exact ih (a + 1) (Memory.write_wf a b h)

/-- Clearing a range keeps the canonical form. -/
theorem Memory.filter_above {lo : Option Nat} {m : Memory} (p : Host.Cell → Bool) (h : Memory.above lo m = true) :
    Memory.above lo (m.filter p) = true := by
  induction m generalizing lo with
  | nil => rfl
  | cons c m ih =>
    obtain ⟨k, b⟩ := c
    simp only [Memory.above, Bool.and_eq_true] at h
    obtain ⟨⟨h1, h2⟩, h3⟩ := h
    rw [List.filter_cons]
    split
    · simp only [Memory.above, Bool.and_eq_true]
      exact ⟨⟨h1, h2⟩, ih h3⟩
    · refine ih (Memory.above_weaken h3 ?_)
      intro x hx
      subst hx
      exact ⟨k, rfl, by simp only [decide_eq_true_eq] at h1; omega⟩

theorem Memory.clear_wf {m : Memory} (a n : Nat) (h : m.wf = true) : (m.clear a n).wf = true :=
  Memory.filter_above _ h

theorem Memory.read_above {lo : Option Nat} {m : Memory} {a l : Nat} (h : Memory.above lo m = true) (hl : lo = some l)
    (ha : a ≤ l) : m.read a = Memory.blank := by
  induction m generalizing lo l with
  | nil => rfl
  | cons c m ih =>
    obtain ⟨k, b⟩ := c
    subst hl
    simp only [Memory.above, Bool.and_eq_true, decide_eq_true_eq] at h
    unfold Memory.read
    rw [if_neg (by omega)]
    exact ih h.2 rfl (by omega)

/-- A read after a write to the same place gives the value written. -/
theorem Memory.read_write_same {lo : Option Nat} {m : Memory} (a : Nat) (v : Byte) (h : Memory.above lo m = true) :
    (m.write a v).read a = v := by
  induction m generalizing lo with
  | nil =>
    unfold Memory.write
    split
    · rename_i hv; simp [Memory.read, hv]
    · simp [Memory.read]
  | cons c m ih =>
    obtain ⟨k, b⟩ := c
    simp only [Memory.above, Bool.and_eq_true] at h
    unfold Memory.write
    split
    · split
      · rename_i hak hv
        subst hv
        simp only [Memory.read]
        rw [if_neg (by omega)]
        exact Memory.read_above h.2 rfl (by omega)
      · simp [Memory.read]
    · split
      · rename_i hak
        subst hak
        split
        · rename_i hv
          subst hv
          exact Memory.read_above h.2 rfl (Nat.le_refl _)
        · simp [Memory.read]
      · rename_i hne
        simp only [Memory.read]
        rw [if_neg (fun e => hne e.symm)]
        exact ih h.2

/-- A write leaves every other place alone. -/
theorem Memory.read_write_other (m : Memory) {a x : Nat} (v : Byte) (hx : x ≠ a) : (m.write a v).read x = m.read x := by
  induction m with
  | nil =>
    unfold Memory.write
    split
    · rfl
    · simp [Memory.read, Ne.symm hx]
  | cons c m ih =>
    obtain ⟨k, b⟩ := c
    unfold Memory.write
    split
    · split
      · rfl
      · simp [Memory.read, Ne.symm hx]
    · split
      · rename_i hak
        subst hak
        split <;> simp [Memory.read, Ne.symm hx]
      · simp only [Memory.read]
        split
        · rfl
        · exact ih

/-- Writing bytes leaves every place outside them alone. -/
theorem Memory.read_writeBytes_other (m : Memory) {a x : Nat} (bs : Bytes) (hx : x < a ∨ a + bs.length ≤ x) :
    (m.writeBytes a bs).read x = m.read x := by
  induction bs generalizing m a with
  | nil => rfl
  | cons b bs ih =>
    simp only [List.length_cons] at hx
    have : (m.writeBytes a (b :: bs)).read x = ((m.write a b).writeBytes (a + 1) bs).read x := rfl
    rw [this, ih (m.write a b) (by omega), Memory.read_write_other m b (by omega)]

/-- Reading back the bytes written. -/
theorem Memory.readBytes_writeBytes {m : Memory} (a : Nat) (bs : Bytes) (h : m.wf = true) :
    (m.writeBytes a bs).readBytes a bs.length = bs := by
  induction bs generalizing m a with
  | nil => rfl
  | cons b bs ih =>
    have hw := Memory.write_wf a b h
    show ((m.write a b).writeBytes (a + 1) bs).read a :: ((m.write a b).writeBytes (a + 1) bs).readBytes (a + 1) bs.length = _
    rw [ih (a + 1) hw, Memory.read_writeBytes_other (m.write a b) bs (by omega), Memory.read_write_same a b h]

end Sys2Proof.Machine
end

