-- ==== Sys2Proof/Laws/Ops.lean ====
section
/-! SUPPORT. What the shared operations can do: an answer, an event or a ring piece changes only what the block says; a check
that fails decides the answer. -/

namespace Sys2Proof.Machine

theorem OnlySpeaks.refl (s : State) : OnlySpeaks s s := rfl

theorem OnlySpeaks.trans {s t u : State} (h : OnlySpeaks s t) (k : OnlySpeaks t u) : OnlySpeaks s u := by
  unfold OnlySpeaks at *
  rw [k, h]
  rfl

theorem setBox_speaks (s : State) (i : Nat) (b : Mailbox) : OnlySpeaks s (s.setBox i b) := rfl
theorem setMb7_speaks (s : State) (m : Mb7) : OnlySpeaks s (s.setMb7 m) := rfl
theorem noteEntry_speaks (s : State) (st : Status) (n : Nat) : OnlySpeaks s (s.noteEntry st n) := rfl
theorem release_speaks (s : State) (r : Req) : OnlySpeaks s (s.release r) := rfl
theorem hold_speaks (s : State) (h : Held) (r : Req) : OnlySpeaks s (s.hold h r) := rfl
theorem dropOutstanding_speaks (s : State) (r : Req) : OnlySpeaks s (s.dropOutstanding r) := rfl
theorem markInProgress_speaks (s : State) (r : Req) : OnlySpeaks s (s.markInProgress r) := rfl
theorem countRejection_speaks (s : State) (i : Nat) (st : Status) : OnlySpeaks s (s.countRejection i st) := rfl

theorem msix_speaks (s : State) (v : Nat) : OnlySpeaks s (s.msix v) := by
  unfold State.msix; split <;> rfl

theorem mb7Push_speaks (s : State) (m : Message) : OnlySpeaks s (s.mb7Push m) := by
  unfold State.mb7Push
  dsimp only
  split
  · split
    · exact (setMb7_speaks ..).trans (msix_speaks ..)
    · exact setMb7_speaks ..
  · split <;> exact setMb7_speaks ..

theorem raise_speaks (s : State) (e : Event) (n : Nat) (p : Bytes) : OnlySpeaks s (s.raise e n p) := by
  unfold State.raise
  dsimp only
  split
  · exact setMb7_speaks ..
  · exact (setMb7_speaks ..).trans (mb7Push_speaks ..)

theorem postResponse_speaks (s : State) (i : Nat) (m : Message) : OnlySpeaks s (s.postResponse i m) := by
  unfold State.postResponse
  dsimp only
  split
  · exact (setBox_speaks ..).trans (msix_speaks ..)
  · exact setBox_speaks ..

theorem sendPiece_speaks (s : State) (ch : Nat) (b : Body) : OnlySpeaks s (s.sendPiece ch b) := by
  unfold State.sendPiece
  dsimp only
  split <;> rfl

theorem mb5Reply_speaks (s : State) (code : Nat) (st : Status) (n : Nat) : OnlySpeaks s (s.mb5Reply code st n) := by
  unfold State.mb5Reply
  dsimp only
  split
  · rfl
  · exact sendPiece_speaks ..

theorem respond_speaks (s : State) (r : Req) (code : Nat) (st : Status) (n : Nat) (p : Bytes) (vs : List Nat) :
    OnlySpeaks s (s.respond r code st n p vs) := by
  have tail (u : State) (m : Message) :
      OnlySpeaks u (if r.mb = 5 then (u.postResponse r.mb m).mb5Reply code st n else u.postResponse r.mb m) := by
    split
    · exact (postResponse_speaks ..).trans (mb5Reply_speaks ..)
    · exact postResponse_speaks ..
  unfold State.respond
  dsimp only
  split
  · exact noteEntry_speaks ..
  · refine OnlySpeaks.trans ?_ (tail _ _)
    split
    · exact setBox_speaks ..
    · exact (setBox_speaks ..).trans (countRejection_speaks ..)

theorem complete_speaks (s : State) (r : Req) (code : Nat) (st : Status) (n : Nat) (p : Bytes) (vs : List Nat) :
    OnlySpeaks s (s.complete r code st n p vs) := by
  unfold State.complete
  dsimp only
  split
  · exact (release_speaks ..).trans (noteEntry_speaks ..)
  · have h (m : Message) : OnlySpeaks s (((s.dropOutstanding r).release r).mb7Push m) :=
      ((dropOutstanding_speaks ..).trans (release_speaks ..)).trans (mb7Push_speaks ..)
    split
    · exact (h _).trans (postResponse_speaks ..)
    · split
      · exact (h _).trans (mb5Reply_speaks ..)
      · exact h _

theorem answer_speaks (s : State) (r : Req) (code : Nat) (st : Status) (n : Nat) (p : Bytes) (vs : List Nat) :
    OnlySpeaks s (s.answer r code st n p vs) := by
  unfold State.answer
  split
  · split
    · exact complete_speaks ..
    · exact ((dropOutstanding_speaks ..).trans (release_speaks ..)).trans (respond_speaks ..)
  · exact (release_speaks ..).trans (respond_speaks ..)

theorem hold_all_speaks (hs : List Held) (r : Req) (s : State) : OnlySpeaks s (hs.foldl (fun s h => s.hold h r) s) := by
  induction hs generalizing s with
  | nil => rfl
  | cons h hs ih => exact (hold_speaks s h r).trans (ih _)

theorem answerInProgress_speaks (s : State) (r : Req) (code : Nat) (hs : List Held) :
    OnlySpeaks s (s.answerInProgress r code hs) := by
  have first : OnlySpeaks s (if (s.outstanding? r).isSome then s
    else s.setBox r.mb { s.box r.mb with outstanding := (s.box r.mb).outstanding ++
      [{ req := r, command := code, arrived := s.now, started := true }] }) := by
    split
    · exact OnlySpeaks.refl s
    · exact setBox_speaks ..
  have second (u : State) : OnlySpeaks u (match u.outstanding? r with
    | some o => if o.inProgress then u else (u.respond r code .inProgress 0 [] []).markInProgress r
    | none => u) := by
    split
    · split
      · exact OnlySpeaks.refl u
      · exact (respond_speaks ..).trans (markInProgress_speaks ..)
    · exact OnlySpeaks.refl u
  unfold State.answerInProgress
  exact (first.trans (second _)).trans (hold_all_speaks ..)

theorem answerLong_speaks (s : State) (r : Req) (code : Nat) (st : Status) (n : Nat) (p : Bytes) (vs : List Nat) :
    OnlySpeaks s (s.answerLong r code st n p vs) :=
  (answerInProgress_speaks ..).trans (complete_speaks ..)

theorem spread_speaks (s : State) (i : Item) : OnlySpeaks s (s.spread i) := by
  unfold State.spread
  dsimp only
  split
  · refine OnlySpeaks.trans (t := if s.audience.any (fun d => decide (d < 128)) then s.sendPiece (itemChannel i) (.item i) else s) ?_ rfl
    split
    · exact sendPiece_speaks ..
    · exact OnlySpeaks.refl s
  · split
    · exact sendPiece_speaks ..
    · exact OnlySpeaks.refl s

/-! ### What follows of each field -/

section
variable {s t : State} (h : OnlySpeaks s t)
include h

theorem OnlySpeaks.gauge : t.gauge = s.gauge :=
  (congrArg State.gauge (show t = s.voicedAs t from h)).trans rfl
theorem OnlySpeaks.pools : t.pools = s.pools :=
  (congrArg State.pools (show t = s.voicedAs t from h)).trans rfl
theorem OnlySpeaks.media : t.media = s.media :=
  (congrArg State.media (show t = s.voicedAs t from h)).trans rfl
theorem OnlySpeaks.queues : t.queues = s.queues :=
  (congrArg State.queues (show t = s.voicedAs t from h)).trans rfl
theorem OnlySpeaks.plan : t.plan = s.plan :=
  (congrArg State.plan (show t = s.voicedAs t from h)).trans rfl
theorem OnlySpeaks.pipe : t.pipe = s.pipe :=
  (congrArg State.pipe (show t = s.voicedAs t from h)).trans rfl
theorem OnlySpeaks.ngayx : t.ngayx = s.ngayx :=
  (congrArg State.ngayx (show t = s.voicedAs t from h)).trans rfl
theorem OnlySpeaks.coll : t.coll = s.coll :=
  (congrArg State.coll (show t = s.voicedAs t from h)).trans rfl
theorem OnlySpeaks.det : t.det = s.det :=
  (congrArg State.det (show t = s.voicedAs t from h)).trans rfl
theorem OnlySpeaks.rdma : t.rdma = s.rdma :=
  (congrArg State.rdma (show t = s.voicedAs t from h)).trans rfl
theorem OnlySpeaks.switch : t.switch = s.switch :=
  (congrArg State.switch (show t = s.voicedAs t from h)).trans rfl
theorem OnlySpeaks.nor : t.nor = s.nor :=
  (congrArg State.nor (show t = s.voicedAs t from h)).trans rfl
theorem OnlySpeaks.fuse : t.fuse = s.fuse :=
  (congrArg State.fuse (show t = s.voicedAs t from h)).trans rfl
theorem OnlySpeaks.power : t.power = s.power :=
  (congrArg State.power (show t = s.voicedAs t from h)).trans rfl
theorem OnlySpeaks.tel : t.tel = s.tel :=
  (congrArg State.tel (show t = s.voicedAs t from h)).trans rfl
theorem OnlySpeaks.units : t.units = s.units :=
  (congrArg State.units (show t = s.voicedAs t from h)).trans rfl
theorem OnlySpeaks.mem : t.mem = s.mem :=
  (congrArg State.mem (show t = s.voicedAs t from h)).trans rfl
theorem OnlySpeaks.now : t.now = s.now :=
  (congrArg State.now (show t = s.voicedAs t from h)).trans rfl
theorem OnlySpeaks.pending : t.pending = s.pending :=
  (congrArg State.pending (show t = s.voicedAs t from h)).trans rfl
end

/-! ### Checks of a command -/

@[simp] theorem firstReject_nil : firstReject [] = none := rfl

@[simp] theorem firstReject_cons (b : Bool) (e : Reject) (l : List (Bool × Reject)) :
    firstReject ((b, e) :: l) = if b then some e else firstReject l := rfl

theorem firstReject_eq_none (l : List (Bool × Reject)) : firstReject l = none ↔ ∀ p ∈ l, p.1 = false := by
  induction l with
  | nil => simp
  | cons p l ih =>
    obtain ⟨b, e⟩ := p
    cases b <;> simp [ih]

@[simp] theorem outside_eq_false (v lo hi : Nat) : outside v lo hi = false ↔ lo ≤ v ∧ v ≤ hi := by
  simp [outside]

@[simp] theorem notManager_fst (s : State) (r : Req) : (s.notManager r).1 = false ↔ MayManage s r := by
  simp only [State.notManager, MayManage]
  by_cases h5 : r.mb = 5 <;> by_cases h7 : r.mb = 7 <;> cases s.leads <;> simp_all

/-- With a payload of the right form a command's own checks decide. -/
theorem verdict_of_formOk {s : State} {r : Req} {code : Nat} (h : FormOk s r code) (c : Option Reject) :
    s.verdict r code c = c := by
  unfold FormOk State.verdict at *
  split
  · rfl
  · rename_i bs hb
    rw [hb] at h
    dsimp only at h
    split
    · rfl
    · simp only [Option.map_none, Option.getD_none, Bool.false_eq_true, ↓reduceIte] at h
      split at h <;> simp_all

/-- A command whose checks pass has its effect. -/
theorem finish_ok {s : State} {r : Req} {code : Nat} (h : FormOk s r code) (e : State) :
    s.finish r code none e = e := by
  simp [State.finish, verdict_of_formOk h]

/-- A command that a check of its own turns away answers that check and does nothing else. -/
theorem finish_reject {s : State} {r : Req} {code : Nat} (h : FormOk s r code) (c : Reject) (e : State) :
    s.finish r code (some c) e = s.answer r code c.status c.result := by
  simp [State.finish, verdict_of_formOk h]

/-- However a command's checks end, it has its effect or only answers. -/
theorem finish_cases (s : State) (r : Req) (code : Nat) (c : Option Reject) (e : State) :
    s.finish r code c e = e ∨ ∃ x : Reject, s.finish r code c e = s.answer r code x.status x.result := by
  unfold State.finish
  split
  · exact .inr ⟨_, rfl⟩
  · exact .inl rfl

end Sys2Proof.Machine
end

