-- ==== Sys2Proof/Laws/State.lean ====
section
/-! SUPPORT. What each update of the state leaves as it was, one lemma per field, and what it writes where that is a field whole. -/

namespace Sys2Proof.Machine

variable (s : State)

@[simp] theorem setSource_pools (x : GaugeSource) : (s.setSource x).pools = s.pools := rfl
@[simp] theorem setSource_media (x : GaugeSource) : (s.setSource x).media = s.media := rfl
@[simp] theorem setSource_queues (x : GaugeSource) : (s.setSource x).queues = s.queues := rfl
@[simp] theorem setSource_plan (x : GaugeSource) : (s.setSource x).plan = s.plan := rfl
@[simp] theorem setSource_pipe (x : GaugeSource) : (s.setSource x).pipe = s.pipe := rfl
@[simp] theorem setSource_ngayx (x : GaugeSource) : (s.setSource x).ngayx = s.ngayx := rfl
@[simp] theorem setSource_coll (x : GaugeSource) : (s.setSource x).coll = s.coll := rfl
@[simp] theorem setSource_det (x : GaugeSource) : (s.setSource x).det = s.det := rfl
@[simp] theorem setSource_rdma (x : GaugeSource) : (s.setSource x).rdma = s.rdma := rfl
@[simp] theorem setSource_switch (x : GaugeSource) : (s.setSource x).switch = s.switch := rfl
@[simp] theorem setSource_group (x : GaugeSource) : (s.setSource x).group = s.group := rfl
@[simp] theorem setSource_lock (x : GaugeSource) : (s.setSource x).lock = s.lock := rfl
@[simp] theorem setSource_nor (x : GaugeSource) : (s.setSource x).nor = s.nor := rfl
@[simp] theorem setSource_fuse (x : GaugeSource) : (s.setSource x).fuse = s.fuse := rfl
@[simp] theorem setSource_link (x : GaugeSource) : (s.setSource x).link = s.link := rfl
@[simp] theorem setSource_power (x : GaugeSource) : (s.setSource x).power = s.power := rfl
@[simp] theorem setSource_tel (x : GaugeSource) : (s.setSource x).tel = s.tel := rfl
@[simp] theorem setSource_units (x : GaugeSource) : (s.setSource x).units = s.units := rfl
@[simp] theorem setSource_mem (x : GaugeSource) : (s.setSource x).mem = s.mem := rfl
@[simp] theorem setSource_now (x : GaugeSource) : (s.setSource x).now = s.now := rfl
@[simp] theorem setSource_freeCtr (x : GaugeSource) : (s.setSource x).freeCtr = s.freeCtr := rfl
@[simp] theorem setSource_sent (x : GaugeSource) : (s.setSource x).sent = s.sent := rfl
@[simp] theorem setSource_pending (x : GaugeSource) : (s.setSource x).pending = s.pending := rfl

@[simp] theorem setPool_gauge (p : Pool) : (s.setPool p).gauge = s.gauge := rfl
@[simp] theorem setPool_media (p : Pool) : (s.setPool p).media = s.media := rfl
@[simp] theorem setPool_queues (p : Pool) : (s.setPool p).queues = s.queues := rfl
@[simp] theorem setPool_plan (p : Pool) : (s.setPool p).plan = s.plan := rfl
@[simp] theorem setPool_pipe (p : Pool) : (s.setPool p).pipe = s.pipe := rfl
@[simp] theorem setPool_ngayx (p : Pool) : (s.setPool p).ngayx = s.ngayx := rfl
@[simp] theorem setPool_coll (p : Pool) : (s.setPool p).coll = s.coll := rfl
@[simp] theorem setPool_det (p : Pool) : (s.setPool p).det = s.det := rfl
@[simp] theorem setPool_rdma (p : Pool) : (s.setPool p).rdma = s.rdma := rfl
@[simp] theorem setPool_switch (p : Pool) : (s.setPool p).switch = s.switch := rfl
@[simp] theorem setPool_group (p : Pool) : (s.setPool p).group = s.group := rfl
@[simp] theorem setPool_lock (p : Pool) : (s.setPool p).lock = s.lock := rfl
@[simp] theorem setPool_nor (p : Pool) : (s.setPool p).nor = s.nor := rfl
@[simp] theorem setPool_fuse (p : Pool) : (s.setPool p).fuse = s.fuse := rfl
@[simp] theorem setPool_link (p : Pool) : (s.setPool p).link = s.link := rfl
@[simp] theorem setPool_power (p : Pool) : (s.setPool p).power = s.power := rfl
@[simp] theorem setPool_tel (p : Pool) : (s.setPool p).tel = s.tel := rfl
@[simp] theorem setPool_units (p : Pool) : (s.setPool p).units = s.units := rfl
@[simp] theorem setPool_mem (p : Pool) : (s.setPool p).mem = s.mem := rfl
@[simp] theorem setPool_now (p : Pool) : (s.setPool p).now = s.now := rfl
@[simp] theorem setPool_freeCtr (p : Pool) : (s.setPool p).freeCtr = s.freeCtr := rfl
@[simp] theorem setPool_sent (p : Pool) : (s.setPool p).sent = s.sent := rfl
@[simp] theorem setPool_pending (p : Pool) : (s.setPool p).pending = s.pending := rfl

@[simp] theorem setMedia_gauge (m : MediaState) : (s.setMedia m).gauge = s.gauge := rfl
@[simp] theorem setMedia_pools (m : MediaState) : (s.setMedia m).pools = s.pools := rfl
@[simp] theorem setMedia_media (m : MediaState) : (s.setMedia m).media = m := rfl
@[simp] theorem setMedia_queues (m : MediaState) : (s.setMedia m).queues = s.queues := rfl
@[simp] theorem setMedia_plan (m : MediaState) : (s.setMedia m).plan = s.plan := rfl
@[simp] theorem setMedia_pipe (m : MediaState) : (s.setMedia m).pipe = s.pipe := rfl
@[simp] theorem setMedia_ngayx (m : MediaState) : (s.setMedia m).ngayx = s.ngayx := rfl
@[simp] theorem setMedia_coll (m : MediaState) : (s.setMedia m).coll = s.coll := rfl
@[simp] theorem setMedia_det (m : MediaState) : (s.setMedia m).det = s.det := rfl
@[simp] theorem setMedia_rdma (m : MediaState) : (s.setMedia m).rdma = s.rdma := rfl
@[simp] theorem setMedia_switch (m : MediaState) : (s.setMedia m).switch = s.switch := rfl
@[simp] theorem setMedia_group (m : MediaState) : (s.setMedia m).group = s.group := rfl
@[simp] theorem setMedia_lock (m : MediaState) : (s.setMedia m).lock = s.lock := rfl
@[simp] theorem setMedia_nor (m : MediaState) : (s.setMedia m).nor = s.nor := rfl
@[simp] theorem setMedia_fuse (m : MediaState) : (s.setMedia m).fuse = s.fuse := rfl
@[simp] theorem setMedia_link (m : MediaState) : (s.setMedia m).link = s.link := rfl
@[simp] theorem setMedia_power (m : MediaState) : (s.setMedia m).power = s.power := rfl
@[simp] theorem setMedia_tel (m : MediaState) : (s.setMedia m).tel = s.tel := rfl
@[simp] theorem setMedia_units (m : MediaState) : (s.setMedia m).units = s.units := rfl
@[simp] theorem setMedia_mem (m : MediaState) : (s.setMedia m).mem = s.mem := rfl
@[simp] theorem setMedia_now (m : MediaState) : (s.setMedia m).now = s.now := rfl
@[simp] theorem setMedia_freeCtr (m : MediaState) : (s.setMedia m).freeCtr = s.freeCtr := rfl
@[simp] theorem setMedia_sent (m : MediaState) : (s.setMedia m).sent = s.sent := rfl
@[simp] theorem setMedia_pending (m : MediaState) : (s.setMedia m).pending = s.pending := rfl

@[simp] theorem setZone_gauge (n : Nat) (z : Zone) : (s.setZone n z).gauge = s.gauge := rfl
@[simp] theorem setZone_pools (n : Nat) (z : Zone) : (s.setZone n z).pools = s.pools := rfl
@[simp] theorem setZone_queues (n : Nat) (z : Zone) : (s.setZone n z).queues = s.queues := rfl
@[simp] theorem setZone_plan (n : Nat) (z : Zone) : (s.setZone n z).plan = s.plan := rfl
@[simp] theorem setZone_pipe (n : Nat) (z : Zone) : (s.setZone n z).pipe = s.pipe := rfl
@[simp] theorem setZone_ngayx (n : Nat) (z : Zone) : (s.setZone n z).ngayx = s.ngayx := rfl
@[simp] theorem setZone_coll (n : Nat) (z : Zone) : (s.setZone n z).coll = s.coll := rfl
@[simp] theorem setZone_det (n : Nat) (z : Zone) : (s.setZone n z).det = s.det := rfl
@[simp] theorem setZone_rdma (n : Nat) (z : Zone) : (s.setZone n z).rdma = s.rdma := rfl
@[simp] theorem setZone_switch (n : Nat) (z : Zone) : (s.setZone n z).switch = s.switch := rfl
@[simp] theorem setZone_group (n : Nat) (z : Zone) : (s.setZone n z).group = s.group := rfl
@[simp] theorem setZone_lock (n : Nat) (z : Zone) : (s.setZone n z).lock = s.lock := rfl
@[simp] theorem setZone_nor (n : Nat) (z : Zone) : (s.setZone n z).nor = s.nor := rfl
@[simp] theorem setZone_fuse (n : Nat) (z : Zone) : (s.setZone n z).fuse = s.fuse := rfl
@[simp] theorem setZone_link (n : Nat) (z : Zone) : (s.setZone n z).link = s.link := rfl
@[simp] theorem setZone_power (n : Nat) (z : Zone) : (s.setZone n z).power = s.power := rfl
@[simp] theorem setZone_tel (n : Nat) (z : Zone) : (s.setZone n z).tel = s.tel := rfl
@[simp] theorem setZone_units (n : Nat) (z : Zone) : (s.setZone n z).units = s.units := rfl
@[simp] theorem setZone_mem (n : Nat) (z : Zone) : (s.setZone n z).mem = s.mem := rfl
@[simp] theorem setZone_now (n : Nat) (z : Zone) : (s.setZone n z).now = s.now := rfl
@[simp] theorem setZone_freeCtr (n : Nat) (z : Zone) : (s.setZone n z).freeCtr = s.freeCtr := rfl
@[simp] theorem setZone_sent (n : Nat) (z : Zone) : (s.setZone n z).sent = s.sent := rfl
@[simp] theorem setZone_pending (n : Nat) (z : Zone) : (s.setZone n z).pending = s.pending := rfl

@[simp] theorem setSuperblock_gauge (b : Superblock) : (s.setSuperblock b).gauge = s.gauge := rfl
@[simp] theorem setSuperblock_pools (b : Superblock) : (s.setSuperblock b).pools = s.pools := rfl
@[simp] theorem setSuperblock_queues (b : Superblock) : (s.setSuperblock b).queues = s.queues := rfl
@[simp] theorem setSuperblock_plan (b : Superblock) : (s.setSuperblock b).plan = s.plan := rfl
@[simp] theorem setSuperblock_pipe (b : Superblock) : (s.setSuperblock b).pipe = s.pipe := rfl
@[simp] theorem setSuperblock_ngayx (b : Superblock) : (s.setSuperblock b).ngayx = s.ngayx := rfl
@[simp] theorem setSuperblock_coll (b : Superblock) : (s.setSuperblock b).coll = s.coll := rfl
@[simp] theorem setSuperblock_det (b : Superblock) : (s.setSuperblock b).det = s.det := rfl
@[simp] theorem setSuperblock_rdma (b : Superblock) : (s.setSuperblock b).rdma = s.rdma := rfl
@[simp] theorem setSuperblock_switch (b : Superblock) : (s.setSuperblock b).switch = s.switch := rfl
@[simp] theorem setSuperblock_group (b : Superblock) : (s.setSuperblock b).group = s.group := rfl
@[simp] theorem setSuperblock_lock (b : Superblock) : (s.setSuperblock b).lock = s.lock := rfl
@[simp] theorem setSuperblock_nor (b : Superblock) : (s.setSuperblock b).nor = s.nor := rfl
@[simp] theorem setSuperblock_fuse (b : Superblock) : (s.setSuperblock b).fuse = s.fuse := rfl
@[simp] theorem setSuperblock_link (b : Superblock) : (s.setSuperblock b).link = s.link := rfl
@[simp] theorem setSuperblock_power (b : Superblock) : (s.setSuperblock b).power = s.power := rfl
@[simp] theorem setSuperblock_tel (b : Superblock) : (s.setSuperblock b).tel = s.tel := rfl
@[simp] theorem setSuperblock_units (b : Superblock) : (s.setSuperblock b).units = s.units := rfl
@[simp] theorem setSuperblock_mem (b : Superblock) : (s.setSuperblock b).mem = s.mem := rfl
@[simp] theorem setSuperblock_now (b : Superblock) : (s.setSuperblock b).now = s.now := rfl
@[simp] theorem setSuperblock_freeCtr (b : Superblock) : (s.setSuperblock b).freeCtr = s.freeCtr := rfl
@[simp] theorem setSuperblock_sent (b : Superblock) : (s.setSuperblock b).sent = s.sent := rfl
@[simp] theorem setSuperblock_pending (b : Superblock) : (s.setSuperblock b).pending = s.pending := rfl

@[simp] theorem setQp_gauge (p : QueuePair) : (s.setQp p).gauge = s.gauge := rfl
@[simp] theorem setQp_pools (p : QueuePair) : (s.setQp p).pools = s.pools := rfl
@[simp] theorem setQp_media (p : QueuePair) : (s.setQp p).media = s.media := rfl
@[simp] theorem setQp_plan (p : QueuePair) : (s.setQp p).plan = s.plan := rfl
@[simp] theorem setQp_pipe (p : QueuePair) : (s.setQp p).pipe = s.pipe := rfl
@[simp] theorem setQp_ngayx (p : QueuePair) : (s.setQp p).ngayx = s.ngayx := rfl
@[simp] theorem setQp_coll (p : QueuePair) : (s.setQp p).coll = s.coll := rfl
@[simp] theorem setQp_det (p : QueuePair) : (s.setQp p).det = s.det := rfl
@[simp] theorem setQp_rdma (p : QueuePair) : (s.setQp p).rdma = s.rdma := rfl
@[simp] theorem setQp_switch (p : QueuePair) : (s.setQp p).switch = s.switch := rfl
@[simp] theorem setQp_group (p : QueuePair) : (s.setQp p).group = s.group := rfl
@[simp] theorem setQp_lock (p : QueuePair) : (s.setQp p).lock = s.lock := rfl
@[simp] theorem setQp_nor (p : QueuePair) : (s.setQp p).nor = s.nor := rfl
@[simp] theorem setQp_fuse (p : QueuePair) : (s.setQp p).fuse = s.fuse := rfl
@[simp] theorem setQp_link (p : QueuePair) : (s.setQp p).link = s.link := rfl
@[simp] theorem setQp_power (p : QueuePair) : (s.setQp p).power = s.power := rfl
@[simp] theorem setQp_tel (p : QueuePair) : (s.setQp p).tel = s.tel := rfl
@[simp] theorem setQp_units (p : QueuePair) : (s.setQp p).units = s.units := rfl
@[simp] theorem setQp_mem (p : QueuePair) : (s.setQp p).mem = s.mem := rfl
@[simp] theorem setQp_now (p : QueuePair) : (s.setQp p).now = s.now := rfl
@[simp] theorem setQp_freeCtr (p : QueuePair) : (s.setQp p).freeCtr = s.freeCtr := rfl
@[simp] theorem setQp_sent (p : QueuePair) : (s.setQp p).sent = s.sent := rfl
@[simp] theorem setQp_pending (p : QueuePair) : (s.setQp p).pending = s.pending := rfl

@[simp] theorem setPipe_gauge (p : PipeState) : (s.setPipe p).gauge = s.gauge := rfl
@[simp] theorem setPipe_pools (p : PipeState) : (s.setPipe p).pools = s.pools := rfl
@[simp] theorem setPipe_media (p : PipeState) : (s.setPipe p).media = s.media := rfl
@[simp] theorem setPipe_queues (p : PipeState) : (s.setPipe p).queues = s.queues := rfl
@[simp] theorem setPipe_plan (p : PipeState) : (s.setPipe p).plan = s.plan := rfl
@[simp] theorem setPipe_pipe (p : PipeState) : (s.setPipe p).pipe = p := rfl
@[simp] theorem setPipe_ngayx (p : PipeState) : (s.setPipe p).ngayx = s.ngayx := rfl
@[simp] theorem setPipe_coll (p : PipeState) : (s.setPipe p).coll = s.coll := rfl
@[simp] theorem setPipe_det (p : PipeState) : (s.setPipe p).det = s.det := rfl
@[simp] theorem setPipe_rdma (p : PipeState) : (s.setPipe p).rdma = s.rdma := rfl
@[simp] theorem setPipe_switch (p : PipeState) : (s.setPipe p).switch = s.switch := rfl
@[simp] theorem setPipe_group (p : PipeState) : (s.setPipe p).group = s.group := rfl
@[simp] theorem setPipe_lock (p : PipeState) : (s.setPipe p).lock = s.lock := rfl
@[simp] theorem setPipe_nor (p : PipeState) : (s.setPipe p).nor = s.nor := rfl
@[simp] theorem setPipe_fuse (p : PipeState) : (s.setPipe p).fuse = s.fuse := rfl
@[simp] theorem setPipe_link (p : PipeState) : (s.setPipe p).link = s.link := rfl
@[simp] theorem setPipe_power (p : PipeState) : (s.setPipe p).power = s.power := rfl
@[simp] theorem setPipe_tel (p : PipeState) : (s.setPipe p).tel = s.tel := rfl
@[simp] theorem setPipe_units (p : PipeState) : (s.setPipe p).units = s.units := rfl
@[simp] theorem setPipe_mem (p : PipeState) : (s.setPipe p).mem = s.mem := rfl
@[simp] theorem setPipe_now (p : PipeState) : (s.setPipe p).now = s.now := rfl
@[simp] theorem setPipe_freeCtr (p : PipeState) : (s.setPipe p).freeCtr = s.freeCtr := rfl
@[simp] theorem setPipe_sent (p : PipeState) : (s.setPipe p).sent = s.sent := rfl
@[simp] theorem setPipe_pending (p : PipeState) : (s.setPipe p).pending = s.pending := rfl

@[simp] theorem setSample_gauge (x : Sample) : (s.setSample x).gauge = s.gauge := rfl
@[simp] theorem setSample_pools (x : Sample) : (s.setSample x).pools = s.pools := rfl
@[simp] theorem setSample_media (x : Sample) : (s.setSample x).media = s.media := rfl
@[simp] theorem setSample_queues (x : Sample) : (s.setSample x).queues = s.queues := rfl
@[simp] theorem setSample_plan (x : Sample) : (s.setSample x).plan = s.plan := rfl
@[simp] theorem setSample_ngayx (x : Sample) : (s.setSample x).ngayx = s.ngayx := rfl
@[simp] theorem setSample_coll (x : Sample) : (s.setSample x).coll = s.coll := rfl
@[simp] theorem setSample_det (x : Sample) : (s.setSample x).det = s.det := rfl
@[simp] theorem setSample_rdma (x : Sample) : (s.setSample x).rdma = s.rdma := rfl
@[simp] theorem setSample_switch (x : Sample) : (s.setSample x).switch = s.switch := rfl
@[simp] theorem setSample_group (x : Sample) : (s.setSample x).group = s.group := rfl
@[simp] theorem setSample_lock (x : Sample) : (s.setSample x).lock = s.lock := rfl
@[simp] theorem setSample_nor (x : Sample) : (s.setSample x).nor = s.nor := rfl
@[simp] theorem setSample_fuse (x : Sample) : (s.setSample x).fuse = s.fuse := rfl
@[simp] theorem setSample_link (x : Sample) : (s.setSample x).link = s.link := rfl
@[simp] theorem setSample_power (x : Sample) : (s.setSample x).power = s.power := rfl
@[simp] theorem setSample_tel (x : Sample) : (s.setSample x).tel = s.tel := rfl
@[simp] theorem setSample_units (x : Sample) : (s.setSample x).units = s.units := rfl
@[simp] theorem setSample_mem (x : Sample) : (s.setSample x).mem = s.mem := rfl
@[simp] theorem setSample_now (x : Sample) : (s.setSample x).now = s.now := rfl
@[simp] theorem setSample_freeCtr (x : Sample) : (s.setSample x).freeCtr = s.freeCtr := rfl
@[simp] theorem setSample_sent (x : Sample) : (s.setSample x).sent = s.sent := rfl
@[simp] theorem setSample_pending (x : Sample) : (s.setSample x).pending = s.pending := rfl

@[simp] theorem setRiffle_gauge (n : Nat) (f : Riffle) : (s.setRiffle n f).gauge = s.gauge := rfl
@[simp] theorem setRiffle_pools (n : Nat) (f : Riffle) : (s.setRiffle n f).pools = s.pools := rfl
@[simp] theorem setRiffle_media (n : Nat) (f : Riffle) : (s.setRiffle n f).media = s.media := rfl
@[simp] theorem setRiffle_queues (n : Nat) (f : Riffle) : (s.setRiffle n f).queues = s.queues := rfl
@[simp] theorem setRiffle_plan (n : Nat) (f : Riffle) : (s.setRiffle n f).plan = s.plan := rfl
@[simp] theorem setRiffle_ngayx (n : Nat) (f : Riffle) : (s.setRiffle n f).ngayx = s.ngayx := rfl
@[simp] theorem setRiffle_coll (n : Nat) (f : Riffle) : (s.setRiffle n f).coll = s.coll := rfl
@[simp] theorem setRiffle_det (n : Nat) (f : Riffle) : (s.setRiffle n f).det = s.det := rfl
@[simp] theorem setRiffle_rdma (n : Nat) (f : Riffle) : (s.setRiffle n f).rdma = s.rdma := rfl
@[simp] theorem setRiffle_switch (n : Nat) (f : Riffle) : (s.setRiffle n f).switch = s.switch := rfl
@[simp] theorem setRiffle_group (n : Nat) (f : Riffle) : (s.setRiffle n f).group = s.group := rfl
@[simp] theorem setRiffle_lock (n : Nat) (f : Riffle) : (s.setRiffle n f).lock = s.lock := rfl
@[simp] theorem setRiffle_nor (n : Nat) (f : Riffle) : (s.setRiffle n f).nor = s.nor := rfl
@[simp] theorem setRiffle_fuse (n : Nat) (f : Riffle) : (s.setRiffle n f).fuse = s.fuse := rfl
@[simp] theorem setRiffle_link (n : Nat) (f : Riffle) : (s.setRiffle n f).link = s.link := rfl
@[simp] theorem setRiffle_power (n : Nat) (f : Riffle) : (s.setRiffle n f).power = s.power := rfl
@[simp] theorem setRiffle_tel (n : Nat) (f : Riffle) : (s.setRiffle n f).tel = s.tel := rfl
@[simp] theorem setRiffle_units (n : Nat) (f : Riffle) : (s.setRiffle n f).units = s.units := rfl
@[simp] theorem setRiffle_mem (n : Nat) (f : Riffle) : (s.setRiffle n f).mem = s.mem := rfl
@[simp] theorem setRiffle_now (n : Nat) (f : Riffle) : (s.setRiffle n f).now = s.now := rfl
@[simp] theorem setRiffle_freeCtr (n : Nat) (f : Riffle) : (s.setRiffle n f).freeCtr = s.freeCtr := rfl
@[simp] theorem setRiffle_sent (n : Nat) (f : Riffle) : (s.setRiffle n f).sent = s.sent := rfl
@[simp] theorem setRiffle_pending (n : Nat) (f : Riffle) : (s.setRiffle n f).pending = s.pending := rfl

@[simp] theorem setPlate_gauge (n : Nat) (d : Drawplate) : (s.setPlate n d).gauge = s.gauge := rfl
@[simp] theorem setPlate_pools (n : Nat) (d : Drawplate) : (s.setPlate n d).pools = s.pools := rfl
@[simp] theorem setPlate_media (n : Nat) (d : Drawplate) : (s.setPlate n d).media = s.media := rfl
@[simp] theorem setPlate_queues (n : Nat) (d : Drawplate) : (s.setPlate n d).queues = s.queues := rfl
@[simp] theorem setPlate_plan (n : Nat) (d : Drawplate) : (s.setPlate n d).plan = s.plan := rfl
@[simp] theorem setPlate_ngayx (n : Nat) (d : Drawplate) : (s.setPlate n d).ngayx = s.ngayx := rfl
@[simp] theorem setPlate_coll (n : Nat) (d : Drawplate) : (s.setPlate n d).coll = s.coll := rfl
@[simp] theorem setPlate_det (n : Nat) (d : Drawplate) : (s.setPlate n d).det = s.det := rfl
@[simp] theorem setPlate_rdma (n : Nat) (d : Drawplate) : (s.setPlate n d).rdma = s.rdma := rfl
@[simp] theorem setPlate_switch (n : Nat) (d : Drawplate) : (s.setPlate n d).switch = s.switch := rfl
@[simp] theorem setPlate_group (n : Nat) (d : Drawplate) : (s.setPlate n d).group = s.group := rfl
@[simp] theorem setPlate_lock (n : Nat) (d : Drawplate) : (s.setPlate n d).lock = s.lock := rfl
@[simp] theorem setPlate_nor (n : Nat) (d : Drawplate) : (s.setPlate n d).nor = s.nor := rfl
@[simp] theorem setPlate_fuse (n : Nat) (d : Drawplate) : (s.setPlate n d).fuse = s.fuse := rfl
@[simp] theorem setPlate_link (n : Nat) (d : Drawplate) : (s.setPlate n d).link = s.link := rfl
@[simp] theorem setPlate_power (n : Nat) (d : Drawplate) : (s.setPlate n d).power = s.power := rfl
@[simp] theorem setPlate_tel (n : Nat) (d : Drawplate) : (s.setPlate n d).tel = s.tel := rfl
@[simp] theorem setPlate_units (n : Nat) (d : Drawplate) : (s.setPlate n d).units = s.units := rfl
@[simp] theorem setPlate_mem (n : Nat) (d : Drawplate) : (s.setPlate n d).mem = s.mem := rfl
@[simp] theorem setPlate_now (n : Nat) (d : Drawplate) : (s.setPlate n d).now = s.now := rfl
@[simp] theorem setPlate_freeCtr (n : Nat) (d : Drawplate) : (s.setPlate n d).freeCtr = s.freeCtr := rfl
@[simp] theorem setPlate_sent (n : Nat) (d : Drawplate) : (s.setPlate n d).sent = s.sent := rfl
@[simp] theorem setPlate_pending (n : Nat) (d : Drawplate) : (s.setPlate n d).pending = s.pending := rfl

@[simp] theorem setAnvil_gauge (a : Anvil) : (s.setAnvil a).gauge = s.gauge := rfl
@[simp] theorem setAnvil_pools (a : Anvil) : (s.setAnvil a).pools = s.pools := rfl
@[simp] theorem setAnvil_media (a : Anvil) : (s.setAnvil a).media = s.media := rfl
@[simp] theorem setAnvil_queues (a : Anvil) : (s.setAnvil a).queues = s.queues := rfl
@[simp] theorem setAnvil_plan (a : Anvil) : (s.setAnvil a).plan = s.plan := rfl
@[simp] theorem setAnvil_ngayx (a : Anvil) : (s.setAnvil a).ngayx = s.ngayx := rfl
@[simp] theorem setAnvil_coll (a : Anvil) : (s.setAnvil a).coll = s.coll := rfl
@[simp] theorem setAnvil_det (a : Anvil) : (s.setAnvil a).det = s.det := rfl
@[simp] theorem setAnvil_rdma (a : Anvil) : (s.setAnvil a).rdma = s.rdma := rfl
@[simp] theorem setAnvil_switch (a : Anvil) : (s.setAnvil a).switch = s.switch := rfl
@[simp] theorem setAnvil_group (a : Anvil) : (s.setAnvil a).group = s.group := rfl
@[simp] theorem setAnvil_lock (a : Anvil) : (s.setAnvil a).lock = s.lock := rfl
@[simp] theorem setAnvil_nor (a : Anvil) : (s.setAnvil a).nor = s.nor := rfl
@[simp] theorem setAnvil_fuse (a : Anvil) : (s.setAnvil a).fuse = s.fuse := rfl
@[simp] theorem setAnvil_link (a : Anvil) : (s.setAnvil a).link = s.link := rfl
@[simp] theorem setAnvil_power (a : Anvil) : (s.setAnvil a).power = s.power := rfl
@[simp] theorem setAnvil_tel (a : Anvil) : (s.setAnvil a).tel = s.tel := rfl
@[simp] theorem setAnvil_units (a : Anvil) : (s.setAnvil a).units = s.units := rfl
@[simp] theorem setAnvil_mem (a : Anvil) : (s.setAnvil a).mem = s.mem := rfl
@[simp] theorem setAnvil_now (a : Anvil) : (s.setAnvil a).now = s.now := rfl
@[simp] theorem setAnvil_freeCtr (a : Anvil) : (s.setAnvil a).freeCtr = s.freeCtr := rfl
@[simp] theorem setAnvil_sent (a : Anvil) : (s.setAnvil a).sent = s.sent := rfl
@[simp] theorem setAnvil_pending (a : Anvil) : (s.setAnvil a).pending = s.pending := rfl

@[simp] theorem setSynth_gauge (y : SynthState) : (s.setSynth y).gauge = s.gauge := rfl
@[simp] theorem setSynth_pools (y : SynthState) : (s.setSynth y).pools = s.pools := rfl
@[simp] theorem setSynth_media (y : SynthState) : (s.setSynth y).media = s.media := rfl
@[simp] theorem setSynth_queues (y : SynthState) : (s.setSynth y).queues = s.queues := rfl
@[simp] theorem setSynth_plan (y : SynthState) : (s.setSynth y).plan = s.plan := rfl
@[simp] theorem setSynth_ngayx (y : SynthState) : (s.setSynth y).ngayx = s.ngayx := rfl
@[simp] theorem setSynth_coll (y : SynthState) : (s.setSynth y).coll = s.coll := rfl
@[simp] theorem setSynth_det (y : SynthState) : (s.setSynth y).det = s.det := rfl
@[simp] theorem setSynth_rdma (y : SynthState) : (s.setSynth y).rdma = s.rdma := rfl
@[simp] theorem setSynth_switch (y : SynthState) : (s.setSynth y).switch = s.switch := rfl
@[simp] theorem setSynth_group (y : SynthState) : (s.setSynth y).group = s.group := rfl
@[simp] theorem setSynth_lock (y : SynthState) : (s.setSynth y).lock = s.lock := rfl
@[simp] theorem setSynth_nor (y : SynthState) : (s.setSynth y).nor = s.nor := rfl
@[simp] theorem setSynth_fuse (y : SynthState) : (s.setSynth y).fuse = s.fuse := rfl
@[simp] theorem setSynth_link (y : SynthState) : (s.setSynth y).link = s.link := rfl
@[simp] theorem setSynth_power (y : SynthState) : (s.setSynth y).power = s.power := rfl
@[simp] theorem setSynth_tel (y : SynthState) : (s.setSynth y).tel = s.tel := rfl
@[simp] theorem setSynth_units (y : SynthState) : (s.setSynth y).units = s.units := rfl
@[simp] theorem setSynth_mem (y : SynthState) : (s.setSynth y).mem = s.mem := rfl
@[simp] theorem setSynth_now (y : SynthState) : (s.setSynth y).now = s.now := rfl
@[simp] theorem setSynth_freeCtr (y : SynthState) : (s.setSynth y).freeCtr = s.freeCtr := rfl
@[simp] theorem setSynth_sent (y : SynthState) : (s.setSynth y).sent = s.sent := rfl
@[simp] theorem setSynth_pending (y : SynthState) : (s.setSynth y).pending = s.pending := rfl

@[simp] theorem setStage_gauge (n : Nat) (x : Stage) : (s.setStage n x).gauge = s.gauge := rfl
@[simp] theorem setStage_pools (n : Nat) (x : Stage) : (s.setStage n x).pools = s.pools := rfl
@[simp] theorem setStage_media (n : Nat) (x : Stage) : (s.setStage n x).media = s.media := rfl
@[simp] theorem setStage_queues (n : Nat) (x : Stage) : (s.setStage n x).queues = s.queues := rfl
@[simp] theorem setStage_plan (n : Nat) (x : Stage) : (s.setStage n x).plan = s.plan := rfl
@[simp] theorem setStage_ngayx (n : Nat) (x : Stage) : (s.setStage n x).ngayx = s.ngayx := rfl
@[simp] theorem setStage_coll (n : Nat) (x : Stage) : (s.setStage n x).coll = s.coll := rfl
@[simp] theorem setStage_det (n : Nat) (x : Stage) : (s.setStage n x).det = s.det := rfl
@[simp] theorem setStage_rdma (n : Nat) (x : Stage) : (s.setStage n x).rdma = s.rdma := rfl
@[simp] theorem setStage_switch (n : Nat) (x : Stage) : (s.setStage n x).switch = s.switch := rfl
@[simp] theorem setStage_group (n : Nat) (x : Stage) : (s.setStage n x).group = s.group := rfl
@[simp] theorem setStage_lock (n : Nat) (x : Stage) : (s.setStage n x).lock = s.lock := rfl
@[simp] theorem setStage_nor (n : Nat) (x : Stage) : (s.setStage n x).nor = s.nor := rfl
@[simp] theorem setStage_fuse (n : Nat) (x : Stage) : (s.setStage n x).fuse = s.fuse := rfl
@[simp] theorem setStage_link (n : Nat) (x : Stage) : (s.setStage n x).link = s.link := rfl
@[simp] theorem setStage_power (n : Nat) (x : Stage) : (s.setStage n x).power = s.power := rfl
@[simp] theorem setStage_tel (n : Nat) (x : Stage) : (s.setStage n x).tel = s.tel := rfl
@[simp] theorem setStage_units (n : Nat) (x : Stage) : (s.setStage n x).units = s.units := rfl
@[simp] theorem setStage_mem (n : Nat) (x : Stage) : (s.setStage n x).mem = s.mem := rfl
@[simp] theorem setStage_now (n : Nat) (x : Stage) : (s.setStage n x).now = s.now := rfl
@[simp] theorem setStage_freeCtr (n : Nat) (x : Stage) : (s.setStage n x).freeCtr = s.freeCtr := rfl
@[simp] theorem setStage_sent (n : Nat) (x : Stage) : (s.setStage n x).sent = s.sent := rfl
@[simp] theorem setStage_pending (n : Nat) (x : Stage) : (s.setStage n x).pending = s.pending := rfl

@[simp] theorem setDestQ_gauge (q : DestQueue) : (s.setDestQ q).gauge = s.gauge := rfl
@[simp] theorem setDestQ_pools (q : DestQueue) : (s.setDestQ q).pools = s.pools := rfl
@[simp] theorem setDestQ_media (q : DestQueue) : (s.setDestQ q).media = s.media := rfl
@[simp] theorem setDestQ_queues (q : DestQueue) : (s.setDestQ q).queues = s.queues := rfl
@[simp] theorem setDestQ_plan (q : DestQueue) : (s.setDestQ q).plan = s.plan := rfl
@[simp] theorem setDestQ_ngayx (q : DestQueue) : (s.setDestQ q).ngayx = s.ngayx := rfl
@[simp] theorem setDestQ_coll (q : DestQueue) : (s.setDestQ q).coll = s.coll := rfl
@[simp] theorem setDestQ_det (q : DestQueue) : (s.setDestQ q).det = s.det := rfl
@[simp] theorem setDestQ_rdma (q : DestQueue) : (s.setDestQ q).rdma = s.rdma := rfl
@[simp] theorem setDestQ_switch (q : DestQueue) : (s.setDestQ q).switch = s.switch := rfl
@[simp] theorem setDestQ_group (q : DestQueue) : (s.setDestQ q).group = s.group := rfl
@[simp] theorem setDestQ_lock (q : DestQueue) : (s.setDestQ q).lock = s.lock := rfl
@[simp] theorem setDestQ_nor (q : DestQueue) : (s.setDestQ q).nor = s.nor := rfl
@[simp] theorem setDestQ_fuse (q : DestQueue) : (s.setDestQ q).fuse = s.fuse := rfl
@[simp] theorem setDestQ_link (q : DestQueue) : (s.setDestQ q).link = s.link := rfl
@[simp] theorem setDestQ_power (q : DestQueue) : (s.setDestQ q).power = s.power := rfl
@[simp] theorem setDestQ_tel (q : DestQueue) : (s.setDestQ q).tel = s.tel := rfl
@[simp] theorem setDestQ_units (q : DestQueue) : (s.setDestQ q).units = s.units := rfl
@[simp] theorem setDestQ_mem (q : DestQueue) : (s.setDestQ q).mem = s.mem := rfl
@[simp] theorem setDestQ_now (q : DestQueue) : (s.setDestQ q).now = s.now := rfl
@[simp] theorem setDestQ_freeCtr (q : DestQueue) : (s.setDestQ q).freeCtr = s.freeCtr := rfl
@[simp] theorem setDestQ_sent (q : DestQueue) : (s.setDestQ q).sent = s.sent := rfl
@[simp] theorem setDestQ_pending (q : DestQueue) : (s.setDestQ q).pending = s.pending := rfl

@[simp] theorem setCtx_gauge (c : NgCtx) : (s.setCtx c).gauge = s.gauge := rfl
@[simp] theorem setCtx_pools (c : NgCtx) : (s.setCtx c).pools = s.pools := rfl
@[simp] theorem setCtx_media (c : NgCtx) : (s.setCtx c).media = s.media := rfl
@[simp] theorem setCtx_queues (c : NgCtx) : (s.setCtx c).queues = s.queues := rfl
@[simp] theorem setCtx_plan (c : NgCtx) : (s.setCtx c).plan = s.plan := rfl
@[simp] theorem setCtx_pipe (c : NgCtx) : (s.setCtx c).pipe = s.pipe := rfl
@[simp] theorem setCtx_coll (c : NgCtx) : (s.setCtx c).coll = s.coll := rfl
@[simp] theorem setCtx_det (c : NgCtx) : (s.setCtx c).det = s.det := rfl
@[simp] theorem setCtx_rdma (c : NgCtx) : (s.setCtx c).rdma = s.rdma := rfl
@[simp] theorem setCtx_switch (c : NgCtx) : (s.setCtx c).switch = s.switch := rfl
@[simp] theorem setCtx_group (c : NgCtx) : (s.setCtx c).group = s.group := rfl
@[simp] theorem setCtx_lock (c : NgCtx) : (s.setCtx c).lock = s.lock := rfl
@[simp] theorem setCtx_nor (c : NgCtx) : (s.setCtx c).nor = s.nor := rfl
@[simp] theorem setCtx_fuse (c : NgCtx) : (s.setCtx c).fuse = s.fuse := rfl
@[simp] theorem setCtx_link (c : NgCtx) : (s.setCtx c).link = s.link := rfl
@[simp] theorem setCtx_power (c : NgCtx) : (s.setCtx c).power = s.power := rfl
@[simp] theorem setCtx_tel (c : NgCtx) : (s.setCtx c).tel = s.tel := rfl
@[simp] theorem setCtx_units (c : NgCtx) : (s.setCtx c).units = s.units := rfl
@[simp] theorem setCtx_mem (c : NgCtx) : (s.setCtx c).mem = s.mem := rfl
@[simp] theorem setCtx_now (c : NgCtx) : (s.setCtx c).now = s.now := rfl
@[simp] theorem setCtx_freeCtr (c : NgCtx) : (s.setCtx c).freeCtr = s.freeCtr := rfl
@[simp] theorem setCtx_sent (c : NgCtx) : (s.setCtx c).sent = s.sent := rfl
@[simp] theorem setCtx_pending (c : NgCtx) : (s.setCtx c).pending = s.pending := rfl

@[simp] theorem setColl_gauge (c : CollState) : (s.setColl c).gauge = s.gauge := rfl
@[simp] theorem setColl_pools (c : CollState) : (s.setColl c).pools = s.pools := rfl
@[simp] theorem setColl_media (c : CollState) : (s.setColl c).media = s.media := rfl
@[simp] theorem setColl_queues (c : CollState) : (s.setColl c).queues = s.queues := rfl
@[simp] theorem setColl_plan (c : CollState) : (s.setColl c).plan = s.plan := rfl
@[simp] theorem setColl_pipe (c : CollState) : (s.setColl c).pipe = s.pipe := rfl
@[simp] theorem setColl_ngayx (c : CollState) : (s.setColl c).ngayx = s.ngayx := rfl
@[simp] theorem setColl_coll (c : CollState) : (s.setColl c).coll = c := rfl
@[simp] theorem setColl_det (c : CollState) : (s.setColl c).det = s.det := rfl
@[simp] theorem setColl_rdma (c : CollState) : (s.setColl c).rdma = s.rdma := rfl
@[simp] theorem setColl_switch (c : CollState) : (s.setColl c).switch = s.switch := rfl
@[simp] theorem setColl_group (c : CollState) : (s.setColl c).group = s.group := rfl
@[simp] theorem setColl_lock (c : CollState) : (s.setColl c).lock = s.lock := rfl
@[simp] theorem setColl_nor (c : CollState) : (s.setColl c).nor = s.nor := rfl
@[simp] theorem setColl_fuse (c : CollState) : (s.setColl c).fuse = s.fuse := rfl
@[simp] theorem setColl_link (c : CollState) : (s.setColl c).link = s.link := rfl
@[simp] theorem setColl_power (c : CollState) : (s.setColl c).power = s.power := rfl
@[simp] theorem setColl_tel (c : CollState) : (s.setColl c).tel = s.tel := rfl
@[simp] theorem setColl_units (c : CollState) : (s.setColl c).units = s.units := rfl
@[simp] theorem setColl_mem (c : CollState) : (s.setColl c).mem = s.mem := rfl
@[simp] theorem setColl_now (c : CollState) : (s.setColl c).now = s.now := rfl
@[simp] theorem setColl_freeCtr (c : CollState) : (s.setColl c).freeCtr = s.freeCtr := rfl
@[simp] theorem setColl_sent (c : CollState) : (s.setColl c).sent = s.sent := rfl
@[simp] theorem setColl_pending (c : CollState) : (s.setColl c).pending = s.pending := rfl

@[simp] theorem setLaunch_gauge (l : Launch) : (s.setLaunch l).gauge = s.gauge := rfl
@[simp] theorem setLaunch_pools (l : Launch) : (s.setLaunch l).pools = s.pools := rfl
@[simp] theorem setLaunch_media (l : Launch) : (s.setLaunch l).media = s.media := rfl
@[simp] theorem setLaunch_queues (l : Launch) : (s.setLaunch l).queues = s.queues := rfl
@[simp] theorem setLaunch_plan (l : Launch) : (s.setLaunch l).plan = s.plan := rfl
@[simp] theorem setLaunch_pipe (l : Launch) : (s.setLaunch l).pipe = s.pipe := rfl
@[simp] theorem setLaunch_ngayx (l : Launch) : (s.setLaunch l).ngayx = s.ngayx := rfl
@[simp] theorem setLaunch_det (l : Launch) : (s.setLaunch l).det = s.det := rfl
@[simp] theorem setLaunch_rdma (l : Launch) : (s.setLaunch l).rdma = s.rdma := rfl
@[simp] theorem setLaunch_switch (l : Launch) : (s.setLaunch l).switch = s.switch := rfl
@[simp] theorem setLaunch_group (l : Launch) : (s.setLaunch l).group = s.group := rfl
@[simp] theorem setLaunch_lock (l : Launch) : (s.setLaunch l).lock = s.lock := rfl
@[simp] theorem setLaunch_nor (l : Launch) : (s.setLaunch l).nor = s.nor := rfl
@[simp] theorem setLaunch_fuse (l : Launch) : (s.setLaunch l).fuse = s.fuse := rfl
@[simp] theorem setLaunch_link (l : Launch) : (s.setLaunch l).link = s.link := rfl
@[simp] theorem setLaunch_power (l : Launch) : (s.setLaunch l).power = s.power := rfl
@[simp] theorem setLaunch_tel (l : Launch) : (s.setLaunch l).tel = s.tel := rfl
@[simp] theorem setLaunch_units (l : Launch) : (s.setLaunch l).units = s.units := rfl
@[simp] theorem setLaunch_mem (l : Launch) : (s.setLaunch l).mem = s.mem := rfl
@[simp] theorem setLaunch_now (l : Launch) : (s.setLaunch l).now = s.now := rfl
@[simp] theorem setLaunch_freeCtr (l : Launch) : (s.setLaunch l).freeCtr = s.freeCtr := rfl
@[simp] theorem setLaunch_sent (l : Launch) : (s.setLaunch l).sent = s.sent := rfl
@[simp] theorem setLaunch_pending (l : Launch) : (s.setLaunch l).pending = s.pending := rfl

@[simp] theorem setStore_gauge (x : Residual) : (s.setStore x).gauge = s.gauge := rfl
@[simp] theorem setStore_pools (x : Residual) : (s.setStore x).pools = s.pools := rfl
@[simp] theorem setStore_media (x : Residual) : (s.setStore x).media = s.media := rfl
@[simp] theorem setStore_queues (x : Residual) : (s.setStore x).queues = s.queues := rfl
@[simp] theorem setStore_plan (x : Residual) : (s.setStore x).plan = s.plan := rfl
@[simp] theorem setStore_pipe (x : Residual) : (s.setStore x).pipe = s.pipe := rfl
@[simp] theorem setStore_ngayx (x : Residual) : (s.setStore x).ngayx = s.ngayx := rfl
@[simp] theorem setStore_det (x : Residual) : (s.setStore x).det = s.det := rfl
@[simp] theorem setStore_rdma (x : Residual) : (s.setStore x).rdma = s.rdma := rfl
@[simp] theorem setStore_switch (x : Residual) : (s.setStore x).switch = s.switch := rfl
@[simp] theorem setStore_group (x : Residual) : (s.setStore x).group = s.group := rfl
@[simp] theorem setStore_lock (x : Residual) : (s.setStore x).lock = s.lock := rfl
@[simp] theorem setStore_nor (x : Residual) : (s.setStore x).nor = s.nor := rfl
@[simp] theorem setStore_fuse (x : Residual) : (s.setStore x).fuse = s.fuse := rfl
@[simp] theorem setStore_link (x : Residual) : (s.setStore x).link = s.link := rfl
@[simp] theorem setStore_power (x : Residual) : (s.setStore x).power = s.power := rfl
@[simp] theorem setStore_tel (x : Residual) : (s.setStore x).tel = s.tel := rfl
@[simp] theorem setStore_units (x : Residual) : (s.setStore x).units = s.units := rfl
@[simp] theorem setStore_mem (x : Residual) : (s.setStore x).mem = s.mem := rfl
@[simp] theorem setStore_now (x : Residual) : (s.setStore x).now = s.now := rfl
@[simp] theorem setStore_freeCtr (x : Residual) : (s.setStore x).freeCtr = s.freeCtr := rfl
@[simp] theorem setStore_sent (x : Residual) : (s.setStore x).sent = s.sent := rfl
@[simp] theorem setStore_pending (x : Residual) : (s.setStore x).pending = s.pending := rfl

@[simp] theorem setRqp_gauge (q : Qp) : (s.setRqp q).gauge = s.gauge := rfl
@[simp] theorem setRqp_pools (q : Qp) : (s.setRqp q).pools = s.pools := rfl
@[simp] theorem setRqp_media (q : Qp) : (s.setRqp q).media = s.media := rfl
@[simp] theorem setRqp_queues (q : Qp) : (s.setRqp q).queues = s.queues := rfl
@[simp] theorem setRqp_plan (q : Qp) : (s.setRqp q).plan = s.plan := rfl
@[simp] theorem setRqp_pipe (q : Qp) : (s.setRqp q).pipe = s.pipe := rfl
@[simp] theorem setRqp_ngayx (q : Qp) : (s.setRqp q).ngayx = s.ngayx := rfl
@[simp] theorem setRqp_coll (q : Qp) : (s.setRqp q).coll = s.coll := rfl
@[simp] theorem setRqp_det (q : Qp) : (s.setRqp q).det = s.det := rfl
@[simp] theorem setRqp_switch (q : Qp) : (s.setRqp q).switch = s.switch := rfl
@[simp] theorem setRqp_group (q : Qp) : (s.setRqp q).group = s.group := rfl
@[simp] theorem setRqp_lock (q : Qp) : (s.setRqp q).lock = s.lock := rfl
@[simp] theorem setRqp_nor (q : Qp) : (s.setRqp q).nor = s.nor := rfl
@[simp] theorem setRqp_fuse (q : Qp) : (s.setRqp q).fuse = s.fuse := rfl
@[simp] theorem setRqp_link (q : Qp) : (s.setRqp q).link = s.link := rfl
@[simp] theorem setRqp_power (q : Qp) : (s.setRqp q).power = s.power := rfl
@[simp] theorem setRqp_tel (q : Qp) : (s.setRqp q).tel = s.tel := rfl
@[simp] theorem setRqp_units (q : Qp) : (s.setRqp q).units = s.units := rfl
@[simp] theorem setRqp_mem (q : Qp) : (s.setRqp q).mem = s.mem := rfl
@[simp] theorem setRqp_now (q : Qp) : (s.setRqp q).now = s.now := rfl
@[simp] theorem setRqp_freeCtr (q : Qp) : (s.setRqp q).freeCtr = s.freeCtr := rfl
@[simp] theorem setRqp_sent (q : Qp) : (s.setRqp q).sent = s.sent := rfl
@[simp] theorem setRqp_pending (q : Qp) : (s.setRqp q).pending = s.pending := rfl

@[simp] theorem setPort_gauge (p : Port) : (s.setPort p).gauge = s.gauge := rfl
@[simp] theorem setPort_pools (p : Port) : (s.setPort p).pools = s.pools := rfl
@[simp] theorem setPort_media (p : Port) : (s.setPort p).media = s.media := rfl
@[simp] theorem setPort_queues (p : Port) : (s.setPort p).queues = s.queues := rfl
@[simp] theorem setPort_plan (p : Port) : (s.setPort p).plan = s.plan := rfl
@[simp] theorem setPort_pipe (p : Port) : (s.setPort p).pipe = s.pipe := rfl
@[simp] theorem setPort_ngayx (p : Port) : (s.setPort p).ngayx = s.ngayx := rfl
@[simp] theorem setPort_coll (p : Port) : (s.setPort p).coll = s.coll := rfl
@[simp] theorem setPort_det (p : Port) : (s.setPort p).det = s.det := rfl
@[simp] theorem setPort_rdma (p : Port) : (s.setPort p).rdma = s.rdma := rfl
@[simp] theorem setPort_group (p : Port) : (s.setPort p).group = s.group := rfl
@[simp] theorem setPort_lock (p : Port) : (s.setPort p).lock = s.lock := rfl
@[simp] theorem setPort_nor (p : Port) : (s.setPort p).nor = s.nor := rfl
@[simp] theorem setPort_fuse (p : Port) : (s.setPort p).fuse = s.fuse := rfl
@[simp] theorem setPort_link (p : Port) : (s.setPort p).link = s.link := rfl
@[simp] theorem setPort_power (p : Port) : (s.setPort p).power = s.power := rfl
@[simp] theorem setPort_tel (p : Port) : (s.setPort p).tel = s.tel := rfl
@[simp] theorem setPort_units (p : Port) : (s.setPort p).units = s.units := rfl
@[simp] theorem setPort_mem (p : Port) : (s.setPort p).mem = s.mem := rfl
@[simp] theorem setPort_now (p : Port) : (s.setPort p).now = s.now := rfl
@[simp] theorem setPort_freeCtr (p : Port) : (s.setPort p).freeCtr = s.freeCtr := rfl
@[simp] theorem setPort_sent (p : Port) : (s.setPort p).sent = s.sent := rfl
@[simp] theorem setPort_pending (p : Port) : (s.setPort p).pending = s.pending := rfl

@[simp] theorem setMb7_gauge (m : Mb7) : (s.setMb7 m).gauge = s.gauge := rfl
@[simp] theorem setMb7_pools (m : Mb7) : (s.setMb7 m).pools = s.pools := rfl
@[simp] theorem setMb7_media (m : Mb7) : (s.setMb7 m).media = s.media := rfl
@[simp] theorem setMb7_queues (m : Mb7) : (s.setMb7 m).queues = s.queues := rfl
@[simp] theorem setMb7_plan (m : Mb7) : (s.setMb7 m).plan = s.plan := rfl
@[simp] theorem setMb7_pipe (m : Mb7) : (s.setMb7 m).pipe = s.pipe := rfl
@[simp] theorem setMb7_ngayx (m : Mb7) : (s.setMb7 m).ngayx = s.ngayx := rfl
@[simp] theorem setMb7_coll (m : Mb7) : (s.setMb7 m).coll = s.coll := rfl
@[simp] theorem setMb7_det (m : Mb7) : (s.setMb7 m).det = s.det := rfl
@[simp] theorem setMb7_rdma (m : Mb7) : (s.setMb7 m).rdma = s.rdma := rfl
@[simp] theorem setMb7_switch (m : Mb7) : (s.setMb7 m).switch = s.switch := rfl
@[simp] theorem setMb7_group (m : Mb7) : (s.setMb7 m).group = s.group := rfl
@[simp] theorem setMb7_nor (m : Mb7) : (s.setMb7 m).nor = s.nor := rfl
@[simp] theorem setMb7_fuse (m : Mb7) : (s.setMb7 m).fuse = s.fuse := rfl
@[simp] theorem setMb7_link (m : Mb7) : (s.setMb7 m).link = s.link := rfl
@[simp] theorem setMb7_power (m : Mb7) : (s.setMb7 m).power = s.power := rfl
@[simp] theorem setMb7_tel (m : Mb7) : (s.setMb7 m).tel = s.tel := rfl
@[simp] theorem setMb7_units (m : Mb7) : (s.setMb7 m).units = s.units := rfl
@[simp] theorem setMb7_mem (m : Mb7) : (s.setMb7 m).mem = s.mem := rfl
@[simp] theorem setMb7_now (m : Mb7) : (s.setMb7 m).now = s.now := rfl
@[simp] theorem setMb7_freeCtr (m : Mb7) : (s.setMb7 m).freeCtr = s.freeCtr := rfl
@[simp] theorem setMb7_sent (m : Mb7) : (s.setMb7 m).sent = s.sent := rfl
@[simp] theorem setMb7_pending (m : Mb7) : (s.setMb7 m).pending = s.pending := rfl

@[simp] theorem setBox_gauge (i : Nat) (b : Mailbox) : (s.setBox i b).gauge = s.gauge := rfl
@[simp] theorem setBox_pools (i : Nat) (b : Mailbox) : (s.setBox i b).pools = s.pools := rfl
@[simp] theorem setBox_media (i : Nat) (b : Mailbox) : (s.setBox i b).media = s.media := rfl
@[simp] theorem setBox_queues (i : Nat) (b : Mailbox) : (s.setBox i b).queues = s.queues := rfl
@[simp] theorem setBox_plan (i : Nat) (b : Mailbox) : (s.setBox i b).plan = s.plan := rfl
@[simp] theorem setBox_pipe (i : Nat) (b : Mailbox) : (s.setBox i b).pipe = s.pipe := rfl
@[simp] theorem setBox_ngayx (i : Nat) (b : Mailbox) : (s.setBox i b).ngayx = s.ngayx := rfl
@[simp] theorem setBox_coll (i : Nat) (b : Mailbox) : (s.setBox i b).coll = s.coll := rfl
@[simp] theorem setBox_det (i : Nat) (b : Mailbox) : (s.setBox i b).det = s.det := rfl
@[simp] theorem setBox_rdma (i : Nat) (b : Mailbox) : (s.setBox i b).rdma = s.rdma := rfl
@[simp] theorem setBox_switch (i : Nat) (b : Mailbox) : (s.setBox i b).switch = s.switch := rfl
@[simp] theorem setBox_group (i : Nat) (b : Mailbox) : (s.setBox i b).group = s.group := rfl
@[simp] theorem setBox_nor (i : Nat) (b : Mailbox) : (s.setBox i b).nor = s.nor := rfl
@[simp] theorem setBox_fuse (i : Nat) (b : Mailbox) : (s.setBox i b).fuse = s.fuse := rfl
@[simp] theorem setBox_link (i : Nat) (b : Mailbox) : (s.setBox i b).link = s.link := rfl
@[simp] theorem setBox_power (i : Nat) (b : Mailbox) : (s.setBox i b).power = s.power := rfl
@[simp] theorem setBox_tel (i : Nat) (b : Mailbox) : (s.setBox i b).tel = s.tel := rfl
@[simp] theorem setBox_units (i : Nat) (b : Mailbox) : (s.setBox i b).units = s.units := rfl
@[simp] theorem setBox_mem (i : Nat) (b : Mailbox) : (s.setBox i b).mem = s.mem := rfl
@[simp] theorem setBox_now (i : Nat) (b : Mailbox) : (s.setBox i b).now = s.now := rfl
@[simp] theorem setBox_freeCtr (i : Nat) (b : Mailbox) : (s.setBox i b).freeCtr = s.freeCtr := rfl
@[simp] theorem setBox_sent (i : Nat) (b : Mailbox) : (s.setBox i b).sent = s.sent := rfl
@[simp] theorem setBox_pending (i : Nat) (b : Mailbox) : (s.setBox i b).pending = s.pending := rfl

@[simp] theorem release_gauge (r : Req) : (s.release r).gauge = s.gauge := rfl
@[simp] theorem release_pools (r : Req) : (s.release r).pools = s.pools := rfl
@[simp] theorem release_media (r : Req) : (s.release r).media = s.media := rfl
@[simp] theorem release_queues (r : Req) : (s.release r).queues = s.queues := rfl
@[simp] theorem release_plan (r : Req) : (s.release r).plan = s.plan := rfl
@[simp] theorem release_pipe (r : Req) : (s.release r).pipe = s.pipe := rfl
@[simp] theorem release_ngayx (r : Req) : (s.release r).ngayx = s.ngayx := rfl
@[simp] theorem release_coll (r : Req) : (s.release r).coll = s.coll := rfl
@[simp] theorem release_det (r : Req) : (s.release r).det = s.det := rfl
@[simp] theorem release_rdma (r : Req) : (s.release r).rdma = s.rdma := rfl
@[simp] theorem release_switch (r : Req) : (s.release r).switch = s.switch := rfl
@[simp] theorem release_group (r : Req) : (s.release r).group = s.group := rfl
@[simp] theorem release_nor (r : Req) : (s.release r).nor = s.nor := rfl
@[simp] theorem release_fuse (r : Req) : (s.release r).fuse = s.fuse := rfl
@[simp] theorem release_link (r : Req) : (s.release r).link = s.link := rfl
@[simp] theorem release_power (r : Req) : (s.release r).power = s.power := rfl
@[simp] theorem release_tel (r : Req) : (s.release r).tel = s.tel := rfl
@[simp] theorem release_units (r : Req) : (s.release r).units = s.units := rfl
@[simp] theorem release_mem (r : Req) : (s.release r).mem = s.mem := rfl
@[simp] theorem release_now (r : Req) : (s.release r).now = s.now := rfl
@[simp] theorem release_freeCtr (r : Req) : (s.release r).freeCtr = s.freeCtr := rfl
@[simp] theorem release_sent (r : Req) : (s.release r).sent = s.sent := rfl
@[simp] theorem release_pending (r : Req) : (s.release r).pending = s.pending := rfl

@[simp] theorem hold_gauge (h : Held) (r : Req) : (s.hold h r).gauge = s.gauge := rfl
@[simp] theorem hold_pools (h : Held) (r : Req) : (s.hold h r).pools = s.pools := rfl
@[simp] theorem hold_media (h : Held) (r : Req) : (s.hold h r).media = s.media := rfl
@[simp] theorem hold_queues (h : Held) (r : Req) : (s.hold h r).queues = s.queues := rfl
@[simp] theorem hold_plan (h : Held) (r : Req) : (s.hold h r).plan = s.plan := rfl
@[simp] theorem hold_pipe (h : Held) (r : Req) : (s.hold h r).pipe = s.pipe := rfl
@[simp] theorem hold_ngayx (h : Held) (r : Req) : (s.hold h r).ngayx = s.ngayx := rfl
@[simp] theorem hold_coll (h : Held) (r : Req) : (s.hold h r).coll = s.coll := rfl
@[simp] theorem hold_det (h : Held) (r : Req) : (s.hold h r).det = s.det := rfl
@[simp] theorem hold_rdma (h : Held) (r : Req) : (s.hold h r).rdma = s.rdma := rfl
@[simp] theorem hold_switch (h : Held) (r : Req) : (s.hold h r).switch = s.switch := rfl
@[simp] theorem hold_group (h : Held) (r : Req) : (s.hold h r).group = s.group := rfl
@[simp] theorem hold_nor (h : Held) (r : Req) : (s.hold h r).nor = s.nor := rfl
@[simp] theorem hold_fuse (h : Held) (r : Req) : (s.hold h r).fuse = s.fuse := rfl
@[simp] theorem hold_link (h : Held) (r : Req) : (s.hold h r).link = s.link := rfl
@[simp] theorem hold_power (h : Held) (r : Req) : (s.hold h r).power = s.power := rfl
@[simp] theorem hold_tel (h : Held) (r : Req) : (s.hold h r).tel = s.tel := rfl
@[simp] theorem hold_units (h : Held) (r : Req) : (s.hold h r).units = s.units := rfl
@[simp] theorem hold_mem (h : Held) (r : Req) : (s.hold h r).mem = s.mem := rfl
@[simp] theorem hold_now (h : Held) (r : Req) : (s.hold h r).now = s.now := rfl
@[simp] theorem hold_freeCtr (h : Held) (r : Req) : (s.hold h r).freeCtr = s.freeCtr := rfl
@[simp] theorem hold_sent (h : Held) (r : Req) : (s.hold h r).sent = s.sent := rfl
@[simp] theorem hold_pending (h : Held) (r : Req) : (s.hold h r).pending = s.pending := rfl

@[simp] theorem setNor_gauge (n : NorState) : (s.setNor n).gauge = s.gauge := rfl
@[simp] theorem setNor_pools (n : NorState) : (s.setNor n).pools = s.pools := rfl
@[simp] theorem setNor_media (n : NorState) : (s.setNor n).media = s.media := rfl
@[simp] theorem setNor_queues (n : NorState) : (s.setNor n).queues = s.queues := rfl
@[simp] theorem setNor_plan (n : NorState) : (s.setNor n).plan = s.plan := rfl
@[simp] theorem setNor_pipe (n : NorState) : (s.setNor n).pipe = s.pipe := rfl
@[simp] theorem setNor_ngayx (n : NorState) : (s.setNor n).ngayx = s.ngayx := rfl
@[simp] theorem setNor_coll (n : NorState) : (s.setNor n).coll = s.coll := rfl
@[simp] theorem setNor_det (n : NorState) : (s.setNor n).det = s.det := rfl
@[simp] theorem setNor_rdma (n : NorState) : (s.setNor n).rdma = s.rdma := rfl
@[simp] theorem setNor_switch (n : NorState) : (s.setNor n).switch = s.switch := rfl
@[simp] theorem setNor_group (n : NorState) : (s.setNor n).group = s.group := rfl
@[simp] theorem setNor_lock (n : NorState) : (s.setNor n).lock = s.lock := rfl
@[simp] theorem setNor_nor (n : NorState) : (s.setNor n).nor = n := rfl
@[simp] theorem setNor_fuse (n : NorState) : (s.setNor n).fuse = s.fuse := rfl
@[simp] theorem setNor_link (n : NorState) : (s.setNor n).link = s.link := rfl
@[simp] theorem setNor_power (n : NorState) : (s.setNor n).power = s.power := rfl
@[simp] theorem setNor_tel (n : NorState) : (s.setNor n).tel = s.tel := rfl
@[simp] theorem setNor_units (n : NorState) : (s.setNor n).units = s.units := rfl
@[simp] theorem setNor_mem (n : NorState) : (s.setNor n).mem = s.mem := rfl
@[simp] theorem setNor_now (n : NorState) : (s.setNor n).now = s.now := rfl
@[simp] theorem setNor_freeCtr (n : NorState) : (s.setNor n).freeCtr = s.freeCtr := rfl
@[simp] theorem setNor_sent (n : NorState) : (s.setNor n).sent = s.sent := rfl
@[simp] theorem setNor_pending (n : NorState) : (s.setNor n).pending = s.pending := rfl

@[simp] theorem setAllocBlock_gauge (h : Nat) (b : AllocBlock) : (s.setAllocBlock h b).gauge = s.gauge := rfl
@[simp] theorem setAllocBlock_pools (h : Nat) (b : AllocBlock) : (s.setAllocBlock h b).pools = s.pools := rfl
@[simp] theorem setAllocBlock_media (h : Nat) (b : AllocBlock) : (s.setAllocBlock h b).media = s.media := rfl
@[simp] theorem setAllocBlock_queues (h : Nat) (b : AllocBlock) : (s.setAllocBlock h b).queues = s.queues := rfl
@[simp] theorem setAllocBlock_plan (h : Nat) (b : AllocBlock) : (s.setAllocBlock h b).plan = s.plan := rfl
@[simp] theorem setAllocBlock_pipe (h : Nat) (b : AllocBlock) : (s.setAllocBlock h b).pipe = s.pipe := rfl
@[simp] theorem setAllocBlock_ngayx (h : Nat) (b : AllocBlock) : (s.setAllocBlock h b).ngayx = s.ngayx := rfl
@[simp] theorem setAllocBlock_coll (h : Nat) (b : AllocBlock) : (s.setAllocBlock h b).coll = s.coll := rfl
@[simp] theorem setAllocBlock_det (h : Nat) (b : AllocBlock) : (s.setAllocBlock h b).det = s.det := rfl
@[simp] theorem setAllocBlock_rdma (h : Nat) (b : AllocBlock) : (s.setAllocBlock h b).rdma = s.rdma := rfl
@[simp] theorem setAllocBlock_switch (h : Nat) (b : AllocBlock) : (s.setAllocBlock h b).switch = s.switch := rfl
@[simp] theorem setAllocBlock_group (h : Nat) (b : AllocBlock) : (s.setAllocBlock h b).group = s.group := rfl
@[simp] theorem setAllocBlock_lock (h : Nat) (b : AllocBlock) : (s.setAllocBlock h b).lock = s.lock := rfl
@[simp] theorem setAllocBlock_nor (h : Nat) (b : AllocBlock) : (s.setAllocBlock h b).nor = s.nor := rfl
@[simp] theorem setAllocBlock_fuse (h : Nat) (b : AllocBlock) : (s.setAllocBlock h b).fuse = s.fuse := rfl
@[simp] theorem setAllocBlock_power (h : Nat) (b : AllocBlock) : (s.setAllocBlock h b).power = s.power := rfl
@[simp] theorem setAllocBlock_tel (h : Nat) (b : AllocBlock) : (s.setAllocBlock h b).tel = s.tel := rfl
@[simp] theorem setAllocBlock_units (h : Nat) (b : AllocBlock) : (s.setAllocBlock h b).units = s.units := rfl
@[simp] theorem setAllocBlock_mem (h : Nat) (b : AllocBlock) : (s.setAllocBlock h b).mem = s.mem := rfl
@[simp] theorem setAllocBlock_now (h : Nat) (b : AllocBlock) : (s.setAllocBlock h b).now = s.now := rfl
@[simp] theorem setAllocBlock_freeCtr (h : Nat) (b : AllocBlock) : (s.setAllocBlock h b).freeCtr = s.freeCtr := rfl
@[simp] theorem setAllocBlock_sent (h : Nat) (b : AllocBlock) : (s.setAllocBlock h b).sent = s.sent := rfl
@[simp] theorem setAllocBlock_pending (h : Nat) (b : AllocBlock) : (s.setAllocBlock h b).pending = s.pending := rfl

@[simp] theorem setPower_gauge (p : PowerState) : (s.setPower p).gauge = s.gauge := rfl
@[simp] theorem setPower_pools (p : PowerState) : (s.setPower p).pools = s.pools := rfl
@[simp] theorem setPower_media (p : PowerState) : (s.setPower p).media = s.media := rfl
@[simp] theorem setPower_queues (p : PowerState) : (s.setPower p).queues = s.queues := rfl
@[simp] theorem setPower_plan (p : PowerState) : (s.setPower p).plan = s.plan := rfl
@[simp] theorem setPower_pipe (p : PowerState) : (s.setPower p).pipe = s.pipe := rfl
@[simp] theorem setPower_ngayx (p : PowerState) : (s.setPower p).ngayx = s.ngayx := rfl
@[simp] theorem setPower_coll (p : PowerState) : (s.setPower p).coll = s.coll := rfl
@[simp] theorem setPower_det (p : PowerState) : (s.setPower p).det = s.det := rfl
@[simp] theorem setPower_rdma (p : PowerState) : (s.setPower p).rdma = s.rdma := rfl
@[simp] theorem setPower_switch (p : PowerState) : (s.setPower p).switch = s.switch := rfl
@[simp] theorem setPower_group (p : PowerState) : (s.setPower p).group = s.group := rfl
@[simp] theorem setPower_lock (p : PowerState) : (s.setPower p).lock = s.lock := rfl
@[simp] theorem setPower_nor (p : PowerState) : (s.setPower p).nor = s.nor := rfl
@[simp] theorem setPower_fuse (p : PowerState) : (s.setPower p).fuse = s.fuse := rfl
@[simp] theorem setPower_link (p : PowerState) : (s.setPower p).link = s.link := rfl
@[simp] theorem setPower_power (p : PowerState) : (s.setPower p).power = p := rfl
@[simp] theorem setPower_tel (p : PowerState) : (s.setPower p).tel = s.tel := rfl
@[simp] theorem setPower_units (p : PowerState) : (s.setPower p).units = s.units := rfl
@[simp] theorem setPower_mem (p : PowerState) : (s.setPower p).mem = s.mem := rfl
@[simp] theorem setPower_now (p : PowerState) : (s.setPower p).now = s.now := rfl
@[simp] theorem setPower_freeCtr (p : PowerState) : (s.setPower p).freeCtr = s.freeCtr := rfl
@[simp] theorem setPower_sent (p : PowerState) : (s.setPower p).sent = s.sent := rfl
@[simp] theorem setPower_pending (p : PowerState) : (s.setPower p).pending = s.pending := rfl

@[simp] theorem setDomain_gauge (d : Nat) (x : Domain) : (s.setDomain d x).gauge = s.gauge := rfl
@[simp] theorem setDomain_pools (d : Nat) (x : Domain) : (s.setDomain d x).pools = s.pools := rfl
@[simp] theorem setDomain_media (d : Nat) (x : Domain) : (s.setDomain d x).media = s.media := rfl
@[simp] theorem setDomain_queues (d : Nat) (x : Domain) : (s.setDomain d x).queues = s.queues := rfl
@[simp] theorem setDomain_plan (d : Nat) (x : Domain) : (s.setDomain d x).plan = s.plan := rfl
@[simp] theorem setDomain_pipe (d : Nat) (x : Domain) : (s.setDomain d x).pipe = s.pipe := rfl
@[simp] theorem setDomain_ngayx (d : Nat) (x : Domain) : (s.setDomain d x).ngayx = s.ngayx := rfl
@[simp] theorem setDomain_coll (d : Nat) (x : Domain) : (s.setDomain d x).coll = s.coll := rfl
@[simp] theorem setDomain_det (d : Nat) (x : Domain) : (s.setDomain d x).det = s.det := rfl
@[simp] theorem setDomain_rdma (d : Nat) (x : Domain) : (s.setDomain d x).rdma = s.rdma := rfl
@[simp] theorem setDomain_switch (d : Nat) (x : Domain) : (s.setDomain d x).switch = s.switch := rfl
@[simp] theorem setDomain_group (d : Nat) (x : Domain) : (s.setDomain d x).group = s.group := rfl
@[simp] theorem setDomain_lock (d : Nat) (x : Domain) : (s.setDomain d x).lock = s.lock := rfl
@[simp] theorem setDomain_nor (d : Nat) (x : Domain) : (s.setDomain d x).nor = s.nor := rfl
@[simp] theorem setDomain_fuse (d : Nat) (x : Domain) : (s.setDomain d x).fuse = s.fuse := rfl
@[simp] theorem setDomain_link (d : Nat) (x : Domain) : (s.setDomain d x).link = s.link := rfl
@[simp] theorem setDomain_tel (d : Nat) (x : Domain) : (s.setDomain d x).tel = s.tel := rfl
@[simp] theorem setDomain_units (d : Nat) (x : Domain) : (s.setDomain d x).units = s.units := rfl
@[simp] theorem setDomain_mem (d : Nat) (x : Domain) : (s.setDomain d x).mem = s.mem := rfl
@[simp] theorem setDomain_now (d : Nat) (x : Domain) : (s.setDomain d x).now = s.now := rfl
@[simp] theorem setDomain_freeCtr (d : Nat) (x : Domain) : (s.setDomain d x).freeCtr = s.freeCtr := rfl
@[simp] theorem setDomain_sent (d : Nat) (x : Domain) : (s.setDomain d x).sent = s.sent := rfl
@[simp] theorem setDomain_pending (d : Nat) (x : Domain) : (s.setDomain d x).pending = s.pending := rfl

@[simp] theorem setTel_gauge (t : TelemetryState) : (s.setTel t).gauge = s.gauge := rfl
@[simp] theorem setTel_pools (t : TelemetryState) : (s.setTel t).pools = s.pools := rfl
@[simp] theorem setTel_media (t : TelemetryState) : (s.setTel t).media = s.media := rfl
@[simp] theorem setTel_queues (t : TelemetryState) : (s.setTel t).queues = s.queues := rfl
@[simp] theorem setTel_plan (t : TelemetryState) : (s.setTel t).plan = s.plan := rfl
@[simp] theorem setTel_pipe (t : TelemetryState) : (s.setTel t).pipe = s.pipe := rfl
@[simp] theorem setTel_ngayx (t : TelemetryState) : (s.setTel t).ngayx = s.ngayx := rfl
@[simp] theorem setTel_coll (t : TelemetryState) : (s.setTel t).coll = s.coll := rfl
@[simp] theorem setTel_det (t : TelemetryState) : (s.setTel t).det = s.det := rfl
@[simp] theorem setTel_rdma (t : TelemetryState) : (s.setTel t).rdma = s.rdma := rfl
@[simp] theorem setTel_switch (t : TelemetryState) : (s.setTel t).switch = s.switch := rfl
@[simp] theorem setTel_group (t : TelemetryState) : (s.setTel t).group = s.group := rfl
@[simp] theorem setTel_lock (t : TelemetryState) : (s.setTel t).lock = s.lock := rfl
@[simp] theorem setTel_nor (t : TelemetryState) : (s.setTel t).nor = s.nor := rfl
@[simp] theorem setTel_fuse (t : TelemetryState) : (s.setTel t).fuse = s.fuse := rfl
@[simp] theorem setTel_link (t : TelemetryState) : (s.setTel t).link = s.link := rfl
@[simp] theorem setTel_power (t : TelemetryState) : (s.setTel t).power = s.power := rfl
@[simp] theorem setTel_tel (t : TelemetryState) : (s.setTel t).tel = t := rfl
@[simp] theorem setTel_units (t : TelemetryState) : (s.setTel t).units = s.units := rfl
@[simp] theorem setTel_mem (t : TelemetryState) : (s.setTel t).mem = s.mem := rfl
@[simp] theorem setTel_now (t : TelemetryState) : (s.setTel t).now = s.now := rfl
@[simp] theorem setTel_freeCtr (t : TelemetryState) : (s.setTel t).freeCtr = s.freeCtr := rfl
@[simp] theorem setTel_sent (t : TelemetryState) : (s.setTel t).sent = s.sent := rfl
@[simp] theorem setTel_pending (t : TelemetryState) : (s.setTel t).pending = s.pending := rfl

@[simp] theorem count_gauge (c : Counter) (k : Nat) : (s.count c k).gauge = s.gauge := rfl
@[simp] theorem count_pools (c : Counter) (k : Nat) : (s.count c k).pools = s.pools := rfl
@[simp] theorem count_media (c : Counter) (k : Nat) : (s.count c k).media = s.media := rfl
@[simp] theorem count_queues (c : Counter) (k : Nat) : (s.count c k).queues = s.queues := rfl
@[simp] theorem count_plan (c : Counter) (k : Nat) : (s.count c k).plan = s.plan := rfl
@[simp] theorem count_pipe (c : Counter) (k : Nat) : (s.count c k).pipe = s.pipe := rfl
@[simp] theorem count_ngayx (c : Counter) (k : Nat) : (s.count c k).ngayx = s.ngayx := rfl
@[simp] theorem count_coll (c : Counter) (k : Nat) : (s.count c k).coll = s.coll := rfl
@[simp] theorem count_det (c : Counter) (k : Nat) : (s.count c k).det = s.det := rfl
@[simp] theorem count_rdma (c : Counter) (k : Nat) : (s.count c k).rdma = s.rdma := rfl
@[simp] theorem count_switch (c : Counter) (k : Nat) : (s.count c k).switch = s.switch := rfl
@[simp] theorem count_group (c : Counter) (k : Nat) : (s.count c k).group = s.group := rfl
@[simp] theorem count_lock (c : Counter) (k : Nat) : (s.count c k).lock = s.lock := rfl
@[simp] theorem count_nor (c : Counter) (k : Nat) : (s.count c k).nor = s.nor := rfl
@[simp] theorem count_fuse (c : Counter) (k : Nat) : (s.count c k).fuse = s.fuse := rfl
@[simp] theorem count_link (c : Counter) (k : Nat) : (s.count c k).link = s.link := rfl
@[simp] theorem count_power (c : Counter) (k : Nat) : (s.count c k).power = s.power := rfl
@[simp] theorem count_units (c : Counter) (k : Nat) : (s.count c k).units = s.units := rfl
@[simp] theorem count_mem (c : Counter) (k : Nat) : (s.count c k).mem = s.mem := rfl
@[simp] theorem count_now (c : Counter) (k : Nat) : (s.count c k).now = s.now := rfl
@[simp] theorem count_freeCtr (c : Counter) (k : Nat) : (s.count c k).freeCtr = s.freeCtr := rfl
@[simp] theorem count_sent (c : Counter) (k : Nat) : (s.count c k).sent = s.sent := rfl
@[simp] theorem count_pending (c : Counter) (k : Nat) : (s.count c k).pending = s.pending := rfl

@[simp] theorem logEntry_gauge (i : LogId) (code subject : Nat) (detail : List Nat) : (s.logEntry i code subject detail).gauge = s.gauge := rfl
@[simp] theorem logEntry_pools (i : LogId) (code subject : Nat) (detail : List Nat) : (s.logEntry i code subject detail).pools = s.pools := rfl
@[simp] theorem logEntry_media (i : LogId) (code subject : Nat) (detail : List Nat) : (s.logEntry i code subject detail).media = s.media := rfl
@[simp] theorem logEntry_queues (i : LogId) (code subject : Nat) (detail : List Nat) : (s.logEntry i code subject detail).queues = s.queues := rfl
@[simp] theorem logEntry_plan (i : LogId) (code subject : Nat) (detail : List Nat) : (s.logEntry i code subject detail).plan = s.plan := rfl
@[simp] theorem logEntry_pipe (i : LogId) (code subject : Nat) (detail : List Nat) : (s.logEntry i code subject detail).pipe = s.pipe := rfl
@[simp] theorem logEntry_ngayx (i : LogId) (code subject : Nat) (detail : List Nat) : (s.logEntry i code subject detail).ngayx = s.ngayx := rfl
@[simp] theorem logEntry_coll (i : LogId) (code subject : Nat) (detail : List Nat) : (s.logEntry i code subject detail).coll = s.coll := rfl
@[simp] theorem logEntry_det (i : LogId) (code subject : Nat) (detail : List Nat) : (s.logEntry i code subject detail).det = s.det := rfl
@[simp] theorem logEntry_rdma (i : LogId) (code subject : Nat) (detail : List Nat) : (s.logEntry i code subject detail).rdma = s.rdma := rfl
@[simp] theorem logEntry_switch (i : LogId) (code subject : Nat) (detail : List Nat) : (s.logEntry i code subject detail).switch = s.switch := rfl
@[simp] theorem logEntry_group (i : LogId) (code subject : Nat) (detail : List Nat) : (s.logEntry i code subject detail).group = s.group := rfl
@[simp] theorem logEntry_lock (i : LogId) (code subject : Nat) (detail : List Nat) : (s.logEntry i code subject detail).lock = s.lock := rfl
@[simp] theorem logEntry_nor (i : LogId) (code subject : Nat) (detail : List Nat) : (s.logEntry i code subject detail).nor = s.nor := rfl
@[simp] theorem logEntry_fuse (i : LogId) (code subject : Nat) (detail : List Nat) : (s.logEntry i code subject detail).fuse = s.fuse := rfl
@[simp] theorem logEntry_link (i : LogId) (code subject : Nat) (detail : List Nat) : (s.logEntry i code subject detail).link = s.link := rfl
@[simp] theorem logEntry_power (i : LogId) (code subject : Nat) (detail : List Nat) : (s.logEntry i code subject detail).power = s.power := rfl
@[simp] theorem logEntry_units (i : LogId) (code subject : Nat) (detail : List Nat) : (s.logEntry i code subject detail).units = s.units := rfl
@[simp] theorem logEntry_mem (i : LogId) (code subject : Nat) (detail : List Nat) : (s.logEntry i code subject detail).mem = s.mem := rfl
@[simp] theorem logEntry_now (i : LogId) (code subject : Nat) (detail : List Nat) : (s.logEntry i code subject detail).now = s.now := rfl
@[simp] theorem logEntry_freeCtr (i : LogId) (code subject : Nat) (detail : List Nat) : (s.logEntry i code subject detail).freeCtr = s.freeCtr := rfl
@[simp] theorem logEntry_sent (i : LogId) (code subject : Nat) (detail : List Nat) : (s.logEntry i code subject detail).sent = s.sent := rfl
@[simp] theorem logEntry_pending (i : LogId) (code subject : Nat) (detail : List Nat) : (s.logEntry i code subject detail).pending = s.pending := rfl

@[simp] theorem used_gauge : (s.used).gauge = s.gauge := rfl
@[simp] theorem used_pools : (s.used).pools = s.pools := rfl
@[simp] theorem used_media : (s.used).media = s.media := rfl
@[simp] theorem used_queues : (s.used).queues = s.queues := rfl
@[simp] theorem used_plan : (s.used).plan = s.plan := rfl
@[simp] theorem used_pipe : (s.used).pipe = s.pipe := rfl
@[simp] theorem used_ngayx : (s.used).ngayx = s.ngayx := rfl
@[simp] theorem used_coll : (s.used).coll = s.coll := rfl
@[simp] theorem used_det : (s.used).det = s.det := rfl
@[simp] theorem used_rdma : (s.used).rdma = s.rdma := rfl
@[simp] theorem used_switch : (s.used).switch = s.switch := rfl
@[simp] theorem used_group : (s.used).group = s.group := rfl
@[simp] theorem used_lock : (s.used).lock = s.lock := rfl
@[simp] theorem used_nor : (s.used).nor = s.nor := rfl
@[simp] theorem used_fuse : (s.used).fuse = s.fuse := rfl
@[simp] theorem used_link : (s.used).link = s.link := rfl
@[simp] theorem used_power : (s.used).power = s.power := rfl
@[simp] theorem used_tel : (s.used).tel = s.tel := rfl
@[simp] theorem used_units : (s.used).units = s.units := rfl
@[simp] theorem used_mem : (s.used).mem = s.mem := rfl
@[simp] theorem used_now : (s.used).now = s.now := rfl
@[simp] theorem used_freeCtr : (s.used).freeCtr = s.freeCtr + 1 := rfl
@[simp] theorem used_sent : (s.used).sent = s.sent := rfl
@[simp] theorem used_pending : (s.used).pending = s.pending := rfl

end Sys2Proof.Machine
end

