-- ==== Sys2Proof/Tests/Slice0.lean ====
section
/-! SUPPORT. Tests: ill-formed commands that the check refuses, examples of the spec, and for every statement with hypotheses a state
and operands that meet them. -/

open Sys2Proof Sys2Proof.Machine

namespace Slice0

set_option Elab.async false

/-! ### Commands that are not well formed -/

def rq : Req := ⟨0, 1, 2⟩

theorem test_wf_mailbox : (Instr.identityRead ⟨7, 1, 2⟩).wellFormed = false ∧ (Instr.identityRead ⟨6, 1, 2⟩).wellFormed = true := by decide
theorem test_wf_tag : (Instr.identityRead ⟨0, 2 ^ 32, 2⟩).wellFormed = false := by decide
theorem test_wf_seq : (Instr.identityRead ⟨0, 1, 65536⟩).wellFormed = false := by decide
theorem test_wf_byte : (Instr.mailboxStatus rq 256).wellFormed = false ∧ (Instr.mailboxStatus rq 255).wellFormed = true := by decide
theorem test_wf_half : (Instr.calRead rq 0 65536).wellFormed = false := by decide
theorem test_wf_word : (Instr.throttleSet rq (2 ^ 32)).wellFormed = false := by decide
theorem test_wf_long : (Instr.lpddr6Ue (2 ^ 64) .other).wellFormed = false := by decide
theorem test_wf_unit : (Instr.poolCacheRefill 64).wellFormed = false ∧ (Instr.poolCacheRefill 63).wellFormed = true := by decide
theorem test_wf_pll : (Instr.pllLockLoss 0).wellFormed = false ∧ (Instr.pllLockLoss 11).wellFormed = false := by decide
theorem test_wf_readings : (Instr.sensorSample [] []).wellFormed = false := by decide
theorem test_wf_entry : (Instr.read 1 { params := [0] }).wellFormed = false ∧ (Instr.read 1 {}).wellFormed = true := by decide
theorem test_wf_list : (Instr.poolQuotaSet rq 0 0 [2 ^ 32]).wellFormed = false := by decide
theorem test_wf_offset : (Instr.calWrite rq 0 2147483648).wellFormed = false := by decide

/-! ### Chapter 02 -/

theorem test_wf_fields : (Instr.vadd 0 { d := 16 }).wellFormed = false ∧ (Instr.vadd 0 { d := 15 }).wellFormed = true := by decide

/-- An accelerator port in service. -/
def accel : Port := { logical := 1, kind := .accel, block := 0, up := true }

/-- A running block that leads its group of one, with an accelerator port and a job. -/
def ready : State :=
  { gauge := { sources := [{ port := 1 }], jobTag := 7 }
    switch := { ports := [accel] }
    power := { boot := .running, rstOut := false, nandWp := false, maintOff := false, ucieIdle := false } }

/-- A member that does not lead. -/
def worker : State := { ready with group := { manager := 1, members := [(0, .active), (1, .active)] } }

/-- A request from the manager. -/
def fromManager : Req := ⟨5, 1, 2⟩

/-- A Gauge frame of a job, mark and step (R55). -/
def gaugeBytes (tag mark step : Nat) : Bytes := natLe 1 1 ++ natLe 1 mark ++ natLe 2 tag ++ natLe 4 step ++ List.replicate 38 0

theorem witness_GaugeFrameFilter : ready.isAccel 1 = true ∧ (ready.source 1).quarantined = false ∧
    (ready.judgeFrame (ready.source 1) (gaugeBytes 7 0 16)).reason = 0 ∧ (ready.judgeFrame (ready.source 1) (gaugeBytes 7 0 17)).reason = 5 ∧
    (ready.judgeFrame (ready.source 1) (gaugeBytes 7 16 1)).reason = 1 ∧ (ready.judgeFrame (ready.source 1) (gaugeBytes 8 0 1)).reason = 2 ∧
    (ready.judgeFrame (ready.source 1) (gaugeBytes 7 0 (2 ^ 31))).reason = 6 ∧
    (ready.judgeFrame (ready.source 1) (gaugeBytes 7 0 (2 ^ 32 - 1))).reason = 4 := by decide

/-- The example of R59: the source stands at 4,294,967,290:5 since 97.0 µs. -/
def wrapped (n : Nat) : State :=
  { ready with now := n, gauge := { ready.gauge with sources := [{ port := 1, lastStep := 4294967290, lastMark := 5, lastTime := some 261900 }] } }

theorem test_r59_accepted : (wrapped 270000).judgeFrame ((wrapped 270000).source 1) (gaugeBytes 7 0 0xFFFFFFFB) = .accepted 1 0 := by decide
theorem test_r59_rate : (wrapped 267000).judgeFrame ((wrapped 267000).source 1) (gaugeBytes 7 1 0xFFFFFFFB) = .rate := by decide
theorem test_r59_wrap : (wrapped 270000).judgeFrame ((wrapped 270000).source 1) (gaugeBytes 7 2 3) = .accepted 9 2 := by decide

theorem witness_PublishedGaugeNeverDecreases :
    let s : State := { ready with gauge := { ready.gauge with summaries := [{ device := 0, lo := ⟨1, 0⟩, hi := ⟨2, 0⟩ }] } }
    s.isManager = true ∧ s.within s.gauge.pubAt (s.us 1) = false ∧ s.reduced = some (⟨1, 0⟩, ⟨2, 0⟩) := by decide

theorem witness_GaugeSettings : FormOk ready rq 0x0410 ∧ MayManage ready rq ∧ MayManage worker fromManager ∧
    gaugeConfigCheck rq 1 1 1 1 2 ready = none ∧ gaugeConfigCheck rq 65535 1024 3600 64 1000 ready = none ∧
    gaugeConfigCheck rq 1 1025 1 1 2 ready = some (badParam 2) := by decide

/-- A plan of one destination, which the block runs. -/
def aPlan : Plan :=
  { stream := 0, datasetId := 9, total := 100, startStep := 5, startEpoch := 0, perDest := 4, subReserve := 0, subTries := 0
    dests := [⟨1, 0, 0⟩] }

theorem witness_GaugeAndWeirRun :
    worker.summary = some (⟨0, 0⟩, ⟨0, 0⟩) ∧ worker.isManager = false ∧ worker.gauge.sentSummary ≠ some (⟨0, 0⟩, ⟨0, 0⟩) ∧
    (let s : State := { ready with gauge := { ready.gauge with summaries := [{ device := 1, lo := ⟨1, 0⟩, hi := ⟨2, 0⟩ }] } }
     s.isManager = true ∧ (s.gauge.summaries.find? (fun y => decide (y.device = 1))).isSome = true ∧
       s.gauge.summaries.any (fun y => decide (y.device = 1) && y.removed) = false) ∧
    ready.gauge.hold = false ∧ FormOk ready rq 0x0411 ∧ FormOk ready rq 0x0412 ∧ ready.isAccel 1 = true ∧ ready.power.clkMode ≠ 2#2 ∧
    worker.power.tbRing = false ∧ Gauge.lt ready.gauge.committed ⟨1, 0⟩ = true ∧ Gauge.lt ready.gauge.committed ⟨0, 0⟩ = false ∧
    eventArmCheck rq 0 0 1 0 0 0 0 ready = none ∧
    (let s : State := { ready with gauge := { ready.gauge with armed := [{ handle := 1, kind := .epochRollover, target := ⟨1, 0⟩ }] } }
     FormOk s rq 0x0414 ∧ MayManage s rq ∧ s.gauge.armed.find? (fun x => decide (x.handle = 1))
       = some { handle := 1, kind := .epochRollover, target := ⟨1, 0⟩ } ∧ s.followsCommitted ⟨1, 0⟩ = true) ∧
    weirArmCheck rq 0 1 1 0 { ready with plan := { active := some (0, aPlan) } } = none ∧ FormOk ready rq 0x0421 ∧ ready.gauge.weir = none ∧
    (let w : Weir := { target := ⟨1, 0⟩, actions := { startFeed := true } }
     let s : State := { worker with gauge := { weir := some w, timebase := 5 } }
     s.gauge.weir = some w ∧ w.phase = .armed ∧ s.isManager = false ∧ s.gauge.timebase ≤ 5 ∧ 4 < s.gauge.timebase) ∧
    (let w : Weir := { target := ⟨1, 0⟩, actions := { startFeed := true }, phase := .sent, tOpen := some 5 }
     let s : State := { ready with gauge := { weir := some w, timebase := 5 } }
     s.gauge.weir = some w ∧ w.phase = .sent ∧ w.tOpen = some 5 ∧ s.isManager = true ∧ s.det.resumeWaiter = none) := by decide

/-! ### Chapters 03 to 05 -/

/-- A pool of four buffers, one of them held. -/
def aPool : Pool :=
  { num := 3, space := 0, bufSize := 4096, count := 4, base := 0x100000, ringBase := 0, heldBase := 0, cached := 3, held := [(1, 7)]
    quotas := [(6, 2), (7, 1)] }

def pooled : State := { ready with pools := { pools := [aPool] } }

theorem witness_PoolsAllocate : pooled.pool? 3 = some aPool ∧ arbWinner aPool.arb ([6, 300].filter (fun x => decide (x < 256))) = some 6 ∧
    aPool.heldBy 6 < aPool.quota 6 ∧ 0 < pooled.grantable aPool ∧ 0 < aPool.cached ∧ aPool.held.Pairwise (fun a b => a.1 < b.1) ∧
    (∀ h ∈ aPool.held, h.1 < aPool.count) ∧ arbWinner aPool.arb ([7].filter (fun x => decide (x < 256))) = some 7 ∧
    aPool.quota 7 ≤ aPool.heldBy 7 := by decide

/-- The pointer of a buffer of pool 3 at an address. -/
def ptr (a : Nat) : Nat := a + 3 * 2 ^ 41

theorem witness_ReturnChecksInOrder :
    (pooled.returnBuffer 7 (2 ^ 47)).2 = 1 ∧ (pooled.returnBuffer 7 0x100000).2 = 2 ∧ (pooled.returnBuffer 7 (ptr 0x100000 + 2 ^ 40)).2 = 3 ∧
    (pooled.returnBuffer 7 (ptr 0xFFFFF)).2 = 4 ∧ (pooled.returnBuffer 7 (ptr 0x104000)).2 = 4 ∧ (pooled.returnBuffer 7 (ptr 0x100001)).2 = 5 ∧
    (pooled.returnBuffer 7 (ptr 0x103000)).2 = 6 ∧ (pooled.returnBuffer 6 (ptr 0x101000)).2 = 7 ∧ (pooled.returnBuffer 7 (ptr 0x101000)).2 = 0 := by
  decide

/-- A pool to be created. -/
def newPool (count : Nat) : Pool := { num := 0, space := 0, bufSize := 256, count := count, base := poolRegionStart, ringBase := poolRegionStart + 0x10000000
                                      heldBase := poolRegionStart + 0x20000000 }

theorem witness_PoolCommandsRun :
    pooled.checkReturn 7 (ptr 0x101000) = (0, 1) ∧ pooled.pools.waitRefill = [] ∧
    (let p : Pool := { aPool with cached := 2 }
     p.cached ≤ 64 ∧ p.held.length + p.cached < p.count) ∧ FormOk ready rq 0x0230 ∧
    poolCreateCheck (newPool 65536) ready = none ∧ poolCreateCheck (newPool 65537) ready = none ∧
    FormOk pooled rq 0x0231 ∧ pooled.isHeld (.pool 3) = false ∧ FormOk pooled rq 0x0232 ∧ poolQuotaCheck 3 6 [1, 1] pooled = none ∧
    FormOk pooled rq 0x0233 := by decide

def aBlock : Superblock := { num := 4, stripeSet := 0, usage := .conv, valid := [1, 2] }

/-- A Reservoir with a die, two superblocks and conventional space. -/
def stored : State :=
  { ready with media := { convSuperblocks := 1, zoneCount := 2, dies := [{ channel := 0, target := 0 }]
                          superblocks := [aBlock, { num := 5, stripeSet := 0, usage := .convFree },
                                          { num := 6, stripeSet := 0 }] } }

theorem witness_ReservoirRuns :
    stored.superblock? 4 = some aBlock ∧ stored.media.waitingWrites = [] ∧ (stored.die? 0 0).map (·.failed) = some false ∧
    (let w : Staged := { seq := 0, lba := stored.convBlocks, data := [1] }
     let s : State := { stored with media := { stored.media with staged := [w] } }
     s.media.staged.find? (fun w => !w.programmed) = some w ∧ s.convBlocks ≤ w.lba) ∧
    (let s : State := { stored with media := { stored.media with superblocks := [{ aBlock with refresh := true }] } }
     (s.superblock? 4).map (·.refresh) = some true ∧ s.media.relocations = []) ∧
    stored.freeConv.length ≤ stored.media.policy.gcStart ∧
    (stored.media.superblocks.filter (fun b => decide (b.usage = .conv) && !stored.relocating b.num
      && decide (stored.media.convOpen ≠ some b.num))) = [aBlock] ∧
    (let s : State := { stored with media := { stored.media with superblocks := [{ aBlock with erases := 1000 }, { num := 5, stripeSet := 0, usage := .convFree }] } }
     s.media.policy.wlSpread < s.eraseSpread) ∧
    (let b : Superblock := { aBlock with reads := [300000] }
     stored.readThreshold b.erases ≤ b.reads.getD 0 0) ∧
    stored.relocating 4 = false ∧ (stored.destinations aBlock).length = 1 ∧
    FormOk stored rq 0x0801 ∧ FormOk stored rq 0x0802 ∧ FormOk stored rq 0x0803 ∧ FormOk stored rq 0x0804 ∧ stored.isHeld .media = false ∧
    stored.media.geometry.dataBlocks * 4096 ≤ stored.convMax * (stored.media.geometry.dataBlocks * 4096) := by decide

def aPair : QueuePair := { num := 1, depth := 16, sqBase := windowBase, cqBase := windowBase + 0x10000, sqHead := 1, sqTail := 1 }

/-- A pair whose entry `e` has been fetched and not begun. -/
def beginsWith (s : State) (e : SqEntry) : State := { s with queues := { pairs := [{ aPair with fetched := [{ slot := 0, entry := e }] }] } }

def reads (slba : Nat) : SqEntry := { opcode := 1, cmdId := 9, bufAddr := windowBase, slba := slba, nlb := 1 }

theorem witness_FailedReadFreezesPair :
    let s : State := beginsWith { stored with media := { stored.media with unreadable := [3] } } (reads 3)
    s.beginning 1 (reads 3) = some 0 ∧ (s.qp? 1).map (fun p => (p.frozen, p.resetting, p.logWaiters)) = some (false, none, []) ∧
      (s.readFault 3 1).isSome = true := by decide

theorem witness_BlocksAreReadAndWritten :
    (let s := beginsWith stored (reads 3)
     s.beginning 1 (reads 3) = some 0 ∧ s.readFault 3 1 = none) ∧
    (let s := beginsWith stored { reads 3 with opcode := 2 }
     s.media.waitingWrites.any (fun x => decide (x.1 = 1)) = false ∧ s.media.readOnly = false ∧ 3 < s.convBlocks ∧ s.mayStage 3 1 = true) ∧
    (let e : SqEntry := { reads stored.convBlocks with opcode := 3 }
     let s := beginsWith stored e
     s.beginning 1 e = some 0 ∧ s.zoneWriteFault (s.zoneOf e.slba) e.nlb none = none ∧ s.mayStage e.slba e.nlb = true) ∧
    (let w : Staged := { seq := 0, lba := 3, data := [1], programmed := true, committed := true }
     w.durable = true ∧ w.through = false ∧ stored.media.flushes = [] ∧ stored.media.stagePending = none) := by decide

theorem witness_StorageQueuesRun :
    (let s := beginsWith stored (reads 3)
     s.qp? 1 = some { aPair with fetched := [{ slot := 0, entry := reads 3 }] } ∧ s.qp? 2 = none ∧
       ringCount 16 1 1 ≤ ringCount 16 1 0 ∧ ringCount 16 1 (1 : Nat) < ringCount 16 1 2) ∧
    (let p : QueuePair := { aPair with sqTail := 2, waiting := [⟨0, 9, 0, 0, 1, 1, 0⟩] }
     let s : State := { stored with queues := { pairs := [p], unsignalled := 3 :: List.replicate 23 0 } }
     ((s.queues.pairs.filter s.mayFetch).map (·.num)).contains 0 = false ∧
       arbWinner s.queues.arb ((s.queues.pairs.filter s.mayFetch).map (·.num)) = some 1 ∧ s.mayFetch p = true ∧ p.cqFull = false ∧
       s.queues.unsignalled.getD (8 - 8) 0 ≠ 0) ∧
    featureBad 1 8 = false ∧ (beginsWith stored (reads 3)).sessionFault (.storage 1) 0 4096 = none ∧
    (let n : QueuePair := { num := 2, depth := 16, sqBase := windowBase, cqBase := windowBase + 0x10000 }
     (stored.pairFaults n 36 40 48).any (·.1) = false ∧ stored.qp? 2 = none) ∧
    FormOk stored rq 0x0810 ∧ FormOk stored rq 0x0811 ∧ stored.isHeld (.storageQp 0) = false := by decide

/-! ### Chapter 06: blobs in memory -/

/-- The cells of bytes laid from an address upward. -/
def cells : Nat → Bytes → Memory
  | _, [] => []
  | a, b :: bs => if b = 0 then cells (a + 1) bs else (a, b) :: cells (a + 1) bs

theorem read_cells_low (x a : Nat) (bs : Bytes) (h : x < a) : Memory.read (cells a bs) x = 0 := by
  induction bs generalizing a with
  | nil => rfl
  | cons b bs ih =>
    unfold cells
    split
    · exact ih (a + 1) (by omega)
    · simp only [Memory.read, if_neg (show ¬ a = x by omega)]
      exact ih (a + 1) (by omega)

theorem readBytes_skip (a : Nat) (b : Byte) (m : Memory) (x n : Nat) (h : a < x) :
    Memory.readBytes ((a, b) :: m) x n = Memory.readBytes m x n := by
  induction n generalizing x with
  | zero => rfl
  | succ n ih =>
    simp only [Memory.readBytes, Memory.read, if_neg (show ¬ a = x by omega)]
    rw [ih (x + 1) (by omega)]

theorem read_cells (a : Nat) (bs : Bytes) : Memory.readBytes (cells a bs) a bs.length = bs := by
  induction bs generalizing a with
  | nil => rfl
  | cons b bs ih =>
    unfold cells
    split
    · next h =>
      simp only [List.length_cons, Memory.readBytes, read_cells_low a (a + 1) bs (by omega), ih, h]
    · simp only [List.length_cons, Memory.readBytes, Memory.read, if_true, readBytes_skip a b _ (a + 1) _ (by omega), ih]

/-- A state with a blob at the start of the host window. -/
def holding (s : State) (bs : Bytes) : State := { s with mem := cells windowBase bs }

theorem load_holding (s : State) (bs : Bytes) (n : Nat) (h : n = bs.length) (w : n ≤ windowSize) :
    (holding s bs).loadSource 0 windowBase n = .ok bs := by
  have hw : inWindow windowBase n = true := by simp [inWindow, w]
  subst h
  simp only [State.loadSource, State.memRead, if_true, hw, holding, read_cells]

/-- The least recipe: a packing section that packs no field. -/
def aRecipe : Bytes := [0x52, 0x43, 0x50, 0x45] ++ natLe 2 1 ++ natLe 2 1 ++ natLe 4 152 ++ natLe 4 0 ++ List.replicate 48 0
  ++ natLe 2 4 ++ natLe 2 0 ++ natLe 4 80 ++ natLe 2 0xFFFF ++ natLe 2 1 ++ natLe 4 0 ++ natLe 2 1 ++ natLe 1 2 ++ natLe 1 0
  ++ List.replicate 52 0 ++ List.replicate 16 0xFF

/-- The bytes of `aPlan`, a program of one HALT, a reference set of one signature. -/
def aProgram : Bytes :=
  let h : Bytes := [0x4E, 0x47, 0x59, 0x58] ++ natLe 2 1 ++ natLe 2 1 ++ natLe 4 1 ++ natLe 4 4096 ++ natLe 2 1 ++ natLe 2 0 ++ natLe 4 0
    ++ natLe 4 1 ++ natLe 1 1 ++ natLe 1 1 ++ List.replicate 30 0
  h ++ natLe 4 (crc32c (h ++ natLe 8 1)) ++ natLe 8 1

def aSet : Bytes :=
  let h : Bytes := [0x44, 0x55, 0x50, 0x53] ++ natLe 2 1 ++ natLe 2 0 ++ natLe 4 1 ++ natLe 4 (crc32c (List.replicate 32 7)) ++ List.replicate 12 0
  h ++ natLe 4 (crc32c h) ++ List.replicate 32 7

/-- The Ingot of a dataset of one record, at LBA 0, and its manifest. -/
def anIngot : Bytes :=
  let i := natLe 5 4096 ++ natLe 3 0 ++ natLe 4 32 ++ natLe 4 0
  ingotHeader 9 0 1 4096 8192 (crc32c i) ++ i

def aManifest : Bytes :=
  let h : Bytes := [0x49, 0x4E, 0x47, 0x4D] ++ natLe 2 1 ++ natLe 2 0 ++ natLe 8 9 ++ natLe 8 1 ++ natLe 4 1 ++ List.replicate 32 0
  let e := manifestEntryBytes 0 0 1 2 (fieldAt anIngot 60 4)
  h ++ natLe 4 (crc32c (h ++ e)) ++ e

/-- A device with the Ingot in zone 0. -/
def withIngot : State :=
  { ready with media := { zoneCount := 2, zones := [(0, { status := .open, superblock := some 4, wp := 2 })], data := cells 0 anIngot } }

/-- A device with the catalogue of that dataset. -/
def catalogued : State :=
  { ready with plan := { datasets := [{ id := 9, total := 100, ingots := [] }], catalogues := [{ datasetId := 9, total := 100, entries := [(0, 0)] }]
                         plans := [(0, aPlan)], recipes := [(0, aRecipe)] } }

/-! A vocabulary of the 256 byte tokens and one more. -/

def vocabEntry (i : Nat) : Bytes := natLe 4 (if i < 256 then i else 65) ++ natLe 2 (if i < 256 then 1 else 2) ++ [0, 0]
def vocabText : Bytes := (List.range 256).map (BitVec.ofNat 8)
def vocabBody : Bytes := (List.range 257).flatMap vocabEntry ++ vocabText
def vocabHead : Bytes := [0x56, 0x4F, 0x43, 0x42] ++ natLe 2 1 ++ [0, 0] ++ natLe 4 257 ++ natLe 4 0 ++ natLe 2 0 ++ natLe 2 64 ++ natLe 4 0xFFFFFFFF
  ++ natLe 8 2120 ++ natLe 8 2120 ++ natLe 8 2120 ++ natLe 8 2376 ++ natLe 4 2267800841 ++ natLe 4 2727686412
def aVocab : Bytes := vocabHead ++ vocabBody

theorem vocabEntry_length (i : Nat) : (vocabEntry i).length = 8 := rfl

theorem vocabHead_length : vocabHead.length = 64 := rfl

/-- The bytes of an entry list from entry `i` on. -/
theorem entries_drop (t : Bytes) (n : Nat) : ∀ (s i : Nat), i < n →
    ((List.range' s n).flatMap vocabEntry ++ t).drop (8 * i) = vocabEntry (s + i) ++ ((List.range' (s + i + 1) (n - i - 1)).flatMap vocabEntry ++ t) := by
  induction n with
  | zero => intro s i h; omega
  | succ n ih =>
    intro s i h
    rw [List.range'_succ, List.flatMap_cons, List.append_assoc]
    cases i with
    | zero => rfl
    | succ i =>
      rw [show 8 * (i + 1) = (vocabEntry s).length + 8 * i by rw [vocabEntry_length]; omega, List.drop_length_add_append,
        ih (s + 1) i (by omega)]
      rw [show s + 1 + i = s + (i + 1) by omega, show n - i - 1 = n + 1 - (i + 1) - 1 by omega]

theorem drop_head (h b : Bytes) (n i : Nat) (e : h.length = n) : (h ++ b).drop (n + i) = b.drop i := by
  rw [← e, List.drop_length_add_append]

theorem field_entry (h t : Bytes) (i k n : Nat) (e : h.length = 64) (l : i < 257) (f : k + n ≤ 8) :
    fieldAt (h ++ ((List.range 257).flatMap vocabEntry ++ t)) (64 + 8 * i + k) n = leNat (((vocabEntry i).drop k).take n) := by
  rw [fieldAt, Nat.add_assoc, drop_head _ _ _ _ e, ← List.drop_drop, List.range_eq_range', entries_drop t 257 0 i l, Nat.zero_add,
    List.drop_append_of_le_length (by rw [vocabEntry_length]; omega), List.take_append_of_le_length]
  rw [List.length_drop, vocabEntry_length]; omega

theorem aVocab_field (i k n : Nat) (h : i < 257) (f : k + n ≤ 8) : fieldAt aVocab (64 + 8 * i + k) n = leNat (((vocabEntry i).drop k).take n) :=
  field_entry vocabHead vocabText i k n vocabHead_length h f

theorem orElse_none {α : Type} {a : Option α} {f : Unit → Option α} (h : a = none) (g : f () = none) : a.orElse f = none := by
  rw [h]; exact g

theorem findSome_none {f : Nat → Option Nat} {n : Nat} (h : ∀ i < n, f i = none) : (List.range n).findSome? f = none := by
  rw [List.findSome?_eq_none_iff]; intro i hi; exact h i (List.mem_range.mp hi)

theorem aVocab_count : vocabCount aVocab = 257 := by decide +kernel

theorem aVocab_base : fieldAt aVocab 24 8 = 2120 := by decide +kernel

theorem entry_fields : ∀ i < 257, leNat (((vocabEntry i).drop 0).take 4) = (if i < 256 then i else 65) ∧
    leNat (((vocabEntry i).drop 4).take 2) = (if i < 256 then 1 else 2) ∧ leNat (((vocabEntry i).drop 6).take 1) = 0 ∧
    leNat (((vocabEntry i).drop 7).take 1) = 0 := by decide +kernel

theorem aVocab_offset (i : Nat) (h : i < 257) : fieldAt aVocab (64 + 8 * i) 4 = (if i < 256 then i else 65) := by
  have := aVocab_field i 0 4 h (by omega)
  rw [Nat.add_zero] at this
  rw [this, (entry_fields i h).1]

theorem aVocab_length (i : Nat) (h : i < 257) : fieldAt aVocab (64 + 8 * i + 4) 2 = (if i < 256 then 1 else 2) := by
  rw [aVocab_field i 4 2 h (by omega), (entry_fields i h).2.1]

theorem aVocab_flags (i : Nat) (h : i < 257) : fieldAt aVocab (64 + 8 * i + 6) 1 = 0 := by
  rw [aVocab_field i 6 1 h (by omega), (entry_fields i h).2.2.1]

theorem aVocab_last (i : Nat) (h : i < 257) : fieldAt aVocab (64 + 8 * i + 7) 1 = 0 := by
  rw [aVocab_field i 7 1 h (by omega), (entry_fields i h).2.2.2]

/-- The CRC of R154 with its register brought to a numeral at every byte. -/
def crcForced : Bytes → Nat → Nat
  | [], c => c
  | b :: bs, 0 => crcForced bs (crcStep 8 (0 ^^^ b.toNat))
  | b :: bs, c + 1 => crcForced bs (crcStep 8 ((c + 1) ^^^ b.toNat))

theorem crcForced_eq (bs : Bytes) (c : Nat) : crcForced bs c = crcBytes c bs := by
  induction bs generalizing c with
  | nil => cases c <;> rfl
  | cons b bs ih => cases c <;> exact ih _

theorem vocab_forced : crcForced vocabBody 0xFFFFFFFF = 2267800841 ^^^ 0xFFFFFFFF := by decide +kernel

theorem vocab_crc : crc32c (aVocab.drop 64) = 2267800841 := by
  have h : aVocab.drop 64 = vocabBody := drop_head vocabHead vocabBody 64 0 vocabHead_length
  rw [h, crc32c, ← crcForced_eq, vocab_forced]; decide

theorem vocab_rule1 : vocabRule1 2376 aVocab = none := by
  unfold vocabRule1
  rw [vocab_crc]
  refine orElse_none (by decide +kernel) ?_
  rw [aVocab_count]
  refine findSome_none fun i hi => ?_
  simp only [aVocab_length i hi, aVocab_flags i hi, aVocab_last i hi]
  split <;> rfl

theorem aVocab_text : aVocab.drop 2120 = vocabText := by decide +kernel

theorem vocab_token : ∀ i < 256, (vocabText.drop i).take 1 = [BitVec.ofNat 8 i] := by decide +kernel

theorem vocab_rule2 : vocabRule2 2376 aVocab = none := by
  unfold vocabRule2
  rw [aVocab_count]
  refine findSome_none fun i hi => ?_
  have t : i < 256 → tokenBytes aVocab i = [BitVec.ofNat 8 i] := by
    intro h
    rw [tokenBytes, aVocab_base, aVocab_offset i hi, show 68 + 8 * i = 64 + 8 * i + 4 by omega, aVocab_length i hi, if_pos h, if_pos h,
      ← List.drop_drop, aVocab_text, vocab_token i h]
  by_cases h : i < 256
  · simp only [aVocab_base, aVocab_offset i hi, aVocab_length i hi, t h, if_pos h, firstFault]
    rw [List.find?_eq_none.mpr]; rfl
    intro x hx
    simp only [List.mem_cons, List.not_mem_nil, or_false] at hx
    rcases hx with rfl | rfl <;> simp; omega
  · simp only [aVocab_base, aVocab_offset i hi, aVocab_length i hi, firstFault, h]
    rfl

theorem vocab_ok : vocabFault 2376 aVocab = none := by
  refine orElse_none (orElse_none (orElse_none (orElse_none vocab_rule1 vocab_rule2) ?_) ?_) ?_
  · show vocabRule3 aVocab (vocabMerges aVocab) 0 [] [] = none
    rw [show vocabMerges aVocab = [] by decide +kernel]; rfl
  · show vocabRule4 aVocab (vocabSpecials aVocab) 0 [] = none
    rw [show vocabSpecials aVocab = [] by decide +kernel]
    show Option.map _ (List.find? _ (List.range (vocabCount aVocab))) = none
    rw [aVocab_count, List.find?_eq_none.mpr]; rfl
    intro i hi
    have h := aVocab_flags i (List.mem_range.mp hi)
    rw [show 64 + 8 * i + 6 = 70 + 8 * i by omega] at h
    simp [tokenSpecial, h, bitOf]
  · show vocabRule5 aVocab = none
    decide +kernel

theorem witness_LoadsAndDropsRun_loads :
    (FormOk (holding withIngot aManifest) rq 0x0301 ∧ (holding withIngot aManifest).loadSource 0 windowBase 96 = .ok aManifest ∧
      (holding withIngot aManifest).checkManifest 96 aManifest = none) ∧
    (FormOk (holding ready aRecipe) rq 0x0310 ∧ MayManage (holding ready aRecipe) rq ∧
      (holding ready aRecipe).loadSource 0 windowBase 152 = .ok aRecipe ∧
      leastFault (recipeFaults 152 aRecipe [] [] ++ ready.recipeSigFault aRecipe) = none ∧ freeHandle [] 16 = some 0) ∧
    (FormOk (holding catalogued aPlan.bytes) rq 0x0402 ∧ (holding catalogued aPlan.bytes).loadSource 0 windowBase 68 = .ok aPlan.bytes ∧
      leastFault ((holding catalogued aPlan.bytes).planFaultsHere 68 aPlan.bytes) = none ∧
      freeHandle ((holding catalogued aPlan.bytes).plan.plans.map (fun x => x.1)) 16 = some 1) ∧
    (FormOk (holding ready aVocab) rq 0x0330 ∧ (holding ready aVocab).loadSource 0 windowBase 2376 = .ok aVocab ∧ vocabFault 2376 aVocab = none ∧
      freeHandle [] 4 = some 0) ∧
    (FormOk (holding ready aSet) rq 0x0340 ∧ (holding ready aSet).loadSource 0 windowBase 64 = .ok aSet ∧ dupSetFault 64 aSet = none ∧
      freeHandle [] 2 = some 0) ∧
    (FormOk (holding ready aProgram) rq 0x0501 ∧ ready.isHeld (.program 63) = false ∧
      (holding ready aProgram).loadSource 0 windowBase 72 = .ok aProgram ∧ imageFault 72 aProgram = none ∧
      ready.storeWords + fieldAt aProgram 8 4 ≤ 8192 ∧ lookup? ready.ngayx.programs 63 = none) := by
  refine ⟨⟨by decide +kernel, load_holding _ _ _ (by decide +kernel) (by decide), by decide +kernel⟩,
    ⟨by decide +kernel, by decide +kernel, load_holding _ _ _ (by decide +kernel) (by decide), by decide +kernel, by decide⟩,
    ⟨by decide +kernel, load_holding _ _ _ (by decide +kernel) (by decide), by decide +kernel, by decide⟩,
    ⟨by decide +kernel, load_holding _ _ _ (by decide +kernel) (by decide), vocab_ok, by decide⟩,
    ⟨by decide +kernel, load_holding _ _ _ (by decide +kernel) (by decide), by decide +kernel, by decide⟩,
    ⟨by decide +kernel, by decide, load_holding _ _ _ (by decide +kernel) (by decide), by decide +kernel, by decide +kernel, by decide⟩⟩

theorem witness_LoadsAndDropsRun_drops :
    FormOk catalogued rq 0x0302 ∧ catalogued.isHeld (.dataset 9) = false ∧ (catalogued.dataset? 9).isSome = true ∧
    catalogued.plansInUse.any (fun p => decide (p.datasetId = 9)) = false ∧
    FormOk catalogued rq 0x0311 ∧ catalogued.isHeld (.recipe 0) = false ∧ (lookup? catalogued.plan.recipes 0).isSome = true ∧
    catalogued.plan.recipe ≠ some 0 ∧ (catalogued.armedOf .recipeChange).any (fun e => decide (e.item = 0)) = false ∧
    FormOk catalogued rq 0x0407 ∧ catalogued.isHeld (.plan 0) = false ∧ (catalogued.plan? 0).isSome = true ∧
    catalogued.plan.active = none ∧
    (let s : State := { catalogued with pipe := { vocabs := [⟨3, [1], aVocab⟩], dupSets := [⟨1, [2], aSet⟩] } }
     FormOk s rq 0x0331 ∧ s.isHeld (.vocab 3) = false ∧ s.pipe.vocabs.any (fun v => decide (v.handle = 3)) = true ∧
     (∀ v ∈ s.pipe.vocabs, v.handle = 3 → ∀ x ∈ s.plan.recipes, vocabDigest x.2 ≠ some v.digest) ∧
     FormOk s rq 0x0341 ∧ s.isHeld (.dupSet 1) = false ∧ s.pipe.dupSets.any (fun v => decide (v.handle = 1)) = true ∧
     (∀ x ∈ s.plan.recipes, filterSection? x.2 = none)) ∧
    (let s := ready.storeProgram 63 aProgram
     FormOk s rq 0x0502 ∧ s.isHeld (.program 63) = false ∧ (lookup? s.ngayx.programs 63).isSome = true ∧ s.programLaunched 63 = false ∧
     s.ngayx.bindings.any (fun b => decide (b.2 = 63)) = false) := by
  decide +kernel

/-- The job of `aPlan` in force from step 5. -/
def running : State :=
  { catalogued with plan := { catalogued.plan with active := some (0, aPlan), recipe := some 0, nextStep := 5 }
                    gauge := { catalogued.gauge with leading := ⟨5, 0⟩, fence := 13 } }

/-- A sample whose record has arrived. -/
def aRecord : Bytes := recordBytes 3 [{ typ := 4, codec := 1, nameId := 2, payload := [65] }]
def aSample : Sample := { id := 0, step := 5, record := 3, phase := .reading, bytes := aRecord, length := 56, buffers := [ptr 0x101000], entry := true }
def sampled (x : Sample) : State := { running with pipe := { samples := [x] } }

/-- A state with one message in the inbox. -/
def received (s : State) (m : Inbound) : State := { s with rdma := { s.rdma with inbox := [m] } }
def aRequest : Inbound := { qp := 5, bytes := natLe 6 3 ++ natLe 2 0 ++ natLe 20 0 ++ natLe 2 8 ++ natLe 2 0 }
def aReply : Inbound := { qp := 5, bytes := natLe 2 8 ++ natLe 1 0 ++ natLe 1 0 ++ natLe 4 4 ++ natLe 4 4 ++ natLe 4 0 }
def aFetch : Fetch := { tag := 8, qp := 5, record := 3, pointer := ptr 0x101000, owner := 58 }

theorem witness_PlansRun_commands :
    FormOk catalogued rq 0x0303 ∧ (catalogued.dataset? 9).isSome = true ∧ FormOk catalogued rq 0x0304 ∧ MayManage catalogued rq ∧
    catalogued.isHeld (.dataset 9) = false ∧ FormOk catalogued rq 0x0401 ∧ catalogued.plan.active = none ∧
    FormOk running rq 0x0403 ∧ running.plan.active = some (0, aPlan) ∧ FormOk catalogued rq 0x0404 ∧ catalogued.plan? 0 = some aPlan ∧
    (catalogued.catalogue? aPlan.datasetId).isSome = true ∧ 99 < aPlan.total ∧ aPlan.startStep ≤ aPlan.lastStep ∧
    FormOk catalogued rq 0x0405 ∧
    planStartCheck rq 0 0 { catalogued with pipe := { rings := [{ port := 1, qp := 1, baseVa := 0, rkey := 0, slots := 4, slotBytes := 4096, tag := 0, credit := 0, region := 0 }] } } = none ∧
    FormOk running rq 0x0406 ∧ MayManage running rq ∧ running.plan.active.isSome = true := by
  decide +kernel

theorem witness_PlansRun_record : (checkRecord aSample.record aSample.bytes).toOption = some [{ typ := 4, codec := 1, nameId := 2, payload := [65] }] := by decide +kernel

theorem witness_PlansRun_preparation :
    running.segmentAt running.plan.nextStep = some (0, aPlan) ∧ running.plan.epochLimit = false ∧
    running.plan.nextStep ≤ running.gauge.leading.step + running.gauge.horizon ∧ running.plan.nextStep ≤ running.gauge.fence ∧
    running.plan.nextStep ≤ aPlan.lastStep ∧
    (let s : State := { running with plan := { running.plan with nextStep := aPlan.lastStep + 1 }
                                     gauge := { running.gauge with leading := ⟨aPlan.lastStep, 0⟩, fence := 2 ^ 40 } }
     s.segmentAt s.plan.nextStep = some (0, aPlan) ∧ aPlan.lastStep < s.plan.nextStep) ∧
    (let s : State := { running with plan := { running.plan with nextStep := 14 } }
     s.segmentAt 14 = some (0, aPlan) ∧ s.gauge.leading.step + s.gauge.horizon < 14) ∧
    (sampled aSample).sample? 0 = some aSample ∧ aSample.phase = .reading ∧ aSample.lost = none ∧ aSample.buffers ≠ [] ∧
    (sampled { aSample with lost := some 110 }).sample? 0 = some { aSample with lost := some 110 } ∧
    (received catalogued aRequest).inboxOf 5 32 = some aRequest ∧ fieldAt aRequest.bytes 6 2 = 0 ∧ fieldAt aRequest.bytes 30 2 = 0 ∧
    ((received ready aRequest).catalogue? ((received ready aRequest).datasetHolding 3)).bind (fun c => c.owner 3) ≠ some 0 ∧
    (let s := received { catalogued with plan := { catalogued.plan with fetches := [aFetch] } } aReply
     s.inboxOf 5 16 = some aReply ∧ s.fetch? 5 8 = some aFetch ∧ fieldAt aReply.bytes 2 1 = 0 ∧
     fieldAt aReply.bytes 4 4 = aFetch.received.length + fieldAt aReply.bytes 8 4 ∧ 0 < fieldAt aReply.bytes 8 4) := by
  decide +kernel

/-! ### Chapters 07 and 08 -/

/-- A recipe of these sections. -/
def recipeOf (l : List (Nat × Bytes)) : Bytes :=
  let b := l.flatMap (fun x => natLe 2 x.1 ++ natLe 2 0 ++ natLe 4 x.2.length ++ x.2)
  [0x52, 0x43, 0x50, 0x45] ++ natLe 2 1 ++ natLe 2 l.length ++ natLe 4 (64 + b.length) ++ List.replicate 52 0 ++ b

/-- One descriptor of a wrapped text field 2; LATE_DEFER and 100 ms. -/
def decodePart (defer : Nat) : Bytes := [1, 0] ++ natLe 1 defer ++ [1] ++ natLe 4 100 ++ List.replicate 8 0 ++ natLe 2 2 ++ [4, 0] ++ List.replicate 20 0
  ++ natLe 2 1 ++ natLe 2 4 ++ natLe 4 1 ++ List.replicate 96 0

/-- One text descriptor of field 2 with MAX_BYTES 4 and MAX_TOKENS 16, and one profile. -/
def textPart : Bytes := [1, 1, 1] ++ List.replicate 5 0 ++ List.replicate 32 1 ++ List.replicate 8 0
  ++ natLe 2 2 ++ [0, 0] ++ natLe 4 4 ++ natLe 4 16 ++ natLe 4 0xFFFFFFFF ++ natLe 4 0xFFFFFFFF ++ List.replicate 12 0
  ++ List.replicate 4 0 ++ natLe 4 16 ++ List.replicate 552 0

def mediaRecipe : Bytes := recipeOf [(1, decodePart 0)]
def deferRecipe : Bytes := recipeOf [(1, decodePart 1)]
def textRecipe : Bytes := recipeOf [(2, textPart)]

def aFrame : FieldFrame := { typ := 4, codec := 0x11, nameId := 2, payload := [1, 2, 3] }
def inSlot : Sample := { aSample with phase := .units, fields := [{ frame := aFrame }] }

/-- A state whose sample stands in slot 0 of Riffle 0. -/
def slotted (recipe : Bytes) (st : SlotState) : State :=
  { running with plan := { running.plan with recipes := [(0, recipe)] }
                 pipe := { samples := [inSlot], riffles := { state := .active, slots := { state := st, sample := 0, name := 2, engine := some 0 } :: List.replicate 23 {} }
                             :: List.replicate 7 { state := .active } } }

/-- The same with the sample before its dispatch. -/
def waiting (recipe : Bytes) (x : Sample) : State :=
  { slotted recipe .free with pipe := { (slotted recipe .free).pipe with samples := [x] } }

def works (st : SlotState) : Bool := match (slotted mediaRecipe st).slotWork 0 0 st with
  | some (x, f, o, d) => decide (x = inSlot) && decide (f = aFrame) && decide (o = 0) && decide (d.nameId = 2)
  | none => false

theorem witness_RifflesRun_slots :
    (let x : Sample := { aSample with phase := .checked, fields := [{ frame := aFrame }] }
     (waiting mediaRecipe x).sample? 0 = some x ∧ x.entry = true ∧ x.phase = .checked ∧
       riffleFields ((waiting mediaRecipe x).recipeBytes 0) x = [aFrame] ∧ (waiting mediaRecipe x).pickSlot 0 = some (0, 0) ∧
       riffleFields ((waiting aRecipe x).recipeBytes 0) x = []) ∧
    works .header = true ∧ works .alloc = true ∧ works .decode = true ∧ works .transform = true ∧
    ((slotted mediaRecipe .decode).slot 0 0).engine = some 0 := by
  decide +kernel

/-- A Riffle whose slot 1 waits for an engine. -/
def contended : Riffle := { state := .active, slots := { state := .decode, engine := some 0 } :: { state := .decode } :: List.replicate 22 {} }

theorem witness_RifflesRun_others :
    contended.waiting ≠ [] ∧
    (let x : Sample := { inSlot with decodeAt := some 0 }
     (waiting deferRecipe x).sample? 0 = some x ∧ x.decodeAt.isSome = true ∧ x.slow = false ∧ x.phase = .units ∧
       { waiting deferRecipe x with det := { exact := false } }.det.exact = false ∧ lateDefer ((waiting deferRecipe x).recipeBytes 0) = true ∧
       lateDefer ((waiting mediaRecipe x).recipeBytes 0) = false) ∧
    (((slotted mediaRecipe .transform).riffle 7).state ≠ .out ∧ ((slotted mediaRecipe .decode).slot 0 0).state = .decode ∧
     (waiting mediaRecipe inSlot).samplesIn 0 = [] ∧ ((waiting mediaRecipe inSlot).riffle 0).sinceFault = none ∧
     0 < (waiting mediaRecipe inSlot).pipe.riffles.length) ∧
    FormOk running rq 0x0320 ∧ FormOk running rq 0x0321 := by
  decide +kernel

/-- A destination queue whose next sample is `x`. -/
def queued (x : Sample) : State :=
  { running with pipe := { samples := [x], dests := [{ dest := 0, next := 6, opens := [{ step := 5, recipe := 0, port := 1 }], head := (5, 0) }] } }

theorem witness_RifflesRun_release :
    (let x : Sample := { aSample with phase := .kept, resumed := true }
     ((queued x).destQ? 0).isSome = true ∧ ((queued x).destQ? 0).bind (queued x).headOf = some x ∧ x.resumed = true) ∧
    (let x : Sample := { aSample with phase := .kept }
     ((queued x).destQ? 0).bind (queued x).headOf = some x ∧ (((queued x).destQ? 0).bind (fun q => batchOf q x)).isSome = true ∧
       filterSection? ((queued x).recipeBytes x.recipe) = none) := by
  decide +kernel

/-- A text field that waits for a stream, and a stream that holds it. -/
def textFrame (n : Nat) : FieldFrame := { typ := 4, codec := 1, nameId := 2, payload := List.replicate n 65 }
def textSample (n : Nat) : Sample := { aSample with phase := .units, fields := [{ frame := textFrame n, data := some (List.replicate n 65) }] }
def plated (x : Sample) (busy : List PlateStream) (st : UnitState) : State :=
  { running with plan := { running.plan with recipes := [(0, textRecipe)] }
                 pipe := { samples := [x], plates := [{ state := st, busy := busy }, { state := st }] } }

theorem witness_DrawplatesRun_text :
    (plated (textSample 4) [] .active).sample? 0 = some (textSample 4) ∧
    ((plated (textSample 4) [] .active).waitingText (textSample 4) 2).isSome = true ∧
    (plated (textSample 4) [] .out).noPlates = true ∧ (plated (textSample 4) [] .active).noPlates = false ∧
    ((plated (textSample 5) [] .active).waitingText (textSample 5) 2).map (fun w => (w.2.maxBytes, (w.1.data.getD []).length)) = some (4, 5) ∧
    ((plated (textSample 4) [] .active).streamFor 0 false).isSome = true ∧
    (let s := plated (textSample 4) [⟨0, .encode 0 2, 0⟩] .active
     s.streamUse 0 0 = some (.encode 0 2) ∧ s.sample? 0 = some (textSample 4) ∧ ((textSample 4).field? 2).isSome = true ∧
       (textDescOf (s.recipeBytes 0) 2).isSome = true ∧ (s.plate 0).state ≠ .out ∧ (s.plate 0).sinceFault = none) ∧
    FormOk running rq 0x0332 := by
  decide +kernel

/-- A returned synthetic message of one token, before and in its stream. -/
def synthSample (tokens : List Nat) : Sample :=
  { aSample with phase := .units, synth := some { tag := 0, profile := 0, tokens := tokens } }

def synthMsg (tokens : List Nat) : Inbound :=
  { qp := 5, bytes := natLe 2 1 ++ natLe 2 0 ++ natLe 4 tokens.length ++ natLe 8 7 ++ List.replicate 16 0 ++ tokens.flatMap (natLe 4) }

/-- The same device with a vocabulary and, in its place, a message on a SYNTH pair. -/
def detok (x : List Sample) (busy : List PlateStream) (m : List Inbound) : State :=
  let s := plated aSample busy .active
  { s with pipe := { s.pipe with samples := x, vocabs := [⟨0, List.replicate 32 1, aVocab⟩] }
           rdma := { s.rdma with inbox := m, qps := [{ index := 5, service := 2 }] } }

def codesOf (tokens : List Nat) : Option (List Byte) := match decodeTokens aVocab { flags := 0, maxNew := 16, stopIds := [], stops := [] } tokens with
  | .ok d => some d.text
  | .error _ => none

theorem witness_DrawplatesRun_synth :
    (detok [] [] [synthMsg [65]]).synthMessage = some (synthMsg [65]) ∧ (detok [] [] [synthMsg [65]]).synthFault (synthMsg [65]).bytes = none ∧
    ((detok [] [] [synthMsg [65]]).streamFor 0 true).isSome = true ∧
    (let s := detok [synthSample [65]] [⟨0, .decode 0, 0⟩] []
     s.streamUse 0 0 = some (.decode 0) ∧ s.sample? 0 = some (synthSample [65]) ∧
       profile? (s.recipeBytes 0) 0 = some { flags := 0, maxNew := 16, stopIds := [], stops := [] } ∧
       s.vocabOf (s.recipeBytes 0) = aVocab ∧ codesOf [65] = some [65] ∧ codesOf [257] = none) ∧
    FormOk (detok [] [] []) rq 0x0333 ∧ (lookup? (detok [] [] []).plan.recipes 0).isSome = true ∧ inWindow windowBase 16 = true ∧
    ((detok [] [] []).probe ((detok [] [] []).recipeBytes 0) 1 0 (natLe 4 65)).isSome = true := by
  decide +kernel

/-! ### Chapters 09 to 11 -/

/-- A filter section that requires field 9; one with a near-duplicate check at threshold 128; kernels of one HALT. -/
def filterPart (rules source dup : Nat) (rest : Bytes) : Bytes :=
  natLe 1 rules ++ [0, 0, 0] ++ natLe 1 source ++ natLe 1 dup ++ [128, 0] ++ natLe 2 0xFFFF ++ natLe 2 0xFFFF ++ natLe 2 0 ++ [0, 0]
    ++ (if dup = 0 then List.replicate 32 0 else List.replicate 32 2) ++ natLe 4 16 ++ List.replicate 12 0 ++ rest
def ruleRecipe : Bytes := recipeOf [(3, filterPart 1 0 0 ([1, 0] ++ natLe 2 9 ++ List.replicate 12 0))]
def dupRecipe : Bytes := recipeOf [(3, filterPart 0 1 6 [])]

def screened (recipe : Bytes) (x : Sample) : State :=
  { running with plan := { running.plan with recipes := [(0, recipe)] }
                 pipe := { samples := [x], dupSets := [⟨0, List.replicate 32 2, aSet⟩] } }

/-- A kernel of sample 0 at its bound. -/
def kernelCtx : NgCtx := { id := 128, run := .kernel 0 0 3, prog := [1], executed := 16, budget := 16 }

theorem witness_ScreeningAndAnvilRun_screening :
    (let x : Sample := { aSample with phase := .screening }
     (screened aRecipe x).sample? 0 = some x ∧ filterSection? ((screened aRecipe x).recipeBytes 0) = none ∧
       x.stage < (screened aRecipe x).pipe.stages.length ∧
       (filterSection? ((screened ruleRecipe x).recipeBytes 0)).map (fun f => fixedFault f x) = some (some (401, 9))) ∧
    (let x : Sample := { aSample with phase := .screening, screen := .scored, signature := List.replicate 32 7 }
     (screened dupRecipe x).sample? 0 = some x ∧
       (filterSection? ((screened dupRecipe x).recipeBytes 0)).map (fun f => (screened dupRecipe x).setFault f x) = some (some 410)) ∧
    (let s : State := { screened ruleRecipe aSample with ngayx := { contexts := [kernelCtx] } }
     s.ngayx.contexts.find? (fun c => decide (c.id = 128)) = some kernelCtx ∧ kernelCtx.run = .kernel 0 0 3 ∧ kernelCtx.ended = false ∧
       kernelCtx.budget ≤ kernelCtx.executed ∧ s.sample? 0 = some aSample) := by
  decide +kernel

/-- Vectors that wait for a row tile. -/
def tiles (n : Nat) : State :=
  { running with pipe := { stages := [{}, { vectors := (List.range n).map (fun i => (i, 0)) }] } }

theorem witness_ScreeningAndAnvilRun_anvil :
    128 ≤ ((tiles 128).stageOf 1).vectors.length ∧ (tiles 128).rowTile 1 ≠ [] ∧
    (let s : State := { running with pipe := { anvil := { state := .active, jobs := [(2, .feature [0])] } } }
     s.pipe.anvil.state = .active ∧ s.pipe.anvil.state ≠ .out ∧ s.pipe.anvil.jobs = [(2 * 1, .feature [0])]) ∧
    FormOk running rq 0x0343 ∧ FormOk running rq 0x0342 := by
  decide +kernel

/-- A feed ring of four slots on port 1 over pair 1. -/
def aRing : Ring := { port := 1, qp := 1, baseVa := 0, rkey := 0, slots := 4, slotBytes := 4096, tag := 7, credit := 0x200000, region := 0 }

/-- A destination with its ring, its oldest batch in construction or closed. -/
def feeding (q : DestQueue) (g : Ring) (mem : Memory) : State :=
  { running with pipe := { dests := [q], rings := [g], feedStarted := true }
                 rdma := { running.rdma with qps := [{ index := 1, service := 0, state := .rts }] }
                 plan := { running.plan with nextStep := 5 }
                 mem := mem }
def openBatch : OpenBatch := { step := 5, recipe := 0, port := 1, settled := 4 }
def closedBatch : Batch := { step := 5, port := 1, last := false, header := List.replicate 64 0, payload := List.replicate 64 1 }
def openQueue : DestQueue := { dest := 0, next := 6, opens := [openBatch], head := (5, 4) }
def closedQueue : DestQueue := { dest := 0, next := 6, closed := [closedBatch], head := (5, 4) }

/-- A credit word of tag 7 that says `n` batches are consumed. -/
def creditWord (n tag : Nat) : Memory := cells 0x200000 (natLe 4 n ++ natLe 4 tag)

theorem witness_BatchesAndFeedRun_batches :
    (let q : DestQueue := { dest := 0, next := 5, head := (5, 0) }
     let s := feeding q aRing []
     s.destQOrNew 0 = some q ∧ s.segmentAt 5 = some (0, aPlan) ∧ s.recipeAt 5 = some 0 ∧ s.mayPrepare 5 = true ∧ 5 ≤ aPlan.lastStep ∧
       q.building < (s.queueSet 0).1 ∧ (s.localDests aPlan).contains 0 = true ∧ s.plan.nextStep ≤ q.next) ∧
    (let s := feeding openQueue aRing []
     s.destQ? 0 = some openQueue ∧ s.batchSettled openQueue openBatch = true ∧ (packSection? (s.recipeBytes openBatch.recipe)).isSome = true) ∧
    (let s := feeding closedQueue aRing []
     s.destQ? 0 = some closedQueue ∧ closedQueue.closed.find? (fun b => b.index.isNone) = some closedBatch ∧
       s.proxied closedQueue closedBatch = false ∧ s.ring? 1 = some aRing ∧ s.rqpReady 1 = true ∧ aRing.slotReady = true) ∧
    (let g : Ring := { aRing with written := 2, ignoredRun := 7 }
     let read (m : Memory) : Nat := leNat ((feeding closedQueue g m).memRead g.credit 8)
     (feeding closedQueue g (creditWord 1 7)).ring? 1 = some g ∧ g.lastRead ≠ some (read (creditWord 1 7)) ∧
       g.ignores (read (creditWord 2 7)) = false ∧ g.ignores (read (creditWord 3 7)) = true ∧ g.ignores (read (creditWord 1 6)) = true ∧
       { g with lastRead := some (1 + 7 * 2 ^ 32) }.lastRead = some (read (creditWord 1 7))) := by
  decide +kernel

def synthReady : State :=
  { pooled with media := { zoneCount := 2 }
                pipe := { synth := { config := some (3, 9, 0, 1, 1, 1048576), building := some { first := 0, records := [[1]] } } } }

theorem witness_BatchesAndFeedRun_commands :
    (let s := feeding closedQueue { aRing with port := 2 } []
     FormOk s rq 0x0350 ∧ s.isAccel 1 = true ∧ (s.rqp? 1).isSome = true ∧ s.boundsInUse.any (fun b => decide (4096 < b)) = false ∧
       s.ring? 1 = none ∧ ((s.dropRing 1).highestFree 16383).isSome = true) ∧
    (let s : State := { ready with pipe := { rings := [aRing] } }
     FormOk s rq 0x0351 ∧ (s.ring? 1).isSome = true ∧ s.portPlanned 1 = false) ∧
    FormOk ready rq 0x0352 ∧ FormOk (feeding closedQueue aRing []) rq 0x0353 ∧ FormOk pooled rq 0x0354 ∧
    (1 : Nat) < synthReady.media.zoneCount ∧ (synthReady.pool? 3).isSome = true ∧ pooled.pipe.synth.building = none ∧
    FormOk pooled rq 0x0355 ∧ FormOk pooled rq 0x0356 ∧ synthReady.pipe.synth.due = true := by
  decide +kernel

theorem witness_ProgramsAndControlRun_commands :
    FormOk ready rq 0x0110 ∧ FormOk ready rq 0x0503 ∧
    (let s := ready.storeProgram 63 aProgram
     lookup? s.ngayx.programs 63 = some aProgram ∧ s.programKnown 63 = true ∧ s.programKnown 67 = true ∧ FormOk s rq 0x0504 ∧ MayManage s rq ∧
       s.isHeld (.channel 8) = false ∧ s.isHeld (.program 63) = false) := by
  decide +kernel

/-! ### Chapters 12 and 13: a context about to execute one word -/

/-- Context 3 at an instruction, with zero registers, two input ports of FP32 and an output. -/
def atWord (op : Nat) (w : Fields) : NgCtx :=
  { id := 3, run := .node 0 0 1 0 0, prog := [wordOf op w], budget := 10, grantBytes := 4096, maxChunk := 4096, escBound := 4
    ins := [{ fmt := some .fp32, bytes := List.replicate 8 1 }, { fmt := some .fp32 }], outs := [{ fmt := some .fp32 }, {}] }

def inState (c : NgCtx) : State := { ready with ngayx := { contexts := [c] } }

/-- A word's fields: destination 15, sources 14 and 12, format `f`. -/
def word (f imm : Nat) : Fields := { d := 15, a := 14, b := 12, c := 10, f := f, imm := imm }

def issuesAt (ops : List Nat) (w : Fields) : Bool :=
  w.wf && ops.all (fun op => (atWord op w).fits && (atWord op w).about op w && decide ((inState (atWord op w)).ctx? 3 = some (atWord op w)))

theorem witness_ProgramsAndControlRun_control : issuesAt [1, 2, 3, 4, 5, 6, 7, 8, 9] (word 0 1023) = true ∧
    (inState (atWord 1 {})).ctx? 4 = none ∧ (atWord 1 {}).about 2 {} = false ∧
    (let c : NgCtx := { atWord 1 {} with executed := 10 }
     (inState c).ctx? 3 = some c ∧ c.run = .node 0 0 1 0 0 ∧ c.ended = false ∧ c.budget ≤ c.executed) := by
  decide +kernel

theorem witness_NgayxScalarsRun :
    issuesAt [0x10, 0x11, 0x12, 0x13, 0x14, 0x15, 0x16, 0x17, 0x18, 0x19, 0x1A, 0x1B, 0x1C] (word 0 (2 ^ 28 - 1)) = true ∧
    issuesAt [0x1D, 0x20, 0x21, 0x22, 0x23, 0x24, 0x25] (word 1 127) = true ∧ (word 1 127).fmt.cls ≠ .blk ∧
    (word 1 127).imm % 1024 < lanes (word 1 127).fmt := by
  decide +kernel

theorem witness_NgayxArithmeticRuns :
    issuesAt [0x30, 0x31, 0x32, 0x33, 0x34, 0x35, 0x36, 0x37] (word 1 0) = true ∧ (word 1 0).fmt.cls ≠ .blk ∧
    issuesAt [0x30, 0x31, 0x32, 0x34, 0x35, 0x36, 0x37] (word 0x10 0) = true ∧ (word 0x10 0).fmt.cls = .blk ∧
    (readReg (word 0x10 0).fmt 0 7).1.isSome = true ∧ (readReg (word 0x10 0).fmt (0xFF * 2 ^ 64) 0).1 = none ∧
    ({ atWord 0x30 (word 0x10 0) with p := List.replicate 8 1 }.gov { word 0x10 0 with pe := 1 } 0) = true ∧
    ({ atWord 0x30 (word 0x10 0) with p := List.replicate 8 1 }.gov { word 0x10 0 with pe := 1 } 32) = false ∧
    (∀ k ∈ ((regBlocks .b4 0).getD 1 (zeroBlock .b4)).elems, (viewFmt .b4 0).value k ≠ .nan) ∧
    (let r := 4 + 0x7F * 2 ^ (128 + 256)
     ∃ k ∈ ((regBlocks .b4 r).getD 1 (zeroBlock .b4)).elems, (viewFmt .b4 r).value k = .nan) := by
  decide +kernel

theorem witness_NgayxMovesAndConvertRun :
    issuesAt [0x38, 0x39, 0x40, 0x41, 0x1E, 0x49, 0x4A, 0x70, 0x72] (word 8 5) = true ∧ issuesAt [0x40] (word 0x10 5) = true ∧
    issuesAt [0x48, 0x4B, 0x71] (word 0 0) = true ∧ (word 8 5).fmt.cls ≠ .blk ∧ (word 8 5).fmt.bits = 32 ∧
    issuesAt [0x50] (word 0x0A (1 + 7 * 32)) = true ∧ (word 0x0A (1 + 7 * 32)).hSel < lanes (word 0x0A 1).fmt / lanes (word 0x0A 1).gFmt ∧
    lanes (word 0x0A 1).gFmt < lanes (word 0x0A 1).fmt ∧ (word 0x0A 1).gFmt.cls ≠ .blk ∧ issuesAt [0x51] (word 1 0x10) = true ∧
    issuesAt [0x52] (word 0x10 33) = true ∧ (word 0x10 33).fmt.cls = .blk ∧ lanes (word 0x10 33).gFmt = 128 ∧ (word 0x10 33).hSel < 2 ∧
    lanes (word 0x10 2).gFmt ≠ 128 ∧
    issuesAt [0x58] (word 8 1) = true ∧ (word 8 1).d ≠ (word 8 1).c ∧
    (let w : Fields := { word 8 1 with d := 2 }
     issuesAt [0x59] w = true ∧ w.d ≠ w.c ∧ w.a % 2 = 0 ∧ w.b % 2 = 0 ∧ w.c % 2 = 0 ∧ w.d % 2 = 0 ∧
       (atWord 0x59 w).pairs w.a (w.a + 1) = List.replicate 128 (0, 0)) := by
  decide +kernel

theorem witness_NgayxMemoryRuns_memory :
    issuesAt [0x62, 0x63] (word 0 3584) = true ∧ (atWord 0x62 (word 0 3584)).sr 14 + 3584 + 512 ≤ (atWord 0x62 (word 0 3584)).grantBytes ∧
    issuesAt [0x62, 0x63] (word 0 3648) = true ∧ (atWord 0x62 (word 0 3648)).grantBytes < 3648 + 512 ∧
    (atWord 0x63 (word 0 0)).grant.wf = true ∧ issuesAt [0x60, 0x61] (word 1 0) = true ∧
    (word 1 0).imm % 8 < lanes (word 1 0).fmt / 128 ∧ 8 ≤ (word 1 0).fmt.bits ∧
    (∀ i < 128, signedOf 32 (laneOf .int32 ((atWord 0x60 (word 1 0)).vr 12) i) = 0) ∧
    ((({ atWord 0x61 { word 1 0 with a := 0 } with v := List.replicate 16 0 }).ins.getD 0 {}).bytes.length / 4 = 2) ∧
    (let c : NgCtx := { atWord 0x61 { word 1 0 with a := 0 } with v := List.replicate 16 2 }
     signedOf 32 (laneOf .int32 (c.vr 12) 0) = 2 ∧ c.fits = true) ∧
    (let c : NgCtx := { atWord 0x60 (word 1 0) with v := List.replicate 16 0xFFFFFFFF }
     signedOf 32 (laneOf .int32 (c.vr 12) 0) = -1 ∧ c.fits = true) ∧
    (let w : Fields := { word 8 0 with a := 0 }
     issuesAt [0x61] w = true ∧ (((atWord 0x61 w).ins.getD w.a {}).fmt) = some .fp32 ∧ w.fmt ≠ .fp32) := by
  decide +kernel

theorem witness_NgayxMemoryRuns_streams :
    (let w : Fields := { word 1 0 with a := 0, b := 0 }
     issuesAt [0x78, 0x79, 0x69, 0x68, 0x7A] w = true ∧ w.fmt.cls ≠ .blk ∧ 8 ≤ w.fmt.bits ∧ ((atWord 0x78 w).ins[w.a]?).map (·.fmt) = some (some w.fmt) ∧
       ((atWord 0x79 w).outs[w.b]?).map (·.fmt) = some (some w.fmt) ∧ (∀ p ∈ (atWord 0x7A w).ins, p.fmt = some w.fmt) ∧
       (∃ p ∈ (atWord 0x7A w).ins, p.ended = false) ∧ (inState (atWord 0x7A w)).det.exact = true ∧ (atWord 0x7A w).exact = true ∧
       (atWord 0x7A w).residuals = none ∧ ((atWord 0x7A w).ins.map (fun p => (readPort p w.fmt).2.1)) = [2, 0]) ∧
    (let w : Fields := { word 0x10 0 with a := 0, b := 1 }
     issuesAt [0x78, 0x79, 0x69] w = true ∧ w.fmt.cls = .blk ∧ ((atWord 0x79 w).outs[w.b]?).map (·.fmt) = some none ∧
       ((atWord 0x78 w).ins[w.a]?).map (·.fmt) = some (some .fp32) ∧ w.fmt ≠ .fp32) ∧
    (let w : Fields := { word 0x10 0 with a := 0, b := 0 }
     ((atWord 0x79 w).outs[w.b]?).map (·.fmt) = some (some .fp32) ∧ w.fmt ≠ .fp32) ∧
    (let w := word 1 0
     let c : NgCtx := { atWord 0x7A w with ins := [{ fmt := some .fp32, ended := true }] }
     c.about 0x7A w = true ∧ ∀ p ∈ c.ins, p.ended = true) := by
  decide +kernel

theorem witness_NgayxRegistersFit : ∀ c ∈ (inState (atWord 1 {})).ngayx.contexts, c.fits = true ∧ ∃ l chunk level node cr, c.run = .node l chunk level node cr := by
  intro c h
  simp only [inState, List.mem_singleton] at h
  subst h
  exact ⟨by decide +kernel, 0, 0, 1, 0, 0, rfl⟩

theorem witness_NgayxWordRoundTrip : (word 31 (2 ^ 28 - 1)).wf = true ∧ bitOf (2 ^ 64 - 1 - 2 ^ 35) 35 = false := by decide +kernel

/-! ### Chapters 14 and 15 -/

/-- A group of ports 1 and 2 of this device, channel 9, and its descriptors. -/
def aSpec : Bytes := [1, 0, 0, 1, 1, 2, 1, 0]
def aDesc (ch step : Nat) : Bytes := natLe 2 0 ++ natLe 2 ch ++ [0, 1, 0, 0] ++ natLe 4 step ++ natLe 2 0xFFFF ++ natLe 2 0 ++ natLe 8 1024
  ++ natLe 4 4096 ++ List.replicate 68 0
def aLaunch : Launch := { id := 0, channel := 9, ordinal := 0, stepLo := 5, spec := aSpec, firstAt := 0, descs := [(1, aDesc 9 5)], missing := [2] }

def grouped (ls : List Launch) (m : List Inbound) (last : Option (Nat × Nat)) : State :=
  { ready with switch := { ports := [accel, { accel with logical := 2, block := 1 }] }
               rdma := { ready.rdma with inbox := m, qps := [{ index := 5, service := 1 }] }
               coll := { channels := [{ num := 9, spec := aSpec, last := last }], ports := [(1, 6), (2, 5)], launches := ls } }

def descMsg (ch step : Nat) : Inbound := { qp := 5, bytes := aDesc ch step }

def heldAs (ls : List Launch) (ch step : Nat) : Bool :=
  let s := grouped ls [descMsg ch step] none
  decide (s.rdma.inbox.find? (fun m => decide (m.qp = 5) && m.imm.isNone) = some (descMsg ch step)) && decide (s.collPortOf 5 = some 2)
    && decide ((aDesc ch step).length = 96) && decide (fieldAt (aDesc ch step) 2 2 = ch)

theorem witness_LaunchesAreDecided_descriptors :
    heldAs [] 7 5 = true ∧ heldAs [] 1024 5 = true ∧ heldAs [] 8 5 = true ∧ heldAs [] 9 5 = true ∧ heldAs [aLaunch] 9 5 = true ∧
    (grouped [] [] none).self ∈ specMembers aSpec ∧ 2 ∈ specPorts aSpec ∧ ((grouped [] [] none).channel 8).spec = [] ∧
    (grouped [aLaunch] [] none).coll.launches.find? (fun l => decide (l.channel = 9) && l.missing.contains 2) = some aLaunch ∧
    ((grouped [] [] (some (6, 0))).channel 9).last = some (6, 0) ∧
    (grouped [aLaunch] [] none).launch? 0 = some aLaunch ∧ aLaunch.phase = .matching ∧ aLaunch.missing ≠ [] ∧
    (let m : Inbound := { qp := 7, bytes := List.replicate 48 0 }
     (received ready m).inboxOf 7 48 = some m) ∧
    { aLaunch with phase := .running, reported := true }.finished = true := by
  decide +kernel

theorem witness_LaunchesAreDecided_votes :
    (let l : Launch := { aLaunch with phase := .voting, votes := [((0, 0), 0, [])] }
     (grouped [l] [] none).launch? 0 = some l ∧ (specMembers l.spec).map (fun m => lookup? l.votes m) = [some (0, [])] ∧
       launchFailure [(0, [])] = none ∧ launchFailure [(41, [])] = some 41) ∧
    (let l : Launch := { aLaunch with phase := .voting }
     ∃ m ∈ specMembers l.spec, lookup? l.votes m = none) := by
  decide +kernel

/-- A chunk of a running launch whose two leaves are here, and one whose node runs in context 3. -/
def leafOp (i : Nat) : LevelOp := { level := 1, src := .leaf i, part := { out0 := [1] } }
def aChunk : Chunk := { n := 0, started := true, ops := [leafOp 0, leafOp 1] }
def runLaunch (c : Chunk) : Launch :=
  { aLaunch with phase := .running, descs := [(1, aDesc 9 5), (2, aDesc 9 5)], missing := [], next := 1, chunks := [c] }
def aRun : ActiveRun := { level := 1, k := 0, inputs := [leafOp 0, leafOp 1], final := true, crucible := 0, ctx := some 3 }
def ranCtx : NgCtx := { id := 3, run := .node 0 0 1 0 0, prog := [1], halted := true }

def isRun (s : State) (l : Launch) (c : Chunk) (level node : Nat) : Bool := match s.nodeRunOf l c level node with
  | some (r, c') => decide (r.inputs = [leafOp 0, leafOp 1]) && c'.started && !c'.ended && l.scratchReady 0 level r.k
      && decide (s.servedFrom r.crucible = some 0) && !s.crucibleDown 0 && decide (s.freeCtx 0 = some 0)
  | none => false

theorem witness_CollectivesRun_nodes :
    (let u := (grouped [runLaunch aChunk] [] none).progress 0
     ∃ l c, u.launch? 0 = some l ∧ l.chunk? 0 0 = some c ∧ c.runs = [] ∧ l.reduces = true ∧ l.exact = true ∧ isRun u l c 1 0 = true) := by
  refine ⟨_, _, (by decide +kernel : ((grouped [runLaunch aChunk] [] none).progress 0).launch? 0 = some (runLaunch aChunk)),
    (by decide +kernel : (runLaunch aChunk).chunk? 0 0 = some aChunk), ?_⟩
  decide +kernel

theorem witness_CollectivesRun_ends :
    (let c : Chunk := { aChunk with ops := [], runs := [aRun] }
     let s : State := { grouped [runLaunch c] [] none with ngayx := { contexts := [ranCtx] } }
     s.ctx? 3 = some ranCtx ∧ s.nodeOf 3 = some (runLaunch c, c, aRun) ∧ ranCtx.ended = true) ∧
    (let c : Chunk := { aChunk with ops := [], out := some { out0 := [2] } }
     (grouped [runLaunch c] [] none).launch? 0 = some (runLaunch c) ∧ (runLaunch c).chunk? 0 0 = some c ∧ c.out = some { out0 := [2] }) ∧
    (let d : CollData := { channel := 9, ordinal := 0, stepLo := 5, chunk := 0, device := 0, side := 0 }
     (grouped [runLaunch aChunk] [] none).coll.launches.find? (fun l => dataIsOf d l && decide (l.phase ≠ .ended)) = some (runLaunch aChunk) ∧
       (grouped [aLaunch] [] none).coll.launches.find? (fun l => dataIsOf d l && decide (l.phase ≠ .ended)) = some aLaunch ∧
       aLaunch.phase ≠ .running) := by
  decide +kernel

def aStore : Residual := { handle := 5, base := residualStart, elems := 4 }
def stores (l : List Residual) : State := { grouped [] [] none with coll := { (grouped [] [] none).coll with stores := l } }

theorem witness_CollectivesRun_commands :
    (let s := grouped [] [] none
     FormOk s rq 0x0510 ∧ MayManage s rq ∧ (s.heldBusy (.channel 8)).1 = false ∧ s.specFault aSpec = none ∧ FormOk s rq 0x0511 ∧
       FormOk s rq 0x0512 ∧ s.isAccel 2 = true ∧ (s.rqp? 5).map (·.service) = some 1 ∧ FormOk s rq 0x0513 ∧
       (s.heldBusy (.residual 63)).1 = false ∧ s.store? 63 = none ∧ (s.residualPlace (2 * 2 ^ 31)).isSome = true ∧ FormOk s rq 0x0516 ∧
       FormOk s rq 0x0517) ∧
    FormOk (stores [aStore]) rq 0x0514 ∧ FormOk (stores [aStore]) rq 0x0515 ∧ MayManage (stores [aStore]) rq ∧
    (stores [aStore]).store? 5 = some aStore ∧ aStore.bound = none ∧ (stores [aStore]).mem.wf = true := by
  decide +kernel

/-- The example of chapter 14: the trees of five local participants and of six devices, and device 40's node indices. -/
theorem test_example_trees :
    (level1Tree 5 16).1.map (fun t => (t.left, t.right, t.crucible)) =
      [(.leaf 0, .leaf 1, 0), (.leaf 2, .leaf 3, 1), (.node 0, .node 1, 2), (.node 2, .leaf 4, 3)] ∧
    (level2Tree 6).1.map (fun t => (t.left, t.right, t.crucible)) =
      [(.leaf 0, .leaf 1, 0), (.leaf 2, .leaf 3, 1), (.node 0, .node 1, 2), (.leaf 4, .leaf 5, 3), (.node 2, .node 3, 4)] ∧
    [0, 1, 2, 3].map (nodeIndex 1 0 40) = [10240, 10241, 10242, 10243] := by decide +kernel

/-- The example of chapter 14: adding 1 to 2,048 in FP16 is a tie that goes to the even code. -/
theorem test_example_tie : (Fmt.fp16.round .rne 0 (addVal (Fmt.fp16.value 0x6800) (Fmt.fp16.value 0x3C00))).1 = 0x6800 := by decide +kernel

/-- A record, and a checkpoint at step 5 that has fired. -/
def aDet (step : Nat) : DetRecord :=
  { mode := 0, datapathRev := 1, fwVersion := 0, fromStep := step, seed := natLe 32 0, recipe := natLe 32 0, plan := natLe 32 0
    format := natLe 32 0, membership := natLe 32 0, map := natLe 32 0, programs := natLe 32 0, treePlan := 0 }
def aSnap : CkptSnap := { record := (aDet 5).bytes, epoch := 0, plan := aPlan.bytes, dests := [0], events := [] }
def aCkpt : Ckpt := { step := 5, params := { full := false, pause := false, toMedia := false, address := windowBase }, phase := .capturing, snap := some aSnap }
def captured (c : Ckpt) : State := { feeding { openQueue with opens := [], next := 5 } aRing [] with det := { records := [aDet 5], ckpt := some c } }

theorem witness_DeterminismRecordsRun :
    (captured aCkpt).recordAt 5 = some (aDet 5) ∧ (captured aCkpt).recordAt 4 = none ∧ (captured aCkpt).det.records.getLast? = some (aDet 5) ∧
    (∀ b ∈ [(aDet 5).seed, (aDet 5).recipe, (aDet 5).plan, (aDet 5).format, (aDet 5).membership, (aDet 5).map, (aDet 5).programs], b.length = 32) ∧
    FormOk ready rq 0x0430 ∧ MayManage ready rq ∧ ready.plan.active = none ∧ running.plan.active ≠ none ∧ FormOk running rq 0x0430 ∧
    MayManage running rq ∧ FormOk (captured aCkpt) rq 0x0431 ∧ FormOk (captured aCkpt) rq 0x0432 ∧ FormOk (captured aCkpt) rq 0x0433 := by
  decide +kernel

/-- A history whose last record is the present one. -/
def recorded : State := { ready with det := { records := [ready.detNow 7] } }

theorem witness_DeterminismRecordsRun_issue (step : Nat) :
    recorded.det.records.getLast? = some (ready.detNow 7) ∧ { ready.detNow 7 with fromStep := step } = recorded.detNow step := by
  have m : recorded.membership = ready.membership := rfl
  have p : recorded.programsDigest = ready.programsDigest := by unfold State.programsDigest; rfl
  have t : recorded.treePlan = ready.treePlan := rfl
  have r : recorded.recipeDigest = ready.recipeDigest := rfl
  refine ⟨rfl, ?_⟩
  simp only [State.detNow, m, p, t, r]
  rfl

theorem witness_CheckpointImageIsAccepted : (captured aCkpt).group.set.deviceId < 128 ∧ (captured aCkpt).group.set.side < 2 ∧
    aSnap.events.length ≤ 256 ∧ aSnap.dests.length ≤ 256 ∧ (captured aCkpt).coll.stores.length ≤ 64 := by decide +kernel

theorem witness_CheckpointsRun_write :
    (captured aCkpt).det.ckpt = some aCkpt ∧ aCkpt.snap = some aSnap ∧ (captured aCkpt).earlierReleased 5 = true ∧
    aSnap.dests.map (fun d => (((captured aCkpt).destQ? d).bind (fun q => q.carryAt 5)).map (fun l => (d, l))) = [(0, [])].map some ∧
    ((captured aCkpt).placeImage false windowBase ((captured aCkpt).ckptImage aCkpt aSnap [(0, [])])).isSome = true ∧
    (captured aCkpt).leads = true ∧ { captured aCkpt with group := worker.group }.leads = false ∧ (captured aCkpt).isManager = true ∧
    worker.isManager = false ∧ aCkpt.phase ≠ .written ∧ (captured aCkpt).lock.restartDue = none ∧
    (let c : Ckpt := { aCkpt with phase := .written }
     (captured c).det.ckpt = some c ∧ ∀ d ∈ (captured c).audience ++ [(captured c).group.set.deviceId], d = 0) := by
  decide +kernel

/-! An image that a resume accepts. -/

def resumable : State := { catalogued with pipe := { rings := [aRing] } }
def resumeRecord : Bytes := { resumable.detNow 0 with recipe := sha256 aRecipe, plan := sha256 aPlan.bytes }.bytes
def imageHead : Bytes := [0x43, 0x4B, 0x50, 0x54] ++ natLe 2 1 ++ [1, 0] ++ natLe 8 5 ++ natLe 4 0 ++ natLe 4 0 ++ natLe 4 0 ++ natLe 4 68 ++ natLe 8 448
  ++ List.replicate 20 0
def imageBody : Bytes := resumeRecord ++ (aPlan.bytes ++ List.replicate 60 0)
def anImage : Bytes := imageHead ++ natLe 4 (crc32c (imageHead ++ imageBody)) ++ imageBody

theorem resumeRecord_length : resumeRecord.length = 256 := by decide +kernel
theorem imageHead_length : imageHead.length = 60 := rfl
theorem imageBody_length : imageBody.length = 384 := by decide +kernel
theorem anImage_length : anImage.length = 448 := by decide +kernel

/-- A field that lies `o` bytes after a prefix of `n`. -/
theorem field_after (h t : Bytes) (n o k : Nat) (e : h.length = n) : fieldAt (h ++ t) (n + o) k = fieldAt t o k := by
  rw [fieldAt, fieldAt, drop_head h t n o e]

theorem slice_front (x t : Bytes) (n : Nat) (e : x.length = n) : sliceAt (x ++ t) 0 n = x := by
  simp [sliceAt, ← e]

theorem slice_after (h t : Bytes) (n o k : Nat) (e : h.length = n) : sliceAt (h ++ t) (n + o) k = sliceAt t o k := by
  rw [sliceAt, sliceAt, drop_head h t n o e]

theorem natLe_length (n v : Nat) : (natLe n v).length = n := by
  induction n generalizing v with
  | zero => rfl
  | succ n ih => simp [natLe, ih]

theorem leNat_natLe (n v : Nat) : leNat (natLe n v) = v % 256 ^ n := by
  induction n generalizing v with
  | zero => simp [natLe, leNat, Nat.mod_one]
  | succ n ih => rw [natLe, leNat, ih, BitVec.toNat_ofNat, show 256 ^ (n + 1) = 2 ^ 8 * 256 ^ n by rw [Nat.pow_succ]; omega, Nat.mod_mul] <;> rfl

theorem crcStep_bound (n : Nat) : ∀ c, c < 2 ^ 32 → crcStep n c < 2 ^ 32 := by
  induction n with
  | zero => intro c h; exact h
  | succ n ih =>
    intro c h
    rw [crcStep]
    split
    · exact ih _ (Nat.xor_lt_two_pow (by omega) (by decide))
    · exact ih _ (by omega)

theorem crcBytes_bound (bs : Bytes) : ∀ c, c < 2 ^ 32 → crcBytes c bs < 2 ^ 32 := by
  induction bs with
  | nil => intro c h; exact h
  | cons b bs ih =>
    intro c h
    exact ih _ (crcStep_bound 8 _ (Nat.xor_lt_two_pow h (by have := b.isLt; omega)))

theorem crc_bound (bs : Bytes) : crc32c bs < 2 ^ 32 := Nat.xor_lt_two_pow (crcBytes_bound bs _ (by decide)) (by decide)

theorem anImage_crc : fieldAt anImage 60 4 = crc32c (anImage.take 60 ++ anImage.drop 64) := by
  have h : anImage = imageHead ++ (natLe 4 (crc32c (imageHead ++ imageBody)) ++ imageBody) := List.append_assoc ..
  have f : fieldAt anImage 60 4 = crc32c (imageHead ++ imageBody) := by
    rw [h, show (60 : Nat) = 60 + 0 from rfl, field_after _ _ 60 0 4 imageHead_length, fieldAt, List.drop_zero,
      List.take_append_of_le_length (Nat.le_of_eq (natLe_length ..).symm), List.take_of_length_le (Nat.le_of_eq (natLe_length ..)), leNat_natLe]
    exact Nat.mod_eq_of_lt (crc_bound _)
  have t : anImage.take 60 = imageHead := by rw [h, ← imageHead_length, List.take_left']; rfl
  have d : anImage.drop 64 = imageBody := by
    have := drop_head (imageHead ++ natLe 4 (crc32c (imageHead ++ imageBody))) imageBody 64 0
      (by rw [List.length_append, natLe_length, imageHead_length])
    rw [Nat.add_zero, List.drop_zero] at this
    exact this
  rw [f, t, d]

theorem anImage_record : imageRecord anImage = resumeRecord := by
  have := slice_after (imageHead ++ natLe 4 (crc32c (imageHead ++ imageBody))) imageBody 64 0 256
    (by rw [List.length_append, natLe_length, imageHead_length])
  rw [imageRecord]
  exact this.trans (slice_front resumeRecord _ 256 resumeRecord_length)

theorem anImage_plan : sliceAt anImage 320 68 = aPlan.bytes := by
  have := slice_after (imageHead ++ natLe 4 (crc32c (imageHead ++ imageBody)) ++ resumeRecord) (aPlan.bytes ++ List.replicate 60 0) 320 0 68
    (by rw [List.length_append, List.length_append, natLe_length, imageHead_length, resumeRecord_length])
  rw [show anImage = imageHead ++ natLe 4 (crc32c (imageHead ++ imageBody)) ++ resumeRecord ++ (aPlan.bytes ++ List.replicate 60 0) by
    rw [anImage, imageBody, List.append_assoc _ resumeRecord]]
  exact this.trans (slice_front aPlan.bytes _ 68 (by decide +kernel))

theorem anImage_recipe : resumable.imageRecipe anImage = some 0 := by
  rw [State.imageRecipe, anImage_record]
  decide +kernel

theorem anImage_same : resumable.wouldHold anImage = resumeRecord := by
  simp only [State.wouldHold, anImage_recipe, show fieldAt anImage 28 4 = 68 by decide +kernel, anImage_plan]
  rfl

theorem mismatch_self (x : Bytes) (h : fieldAt x 2 1 = 0) : recordMismatch x x = none := by
  simp [recordMismatch, h]

theorem anImage_ok : resumable.imageOk anImage = true := by
  simp only [State.imageOk, ← anImage_crc, decide_true, Bool.and_true]
  decide +kernel

theorem witness_CheckpointsRun_resume_check : firstReject (resumable.resumeCheck 0 (some anImage)) = none := by
  simp only [State.resumeCheck, anImage_ok, anImage_same, anImage_record, anImage_recipe, mismatch_self resumeRecord (by decide +kernel)]
  decide +kernel

theorem read_cells_prefix (n : Nat) : ∀ (a : Nat) (bs : Bytes), n ≤ bs.length → Memory.readBytes (cells a bs) a n = bs.take n := by
  induction n with
  | zero => intro a bs _; rfl
  | succ n ih =>
    intro a bs h
    cases bs with
    | nil => simp at h
    | cons b bs =>
      have h' : n ≤ bs.length := by simp at h; omega
      unfold cells
      split
      · next e => simp only [Memory.readBytes, read_cells_low a (a + 1) bs (by omega), ih (a + 1) bs h', List.take_succ_cons, e]
      · simp only [Memory.readBytes, Memory.read, if_true, readBytes_skip a b _ (a + 1) _ (by omega), ih (a + 1) bs h', List.take_succ_cons]

theorem load_prefix (s : State) (bs : Bytes) (n : Nat) (h : n ≤ bs.length) (w : n ≤ windowSize) :
    (holding s bs).loadSource 0 windowBase n = .ok (bs.take n) := by
  have hw : inWindow windowBase n = true := by simp [inWindow, w]
  simp only [State.loadSource, State.memRead, if_true, hw, holding, read_cells_prefix n windowBase bs h]

theorem holding_check (s : State) (m : Bytes) (flags : Nat) (image : Option Bytes) :
    (holding s m).resumeCheck flags image = s.resumeCheck flags image := rfl

theorem witness_CheckpointsRun_resume :
    (holding resumable anImage).readImage 0 windowBase = some anImage ∧
    (holding resumable anImage).resumeCheck 0 (some anImage) = resumable.resumeCheck 0 (some anImage) ∧
    FormOk (holding resumable anImage) rq 0x0434 ∧ MayManage (holding resumable anImage) rq ∧ (holding resumable anImage).plan.active = none ∧
    (holding resumable anImage).weirBusy = false ∧ (holding resumable anImage).audience = [] ∧ imageCarries anImage = [] ∧
    FormOk running rq 0x0434 ∧ running.plan.active ≠ none ∧
    (let s : State := { ready with gauge := { ready.gauge with weir := some { target := ⟨1, 0⟩, actions := {} } } }
     s.plan.active = none ∧ s.weirBusy = true ∧ FormOk s rq 0x0434) ∧
    ready.readImage 0 windowBase = none := by
  refine ⟨?_, holding_check .., by decide +kernel, by decide +kernel, rfl, by decide +kernel, by decide +kernel, by decide +kernel, by decide +kernel,
    by decide +kernel, by decide +kernel, by decide +kernel⟩
  rw [State.readImage, load_prefix resumable anImage 64 (by rw [anImage_length]; omega) (by decide)]
  show (match (holding resumable anImage).loadSource 0 windowBase (fieldAt (anImage.take 64) 32 8) with
    | .ok bs => if fieldAt (anImage.take 64) 32 8 < 384 ∨ fieldAt (anImage.take 64) 32 8 % 64 ≠ 0 then none else some bs
    | .error _ => none) = _
  rw [show fieldAt (anImage.take 64) 32 8 = 448 by decide +kernel, load_holding resumable anImage 448 anImage_length.symm (by decide)]
  rfl

/-! ### Chapter 16 -/

def aPacket : Frame := { length := 1000, dst := 5, src := 6, etherType := 0x0800, ip := some (0, 1), udp := some (9, 10) }
/-- A switch with a port of every shape. -/
def ringPort : Port := { logical := 187, kind := .ringIn, block := 62, up := true }
def meshPort : Port := { logical := 56, kind := .mesh, block := 7, up := true }
def joined (p : Port) : State := { ready with switch := { ports := [accel, p] } }

theorem witness_FramesAreDisposed :
    (joined ringPort).port? 187 = some ringPort ∧ (joined meshPort).port? 56 = some meshPort ∧ ready.port? 1 = some accel ∧
    accel.up = true ∧ ringPort.up = true ∧ meshPort.up = true ∧ aPacket.fcsOk = true ∧ aPacket.length ≤ accel.mtu ∧
    accel.mtu < ({ aPacket with length := 9217 } : Frame).length ∧ ¬ (accel.kind = .ringIn ∨ accel.kind = .ringOut) ∧
    ringPort.kind = .ringIn ∧ meshPort.kind ≠ .accel ∧ accel.kind = .accel ∧ aPacket.dst ≠ ready.rdma.mac ∧
    ({ aPacket with dst := 0, udp := some (9, 4791) } : Frame).dst = ready.rdma.mac ∧
    ({ aPacket with dst := 0 } : Frame).udp.map (·.2) ≠ some 4791 := by decide +kernel

/-- A frame of 1,000 bytes in transit from port 2 to port 1. -/
def aStamped (n : Nat) : Stamped := { ingress := 2, egress := 1, number := n, queue := 0, frame := { id := 4, length := 1000 } }
def crossing (n due : Nat) : State :=
  { ready with switch := { ports := [accel], transit := [aStamped n], expected := [((2, 1), due)]
                           stored := [⟨4, 0, 4, 2, 1, 1000⟩], freeCells := [327676, 327680, 327680, 327680] } }

theorem witness_FramesThroughThePlanes_admission :
    ready.port? 1 = some accel ∧ ready.switch.freeCells.length = 4 ∧ ready.switch.freeCells ≠ [] ∧ ready.admits 1 0 (cellsOf 1000) 0 = true ∧
    cellsOf 1000 ≤ ready.switch.freeCells.getD (freestPlane ready.switch.freeCells) 0 ∧ ready.switch.transit.length < 512 ∧
    freestPlane [3, 9, 9, 1] = 1 ∧
    (let p : Port := { accel with queues := [{ params := { minCells := 0, maxCells := 3 } }] }
     ({ ready with switch := { ports := [p] } } : State).admits 1 0 4 0 = false ∧
     ({ ready with switch := { ports := [p] } } : State).admits 1 0 3 0 = true ∧
     ({ ready with switch := { ports := [p] } } : State).admits 1 0 2 1 = false) := by decide +kernel

theorem witness_FramesThroughThePlanes_order :
    let find (s : State) (n : Nat) := s.switch.transit.find? (fun x => decide (x.ingress = 2) && decide (x.egress = 1) && decide (x.number = n))
    find (crossing 7 7) 7 = some (aStamped 7) ∧ find (crossing 65535 65535) 65535 = some (aStamped 65535) ∧
    find (crossing 8 7) 8 = some (aStamped 8) ∧ serialCmp 8 7 16 = .after ∧ serialCmp 0 65535 16 = .after ∧
    find (crossing 6 7) 6 = some (aStamped 6) ∧ serialCmp 6 7 16 ≠ .after ∧ (crossing 8 7).switch.held.length < 4096 ∧
    (crossing 7 7).port? 1 = some accel := by decide +kernel

/-- An accelerator port with a frame of 1,000 bytes in queue 0 and one in queue 10, of PRIO 7. -/
def holdingFrames : Port :=
  let first := accel.queues.modify 0 (fun q => { q with frames := [{ id := 4, length := 1000 }] })
  { accel with queues := first.modify 10 (fun q => { q with frames := [{ id := 5, length := 64 }] }) }
def sending : State := { ready with switch := { ports := [holdingFrames] } }
def aGateList : GateList := ⟨3, 2, 2#256, [(0, 0, 1), (1, 8, 3)]⟩
/-- A control list of two entries, which the device loads. -/
def gateBytes : Bytes := natLe 2 1 ++ [2, 2] ++ List.replicate 12 0 ++ natLe 32 2 ++ [1, 0, 0, 0] ++ [3, 0, 0x18, 0]

theorem witness_EgressAndBufferRun :
    sending.port? 1 = some holdingFrames ∧ ready.schedule accel = none ∧ (sending.schedule holdingFrames).map (fun x => (x.1, x.2.2)) = some (10, 7) ∧
    (let b : Bucket := { rate := 1000, level := 0, at_ := 0 }
     b.rate ≠ 0 ∧ b.at_ = ready.now ∧ b.level ≤ (b.burst * ready.byteUnit : Nat)) ∧
    aGateList.entries = [(0, 0, 1)] ++ (1, 8, 3) :: [] ∧ gateOpen aGateList 4 ⟨5, 8⟩ = 3 ∧ gateOpen aGateList 4 ⟨5, 7⟩ = 1 ∧
    gateOpen { aGateList with entries := [(0, 2, 1), (1, 8, 3)] } 4 ⟨4, 1⟩ = 3 := by decide +kernel

def aTarget : Endpoint := { mac := 5, vlan := 0, kind := 1, location := 0, target := 1 }
theorem witness_SwitchCommandsRun :
    FormOk ready rq 0x0601 ∧ listFault portEntryFault 16 (defaultEntries 0) 8 = none ∧ ready.portConflict 0 (defaultEntries 0) = false ∧
    ready.portRemoved 0 (defaultEntries 0) = false ∧ FormOk ready rq 0x0602 ∧ ready.port? 1 = some accel ∧ FormOk ready rq 0x0610 ∧
    MayManage ready rq ∧ listFault endpointFault 16 [aTarget] 8 = none ∧ FormOk ready rq 0x0611 ∧ FormOk ready rq 0x0620 ∧
    classMapFault {} = none ∧ ({} : ClassMap).dscp.length = 64 ∧ FormOk ready rq 0x0621 ∧ queueConfigCheck 1 0 {} ready = none ∧
    queueConfigCheck 0xFFFF 15 {} ready = none ∧ FormOk ready rq 0x0622 ∧ 200000 ≤ accel.rate ∧ FormOk ready rq 0x0623 ∧
    policerCheck 4095 { assign := [(1, 7)] } = none ∧ FormOk ready rq 0x0630 ∧ gateBytes.length = 48 + 4 * fieldAt gateBytes 3 1 ∧
    gateFault gateBytes = none ∧ FormOk ready rq 0x0631 ∧ FormOk ready rq 0x0640 ∧
    (let s : State := { ready with switch := { ready.switch with gateLists := [aGateList] } }
     s.switch.gateLists.any (fun l => decide (l.handle = 3)) = true ∧ s.gateUsed 3 = false ∧ FormOk s rq 0x0631) ∧
    (let s : State := { ready with switch := { ports := [{ accel with gate := some ⟨3, 0⟩ }], gateLists := [aGateList] } }
     s.switch.gateLists.any (fun l => decide (l.handle = 3)) = true ∧ s.gateUsed 3 = true ∧ FormOk s rq 0x0631) := by decide +kernel

/-- The example of R466, a list armed for step 2,000. -/
def r466 : GateList := ⟨0, 2, 2#256, [(0, 0, 0xFFFF), (0, 5, 0xFDFF), (1, 2, 0xFEFF)]⟩
theorem test_r466_gates : [(2000, 3), (2000, 5), (2001, 0), (2001, 2), (2002, 0), (2003, 6)].map (fun g => gateOpen r466 2000 ⟨g.1, g.2⟩)
    = [0xFFFF, 0xFDFF, 0xFDFF, 0xFEFF, 0xFFFF, 0xFEFF] := by decide

/-! ### Chapter 17 -/

/-- A pair of the collective service in RTS, in domain 7, whose context is cached. -/
def aQp : Qp :=
  { index := 512, service := 1, state := .rts, domain := 7, attr := { pmtu := 1, retry := 3, pkey := 0xFFFF, destMac := 5, initDepth := 1 }
    expected := 10, cwnd := 1048576, retriesLeft := 3 }
/-- A region of 4,096 bytes at remote address 0x1000, whose key is 0x501. -/
def aRegion : Region := { index := 5, address := 0x400000, length := 4096, vaBase := 0x1000, domain := 7, write := true, read := true, atomic := true }
def linked (q : Qp) : State :=
  { ready with
    rdma := { gids := [3, 0, 0, 0], qps := [q], cache := [{ qp := 512 }], regions := [aRegion], keys := [(5, 1)] }
    switch := { ready.switch with endpoints := [(0, aTarget)] } }
def aWrite (psn : Nat) : RdmaPacket :=
  { dgid := 3, qpn := 0x10200, pkey := 0xFFFF, psn := psn, op := .writeOnly, ackReq := true, va := 0x1008, rkey := 0x501, dmaLength := 3, payload := [1, 2, 3] }
def anAdd (op : BthOp) : RdmaPacket := { aWrite 10 with op := op, payload := [], dmaLength := 0, swap := 2 ^ 64 - 1, compare := 0 }

theorem witness_RdmaPacketsAreChecked :
    (aWrite 10).dgid ≠ 0 ∧ (aWrite 10).dgid ∈ (linked aQp).rdma.gids ∧ 9 ∉ (linked aQp).rdma.gids ∧ (linked aQp).rqp? 512 = some aQp ∧
    (linked aQp).rqp? 513 = none ∧ 0x10000 ≤ (aWrite 10).qpn ∧ (linked aQp).cached 512 = true ∧ (linked aQp).buffered 512 = false ∧
    ({ linked aQp with rdma := { (linked aQp).rdma with cache := [] } } : State).cached 512 = false ∧
    (linked { aQp with state := .error }).rqp? 512 = some { aQp with state := .error } ∧ aQp.state = .rts ∧ (aWrite 10).pkey = aQp.attr.pkey ∧
    serialCmp 10 aQp.expected 24 = .equal ∧ serialCmp 11 aQp.expected 24 = .after ∧ serialCmp 9 aQp.expected 24 = .before ∧
    serialCmp (10 + 2 ^ 23) aQp.expected 24 = .outside ∧ serialCmp 0 (2 ^ 24 - 1) 24 = .after ∧ aQp.nakSent = false := by decide +kernel

theorem witness_RdmaMemoryEffects :
    (linked aQp).rqp? aQp.index = some aQp ∧ (linked aQp).mem.wf = true ∧ (aWrite 10).payload.length ≤ aQp.mtu ∧
    (linked aQp).regionFor aQp 0x501 0x1008 3 (fun g => g.write) = some aRegion ∧
    (linked aQp).regionFor aQp 0x501 0x1FF8 8 (fun g => g.atomic) = some aRegion ∧
    (linked aQp).regionFor aQp 0x501 0x1FFE 3 (fun g => g.write) = none ∧
    invalidRequest aQp { aWrite 10 with va := 0x1FFE } = false ∧ (linked aQp).accessRefused aQp { aWrite 10 with va := 0x1FFE } = true := by
  decide +kernel

def aMessage (n : Nat) : Work := { kind := .send, data := List.replicate n 9, user := .manager }
def inTransit : SentPacket := { psn := 4, op := .sendOnly, payload := [1], ackReq := true, sentNs := none, sentAt := 0 }

theorem witness_RdmaPairsRun :
    (let q : Qp := { aQp with queue := [aMessage 300] }
     (linked q).rqp? 512 = some q ∧ (linked q).egressOf q = some accel ∧ q.rnrUntil = none ∧ (linked q).cached 512 = true ∧
     ({ linked q with rdma := { (linked q).rdma with cache := [] } } : State).cached 512 = false ∧ q.offset ≤ (aMessage 300).data.length ∧
     q.inFlight = 0) ∧
    (let q : Qp := { aQp with queue := [aMessage 300], offset := 256, flight := [inTransit], cwnd := 44 }
     q.flight.any (fun x => x.again) = false ∧ q.inFlight ≠ 0 ∧ q.cwnd < q.inFlight + min q.mtu (300 - 256)) ∧
    (let q : Qp := { aQp with queue := [aMessage 300], offset := 256, flight := [inTransit], cwnd := 45 }
     q.inFlight + min q.mtu (300 - 256) ≤ q.cwnd ∧ (linked q).rqp? q.index = some q) ∧
    (let q : Qp := { aQp with unacked := 1, flight := [inTransit], retriesLeft := 0 }
     (linked q).rqp? 512 = some q ∧ 0 < q.unacked ∧ q.state = .rts ∧ q.retriesLeft = 0 ∧ 0 < aQp.retriesLeft) ∧
    (let s : State := { linked aQp with rdma := { (linked aQp).rdma with fetching := [512] } }
     s.rdma.fetching.contains 512 = true ∧ s.rdma.missed = [] ∧ s.rdma.missWait = []) := by decide +kernel

theorem witness_CongestionWindow :
    ({} : CcProfile).cwndMin ≤ ({} : CcProfile).cwndMax ∧
    (let y : Qp := { aQp with cwnd := 891290, last := 1, prev := 8000, grad := 666 }
     y.grad + ((8000 - y.prev) - y.grad) / 4 = 499) ∧
    (let y : Qp := { aQp with cwnd := 891290, last := 1, prev := 8000, grad := 667 }
     y.grad + ((8000 - y.prev) - y.grad) / 4 = 500) := by decide +kernel

/-- The attribute block that takes the pair from RTR to RTS. -/
def toRtsBlock : Bytes := natLe 1 3 ++ natLe 1 0 ++ [1, 63, 0, 0, 64, 7] ++ natLe 4 0 ++ natLe 4 (2 ^ 24 - 1) ++ List.replicate 48 0
def toRtrBlock : Bytes :=
  natLe 1 2 ++ [5, 0, 0, 31, 64, 0, 0] ++ natLe 4 7 ++ natLe 4 0 ++ natLe 4 9 ++ natLe 2 0 ++ natBe 6 5 ++ natLe 16 0 ++ [0, 1] ++ List.replicate 18 0
def inPhase (st : QpState) : State := linked { aQp with state := st }
def allowed (st : QpState) (b : Bytes) : Bool :=
  (moveFaults (moveOf st (fieldAt b 0 1)) (attrOf b) ++ (inPhase st).routeFaults (moveOf st (fieldAt b 0 1)) { aQp with state := st } (attrOf b)).all
    (fun x => !x.1)

theorem witness_RdmaCommandsRun_moves :
    FormOk (inPhase .rtr) rq 0x0711 ∧ ((inPhase .rtr).heldBusy (.qp 512)).1 = false ∧ (inPhase .rtr).rqp? 512 = some { aQp with state := .rtr } ∧
    fieldAt toRtsBlock 0 1 ≤ 4 ∧ zeroAt toRtsBlock 48 16 = true ∧ toRtsBlock.length = 64 ∧ moveOf .rtr (fieldAt toRtsBlock 0 1) = .toRts ∧
    (moveFaults .toRts (attrOf toRtsBlock)).all (fun x => !x.1) = true ∧ moveOf .reset (fieldAt toRtsBlock 0 1) = .unlisted ∧
    toRtrBlock.length = 64 ∧ moveOf .init (fieldAt toRtrBlock 0 1) = .toRtr ∧ allowed .init toRtrBlock = true ∧ allowed .rts toRtsBlock = true ∧
    moveOf .reset 1 = .toInit ∧ moveOf .error 0 = .toReset ∧ moveOf .init 4 = .toError := by decide +kernel

theorem witness_RdmaCommandsRun :
    FormOk ready rq 0x0701 ∧ ready.rdma.qps.any (fun q => decide (q.state = .rtr) || decide (q.state = .rts)) = false ∧
    FormOk (linked aQp) rq 0x0701 ∧ (linked aQp).rdma.qps.any (fun q => decide (q.state = .rtr) || decide (q.state = .rts)) = true ∧
    FormOk ready rq 0x0702 ∧ inWindow windowBase 33554432 = true ∧ windowBase % 4096 = 0 ∧ ready.rdma.qps.any (fun q => decide (512 ≤ q.index)) = false ∧
    FormOk ready rq 0x0710 ∧ (ready.heldBusy (.qp 65535)).1 = false ∧ ready.rqp? 65535 = none ∧ ready.pinnedCount < 2048 ∧
    FormOk (linked aQp) rq 0x0712 ∧ (linked aQp).rqp? 512 = some aQp ∧ (linked aQp).rqp? 0 = none ∧
    FormOk (inPhase .reset) rq 0x0713 ∧ (inPhase .reset).rqp? 512 = some { aQp with state := .reset } ∧
    (inPhase .reset).qpBound { aQp with state := .reset } = false ∧
    FormOk ready rq 0x0720 ∧ (ready.heldBusy (.region 16383)).1 = false ∧ ready.registrable windowBase 1 = true ∧ ready.regionFree 16383 = true ∧
    FormOk (linked aQp) rq 0x0721 ∧ ((linked aQp).heldBusy (.region 5)).1 = false ∧ (linked aQp).regionFree 5 = false ∧
    (linked aQp).rdma.regions.any (fun g => decide (g.index = 5) && g.firmware) = false ∧ FormOk ready rq 0x0730 ∧ FormOk ready rq 0x0740 := by
  decide +kernel

/-! ### Chapters 14 and 18 -/

/-- Two members of a group, both ACTIVE: this device, ID 1, and its manager, ID 0. -/
def member : State :=
  { ready with
    group := { set := { groupId := 9, deviceId := 1, expected := 3 }, manager := 0, members := [(0, .active), (1, .active)] } }
/-- The manager of the same group. -/
def managing : State :=
  { ready with group := { set := { groupId := 9, expected := 3 }, manager := 0, members := [(0, .active), (1, .active)] } }
def aPiece (sender seq : Nat) : Piece := ⟨sender, 5, seq, .state 1 .active⟩
def inFlight (n passes : Nat) : State :=
  { member with group := { member.group with flying := (List.range n).map (fun i => (aPiece 1 i, 0, passes)), nextSeq := [(5, n)] } }
def heldTo (last : Nat) (held : List Nat) : State :=
  { member with group := { member.group with acted := [((0, 5), last)], reorder := held.map (aPiece 0) } }

theorem witness_RingPiecesInOrder :
    (inFlight 64 0).group.flying.length = 64 ∧ (inFlight 63 0).group.flying.length < 64 ∧ (inFlight 63 0).group.queued = [] ∧
    (aPiece 1 5).sender = (inFlight 6 0).group.set.deviceId ∧ (aPiece 1 5).sender < 128 ∧
    (inFlight 6 0).group.flying.find? (fun x => decide (x.1.channel = 5) && decide (x.1.seq = 5)) = some (aPiece 1 5, 0, 0) ∧
    (inFlight 6 1).group.flying.find? (fun x => decide (x.1.channel = 5) && decide (x.1.seq = 5)) = some (aPiece 1 5, 0, 1) ∧
    (heldTo 65535 []).synced 0 = true ∧ lookupD (heldTo 65535 []).group.acted (0, 5) 65535 = 65535 ∧ serialCmp 0 65535 16 = .after ∧
    serialCmp 65535 65535 16 = .equal ∧ serialCmp 65534 65535 16 = .before ∧ serialCmp 32767 65535 16 = .outside ∧
    (heldTo 65535 [2]).group.reorder.length < 64 ∧ (∀ x ∈ (heldTo 65535 [2]).group.reorder, x.seq ≠ 3) ∧
    (heldTo 65535 ((List.range 64).map (· + 2))).group.reorder.length = 64 ∧
    (∀ x ∈ (heldTo 65535 ((List.range 64).map (· + 2))).group.reorder, x.seq ≠ 66) ∧
    (aPiece 0 3).sender ≠ member.group.set.deviceId ∧ member.isManager = false ∧ member.relays = false := by decide +kernel

/-- The manager's quorum for a command, which waits for device 1. -/
def waitsFor (q : Quorum) : State := { managing with group := { managing.group with quorums := [q] } }
def aQuorum : Quorum := ⟨[1, 2], 0x0414, [1], .answer rq 0x0414 0 [] [], false⟩

theorem witness_GroupFormsAndWatches :
    member.isManager = false ∧ member.relays = false ∧ managing.audience ≠ [] ∧ rq.mb ≠ 5 ∧ rq.mb ≠ 7 ∧ (waitsFor aQuorum).isManager = true ∧
    (waitsFor aQuorum).group.quorums = [⟨[1, 2], 0x0414, [1], .answer rq 0x0414 0 [] [], false⟩] ∧ ([3] : Bytes) ≠ [1, 2] ∧
    liveStatus (managing.memberState managing.group.set.side 1) = true ∧ 1 ≠ managing.group.set.deviceId ∧ member.group.forming = none ∧
    member.group.managerLost = false ∧ member.group.set.twin = false ∧ 1 < managing.ids.length ∧ managing.group.acting = false ∧
    (let s : State := { managing with group := { managing.group with set := { managing.group.set with twin := true } } }
     s.isManager = true ∧ s.group.forming = none ∧ s.group.set.twin = true ∧ s.group.split = false ∧ s.group.acting = false) ∧
    FormOk ready rq 0x0440 ∧ groupConfigCheck 1 0 0 0 0 1 1 10 1 ready = none ∧ groupConfigCheck (2 ^ 64 - 1) 1 127 127 1 (2 ^ 127) 600 10000 1024 ready = none ∧
    FormOk member rq 0x0441 ∧ (member.group.next.getD member.group.set).groupId ≠ 0 ∧ FormOk ready rq 0x0441 ∧
    (ready.group.next.getD ready.group.set).groupId = 0 ∧ FormOk ready rq 0x0442 ∧
    (let s (f : Formation) : State := { member with group := { member.group with forming := some f } }
     (s { start := 0 }).group.forming = some { start := 0 } ∧ ({ start := 0, step := .record } : Formation).step ≠ .neighbours ∧
     ({ start := 0, step := .record } : Formation).step ≠ .hellos ∧ ({ start := 0, failed := 3 } : Formation).failed ≠ 0) := by decide +kernel

/-- A manager that has heard the HELLO of a lost device. -/
def rejoining : State :=
  let other : Hello := { managing.ownHello with sender := 1, isManager := false }
  { managing with group := { managing.group with members := [(0, .active), (1, .lost)], hellos := [other] } }
/-- A manager of a twin whose other side is ACTIVE. -/
def twinned (act : Bool) (st : MemberStatus) : State :=
  { managing with group := { managing.group with set := { managing.group.set with twin := true }, acting := act, peers := [(0, st), (1, .active)] } }

theorem witness_GroupServes :
    FormOk rejoining rq 0x0443 ∧ deviceAdmitCheck rq 1 rejoining = none ∧ rejoining.plan.catalogues = [] ∧ MayManage managing rq ∧
    FormOk managing rq 0x0443 ∧ (managing.heldBusy (.device 1)).1 = false ∧ managing.memberState (managing.admitSide 1) 1 = .active ∧
    FormOk member fromManager 0x0444 ∧ (∀ a ∈ [1, 2], deviceServiceCheck fromManager 1 a member = none) ∧ member.group.set.deviceId = 1 ∧
    member.isManager = false ∧ FormOk (twinned false .active) rq 0x0444 ∧ deviceServiceCheck rq 1 0 (twinned false .active) = none ∧
    deviceServiceCheck rq 1 2 (twinned false .active) = none ∧
    (let s : State := { twinned false .active with group := { (twinned false .active).group with members := [(0, .active), (1, .serviceLost)] } }
     deviceServiceCheck rq 1 1 s = none ∧ FormOk s rq 0x0444) ∧
    (let s : State := { member with group := { member.group with managerLost := true } }
     FormOk s rq 0x0445 ∧ s.group.managerLost = true ∧ s.group.set.twin = false ∧ s.isManager = false) ∧
    FormOk (twinned true .lost) rq 0x0446 ∧ (twinned true .lost).group.acting = true ∧ (twinned true .lost).memberState 1 0 ≠ .active ∧
    (twinned true .active).memberState (1 - (twinned true .active).group.set.side) (twinned true .active).group.set.managerId = .active ∧
    (feeding openQueue aRing []).destQ? 0 = some openQueue ∧
    (feeding openQueue aRing []).proxied openQueue { step := 6, last := false, header := [], payload := [1] } = false := by decide +kernel

/-! ### Chapter 19 -/

/-- The header of an ECHO of two bytes (R520), with FLAGS and SEQUENCE. -/
def echoBytes (flags seq : Nat) : Bytes := natLe 2 0x0104 ++ [0, 0] ++ natLe 4 9 ++ natLe 2 2 ++ natLe 2 (256 * flags) ++ natLe 2 seq
  ++ List.replicate 18 0 ++ [1, 2]
def boxed (b : Mailbox) : State := ready.setBox 0 b

theorem witness_MessagesMeetChecksInOrder :
    ready.listens 0 = true ∧ (echoBytes 8 4).length = 34 ∧ headerBad (echoBytes 1 4) = true ∧ headerBad (echoBytes 8 4) = false ∧
    headerBad (echoBytes 0 4) = false ∧ (boxed { accepted := [(4, 9)] }).listens 0 = true ∧
    ((reqOf 0 (echoBytes 0 4)).seq, (reqOf 0 (echoBytes 0 4)).tag) = (4, 9) ∧ headerSync (echoBytes 8 4) = true ∧ headerSync (echoBytes 0 4) = false ∧
    (reqOf 0 (echoBytes 0 0)).seq = (65535 + 1) % 65536 ∧ ready.frontCheck 0 0x0104 [1, 2] = none ∧
    worker.frontCheck 0 0x0410 (List.replicate 12 0) = some ⟨.notManager, 1⟩ ∧ layoutOf 0x0999 [] = none ∧ (layoutOf 0x0104 [1, 2]).isSome = true ∧
    (layoutOf 0x0410 []).map (·.manager) = some true ∧ ready.nor.running = .main ∧ (layoutOf 0x0410 []).any (fun l => ready.permits 0 0x0410 l) = true ∧
    (layoutOf 0x0302 []).any (fun l => ready.permits 5 0x0302 l) = false ∧ (ready.box 3).busyUntil ≤ ready.now ∧
    ready.now < ((boxed { busyUntil := 1 }).box 0).busyUntil ∧ ready.power.maintOff = false ∧
    ready.nor.maintenance.allows 0 = true ∧ ready.nor.maintenance.allows (2 ^ 16) = false := by decide +kernel

def asked (o : Outstanding) : State := boxed { outstanding := [o] }
def anAnswer : Message := { command := 1 }
def mb7With (q : Mb7) : State := ready.setMb7 q

theorem witness_AnswersAndEventsQueue :
    (asked { req := rq, command := 1 }).outstanding? rq = some { req := rq, command := 1 } ∧
    (asked { req := rq, command := 1, inProgress := true }).outstanding? rq = some { req := rq, command := 1, inProgress := true } ∧
    ((boxed { responses := [anAnswer] }).box 0).responses = anAnswer :: [] ∧ (mb7With { queue := [anAnswer] }).lock.mb7.queue = anAnswer :: [] ∧
    (mb7With { lost := 3, queue := List.replicate 255 anAnswer, reserve := [anAnswer] }).lock.mb7.queue.length < 256 ∧
    Event.eventsLost.value ∉ (mb7With { lost := 3 }).lock.mb7.mask ∧ (mb7With { queue := List.replicate 256 anAnswer }).lock.mb7.queue.length ≤ 256 ∧
    256 ≤ (mb7With { queue := List.replicate 256 anAnswer }).lock.mb7.queue.length ∧ Event.watchdog.critical = false ∧
    Event.watchdog.value ∈ (mb7With { mask := [0xE044] }).lock.mb7.mask ∧
    64 ≤ (mb7With { reserve := List.replicate 64 anAnswer }).lock.mb7.reserve.length := by decide +kernel

def restarting (c : RestartCause) : State := { ready with lock := { ready.lock with restart := some c } }

theorem witness_LockkeeperRuns :
    FormOk ready rq 0x0101 ∧ FormOk ready rq 0x0102 ∧ ((boxed { lastSeq := some 4 }).box 0).lastSeq = some 4 ∧ FormOk (boxed { lastSeq := some 4 }) rq 0x0102 ∧
    FormOk ready rq 0x0103 ∧ FormOk ready rq 0x0104 ∧ FormOk ready rq 0x0C04 ∧ ready.power.boot ≠ .held ∧ ready.power.boot ≠ .released ∧
    (ready.lock.restartByWatchdog && ready.within ready.lock.restartEnd (ready.seconds 1)) = false ∧
    (let s : State := { ready with lock := { ready.lock with restartByWatchdog := true, restartEnd := some 0 } }
     (s.lock.restartByWatchdog && s.within s.lock.restartEnd (s.seconds 1)) = true) ∧
    ready.lock.restart = none ∧ ready.capturing = false ∧ (restarting .watchdog).lock.restart = some .watchdog ∧
    ({ ready with nor := { ready.nor with restartScheduled := true } } : State).nor.restartScheduled = true ∧
    (restarting .command).restartCheck .command true ≠ none ∧ (restarting .command).nor.retained = none := by decide +kernel

/-! ### Chapter 20 -/

/-- A firmware image of 4,096 bytes, version 7, whose vendor key is 64 zeros. -/
def imageStart : Bytes := [0x4C, 0x4B, 0x46, 0x57] ++ natLe 2 1 ++ [0, 0] ++ natLe 4 4096 ++ natLe 4 0 ++ natLe 8 7 ++ List.replicate 8 0
def vendorKey : Bytes := List.replicate 64 0
def imageOf (h b : Bytes) : Bytes := imageStart ++ (vendorKey ++ (h ++ (b ++ List.replicate 64 2)))
def firmwareBody : Bytes := List.replicate 3904 1
def firmware : Bytes := imageOf (sha256 firmwareBody) firmwareBody

theorem sha256_length (bs : Bytes) : (sha256 bs).length = 32 := by
  simp [sha256, natBe, natLe_length]

theorem imageStart_length : imageStart.length = 32 := rfl
theorem vendorKey_length : vendorKey.length = 64 := rfl

theorem image_hash (h b : Bytes) (l : h.length = 32) : sliceAt (imageOf h b) 96 32 = h := by
  rw [imageOf, slice_after imageStart _ 32 64 32 imageStart_length, slice_after vendorKey _ 64 0 32 vendorKey_length, slice_front _ _ _ l]

theorem image_key (h b : Bytes) : sliceAt (imageOf h b) 32 64 = vendorKey := by
  rw [imageOf, slice_after imageStart _ 32 0 64 imageStart_length, slice_front _ _ _ vendorKey_length]

theorem image_length (h b : Bytes) (l : h.length = 32) (m : b.length = 3904) : (imageOf h b).length = 4096 := by
  simp [imageOf, l, m, imageStart_length, vendorKey_length]

theorem image_body (h b : Bytes) (l : h.length = 32) (m : b.length = 3904) : ((imageOf h b).take (4096 - 64)).drop 128 = b := by
  rw [List.drop_take]
  simp [imageOf, l, m, imageStart_length, vendorKey_length, List.drop_append, List.take_append]
  rfl

theorem image_fields (h b : Bytes) :
    (imageOf h b).take 4 = [0x4C, 0x4B, 0x46, 0x57] ∧ fieldAt (imageOf h b) 4 2 = 1 ∧ zeroAt (imageOf h b) 6 2 = true ∧
    fieldAt (imageOf h b) 8 4 = 4096 ∧ fieldAt (imageOf h b) 24 1 = 0 ∧ zeroAt (imageOf h b) 25 1 = true ∧ zeroAt (imageOf h b) 30 2 = true ∧
    fieldAt (imageOf h b) 26 2 = 0 ∧ fieldAt (imageOf h b) 28 2 = 0 := ⟨rfl, rfl, rfl, rfl, rfl, rfl, rfl, rfl, rfl⟩

/-- An image that passes the checks of R555, whatever the block, once its signature verifies under the fused key. -/
theorem firmware_accepted (s : State) (k : s.fuse.vendorHash = sha256 vendorKey) (m : s.fuse.securityMin = 0)
    (v : Config.ecdsaVerify vendorKey (sha256 (firmware.take 128)) (sliceAt firmware (4096 - 64) 64) = true) : s.imageFault firmware = none := by
  obtain ⟨f0, f1, f2, f3, f4, f5, f6, _, _⟩ := image_fields (sha256 firmwareBody) firmwareBody
  have l := sha256_length firmwareBody
  have b : firmwareBody.length = 3904 := List.length_replicate ..
  have body := image_body _ _ l b
  have hash := image_hash (sha256 firmwareBody) firmwareBody l
  have key := image_key (sha256 firmwareBody) firmwareBody
  have len := image_length _ _ l b
  rw [← firmware] at *
  simp only [State.imageFault, f0, f1, f2, f3, f4, f5, f6, body, hash, key, len, k, m, v]
  simp [outside]

/-- A state whose fuses hold a vendor key, under a management restart or not, with what its NOR holds. -/
def fusedWith (h : Bytes) (c : Option RestartCause) (n : NorState) : State :=
  { ready with fuse := { ready.fuse with vendorHash := h }, nor := n, lock := { ready.lock with restart := c } }
theorem fusedWith_hash (h : Bytes) (c : Option RestartCause) (n : NorState) : (fusedWith h c n).fuse.vendorHash = h := rfl
theorem fusedWith_min (h : Bytes) (c : Option RestartCause) (n : NorState) : (fusedWith h c n).fuse.securityMin = 0 := rfl
theorem fusedWith_image (h : Bytes) (c : Option RestartCause) (f : Bytes) : (fusedWith h c { image := f }).nor.image = f := rfl
theorem fusedWith_probation (h : Bytes) (c : Option RestartCause) (f : Bytes) : (fusedWith h c { image := f }).nor.probation = none := rfl
theorem fusedWith_format (h : Bytes) (c : Option RestartCause) (f : Bytes) : (fusedWith h c { image := f }).nor.fw.handoverFormat = 0 := rfl
theorem fusedWith_running (h : Bytes) (c : Option RestartCause) (x : Option FwSession) :
    (fusedWith h c { session := x, running := .recovery }).nor.running ≠ .main := fun h => nomatch h

theorem firmware_restarts (s : State) (c : RestartCause) (i : s.nor.image = firmware) (a : s.imageFault firmware = none)
    (p : s.nor.probation = none) (n : s.nor.fw.handoverFormat = 0) : s.restartCheck c true = none := by
  have f := image_fields (sha256 firmwareBody) firmwareBody
  rw [← firmware] at f
  simp [State.restartCheck, i, a, p, n, fwInfoOf, f, outside]

theorem screen_passes (s : State) (bs : Bytes) (a : s.imageFault bs = none) (r : s.nor.running ≠ .main) : s.screen bs = none := by
  unfold State.screen
  rw [a]
  exact if_pos r

theorem witness_LockkeeperRuns_image
    (v : Config.ecdsaVerify vendorKey (sha256 (firmware.take 128)) (sliceAt firmware (4096 - 64) 64) = true) :
    (fusedWith (sha256 vendorKey) (some .commit) { image := firmware }).restartCheck .commit true = none := by
  have a := firmware_accepted _ (fusedWith_hash (sha256 vendorKey) (some .commit) { image := firmware }) (fusedWith_min _ _ _) v
  exact firmware_restarts _ _ (fusedWith_image _ _ _) a (fusedWith_probation _ _ _) (fusedWith_format _ _ _)

theorem witness_ImagesAndRecordsAreWritten_commit
    (v : Config.ecdsaVerify vendorKey (sha256 (firmware.take 128)) (sliceAt firmware (4096 - 64) 64) = true) :
    (fusedWith (sha256 vendorKey) none { session := some ⟨.mailbox 0, firmware, 0⟩, running := .recovery }).screen firmware = none :=
  screen_passes _ _ (firmware_accepted _ (fusedWith_hash _ _ _) (fusedWith_min _ _ _) v) (fusedWith_running _ _ _)

def aCopy (seq : Nat) : Bytes := copyOf seq 0 []
def signedCopy : Bytes := [0x43, 0x4E, 0x46, 0x47] ++ natLe 2 1 ++ natLe 2 1 ++ natLe 4 1 ++ natLe 4 64 ++ List.replicate 112 0
def enrolling : Bytes := List.replicate 136 0
def revoking : Bytes := [0x4F, 0x52, 0x45, 0x56] ++ List.replicate 76 0
def keyed : State := { ready with nor := { ready.nor with ownerKey := some vendorKey } }

theorem witness_SettingsCommandsRun :
    FormOk ready rq 0x0201 ∧ FormOk ready rq 0x0202 ∧ (aCopy 1).length = fieldAt (aCopy 1) 12 4 + (if configSigned (aCopy 1) then 64 else 0) ∧
    ready.configFault (aCopy 1) = none ∧ signedCopy.length = fieldAt signedCopy 12 4 + (if configSigned signedCopy then 64 else 0) ∧
    ready.configFault signedCopy = some 32 ∧ FormOk ready rq 0x0210 ∧ calRange 0x0864 = some (-2000, 2000) ∧ calRange 0 = some (-4, 4) ∧
    FormOk ready rq 0x0211 ∧ FormOk ready rq 0x0901 ∧ enrolling.length = 136 ∧ ready.nor.ownerKey = none ∧ fieldAt enrolling 0 8 = ready.fuse.uid ∧
    FormOk keyed rq 0x0902 ∧ revoking.length = 80 ∧ revoking.take 4 = [0x4F, 0x52, 0x45, 0x56] ∧ keyed.nor.ownerKey = some vendorKey ∧
    fieldAt revoking 4 4 = keyed.nor.ownerSeq ∧ fieldAt revoking 8 8 = keyed.fuse.uid ∧ FormOk ready rq 0x0903 ∧ FormOk ready rq 0x0904 ∧
    (ready.halfValid .config [] = false ∧ ready.halfValid .config (aCopy 1) = true ∧ ready.halfValid .config (aCopy (2 ^ 32 - 1)) = true ∧
     serialCmp (halfSeq (aCopy 1)) (halfSeq (aCopy (2 ^ 32 - 1))) 32 = .after) := by decide +kernel

def writing (w : NorWrite) : State := { ready with nor := { ready.nor with writes := [w] } }
def downloading (n : Nat) : State := { ready with nor := { ready.nor with session := some ⟨.mailbox n, [1], 0⟩ } }

theorem witness_ImagesAndRecordsAreWritten :
    (writing { job := .record .owner .a [1], waiter := some (rq, 0x0901) }).nor.writes
      = { job := .record .owner .a [1], waiter := some (rq, 0x0901), result := 0 } :: [] ∧
    (writing { job := .image [1], waiter := some (rq, 0x0A02) }).nor.writes = { job := .image [1], waiter := some (rq, 0x0A02) } :: [] ∧
    ready.nor.running ≠ .recovery ∧ ready.nor.running ≠ .download ∧ (writing { job := .writeBack [1] }).nor.writes = { job := .writeBack [1] } :: [] ∧
    ({ ready with nor := { ready.nor with retireDue := some 0 } } : State).nor.retireDue = some 0 ∧ FormOk ready rq 0x0A01 ∧ ready.nor.session = none ∧
    ready.nor.pendingVersion = none ∧ ready.nor.probation = none ∧ ready.nor.writeBack ≠ .running ∧ FormOk (downloading 0) rq 0x0A01 ∧
    (downloading 0).nor.session = some ⟨.mailbox 0, [1], 0⟩ ∧ (downloading 1).nor.session = some ⟨.mailbox 1, [1], 0⟩ ∧
    FwOrigin.mailbox 1 ≠ .mailbox 0 ∧ FormOk (downloading 0) rq 0x0A02 ∧ (downloading 0).screen [1] = some ⟨.fwImageInvalid, 0⟩ ∧
    fieldAt (firmware.take 32) 24 1 < ({ ready with fuse := { ready.fuse with securityMin := 1 } } : State).fuse.securityMin ∧
    FormOk ready rq 0x0A03 ∧ ({ ready with nor := { ready.nor with probation := some 5 } } : State).nor.probation = some 5 := by decide +kernel

/-! ### Chapter 21 -/

def allocating (b : AllocBlock) : State := ready.setAllocBlock 14 b

theorem witness_HostLinkRuns :
    (ready.allocBlock 14).done = true ∧ ((allocating { done := false }).allocBlock 14).done = false ∧ (ready.allocBlock 14).returnDone = true ∧
    ready.link.hdmBase ≤ 0xFFFFFFFFF ∧ 0xFFFFFFFFF + [(1 : Byte)].length ≤ ready.link.hdmBase + 0x1000000000 ∧
    ready.link.hdmBase + 0x1000000000 < 0x1000000000 + [(1 : Byte)].length ∧ ready.mem.wf = true ∧
    ({ ready with link := { ready.link with hdmBase := 1 } } : State).link.hdmBase > 0 ∧ ready.installed = 768000000000 ∧
    ready.installed ≤ 768000000000 ∧ 767999999999 < ready.installed ∧ ready.enabledChannels ≠ [] ∧ ready.units.lpddr6Off = 0#48 ∧
    ready.power.ucieIdle = false := by decide +kernel

theorem witness_HostReachesOnlyTheWindow :
    let s : State := { ready with mem := cells 5 [1] }
    s.link = ready.link ∧ s.mem ≠ ready.mem ∧ (∀ c ∈ s.mem, c.1 < windowBase) ∧ ready.mem = [] ∧ ready.link.hdmBase + windowSize < windowSize + 1 := by
  decide +kernel

/-- The example of R579. -/
theorem test_r579_channel : ready.memChannel 0x1000000100 = 17 ∧
    ({ ready with units := { ready.units with lpddr6Off := BitVec.twoPow 48 5 } } : State).memChannel 0x1000000100 = 34 := by decide +kernel

/-! ### Chapter 22 -/

def inBoot (b : BootStep) (c : ResetCause) : State := { ready with power := { ready.power with boot := b, cause := c } }
def afterWarm : State := { ready with power := { ready.power with warmEnd := some 0 } }
def lockedPlls : State := { ready with power := { ready.power with locks := 0x3FF#10 } }
def switched (d : Nat) (x : Domain) : State := ready.setDomain d x

theorem witness_ResetsClear :
    ready.resetting = false ∧ (inBoot .held {}).resetting = true ∧ (inBoot .mgmt ⟨.mailbox, .warm, 0, 0⟩).resetting = true ∧
    (inBoot .mgmt ⟨.mailbox, .warm, 0, 0⟩).power.cause.scope = .warm ∧ (inBoot .held {}).power.cause.scope = .cold ∧
    afterWarm.within afterWarm.power.warmEnd (afterWarm.seconds 1) = true ∧ ready.within ready.power.warmEnd (ready.seconds 1) = false ∧
    ready.nor.writes = [] ∧ ready.power.sysRstLow = false ∧ (∀ p ∈ [1, 3, 4, 7, 8, 10], lockedPlls.power.locks.getLsbD (p - 1) = true) ∧
    FormOk ready rq 0x0B01 ∧ ready.isHeld (.unit 0x400) = false ∧ (switched 6 { status := .on }).targetThere 0x400 = true ∧
    ready.targetDomain 0x61E = none ∧ ready.targetDomain 0x40 = none ∧ ready.isHeld (.storageQp 0) = false ∧
    (let s : State := { ready with queues := { pairs := [aPair] } }; (s.qp? 1).isSome = true) := by decide +kernel

theorem witness_WarmResetEscalates :
    ready.resetting = false ∧ (∃ e, afterWarm.power.warmEnd = some e ∧ afterWarm.now < e + afterWarm.seconds 1) ∧
    (∀ e, ready.power.warmEnd = some e → ¬ ready.now < e + ready.seconds 1) ∧ Source.watchdog.value ∈ [3, 7, 8, 9, 10] ∧
    Source.mailbox.value ∉ [3, 7, 8, 9, 10] ∧
    (let s := inBoot .booted ⟨.mailbox, .warm, 0, 0⟩
     s.power.boot = .booted ∧ s.nor.running = .main ∧ s.power.cause.scope = .warm ∧ (∃ c ∈ [47], c < 48 ∧ s.units.lpddr6Off.getLsbD c = false) ∧
     (∀ c ∈ [48], c < 48 → s.units.lpddr6Off.getLsbD c = true)) := by
  refine ⟨by decide +kernel, ⟨0, by decide +kernel, by decide +kernel⟩, (fun e h => nomatch h), by decide, by decide, by decide +kernel⟩

theorem witness_BootAndDomainsRun_boot :
    (∀ b ∈ [BootStep.held, .released, .mgmt, .booted, .memory, .media], (inBoot b {}).power.boot = b) ∧ (inBoot .held {}).power.sysRstLow = false ∧
    (inBoot .held {}).power.tripDue = none ∧ (inBoot .held {}).power.strapsDue = true ∧ ready.nor.running = .main ∧
    channelsOff ready.units.lpddr6Off ≤ 13 ∧ (ready.domain 28).status.stable = true ∧ (ready.domain 29).status.stable = true ∧
    ready.lateDomain 4 = true ∧ (ready.domain 4).status = .off ∧ 4 < ready.power.domains.length ∧ ready.domainsRest = true ∧
    (inBoot .booted ⟨.mailbox, .warm, 0, 0⟩).power.cause.scope = .warm := by decide +kernel

def blockReset (t : Nat) (testing : Bool) : State := { ready with power := { ready.power with blocks := [{ target := t, testing := testing }] } }

theorem witness_BootAndDomainsRun_domains :
    (blockReset 0x100 false).blockHeld 0x100 = true ∧ (blockReset 0x3F false).blockHeld 0x3F = true ∧
    (blockReset 0x5FF true).power.blocks.any (fun b => decide (b.target = 0x5FF) && b.testing) = true ∧
    (let s := switched 29 { status := .poweringOn, good := true }; (s.domain 29).status = .poweringOn ∧ (s.domain 29).good = true) ∧
    FormOk ready rq 0x0B02 ∧ fixedDomain 4 = false ∧ ready.domainSpare 4 = false ∧ ready.offBarred 4 = true ∧ fixedDomain 6 = false ∧
    ready.domainSpare 6 = false ∧ ready.offBarred 6 = false ∧ 29 < ready.power.domains.length ∧
    (∀ st ∈ [DomainStatus.poweringOff, .poweringOn, .pendingOn, .pendingOff], ((switched 29 { status := st }).domain 29).status = st ∧ st.stable = false) ∧
    ((switched 4 { phase := .draining }).domain 4).phase = .draining ∧ ((switched 4 { phase := .switching, status := .pendingOn }).domain 4).phase = .switching ∧
    ((switched 4 { waiting := [rq] }).domain 4).waiting = [rq] := by decide +kernel

/-! ### Chapter 23 -/

def heated (t : Int) (duty cool : Nat) : State := { ready with tel := { ready.tel with temps := List.replicate 16 [t, t, t], duty := duty, cool := cool } }
def evaluated (s : State) : State := s.setTel { s.tel with packagePower := 0, domainPower := [], throttleLow := false }

theorem witness_LogsAndTelemetryRun :
    LogsBounded ready ∧ ({ id := .critical } : Log).entries.length < LogId.critical.capacity ∧
    FormOk ready rq 0x0C01 ∧ logOf 16 = some .media ∧ FormOk ready rq 0x0C06 ∧ ready.logBusy rq 16 = false ∧ FormOk ready rq 0x0C02 ∧
    blockSize 7 = some 7 ∧ FormOk ready rq 0x0C03 ∧ inWindow windowBase (1024 * 4096) = true ∧ windowBase % 4096 = 0 ∧ FormOk ready rq 0x0B04 ∧
    FormOk ready rq 0x0B03 ∧ FormOk ready rq 0x0C05 ∧ (heated 900 8 0).tempMedian 15 = some 900 ∧
    (let s : State := { ready with tel := { ready.tel with on := true, dest := some (.ring windowBase 2) } }
     s.tel.on = true ∧ s.lock.restart = none ∧ s.tel.dest = some (.ring windowBase 2)) ∧
    (let s : State := { ready with tel := { ready.tel with on := true }, lock := { ready.lock with restart := some .command } }
     s.tel.on = true ∧ s.lock.restart ≠ none) ∧
    (evaluated (heated 1000 8 0)).tripSensor = none ∧ (evaluated (heated 1000 8 0)).hot = true ∧ (evaluated (heated 1000 2 0)).hot = true ∧
    (evaluated (heated 970 7 8)).hot = false ∧ (evaluated (heated 970 7 8)).coolNow = true ∧ (evaluated (heated 970 7 9)).coolNow = true ∧
    (evaluated (heated 971 7 9)).hot = false ∧ (evaluated (heated 971 7 9)).coolNow = false ∧ (heated 1150 8 0).tripSensor = some 0 ∧
    (heated 1149 8 0).tripSensor = none ∧ ready.power.boot ≠ .held ∧ 8 ∉ ready.tel.retraining ∧
    (let s : State := { ready with tel := { ready.tel with retraining := [7, 8] } }; 7 ∈ s.tel.retraining ∧ 8 ∈ s.tel.retraining) := by decide +kernel

/-- The critical log, when it is full, keeps its first entry. -/
theorem witness_LogsAndTelemetryRun_full :
    let e : LogEntry := ⟨0, 0, 0, 0, 0, []⟩
    let l : Log := { id := .critical, entries := List.replicate LogId.critical.capacity e }
    l.id.capacity ≤ l.entries.length ∧ l.entries = e :: List.replicate (LogId.critical.capacity - 1) e := by decide +kernel

/-! ### The whole block -/

theorem witness_StepRunsFrontCommand : ready.pending = [] := rfl

theorem witness_RejectedCommandOnlyAnswers :
    (let s := asked { req := rq, command := 0x0C04, payload := some (List.replicate 127 0) }
     s.payloadOf rq = some (List.replicate 127 0) ∧ (lengthFault 0x0C04 (List.replicate 127 0)).isSome = true) ∧
    (let s := asked { req := rq, command := 0x0B02, payload := some ([4, 1, 0, 0]) }
     s.payloadOf rq = some [4, 1, 0, 0] ∧ rq.mb < 7 ∧ ready.configFault signedCopy = some 32 ∧ fixedDomain 0 = true) := by decide +kernel

theorem witness_ArbiterWinner : arbWinner 5 [2, 7] = some 7 ∧ arbWinner 8 [2, 7] = some 2 ∧ arbWinner 0 [2, 7] = some 2 := by decide


/-! ### The spec's examples -/

theorem witness_EpochPermutation : 1 ≤ aPlan.total ∧ aPlan.total ≤ 2 ^ 48 ∧ 99 < aPlan.total := by decide

theorem witness_SchedulePlacesApart : aPlan.startStep ≤ 5 ∧ 1 ≤ aPlan.perDest ∧ 1 ≤ aPlan.spe ∧ 0 < aPlan.dests.length ∧ 3 < aPlan.perDest ∧
    aPlan.epochOf 5 = aPlan.epochOf 29 ∧ aPlan.epochOf 29 ≠ aPlan.epochOf 30 := by decide

theorem witness_TreesReduceInOrder : 0 < 5 ∧ 0 < 16 ∧ 1 < 2 ∧ 127 < 128 ∧ 255 < 256 := by decide

/-- The illustrative round function of chapter 06. -/
def exampleRound (i r : Nat) : Nat :=
  ([[1, 3, 0, 2], [2, 0, 3, 1], [3, 1, 1, 0], [0, 2, 3, 3], [1, 1, 2, 0], [2, 3, 0, 1], [0, 0, 1, 3], [3, 2, 2, 1]].getD i []).getD r 0

theorem test_example_feistel :
    (List.range 16).map (feistel exampleRound (halfWidth 10)) = [5, 9, 8, 0, 4, 11, 15, 13, 3, 1, 7, 6, 12, 2, 10, 14] ∧
    (List.range 10).map (permuteWith exampleRound 10 2) = [5, 9, 8, 0, 4, 6, 7, 2, 3, 1] ∧
    unpermuteWith exampleRound 10 2 7 = 6 := by decide +kernel

/-- The plan of chapter 06's second example. -/
def examplePlan : Plan :=
  { stream := 0, datasetId := 0, total := 10, startStep := 100, startEpoch := 0, perDest := 2, subReserve := 2, subTries := 1
    dests := [⟨0, 0, 0⟩, ⟨0, 1, 0⟩] }

theorem test_example_schedule :
    (examplePlan.batch, examplePlan.spe, examplePlan.window, examplePlan.reserve) = (4, 2, 8, 2) ∧
    [100, 101, 102].map examplePlan.epochOf = [0, 0, 1] ∧ examplePlan.positionOf 101 1 0 = 6 ∧ examplePlan.attemptPosition 5 1 = 9 := by decide

/-- A descriptor of images with the limits of chapter 07's examples, its other fields zero. -/
def exampleDesc : DecodeDesc :=
  { decodeDescAt [] 0 with typ := 1, maxWidth := 16384, maxHeight := 16384, maxPixels := 67108864, maxChannels := 4, expMax := 1024
                           buFactor := 16, buMax := 2 ^ 32 - 1, aMin := 5243, aMax := 65536, rMin := 49152, rMax := 87381 }

def noHeader : Config.MediaHeader :=
  { malformed := false, unsupported := false, undeclared := false, width := 0, height := 0, channels := 0, sampleBytes := 1
    sampling := [], pixelBits := 0, interlaced := false, units := [], monochrome := false, samples := 0, rate := 0, declared := none }

/-- A greyscale PNG header, and the header of chapter 07's JPEG. -/
def examplePng (n : Nat) : Config.MediaHeader := { noHeader with width := n, height := n, channels := 1, pixelBits := 8 }
def exampleJpeg : Config.MediaHeader := { noHeader with width := 1920, height := 1080, channels := 3, sampling := [(2, 2), (1, 1), (1, 1)] }

theorem test_example_header : headerReject exampleDesc 1 2 48000 0 (examplePng 8000) = some 205 ∧
    headerReject exampleDesc 1 2 48000 0 (examplePng 7000) = none := by decide +kernel

theorem test_example_budget : jpegBlocks exampleJpeg = 48960 ∧ estimate 1 1 exampleJpeg 0 400000 0 = 220840 ∧
    budgetLimit exampleDesc 220840 = 883360 := by decide +kernel

theorem test_example_crop : cropTry exampleDesc 640 480 0x80000000 0x40000000 0xC0000000 0x20000000 = some (192, 6, 385, 430) := by decide +kernel

/-- The characters of an ASCII string. -/
def ascii (s : String) : Bytes := s.toList.map (fun c => BitVec.ofNat 8 c.toNat)

/-- The tokens and merges of chapter 08's vocabulary; the special token is numbered 262 here. -/
def exampleToken (i : Nat) : Bytes :=
  if i < 256 then [BitVec.ofNat 8 i] else if i = 262 then ascii "<|end|>"
  else ascii (["hi", "<|", "|>", "en", "end", " hi"].getD (i - 256) "?")
def exampleMerges : List (Nat × Nat × Nat) :=
  [(104, 105, 256), (60, 124, 257), (124, 62, 258), (101, 110, 259), (259, 100, 260), (32, 256, 261)]

/-- A vocabulary file: the header's fields that tokenising reads, the token table, the merges, the special list and the bytes. -/
def vocabFile (count split escape : Nat) (merges : List (Nat × Nat × Nat)) (special : Option Nat) (token : Nat → Bytes) : Bytes :=
  let starts := (List.range count).foldl (fun (a : List Nat × Nat) i => (a.1 ++ [a.2], a.2 + (token i).length)) ([], 0)
  let mergesAt := 64 + 8 * count
  let specialAt := mergesAt + 12 * merges.length
  let bytesAt := specialAt + 4 * special.toList.length
  ascii "VOCB" ++ natLe 2 1 ++ natLe 1 split ++ natLe 1 0 ++ natLe 4 count ++ natLe 4 merges.length ++ natLe 2 special.toList.length ++ natLe 2 64
    ++ natLe 4 escape ++ natLe 8 bytesAt ++ natLe 8 mergesAt ++ natLe 8 specialAt ++ natLe 16 0
    ++ (List.range count).flatMap (fun i => natLe 4 (starts.1.getD i 0) ++ natLe 2 (token i).length
        ++ natLe 1 (if special = some i then 1 else 0) ++ natLe 1 0)
    ++ merges.flatMap (fun m => natLe 4 m.1 ++ natLe 4 m.2.1 ++ natLe 4 m.2.2) ++ special.toList.flatMap (fun x => natLe 4 x)
    ++ (List.range count).flatMap token
def exampleVocab : Bytes := vocabFile 263 1 999 exampleMerges (some 262) exampleToken
def encodeResult (mode : Nat) : Option (List Nat) :=
  match (encodeText exampleVocab ⟨0, mode, 0, 100, 100, noToken, noToken⟩ (ascii "hi <|end|> hi")).result with
  | .ok ts => some ts
  | .error _ => none

theorem test_example_tokens : encodeResult 1 = some [256, 32, 999, 257, 260, 258, 261] := by decide +kernel
theorem test_example_template : encodeResult 3 = some [256, 32, 262, 261] := by decide +kernel

/-- Chapter 08's detokenised stream; its IDs 4101, 195, 7320 and 2266 are numbered 256, 195, 257 and 258 here. -/
def stopToken (i : Nat) : Bytes :=
  if i < 256 then [BitVec.ofNat 8 i] else [ascii "Caf", [0xA9, 0x0A], ascii "##"].getD (i - 256) []
def stopVocab : Bytes := vocabFile 259 1 noToken [] none stopToken
def decodeResult (flags : Nat) : Option (Bytes × Bytes) := match decodeTokens stopVocab ⟨flags, 100, [], [[0x0A, 0x23]]⟩ [256, 195, 257, 258] with
  | .ok d => some (d.text, d.report)
  | .error _ => none

theorem test_example_stop :
    decodeResult 0 = some ([0x43, 0x61, 0x66, 0xC3, 0xA9], stopReport 1 0 4 3 0 4 0) ∧
    decodeResult 1 = some ([0x43, 0x61, 0x66, 0xC3, 0xA9, 0x0A, 0x23], stopReport 1 0 4 3 0 6 0) := by decide +kernel

/-- A signature with the given bits set. -/
def signature (l : List Nat) : Bytes := natLe 32 ((l.map (fun i => 2 ^ i)).sum)

theorem test_example_duplicates :
    nearDuplicate 12 (signature []) [signature [49, 52, 55, 60, 113, 117, 118, 121, 126]] = true ∧
    leastDistance (signature []) [signature [49, 52, 55, 60, 113, 117, 118, 121, 126]] = some 9 ∧
    nearDuplicate 20 (signature []) [signature ((List.range 16).map (fun b => 16 * b))] = false := by decide +kernel

/-- The packing section of chapter 10's example, and a candidate of n tokens. -/
def examplePack : PackSection :=
  { at_ := 0, packName := 1, rows := 2, rowLen := 8, maxSegs := 4, width := 4, tensors := [], padId := 0, residueMax := 16, tensorBytes := 0 }
def candidate (id n : Nat) (carried : Bool) : Cand :=
  { sample := { id := id, fields := [{ frame := ⟨5, 0, 1, []⟩, tokens := some (List.replicate n 7) }] }, carried := carried }
def placement (k : Packer) : List (Nat × Nat × Nat × Nat) := k.placed.map (fun x => (x.cand.sample.id, x.row, x.seg, x.start))

theorem test_example_packing :
    (let k := examplePack.pack [candidate 0 7 false, candidate 1 6 false, candidate 2 3 false, candidate 3 2 false]
     placement k = [(0, 0, 0, 0), (1, 1, 0, 0), (3, 1, 1, 6)] ∧ k.carry.map (fun x => x.id) = [2]) ∧
    (let k := examplePack.pack [candidate 2 3 true, candidate 10 4 false, candidate 11 5 false, candidate 12 2 false, candidate 13 8 false]
     placement k = [(2, 0, 0, 0), (10, 0, 1, 3), (11, 1, 0, 0), (12, 1, 1, 5)] ∧ k.carry.map (fun x => x.id) = [13]) := by decide +kernel

/-- The operands of chapter 11's node, and their exact sums. -/
def exampleLeft : Block := ⟨0, 0x7F, [7, 3, 9, 5] ++ List.replicate 28 0⟩
def exampleRight : Block := ⟨0, 0x7E, [6, 1, 0xA, 7] ++ List.replicate 28 0⟩
def exampleSums : List Val :=
  List.zipWith addVal ((readBlock .b4 .b4 exampleLeft).1.getD []) ((readBlock .b4 .b4 exampleRight).1.getD [])
def firstFour (q : Quantised) : Nat × Nat × List Nat := (q.block.tag, q.block.scale, q.block.elems.take 4)

theorem test_example_node :
    firstFour (emit .b4 .rne 2048 exampleSums []) = (0, 128, [6, 2, 9, 5]) ∧ (emit .b4 .rne 2048 exampleSums []).flags = 0 ∧
    firstFour (emit .b4 .rne 2047 exampleSums []) = (6, 122, [0x78, 0x66, 0xE0, 0x74]) ∧
    firstFour (emit .b4 .sr 0 exampleSums (List.replicate 32 0x40000000)) = (0, 128, [6, 2, 9, 5]) ∧
    ((emit .b4 .sr 0 exampleSums (List.replicate 32 0x3FFFFFFF)).block.elems.getD 1 0) = 1 := by decide +kernel

theorem test_example_counter : counterOf 1 5 2 259 = 0x01000000050000000000020000000103 := by decide +kernel

/-- Pool 12 of chapter 03's example. -/
def examplePool : State :=
  { ready with pools := { ready.pools with pools :=
      [{ num := 12, space := 0, bufSize := 0x10000, count := 16384, base := 0x1000000000, ringBase := 0, heldBase := 0, held := [(1, 50)] }] } }
def pointerTo (a : Nat) : Nat := a + 12 * 2 ^ 41

theorem test_example_returns :
    [0x1000010000, 0x1000018000, 0x1040000000, 0x1000020000].map (fun a => examplePool.checkReturn 50 (pointerTo a)) =
      [(0, 1), (5, 0), (4, 0), (6, 2)] ∧ examplePool.checkReturn 51 (pointerTo 0x1000010000) = (7, 1) := by decide +kernel

/-- Chapter 04: a QLC part rated for 1,500 erases, and slc_size of R109. -/
theorem test_example_thresholds :
    (let s : State := { ready with media := { ready.media with geometry := { ready.media.geometry with cellBits := 4, peRated := 1500 } } }
     [900, 10900].map s.readThreshold = [20000, 5000]) ∧
    slcSuperblocks 393216000000000 157286400000000 1610612736 = 2319 := by decide +kernel

theorem test_example_demand :
    (let d : Declared := ⟨65536, 4, 2, 3, 1, 0, 0⟩
     d.perCopy = 8 ∧ d.demand = 67 ∧ d.copySet = 0x20000) := by decide +kernel

/-- Chapter 13's two runs: +0.0, 2.0, 2.0, 5.0 and -0.0, 2.0, 3.0, infinity. -/
theorem test_example_merge :
    mergePairs .fp32 false 256 [(0, 10), (0x40000000, 11), (0x40000000, 12), (0x40A00000, 13), (0x7FC00000, 14)]
      [(0x80000000, 20), (0x40000000, 21), (0x40400000, 22), (0x7F800000, 23), (0x7FC00000, 24)] =
      [(0, 10), (0x80000000, 20), (0x40000000, 11), (0x40000000, 12), (0x40000000, 21), (0x40400000, 22), (0x40A00000, 13),
       (0x7F800000, 23), (0x7FC00000, 14), (0x7FC00000, 24)] := by decide +kernel

/-- Chapters 01 and 15: Crucible site 4 fused off, then Crucible 3 retired twice. -/
def exampleCrucibles : State :=
  { ready with units := { ready.units with crucibleOff := 0x10#18
                                           crucibleMap := [0, 1, 2, 3, 5, 6, 7, 8, 9, 10, 11, 12, 13, 14, 15, 16].map some } }
def rederived (s : State) : State := { s with det := { s.det with treePolicy := 1 } }

theorem test_example_retirement :
    (let u := exampleCrucibles.retireCrucible 3
     u.units.crucibleOff = 0x18#18 ∧ u.crucibleSite 3 = 0x11 ∧ (u.retireCrucible 3).crucibleSite 3 = 0xFF) := by decide +kernel

theorem test_example_tree_plan :
    (let u := exampleCrucibles.retireCrucible 3
     [exampleCrucibles, u, u.retireCrucible 3].map State.treePlan = [0x1000, 0x1000, 0x1000] ∧
     [exampleCrucibles, u, u.retireCrucible 3].map (fun s => (rederived s).treePlan) = [0x1001, 0x1001, 0x0F01]) := by decide +kernel

/-- Chapter 23: one hot spot, its medians in tenths of a degree. -/
def spot (s : State) (t : Int) : State :=
  ({ s with tel := { s.tel with temps := [t] :: List.replicate 15 [500] } } : State).throttle

theorem test_example_throttle :
    (let a := spot ready 1003
     let b := spot (spot a 1001) 994
     let c := (List.range 9).foldl (fun s _ => spot s 968) b
     let d := spot c 965
     let e := (List.range 10).foldl (fun s _ => spot s 960) d
     [a, b, c, d, e].map (fun s => s.tel.duty) = [7, 6, 6, 7, 8] ∧ c.tel.cool = 9 ∧
       [ready, a, b, c, d, e].map (fun s => s.lock.mb7.queue.length - ready.lock.mb7.queue.length) = [0, 1, 1, 1, 1, 2]) := by decide +kernel

/-- Chapter 20: SEQUENCE of the two halves of R535's example. -/
theorem test_example_selection :
    serialCmp 1 0xFFFFFFFE 32 = .after ∧ serialCmp 0x7FFFFFFE 0xFFFFFFFE 32 ≠ .after ∧ serialCmp 0x7FFFFFFE 0xFFFFFFFE 32 ≠ .before := by decide

theorem witness_EveryStepKeepsMemory :
    let s : State := { State.reset with mem := [(5, 1#8), (9, 2#8)] }
    MemoryOk s ∧ (match step s with | .next t => t.mem.wf && decide (t.mem = s.mem) | _ => false) = true := by
  decide +kernel

end Slice0
end

section
/-! Family `00_scope.md`: a command that a check turns away has its answer and no other effect (R14, R523).

The laws of the shared operations say that an answer only speaks; what is added here is how the verdict orders the checks of a
payload's form among a command's own, and that a final answer takes its request off the outstanding list. -/

namespace Sys2Proof.Machine

/-! ### The verdict on a command (R523, R640) -/

section
variable {s : State} {r : Req} {code : Nat} {bs : Bytes} {c : Option Reject}

/-- A payload of the wrong length is BAD_LENGTH unless an early check of the command's own fails. -/
theorem verdict_of_lengthFault {n : Nat} (hbs : s.payloadOf r = some bs) (hearly : (c.map (·.early)).getD false = false)
    (hlen : lengthFault code bs = some n) : s.verdict r code c = some ⟨.badLength, n⟩ := by
  simp only [State.verdict, hbs, hearly, hlen, Bool.false_eq_true, ↓reduceIte]

/-- Padding that is not zero is BAD_PARAM unless an early check or that of a parameter before it fails. -/
theorem verdict_of_padFault {o : Nat} (hbs : s.payloadOf r = some bs) (hearly : (c.map (·.early)).getD false = false)
    (hlen : lengthFault code bs = none) (hpad : padFault code bs = some o)
    (hbefore : (c.map (fun e => e.before o)).getD false = false) : s.verdict r code c = some (badParam o) := by
  simp only [State.verdict, hbs, hearly, hlen, hpad, hbefore, Bool.false_eq_true, ↓reduceIte]

/-- A payload of the right length and padding leaves the decision to the command's own checks. -/
theorem verdict_of_no_fault (hbs : s.payloadOf r = some bs)
    (hlen : lengthFault code bs = none) (hpad : padFault code bs = none) : s.verdict r code c = c := by
  simp only [State.verdict, hbs, hlen, hpad, ite_self]

end

/-- A failed check of the command's own can be overtaken by one of its form, but never passes. -/
theorem verdict_some_ne_none (s : State) (r : Req) (code : Nat) (e : Reject) : s.verdict r code (some e) ≠ none := by
  unfold State.verdict
  split
  · simp
  · split
    · simp
    · split
      · simp
      · split <;> simp
      · simp

/-! ### The end of a command -/

theorem finish_of_verdict_none {s : State} {r : Req} {code : Nat} {c : Option Reject} (h : s.verdict r code c = none)
    (effect : State) : s.finish r code c effect = effect := by
  simp only [State.finish, h]

theorem finish_of_verdict_some {s : State} {r : Req} {code : Nat} {c : Option Reject} {e : Reject}
    (h : s.verdict r code c = some e) (effect : State) : s.finish r code c effect = s.answer r code e.status e.result := by
  simp only [State.finish, h]

/-- A command with a failed check of its own only answers, whatever its effect would have been. -/
theorem finish_speaks_of_reject (s : State) (r : Req) (code : Nat) {c : Option Reject} (h : c ≠ none) (effect : State) :
    OnlySpeaks s (s.finish r code c effect) := by
  obtain ⟨e, rfl⟩ := Option.ne_none_iff_exists'.mp h
  obtain ⟨x, hx⟩ := Option.ne_none_iff_exists'.mp (verdict_some_ne_none s r code e)
  rw [finish_of_verdict_some hx]
  exact answer_speaks ..

/-- A list of checks with a failing one rejects. -/
theorem firstReject_ne_none {l : List (Bool × Reject)} {p : Bool × Reject} (hp : p ∈ l) (hbad : p.1 = true) :
    firstReject l ≠ none := by
  intro h
  rw [(firstReject_eq_none l).mp h p hp] at hbad
  contradiction

/-! ### The outstanding list of a mailbox (R524) -/

theorem box_setBox (s : State) (i j : Nat) (b : Mailbox) :
    (s.setBox i b).box j = if i = j ∧ j < s.lock.boxes.length then b else s.box j := by
  simp only [State.box, State.setBox, List.getD_eq_getElem?_getD, List.getElem?_set]
  by_cases hij : i = j
  · subst hij
    by_cases hi : i < s.lock.boxes.length <;> simp [hi]
  · simp [hij]

/-- A mailbox that keeps its outstanding list keeps every request's entry. -/
@[simp] theorem setBox_outstanding? {s : State} {i : Nat} {b : Mailbox} (h : b.outstanding = (s.box i).outstanding) (r : Req) :
    (s.setBox i b).outstanding? r = s.outstanding? r := by
  unfold State.outstanding?
  rw [box_setBox]
  split
  · rename_i hi
    rw [h, hi.1]
  · rfl

@[simp] theorem setMb7_outstanding? (s : State) (m : Mb7) (r : Req) : (s.setMb7 m).outstanding? r = s.outstanding? r := rfl

@[simp] theorem release_outstanding? (s : State) (q r : Req) : (s.release q).outstanding? r = s.outstanding? r := rfl

@[simp] theorem countRejection_outstanding? (s : State) (i : Nat) (st : Status) (r : Req) :
    (s.countRejection i st).outstanding? r = s.outstanding? r := by
  simp [State.countRejection]

@[simp] theorem msix_outstanding? (s : State) (v : Nat) (r : Req) : (s.msix v).outstanding? r = s.outstanding? r := by
  unfold State.msix
  split <;> rfl

@[simp] theorem mb7Push_outstanding? (s : State) (m : Message) (r : Req) : (s.mb7Push m).outstanding? r = s.outstanding? r := by
  unfold State.mb7Push
  dsimp only
  split
  · split <;> simp
  · split <;> simp

@[simp] theorem postResponse_outstanding? (s : State) (i : Nat) (m : Message) (r : Req) :
    (s.postResponse i m).outstanding? r = s.outstanding? r := by
  unfold State.postResponse
  dsimp only
  split
  · simp
  · simp

@[simp] theorem mb5Reply_outstanding? (s : State) (code : Nat) (st : Status) (n : Nat) (r : Req) :
    (s.mb5Reply code st n).outstanding? r = s.outstanding? r := by
  unfold State.mb5Reply
  dsimp only
  split
  · rfl
  · unfold State.sendPiece
    dsimp only
    split <;> rfl

/-- A request dropped from its mailbox is not outstanding. -/
@[simp] theorem dropOutstanding_outstanding? (s : State) (r : Req) : (s.dropOutstanding r).outstanding? r = none := by
  unfold State.dropOutstanding State.outstanding?
  rw [box_setBox, List.find?_eq_none]
  split
  · simp
  · rename_i h
    have hbox : s.box r.mb = {} := by
      unfold State.box
      rw [List.getD_eq_getElem?_getD, List.getElem?_eq_none (by omega), Option.getD_none]
    simp [hbox]

@[simp] theorem respond_outstanding? (s : State) (q : Req) (code : Nat) (st : Status) (n : Nat) (p : Bytes) (vs : List Nat)
    (r : Req) : (s.respond q code st n p vs).outstanding? r = s.outstanding? r := by
  have counted (u : State) :
      (if st = .ok ∨ st = .inProgress then u else u.countRejection q.mb st).outstanding? r = u.outstanding? r := by
    split <;> simp
  unfold State.respond
  dsimp only
  split
  · rfl
  · split
    · simp [counted]
    · simp [counted]

theorem complete_outstanding? (s : State) {r : Req} (hmb : r.mb < 7) (code : Nat) (st : Status) (n : Nat) (p : Bytes)
    (vs : List Nat) : (s.complete r code st n p vs).outstanding? r = none := by
  unfold State.complete
  dsimp only
  rw [if_neg (by omega)]
  split
  · simp
  · split <;> simp

/-- A final answer ends the request: it is no longer outstanding (R524). -/
theorem answer_outstanding? (s : State) {r : Req} (hmb : r.mb < 7) (code : Nat) (st : Status) (n : Nat) (p : Bytes)
    (vs : List Nat) : (s.answer r code st n p vs).outstanding? r = none := by
  unfold State.answer
  split
  · split
    · exact complete_outstanding? s hmb code st n p vs
    · simp
  · rename_i hnone
    simpa using hnone

/-! ### The rows named -/

theorem throttleSet_outside_speaks {s t : State} {r : Req} {limit : Nat} (h : limit < 300 ∨ 1080 < limit)
    (he : exec (.throttleSet r limit) s = .next t) : OnlySpeaks s t := by
  cases he
  exact finish_speaks_of_reject s r _ (firstReject_ne_none (List.mem_cons_self ..) (by simpa [outside] using h)) _

theorem domainSet_fixed_speaks {s t : State} {r : Req} {d action : Nat} (h : fixedDomain d = true)
    (he : exec (.domainSet r d action) s = .next t) : OnlySpeaks s t := by
  cases he
  exact finish_speaks_of_reject s r _ (firstReject_ne_none (List.mem_cons_self ..) (by simp [h])) _

theorem eventMaskSet_length_speaks {s t : State} {r : Req} {bs : Bytes} (h : bs.length ≠ 128)
    (he : exec (.eventMaskSet r bs) s = .next t) : OnlySpeaks s t := by
  cases he
  exact finish_speaks_of_reject s r _ (firstReject_ne_none (List.mem_cons_self ..) (by simpa using h)) _

theorem configWrite_fault_speaks {s t : State} {r : Req} {image : Bytes} {o : Nat} (h : s.configFault image = some o)
    (he : exec (.configWrite r image) s = .next t) : OnlySpeaks s t := by
  cases he
  exact finish_speaks_of_reject s r _ (firstReject_ne_none (List.mem_cons_of_mem _ (List.mem_cons_self ..)) (by simp [h])) _

/-- Settles O59: the verdict either passes the effect or names the answer, and an answer only speaks; each row named has a check
that fails. -/
theorem rejectedCommandOnlyAnswers : Obligations.RejectedCommandOnlyAnswers := by
  unfold Obligations.RejectedCommandOnlyAnswers
  refine ⟨fun s r code c effect => ?_, fun s r code bs c hbs hearly => ⟨?_, ?_, ?_⟩, fun s r code st n p vs => ⟨?_, fun hmb => ?_⟩,
    fun s t r limit => throttleSet_outside_speaks, fun s t r d action => domainSet_fixed_speaks,
    fun s t r bs => eventMaskSet_length_speaks, fun s t r image o => configWrite_fault_speaks⟩
  · cases hv : s.verdict r code c with
    | none => exact .inl ⟨rfl, finish_of_verdict_none hv effect⟩
    | some e =>
      have hf := finish_of_verdict_some hv effect
      exact .inr ⟨e, rfl, hf, hf ▸ answer_speaks ..⟩
  · exact fun n => verdict_of_lengthFault hbs hearly
  · exact fun o => verdict_of_padFault hbs hearly
  · exact verdict_of_no_fault hbs
  · exact answer_speaks ..
  · exact answer_outstanding? s hmb code st n p vs

end Sys2Proof.Machine
end

section
/-! Family `01_architecture.md`: a step takes the front command off the queue, or lets one ACLK cycle pass (R42, log entry 1).

What a step does is said once for each form of the queue, and what a cycle of waiting leaves alone is said field by field. -/

namespace Sys2Proof.Machine

/-! ### One ACLK cycle (R74, R76) -/

section
variable (s : State)

@[simp] theorem tick_now : s.tick.now = s.now + 1 := rfl
@[simp] theorem tick_pending : s.tick.pending = s.pending := rfl
@[simp] theorem tick_mem : s.tick.mem = s.mem := rfl
@[simp] theorem tick_fuse : s.tick.fuse = s.fuse := rfl

end

/-! ### One step, by the form of the queue (R42, log entry 1) -/

theorem step_of_pending_nil {s : State} (h : s.pending = []) : step s = .next s.tick := by
  simp only [step, h]

theorem step_of_pending_cons {s : State} {c : Instr} {rest : List Instr} (h : s.pending = c :: rest) :
    step s = exec c { s with pending := rest } := by
  simp only [step, h]

/-- The opcode table gives no command any bits, so a fetched word queues nothing (log entry 11). -/
@[simp] theorem withFetchWord_eq_self (s : State) (nbits w : Nat) : s.withFetchWord nbits w = s := rfl

/-- Settles O56, by the two forms of the queue: a front command is executed over the rest, and an empty queue is one tick, which
leaves the queue, the memory and the fuses as they are. -/
theorem stepRunsFrontCommand : Obligations.StepRunsFrontCommand := by
  unfold Obligations.StepRunsFrontCommand
  refine ⟨fun c s rest => step_of_pending_cons rfl, fun s hempty => ?_, withFetchWord_eq_self⟩
  exact ⟨s.tick, step_of_pending_nil hempty, tick_now s, (tick_pending s).trans hempty, tick_mem s, tick_fuse s⟩

end Sys2Proof.Machine
end

section
/-! Family `02_gauge_and_weir.md`: the filter of Gauge frames, publications, the settings, armed events and the Weir (R53 to R78).

First what a lookup finds after an update; then one lemma for each operation on the Gauge, saying what it writes and that beyond
that it only speaks; the rows of chapter 02 follow from these. -/

namespace Sys2Proof.Machine

/-! ### Lookups after an update -/

section
variable {α β : Type}

theorem find?_updateFirst_same {p : α → Bool} {f : α → α} (hf : ∀ x, p x = true → p (f x) = true) (l : List α) :
    (updateFirst p f l).find? p = (l.find? p).map f := by
  induction l with
  | nil => rfl
  | cons x xs ih => by_cases hx : p x = true <;> simp [updateFirst, hx, hf, ih]

theorem find?_updateFirst_other {p q : α → Bool} {f : α → α} (hq : ∀ x, p x = true → q x = false ∧ q (f x) = false)
    (l : List α) : (updateFirst p f l).find? q = l.find? q := by
  induction l with
  | nil => rfl
  | cons x xs ih =>
    by_cases hx : p x = true
    · simp [updateFirst, hx, hq x hx]
    · simp [updateFirst, hx, List.find?_cons, ih]

theorem lookupD_assign_same [DecidableEq α] (l : List (α × β)) (k : α) (v d : β) : lookupD (assign l k v) k d = v := by
  induction l with
  | nil => simp [assign, lookupD]
  | cons x xs ih =>
    unfold lookupD at ih ⊢
    by_cases hx : x.1 = k <;> simp [assign, hx, ih]

end

/-- A counter that is added to saturates (R612). -/
theorem count_counter_same (s : State) (c : Counter) (n : Nat) : (s.count c n).counter c = satAdd (s.counter c) n :=
  lookupD_assign_same ..

/-- The first failing check of a list stands in it. -/
theorem exists_mem_of_firstReject_eq_some {l : List (Bool × Reject)} {e : Reject} (h : firstReject l = some e) :
    (true, e) ∈ l := by
  induction l with
  | nil => simp at h
  | cons p l ih =>
    obtain ⟨b, c⟩ := p
    cases b
    · exact List.mem_cons_of_mem _ (ih (by simpa using h))
    · simp_all

/-- A command whose own checks all pass has its effect. -/
theorem finish_of_checks_pass {s : State} {r : Req} {code : Nat} {l : List (Bool × Reject)} (h : FormOk s r code)
    (hl : ∀ p ∈ l, p.1 = false) (effect : State) : s.finish r code (firstReject l) effect = effect := by
  rw [(firstReject_eq_none l).mpr hl, finish_ok h]

/-! ### Sources (R55) -/

@[simp] theorem source_port (s : State) (p : Nat) : (s.source p).port = p := by
  unfold State.source
  cases h : s.gauge.sources.find? (fun x => decide (x.port = p)) with
  | none => rfl
  | some x => simpa using List.find?_some h

theorem source_setSource (s : State) (x : GaugeSource) (q : Nat) :
    (s.setSource x).source q = if q = x.port then x else s.source q := by
  unfold State.source State.setSource
  dsimp only
  by_cases hknown : s.gauge.sources.any (fun y => decide (y.port = x.port)) = true
  · rw [if_pos hknown]
    by_cases hq : q = x.port
    · subst hq
      rw [if_pos rfl, find?_updateFirst_same (by simp)]
      obtain ⟨y, hy⟩ := Option.isSome_iff_exists.mp (List.find?_isSome.mpr (List.any_eq_true.mp hknown))
      simp [hy]
    · rw [if_neg hq, find?_updateFirst_other (fun y hy => ?_)]
      have hyx : y.port = x.port := by simpa using hy
      simp [hyx, Ne.symm hq]
  · rw [if_neg hknown]
    by_cases hq : q = x.port
    · subst hq
      have hnone : s.gauge.sources.find? (fun y => decide (y.port = x.port)) = none := by simpa using hknown
      simp [hnone]
    · simp [hq, Ne.symm hq, List.find?_append]

theorem OnlySpeaks.source {s t : State} (h : OnlySpeaks s t) (q : Nat) : t.source q = s.source q := by
  unfold State.source
  rw [h.gauge]

theorem OnlySpeaks.counter {s t : State} (h : OnlySpeaks s t) (c : Counter) : t.counter c = s.counter c := by
  unfold State.counter
  rw [h.tel]

/-! ### The filter of frames (R57 to R59) -/

/-- How far a frame's step lies ahead of the source's last one, modulo 2^32 (R57). -/
def frameDistance (x : GaugeSource) (payload : Bytes) : Nat :=
  (fieldAt payload 4 4 + 2 ^ 32 - x.lastStep % 2 ^ 32) % 2 ^ 32

/-- The reason of R58 that the checks of R57, in their order, give a frame; 0 where none fails. -/
def State.frameReason (s : State) (x : GaugeSource) (payload : Bytes) : Nat :=
  if fieldAt payload 0 1 ≠ 1 ∨ 16 ≤ fieldAt payload 1 1 ∨ (payload.drop 8).any (· ≠ 0) = true then 1
  else if fieldAt payload 2 2 ≠ s.gauge.jobTag ∨ s.gauge.jobTag = 0 then 2
  else if s.within x.lastTime (s.us 2) = true then 3
  else if frameDistance x payload = 2 ^ 31 then 6
  else if 2 ^ 31 < frameDistance x payload then 4
  else if s.gauge.maxJump < frameDistance x payload then 5
  else if frameDistance x payload = 0 ∧ fieldAt payload 1 1 < x.lastMark then 4 else 0

/-- The padding check of R57 in its two forms: not all bytes are zero, some byte is not. -/
theorem not_all_zero_eq_any_ne_zero (bs : Bytes) : (!(bs.all (· = 0))) = bs.any (· ≠ 0) := by
  simp [List.not_all_eq_any_not]

theorem judgeFrame_reason (s : State) (x : GaugeSource) (payload : Bytes) :
    (s.judgeFrame x payload).reason = s.frameReason x payload := by
  unfold State.judgeFrame State.frameReason
  rw [not_all_zero_eq_any_ne_zero]
  simp only [apply_ite GaugeVerdict.reason]
  rfl

/-- A chain of reasons gives 0 only past each check that names one. -/
theorem of_ite_succ_eq_zero {c : Prop} [Decidable c] {k n : Nat} (h : (if c then k + 1 else n) = 0) : ¬c ∧ n = 0 := by
  by_cases hc : c
  · simp [hc] at h
  · exact ⟨hc, by rwa [if_neg hc] at h⟩

theorem judgeFrame_eq_accepted {s : State} {x : GaugeSource} {payload : Bytes} (h : s.frameReason x payload = 0) :
    s.judgeFrame x payload = .accepted (frameDistance x payload) (fieldAt payload 1 1) := by
  unfold State.frameReason at h
  obtain ⟨hform, h⟩ := of_ite_succ_eq_zero h
  obtain ⟨hjob, h⟩ := of_ite_succ_eq_zero h
  obtain ⟨hrate, h⟩ := of_ite_succ_eq_zero h
  obtain ⟨hwindow, h⟩ := of_ite_succ_eq_zero h
  obtain ⟨hfar, h⟩ := of_ite_succ_eq_zero h
  obtain ⟨hjump, h⟩ := of_ite_succ_eq_zero h
  obtain ⟨hmark, -⟩ := of_ite_succ_eq_zero h
  unfold State.judgeFrame
  rw [not_all_zero_eq_any_ne_zero]
  exact (if_neg hform).trans <| (if_neg hjob).trans <| (if_neg hrate).trans <| (if_neg hwindow).trans <|
    (if_neg hfar).trans <| (if_neg hjump).trans (if_neg hmark)

theorem takeGaugeFrame_of_reason_zero {s : State} {p : Nat} {payload : Bytes} (ha : s.isAccel p = true)
    (hq : (s.source p).quarantined = false) (h : s.frameReason (s.source p) payload = 0) :
    s.takeGaugeFrame p payload = s.acceptFrame (s.source p) (frameDistance (s.source p) payload) (fieldAt payload 1 1) := by
  simp [State.takeGaugeFrame, ha, hq, judgeFrame_eq_accepted h]

theorem takeGaugeFrame_of_reason_ne_zero {s : State} {p : Nat} {payload : Bytes} (ha : s.isAccel p = true)
    (hq : (s.source p).quarantined = false) (h : s.frameReason (s.source p) payload ≠ 0) :
    s.takeGaugeFrame p payload = s.rejectFrame (s.source p) (s.frameReason (s.source p) payload) := by
  rw [← judgeFrame_reason] at h ⊢
  unfold State.takeGaugeFrame
  simp only [ha, hq, Bool.not_true, Bool.false_eq_true, ↓reduceIte]
  split
  next d mark hv => exact absurd (congrArg GaugeVerdict.reason hv) h
  next => rfl

/-! An accepted frame: the measurements are beside what the filter keeps. -/

section
variable (s : State) (x : GaugeSource) (d : Nat)

/-- The measurements of R613 write nothing of the source but themselves. -/
theorem measure_eq : s.measure x d = { x with
    lastAdvance := (s.measure x d).lastAdvance, measStep := (s.measure x d).measStep
    measMark := (s.measure x d).measMark, stepInterval := (s.measure x d).stepInterval } := by
  unfold State.measure
  split
  · rfl
  · split <;> rfl

@[simp] theorem measure_port : (s.measure x d).port = x.port := by rw [measure_eq]
@[simp] theorem measure_lastStep : (s.measure x d).lastStep = x.lastStep := by rw [measure_eq]
@[simp] theorem measure_lastMark : (s.measure x d).lastMark = x.lastMark := by rw [measure_eq]
@[simp] theorem measure_lastTime : (s.measure x d).lastTime = x.lastTime := by rw [measure_eq]
@[simp] theorem measure_rejects : (s.measure x d).rejects = x.rejects := by rw [measure_eq]
@[simp] theorem measure_quarantined : (s.measure x d).quarantined = x.quarantined := by rw [measure_eq]

theorem acceptFrame_eq_sources (mark : Nat) :
    s.acceptFrame x d mark = { s with gauge := { s.gauge with sources := (s.acceptFrame x d mark).gauge.sources } } := rfl

theorem acceptFrame_source (mark q : Nat) : (s.acceptFrame x d mark).source q = if q = x.port then
    s.measure { x with lastStep := x.lastStep + d, lastMark := mark, lastTime := some s.now, rejects := 0 } d
    else s.source q := by
  simp [State.acceptFrame, source_setSource]

end

/-! A rejected frame: the eighth in a row quarantines the source. -/

/-- A source after one more rejection in a row. -/
def GaugeSource.rejected (x : GaugeSource) : GaugeSource :=
  { x with rejects := x.rejects + 1, quarantined := decide (x.rejects + 1 = 8) }

/-- The state after a rejection, before an event is raised. -/
def State.afterReject (s : State) (x : GaugeSource) (reason : Nat) : State :=
  (s.count (.gauge (s.portIndex x.port) reason)).setSource x.rejected

theorem rejectFrame_eq {x : GaugeSource} (s : State) (reason : Nat) (hq : x.quarantined = false) :
    s.rejectFrame x reason = if x.rejects + 1 = 8 then (s.afterReject x reason).raise .gaugeSourceQuarantined x.port
      else s.afterReject x reason := by
  unfold State.rejectFrame State.afterReject GaugeSource.rejected
  dsimp only
  split
  next h => simp [h]
  next h => simp [h, hq]

theorem rejectFrame_speaks {x : GaugeSource} (s : State) (reason : Nat) (hq : x.quarantined = false) :
    OnlySpeaks (s.afterReject x reason) (s.rejectFrame x reason) := by
  rw [rejectFrame_eq s reason hq]
  split
  · exact raise_speaks ..
  · exact OnlySpeaks.refl _

theorem afterReject_source (s : State) (x : GaugeSource) (reason q : Nat) :
    (s.afterReject x reason).source q = if q = x.port then x.rejected else s.source q :=
  source_setSource ..

/-- Settles O1, by the reason that the checks of R57 give the frame: with none the source moves and only the sources differ, with
one the rejection is counted, and the eighth in a row quarantines the source. -/
theorem gaugeFrameFilter : Obligations.GaugeFrameFilter := by
  unfold Obligations.GaugeFrameFilter
  intro s p payload ha hq x mark d reason
  have hreason : reason = s.frameReason x payload := rfl
  refine ⟨s.takeGaugeFrame p payload, rfl, ?_⟩
  by_cases h0 : s.frameReason x payload = 0
  · rw [takeGaugeFrame_of_reason_zero ha hq h0]
    refine ⟨fun q hqp => ?_, fun _ => ?_, fun h => absurd (hreason.trans h0) h⟩
    · simp [acceptFrame_source, hqp]
    · refine ⟨?_, ?_, ?_, ?_, ?_, acceptFrame_eq_sources ..⟩ <;> simp [acceptFrame_source, x, d, mark, frameDistance, hq]
  · rw [takeGaugeFrame_of_reason_ne_zero ha hq h0]
    have hspeaks := rejectFrame_speaks s (s.frameReason x payload) hq
    have heq := rejectFrame_eq s (s.frameReason x payload) hq
    rw [source_port] at heq
    refine ⟨fun q hqp => ?_, fun h => absurd (hreason.symm.trans h) h0, fun _ => ⟨?_, ?_, fun h8 => ?_, fun h8 => ?_⟩⟩
    · rw [hspeaks.source, afterReject_source, if_neg (by simpa using hqp)]
    · rw [hspeaks.source, afterReject_source, if_pos (source_port s p).symm]
      rfl
    · rw [hspeaks.counter, hreason]
      simpa [State.counter, State.afterReject] using count_counter_same s (.gauge (s.portIndex p) (s.frameReason x payload)) 1
    · exact ⟨_, heq.trans (if_pos h8), rfl⟩
    · rw [heq, if_neg h8]
      rfl

/-! ### Publication (R61, R175, R512) -/

theorem Gauge.lt_irrefl (a : Gauge) : Gauge.lt a a = false := by
  simp [Gauge.lt]

theorem Gauge.lt_asymm {a b : Gauge} (h : Gauge.lt a b = true) : Gauge.lt b a = false := by
  simp only [Gauge.lt, Bool.or_eq_true, Bool.and_eq_true, decide_eq_true_eq, Bool.or_eq_false_iff, Bool.and_eq_false_iff,
    decide_eq_false_iff_not] at *
  omega

/-- The later of two Gauges does not precede the first. -/
theorem Gauge.not_later_lt (a b : Gauge) : Gauge.lt (Gauge.later a b) a = false := by
  unfold Gauge.later
  split
  next h => exact Gauge.lt_asymm h
  next => exact Gauge.lt_irrefl a

/-- The fence that is published is at or above the one before (R175). -/
theorem le_nextFence (s : State) (leading : Nat) : s.gauge.pubFence ≤ s.nextFence leading := by
  unfold State.nextFence
  exact Nat.le_max_left ..

theorem OnlySpeaks.withGauge {s t : State} (h : OnlySpeaks s t) (g : GaugeState) :
    OnlySpeaks { s with gauge := g } { t with gauge := g } :=
  congrArg (fun u : State => { u with gauge := g }) (show t = s.voicedAs t from h)

/-- After what only speaks, TWIN_LAG writes of the Gauge only the time it was raised (R512). -/
theorem checkTwinLag_speaks {s t : State} (h : OnlySpeaks s t) :
    ∃ lagAt, OnlySpeaks { s with gauge := { s.gauge with twinLagAt := lagAt } } t.checkTwinLag := by
  have hlag (at' : Option Nat) : OnlySpeaks { s with gauge := { s.gauge with twinLagAt := at' } }
      { t with gauge := { t.gauge with twinLagAt := at' } } := by
    rw [h.gauge]
    exact h.withGauge _
  unfold State.checkTwinLag
  split
  · exact ⟨s.gauge.twinLagAt, h⟩
  · dsimp only
    generalize (if t.gauge.pubCommitted.step ≤ _ then _ else _) = gap
    split
    · exact ⟨some t.now, (hlag _).trans (raise_speaks ..)⟩
    · exact ⟨s.gauge.twinLagAt, h⟩

/-- The state with this side's new values and fence, and the times of publication and of TWIN_LAG. -/
def State.published (s : State) (lo hi : Gauge) (pubAt lagAt : Option Nat) : State :=
  { s with gauge := { s.gauge with
      pubCommitted := Gauge.later s.gauge.pubCommitted lo
      pubLeading := Gauge.later s.gauge.pubLeading hi
      pubFence := s.nextFence (Gauge.later s.gauge.pubLeading hi).step
      pubAt := pubAt
      twinLagAt := lagAt } }

/-- A publication of this side's values writes both values, the fence and two times (R61, R175, R512). -/
theorem publishHere_speaks {s : State} {lo hi : Gauge} (h : s.reduced = some (lo, hi)) :
    ∃ pubAt lagAt, OnlySpeaks (s.published lo hi pubAt lagAt) s.publishHere := by
  have round (u : State) (c l : Gauge) (f : Nat) : OnlySpeaks u (if s.audience.any (fun d => decide (d < 128)) then
      (u.sendPiece 1 (.publication c l f)).sendPiece 0 (.item (.fence f)) else u) := by
    split
    · exact (sendPiece_speaks ..).trans (sendPiece_speaks ..)
    · exact OnlySpeaks.refl _
  have twin (u : State) (b : Body) : OnlySpeaks u (if s.group.set.twin ∧ !s.group.acting then
      { u with sent := u.sent ++ [.twin b] } else u) := by
    split <;> exact OnlySpeaks.refl _
  unfold State.publishHere
  rw [h]
  dsimp only
  split
  next hsame =>
    obtain ⟨hc, hl, hf⟩ := hsame
    refine ⟨s.gauge.pubAt, s.gauge.twinLagAt, ?_⟩
    unfold State.published
    rw [hf, hc, hl]
    exact OnlySpeaks.refl _
  next =>
    obtain ⟨lagAt, hspeaks⟩ := checkTwinLag_speaks
      ((round (s.published lo hi (some s.now) s.gauge.twinLagAt) _ _ _).trans (twin _ _))
    exact ⟨some s.now, lagAt, hspeaks⟩

/-- An acting manager's publication for the other side leaves this side's values as they are (R506). -/
theorem publishFar_speaks (s : State) : ∃ peerSide pubAt peerFence, OnlySpeaks { s with gauge := { s.gauge with
    peerSide := peerSide, pubAt := pubAt, peerFence := peerFence } } s.publishFar := by
  unfold State.publishFar
  split
  · exact ⟨_, _, _, OnlySpeaks.refl _⟩
  · dsimp only
    split <;> exact ⟨_, _, _, OnlySpeaks.refl _⟩

theorem publishHere_of_nothing {s : State} (h : s.reduced = none) : s.publishHere = s := by
  simp only [State.publishHere, h]

/-- What a publication leaves of this side, whatever it does for the other. -/
theorem publishFar_keeps {s t : State} (h : OnlySpeaks s t) :
    t.publishFar.gauge.pubCommitted = s.gauge.pubCommitted ∧ t.publishFar.gauge.pubLeading = s.gauge.pubLeading ∧
    t.publishFar.gauge.pubFence = s.gauge.pubFence ∧ t.publishFar.gauge.committed = s.gauge.committed ∧
    t.publishFar.gauge.leading = s.gauge.leading ∧ t.publishFar.mem = s.mem ∧ t.publishFar.media = s.media := by
  obtain ⟨peerSide, pubAt, peerFence, hfar⟩ := publishFar_speaks t
  rw [hfar.gauge, hfar.mem, hfar.media, ← h.gauge, ← h.mem, ← h.media]
  exact ⟨rfl, rfl, rfl, rfl, rfl, rfl, rfl⟩

/-- Settles O2, by whether the manager publishes and what its reduction gives: nothing, and the values stay, or two values, and
the later of each and of its predecessor is published. -/
theorem publishedGaugeNeverDecreases : Obligations.PublishedGaugeNeverDecreases := by
  unfold Obligations.PublishedGaugeNeverDecreases
  intro s
  refine ⟨_, rfl, ?_⟩
  split
  next hquiet =>
    refine ⟨Gauge.lt_irrefl _, Gauge.lt_irrefl _, Nat.le_refl _, fun lo hi hm hw => ?_, rfl, rfl, rfl, rfl⟩
    simp [hm, hw] at hquiet
  next =>
    cases hr : s.reduced with
    | none =>
      rw [publishHere_of_nothing hr]
      obtain ⟨hc, hl, hf, hcommitted, hleading, hmem, hmedia⟩ := publishFar_keeps (OnlySpeaks.refl s)
      rw [hc, hl, hf]
      exact ⟨Gauge.lt_irrefl _, Gauge.lt_irrefl _, Nat.le_refl _, nofun, hcommitted, hleading, hmem, hmedia⟩
    | some g =>
      obtain ⟨lo, hi⟩ := g
      obtain ⟨pubAt, lagAt, hhere⟩ := publishHere_speaks hr
      obtain ⟨hc, hl, hf, hcommitted, hleading, hmem, hmedia⟩ := publishFar_keeps hhere
      rw [hc, hl, hf]
      refine ⟨Gauge.not_later_lt .., Gauge.not_later_lt .., le_nextFence .., fun lo' hi' _ _ heq => ?_,
        hcommitted, hleading, hmem, hmedia⟩
      cases heq
      exact ⟨rfl, rfl⟩

/-! ### The settings (R66) -/

/-- The ranges of the five settings (R66). -/
abbrev GaugeSettingsInRange (tag jump timeout horizon lead : Nat) : Prop :=
  1 ≤ tag ∧ tag ≤ 65535 ∧ 1 ≤ jump ∧ jump ≤ 1024 ∧ 1 ≤ timeout ∧ timeout ≤ 3600 ∧ 1 ≤ horizon ∧ horizon ≤ 64 ∧
    2 ≤ lead ∧ lead ≤ 1000

section
variable {s : State} {r : Req} {tag jump timeout horizon lead : Nat}

theorem gaugeConfigCheck_eq_none_iff : gaugeConfigCheck r tag jump timeout horizon lead s = none ↔
    MayManage s r ∧ GaugeSettingsInRange tag jump timeout horizon lead := by
  simp [gaugeConfigCheck, firstReject_eq_none, and_assoc]

/-- From a request that may manage, only a setting out of its range is turned away, at the offset of its field (log entry 8). -/
theorem gaugeConfigCheck_eq_some {e : Reject} (hm : MayManage s r)
    (h : gaugeConfigCheck r tag jump timeout horizon lead s = some e) : ∃ n ∈ [0, 2, 4, 8, 12], e = badParam n := by
  have hmem := exists_mem_of_firstReject_eq_some h
  have hmay := (notManager_fst s r).mpr hm
  simp only [List.mem_cons, List.not_mem_nil, or_false, Prod.mk.injEq] at hmem
  rcases hmem with hnot | ⟨_, rfl⟩ | ⟨_, rfl⟩ | ⟨_, rfl⟩ | ⟨_, rfl⟩ | ⟨_, rfl⟩
  · simp [← hnot] at hmay
  all_goals simp

end

/-- Settles O3, by the checks of the settings: in range they all pass, and outside the one that fails names the offset. -/
theorem gaugeSettings : Obligations.GaugeSettings := by
  unfold Obligations.GaugeSettings
  refine ⟨⟨rfl, rfl, rfl, rfl⟩, fun s r tag jump timeout horizon lead hform hm => ⟨?_, fun hout => ?_⟩⟩
  · intro htag htag' hjump hjump' htimeout htimeout' hhorizon hhorizon' hlead hlead'
    have hpass : gaugeConfigCheck r tag jump timeout horizon lead s = none := gaugeConfigCheck_eq_none_iff.mpr
      ⟨hm, htag, htag', hjump, hjump', htimeout, htimeout', hhorizon, hhorizon', hlead, hlead'⟩
    show Host.Outcome.next (s.finish r 0x0410 (gaugeConfigCheck r tag jump timeout horizon lead s) _) = _
    rw [hpass, finish_ok hform]
  · have hfail : gaugeConfigCheck r tag jump timeout horizon lead s ≠ none :=
      fun hnone => hout (gaugeConfigCheck_eq_none_iff.mp hnone).2
    obtain ⟨e, he⟩ := Option.ne_none_iff_exists'.mp hfail
    obtain ⟨n, hn, rfl⟩ := gaugeConfigCheck_eq_some hm he
    refine ⟨n, s.answer r 0x0410 .badParam n, hn, ?_, rfl, answer_speaks ..⟩
    show Host.Outcome.next (s.finish r 0x0410 (gaugeConfigCheck r tag jump timeout horizon lead s) _) = _
    rw [he, finish_reject hform]
    rfl

/-! ### Summaries, sources and the timebase (R58 to R64, R74, R76) -/

theorem execDeviceSummarySend_changed {s : State} {lo hi : Gauge} (h : s.summary = some (lo, hi)) (hm : s.isManager = false)
    (hw : s.within s.gauge.sentSummaryAt (s.us 1) = false) (hnew : s.gauge.sentSummary ≠ some (lo, hi)) :
    execDeviceSummarySend s = .next (State.sendPiece
      { s with gauge := { s.gauge with sentSummary := some (lo, hi), sentSummaryAt := some s.now } } 1 (.summary lo hi)) := by
  simp [execDeviceSummarySend, h, hm, hw, hnew]

/-- A summary after a newer one: one that goes backward is ignored and counted (R62). -/
def Summary.newer (x : Summary) (lo hi : Gauge) : Summary :=
  if Gauge.lt lo x.lo || Gauge.lt hi x.hi then { x with ignored := x.ignored + 1 } else { x with lo := lo, hi := hi }

theorem Summary.newer_device (x : Summary) (lo hi : Gauge) : (x.newer lo hi).device = x.device := by
  unfold Summary.newer
  split <;> rfl

theorem takeSummary_of_known {s : State} {d : Nat} {x : Summary} (lo hi : Gauge)
    (h : s.gauge.summaries.find? (fun y => decide (y.device = d)) = some x) :
    s.takeSummary d lo hi = { s with gauge := { s.gauge with
      summaries := updateFirst (fun z => decide (z.device = d)) (fun _ => x.newer lo hi) s.gauge.summaries } } := by
  unfold State.takeSummary
  simp only [h]
  rfl

/-- The manager's entry of a device after a newer summary. -/
theorem find?_summaries_after_newer {l : List Summary} {d : Nat} {x : Summary} (lo hi : Gauge)
    (h : l.find? (fun y => decide (y.device = d)) = some x) :
    (updateFirst (fun z => decide (z.device = d)) (fun _ => x.newer lo hi) l).find? (fun y => decide (y.device = d))
      = some (x.newer lo hi) := by
  have hx : x.device = d := by simpa using List.find?_some h
  rw [find?_updateFirst_same (by simp [Summary.newer_device, hx]), h, Option.map_some]

theorem execSummaryReceive_of_known {s : State} {d : Nat} {x : Summary} (hm : s.isManager = true)
    (hx : s.gauge.summaries.find? (fun y => decide (y.device = d)) = some x)
    (hr : s.gauge.summaries.any (fun y => decide (y.device = d) && y.removed) = false) (lo hi : Gauge) :
    execSummaryReceive d lo hi s = .next { s with
      gauge := { s.gauge with
        summaries := updateFirst (fun z => decide (z.device = d)) (fun _ => x.newer lo hi) s.gauge.summaries }
      group := { s.group with heard := assign s.group.heard d s.now } } := by
  unfold execSummaryReceive
  simp only [hm, hr, Bool.not_true, Bool.false_eq_true, ↓reduceIte]
  exact congrArg _ (takeSummary_of_known (s := { s with group := { s.group with heard := assign s.group.heard d s.now } }) lo hi hx)

theorem execGaugeRead_of_port {s : State} {r : Req} {p : Nat} (h : FormOk s r 0x0411) (hp : p ≤ 255) (ha : s.isAccel p = true) :
    execGaugeRead r p s = .next (s.answer r 0x0411 .ok 0 []
      ([s.gauge.committed.step, s.gauge.committed.mark, s.gauge.leading.step, s.gauge.leading.mark, s.gauge.fence,
        s.gauge.hold.toNat, s.gauge.jobTag, s.gauge.maxJump, s.gauge.timeoutS, s.gauge.horizon, s.gauge.weirLead]
        ++ (s.gauge.sources.filter (fun x => decide (x.port = p))).flatMap s.sourceReport)) := by
  have hall : p ≠ 0xFFFF := by omega
  unfold execGaugeRead
  dsimp only
  rw [finish_of_checks_pass h (by simp [ha]; omega)]
  simp [hall]

/-- A source after GAUGE_SOURCE_CTRL: action 0 is RELEASE, 1 EXCLUDE (R59). -/
def GaugeSource.controlled (x : GaugeSource) (action : Nat) (g : Gauge) (now : Nat) : GaugeSource :=
  if action = 0 then { seedSource x g now with quarantined := false, excluded := false }
  else { x with excluded := true, quarantined := false, rejects := 0 }

@[simp] theorem GaugeSource.controlled_port (x : GaugeSource) (action : Nat) (g : Gauge) (now : Nat) :
    (x.controlled action g now).port = x.port := by
  unfold GaugeSource.controlled
  split <;> rfl

theorem execGaugeSourceCtrl_of_port {s : State} {r : Req} {p action mark : Nat} (h : FormOk s r 0x0412) (hp : p ≤ 255)
    (haction : action ≤ 1) (hmark : mark ≤ 15) (ha : s.isAccel p = true) (step : Nat) :
    execGaugeSourceCtrl r p action mark step s =
      .next ((s.setSource ((s.source p).controlled action ⟨step, mark⟩ s.now)).answer r 0x0412 .ok) := by
  unfold execGaugeSourceCtrl
  dsimp only
  rw [finish_of_checks_pass h (by simp [ha]; omega)]
  rfl

theorem execTimebaseCorrectionSend_of_manager {s : State} (hm : s.isManager = true) (hc : s.power.clkMode ≠ 2#2) :
    execTimebaseCorrectionSend s = .next (s.sendPiece 2 (.correction s.gauge.timebase)) :=
  if_pos ⟨hm, .inl hc⟩

theorem execTimebaseCorrectionReceive_of_worker {s : State} (hm : s.isManager = false) (hr : s.power.tbRing = false)
    (count : Nat) : execTimebaseCorrectionReceive count s = .next { s with gauge := { s.gauge with
      slew := ((count + s.gauge.delayPs * s.fuse.clockBin / 10000 : Nat) : Int) - s.gauge.timebase } } := by
  simp [execTimebaseCorrectionReceive, hm, hr]

/-! ### Publications taken and armed events (R63 to R70) -/

theorem takePublication_of_no_advance {s : State} {c : Gauge} (h : Gauge.lt s.gauge.committed c = false) (l : Gauge) (f : Nat) :
    s.takePublication c l f = { s with gauge := { s.gauge with committed := c, leading := l, fence := f } } := by
  simp [State.takePublication, h]

/-- A publication that advances ends a hold with GAUGE_RESUMED (R64, R65). -/
theorem takePublication_resumes {s : State} {c : Gauge} (h : Gauge.lt s.gauge.committed c = true) (hh : s.gauge.hold = true)
    (l : Gauge) (f : Nat) : ∃ u : State, s.takePublication c l f = u.raise .gaugeResumed := by
  unfold State.takePublication
  simp only [h, hh, Bool.not_true, Bool.and_true, Bool.false_eq_true, ↓reduceIte]
  exact ⟨_, rfl⟩

theorem armEvent_gauge (s : State) (e : ArmedEvent) :
    (s.armEvent e).gauge = { s.gauge with armed := s.gauge.armed ++ [e], lastHandle := e.handle } := by
  unfold State.armEvent
  dsimp only
  split
  · rfl
  · split <;> rfl
  · rfl

theorem cancelEvent_gauge {s : State} {handle : Nat} {e : ArmedEvent}
    (h : s.gauge.armed.find? (fun x => decide (x.handle = handle)) = some e) (hk : e.kind ≠ .checkpoint) :
    (s.cancelEvent handle).gauge = { s.gauge with
      armed := s.gauge.armed.filter (fun x => decide (x.handle ≠ handle))
      fenceHolds := s.gauge.fenceHolds.filter (fun h => decide (h.1 ≠ handle)) } := by
  simp only [State.cancelEvent, h]
  split
  next hc => exact absurd hc hk
  next => rfl
  next => rfl

theorem execEventCancel_of_live {s : State} {r : Req} {handle : Nat} {e : ArmedEvent} (hform : FormOk s r 0x0414)
    (hm : MayManage s r) (h : s.gauge.armed.find? (fun x => decide (x.handle = handle)) = some e)
    (hlive : s.followsCommitted e.target = true) : execEventCancel r handle s = .next
      ((s.cancelEvent handle).distribute r 0x0414 (.cancelEvent handle) (.answer r 0x0414 0 [] [])) := by
  have hmem := List.mem_of_find?_eq_some h
  have hhandle := List.find?_some h
  have hany : s.gauge.armed.any (fun e => decide (e.handle = handle) && s.followsCommitted e.target) = true :=
    List.any_eq_true.mpr ⟨e, hmem, by rw [hhandle, hlive]; rfl⟩
  unfold execEventCancel
  dsimp only
  rw [finish_of_checks_pass hform (by simpa [hany] using hm)]

/-! ### The Weir (R77, R78) -/

theorem execWeirStatus_of_weir {s : State} {r : Req} {w : Weir} (h : FormOk s r 0x0421) (hw : s.gauge.weir = some w) :
    execWeirStatus r s = .next (s.answer r 0x0421 .ok 0 []
      [if w.phase = .armed then 1 else if w.phase = .sent then 2 else if w.phase = .opened ∧ s.weirMissing w = true then 3 else 4,
        w.target.step, w.target.mark, w.tOpen.getD 0, maxD (w.acks.map (·.2)) w.lateness]) := by
  unfold execWeirStatus
  rw [hw]
  dsimp only
  rw [finish_ok h]
  cases w.phase <;> cases s.weirMissing w <;> rfl

theorem OnlySpeaks.withDet {s t : State} (h : OnlySpeaks s t) (d : DetState) :
    OnlySpeaks { s with det := d } { t with det := d } :=
  congrArg (fun u : State => { u with det := d }) (show t = s.voicedAs t from h)

/-- A Weir without a gate list, opened: its actions on the feed, and the resume that waited for it is answered (R78). -/
def State.weirOpened (s : State) (w : Weir) (lateness : Nat) : State :=
  { s with gauge := { s.gauge with weir := some { w with phase := .opened, lateness := lateness } }
           pipe := { s.pipe with feedStarted := s.pipe.feedStarted || w.actions.startFeed }
           det := { s.det with resumeWaiter := none } }

/-- After what only speaks, the resume that waits for the opening is answered, if one does (R78). -/
theorem answerResumeWaiter_speaks {s t : State} (h : OnlySpeaks s t) :
    OnlySpeaks { s with det := { s.det with resumeWaiter := none } } (match t.det.resumeWaiter with
      | some r => ({ t with det := { t.det with resumeWaiter := none } }).answer r 0x0434 .ok
      | none => t) := by
  rw [h.det]
  split
  · exact (h.withDet _).trans (answer_speaks ..)
  next hnone =>
    rw [show { s.det with resumeWaiter := none } = s.det by rw [← hnone]]
    exact h

theorem openWeir_speaks (s : State) {w : Weir} (hg : w.actions.gateList = none) (n : Nat) :
    OnlySpeaks (s.weirOpened w n) (s.openWeir w n) := by
  have late (u : State) : OnlySpeaks u (if 0 < n then u.raise .weirLate 0 (natLe 8 n) else u) := by
    split
    · exact raise_speaks ..
    · exact OnlySpeaks.refl _
  have ack (u : State) : OnlySpeaks u (if u.isManager then u else u.sendPiece 4 (.weirAck n)) := by
    split
    · exact OnlySpeaks.refl _
    · exact sendPiece_speaks ..
  have feed (u : State) : (if w.actions.startFeed then u.setPipe { u.pipe with feedStarted := true } else u)
      = { u with pipe := { u.pipe with feedStarted := u.pipe.feedStarted || w.actions.startFeed } } := by
    cases w.actions.startFeed
    · simp
    · simp [State.setPipe]
  unfold State.openWeir
  dsimp only
  rw [feed, hg]
  dsimp only
  exact answerResumeWaiter_speaks (s := { s.weirOpened w n with det := s.det }) ((late _).trans (ack _))

theorem openWeir_weir (s : State) {w : Weir} (hg : w.actions.gateList = none) (n : Nat) :
    (s.openWeir w n).gauge.weir = some { w with phase := .opened, lateness := n } := by
  rw [(openWeir_speaks s hg n).gauge]
  rfl

theorem openWeir_feedStarted (s : State) {w : Weir} (hg : w.actions.gateList = none) (hf : w.actions.startFeed = true) (n : Nat) :
    (s.openWeir w n).pipe.feedStarted = true := by
  rw [(openWeir_speaks s hg n).pipe]
  simp [State.weirOpened, hf]

/-- A Weir that has been given its opening time (R78). -/
def Weir.sentAt (w : Weir) (t : Nat) : Weir := { w with phase := .sent, tOpen := some t }

section
variable {s : State} {w : Weir} (hw : s.gauge.weir = some w) (hp : w.phase = .armed) (hm : s.isManager = false)
include hw hp hm

/-- WEIR_OPEN on a worker: the time is loaded, and one that has passed opens the Weir at once (R78). -/
theorem execWeirOpen_of_worker (t : Nat) : execWeirOpen t s = .next
    (if t < s.gauge.timebase then ({ s with gauge := { s.gauge with weir := some (w.sentAt t) } } : State).openWeir (w.sentAt t)
      (s.gauge.timebase - t) else { s with gauge := { s.gauge with weir := some (w.sentAt t) } }) := by
  have hworker : ({ s with gauge := { s.gauge with weir := some (w.sentAt t) } } : State).isManager = false := hm
  unfold execWeirOpen
  rw [hw]
  dsimp only
  rw [if_neg (not_not_intro hp)]
  unfold Weir.sentAt at hworker ⊢
  rw [if_neg (ne_true_of_eq_false hworker)]

theorem weirOpen_ahead {t : Nat} (hle : s.gauge.timebase ≤ t) :
    exec (.weirOpen t) s = .next { s with gauge := { s.gauge with weir := some { w with phase := .sent, tOpen := some t } } } := by
  have hexec := execWeirOpen_of_worker hw hp hm t
  rw [if_neg (Nat.not_lt.mpr hle)] at hexec
  exact hexec

theorem weirOpen_late {t : Nat} (hlt : t < s.gauge.timebase) (hg : w.actions.gateList = none) :
    ∃ u, exec (.weirOpen t) s = .next u ∧
      u.gauge.weir = some { w with phase := .opened, tOpen := some t, lateness := s.gauge.timebase - t } ∧
      (w.actions.startFeed = true → u.pipe.feedStarted = true) := by
  have hexec := execWeirOpen_of_worker hw hp hm t
  rw [if_pos hlt] at hexec
  exact ⟨_, hexec, openWeir_weir _ (w := w.sentAt t) hg _, fun hf => openWeir_feedStarted _ (w := w.sentAt t) hg hf _⟩

end

theorem execWeirOpenTime_of_reached {s : State} {w : Weir} {t : Nat} (hw : s.gauge.weir = some w) (hp : w.phase = .sent)
    (ht : w.tOpen = some t) (hle : t ≤ s.gauge.timebase) : execWeirOpenTime s = .next (s.openWeir w 0) := by
  simp only [execWeirOpenTime, hw, ht]
  rw [if_pos ⟨hp, hle⟩]

/-! ### The rows of chapter 02 -/

theorem gaugeSourceCtrl_of_port {s : State} {r : Req} {p action mark : Nat} (h : FormOk s r 0x0412) (hp : p ≤ 255)
    (haction : action ≤ 1) (hmark : mark ≤ 15) (ha : s.isAccel p = true) (step : Nat) :
    ∃ u : State, exec (.gaugeSourceCtrl r p action mark step) s = .next (u.answer r 0x0412 .ok) ∧
      u = { s with gauge := { s.gauge with sources := u.gauge.sources } } ∧ (∀ q, q ≠ p → u.source q = s.source q) ∧
      u.source p = (s.source p).controlled action ⟨step, mark⟩ s.now := by
  refine ⟨_, execGaugeSourceCtrl_of_port h hp haction hmark ha step, rfl, fun q hq => ?_, ?_⟩
  · simp [source_setSource, hq]
  · simp [source_setSource]

/-- Settles O4, row by row: each row's guard passes under its hypotheses, and what its operation writes is said above. -/
theorem gaugeAndWeirRun : Obligations.GaugeAndWeirRun := by
  unfold Obligations.GaugeAndWeirRun
  refine ⟨⟨?summarySend, ?summaryReceive, ?timeout, ?read, ?sourceCtrl, ?correctionSend, ?correctionReceive⟩,
    ?publication, ?eventArm, ?eventCancel, ?weirArm, ?weirStatus, ?weirOpen, ?weirOpenTime⟩
  case summarySend => exact fun s lo hi => execDeviceSummarySend_changed
  case summaryReceive =>
    exact fun s d lo hi x hm hx hr => ⟨_, execSummaryReceive_of_known hm hx hr lo hi, find?_summaries_after_newer lo hi hx, rfl⟩
  case timeout => exact fun s h => if_neg (by simp [h])
  case read => exact fun s r p => execGaugeRead_of_port
  case sourceCtrl =>
    intro s r p action mark step hform hp haction hmark ha
    obtain ⟨u, hexec, hframe, hothers, hsource⟩ := gaugeSourceCtrl_of_port hform hp haction hmark ha step
    refine ⟨u, hexec, hframe, hothers, ?_⟩
    rw [hsource]
    obtain rfl | rfl : action = 0 ∨ action = 1 := by omega
    · simp [GaugeSource.controlled, seedSource]
    · simp [GaugeSource.controlled]
  case correctionSend => exact fun s => execTimebaseCorrectionSend_of_manager
  case correctionReceive => exact fun s count hm hr => execTimebaseCorrectionReceive_of_worker hm hr count
  case publication =>
    exact fun s c l f => ⟨_, rfl, fun h => takePublication_of_no_advance h l f, fun h hh => takePublication_resumes h hh l f⟩
  case eventArm =>
    intro s r kind mark step item ckptKind ckptFlags ckptDest ckptAddr hform hcheck e
    refine ⟨?_, armEvent_gauge s e⟩
    show Host.Outcome.next (s.finish r 0x0413 _ (s.armAndSpread r e)) = _
    rw [hcheck, finish_ok hform]
  case eventCancel =>
    exact fun s r handle e hform hm hfind hlive => ⟨execEventCancel_of_live hform hm hfind hlive, cancelEvent_gauge hfind⟩
  case weirArm =>
    intro s r mark actions step gateList hform hcheck a
    show Host.Outcome.next (s.finish r 0x0420 _ _) = _
    rw [hcheck, finish_ok hform]
    rfl
  case weirStatus =>
    refine fun s r hform => ⟨fun hnone => ?_, fun w => execWeirStatus_of_weir hform⟩
    show execWeirStatus r s = _
    simp only [execWeirStatus, hnone, finish_ok hform]
  case weirOpen =>
    exact fun s w t hw hp hm => ⟨weirOpen_ahead hw hp hm, weirOpen_late hw hp hm⟩
  case weirOpenTime =>
    intro s w t hw hp ht hle hactions _ _
    have hg : w.actions.gateList = none := by rw [hactions]
    have hf : w.actions.startFeed = true := by rw [hactions]
    exact ⟨_, execWeirOpenTime_of_reached hw hp ht hle, openWeir_weir s hg 0, openWeir_feedStarted s hg hf 0⟩

end Sys2Proof.Machine
end

section
/-! Family `03_buffer_pools.md`: allocation from a pool, the checks of a returned pointer, the other pool commands and the
rotating-priority arbiter (R80 to R93).

First the arbiter and what a pool looks up as after an update; then the lists of held buffers, out of which a grant picks a free
one; then one lemma for each outcome of an allocation and of a return. -/

namespace Sys2Proof.Machine

/-! ### Rotating-priority arbitration (R92) -/

/-- The least ready index at or above the pointer wins. -/
theorem arbWinner_of_min?_above {ptr i : Nat} {ready : List Nat}
    (h : (ready.filter (fun j => decide (ptr ≤ j))).min? = some i) :
    arbWinner ptr ready = some i ∧ i ∈ ready ∧ ptr ≤ i ∧ ∀ j ∈ ready, ptr ≤ j → i ≤ j := by
  have hmin := List.min?_eq_some_iff.mp h
  simp only [List.mem_filter, decide_eq_true_eq] at hmin
  obtain ⟨⟨hmem, hptr⟩, hle⟩ := hmin
  exact ⟨by rw [arbWinner, h], hmem, hptr, fun j hj hp => hle j ⟨hj, hp⟩⟩

/-- With no ready index at or above the pointer the least of all wins. -/
theorem arbWinner_of_all_below {ptr : Nat} {ready : List Nat}
    (h : (ready.filter (fun j => decide (ptr ≤ j))).min? = none) :
    arbWinner ptr ready = ready.min? ∧ ∀ j ∈ ready, j < ptr := by
  refine ⟨by rw [arbWinner, h], ?_⟩
  simpa [List.min?_eq_none_iff] using h

theorem arbWinner_spec {ptr i : Nat} {ready : List Nat} (h : arbWinner ptr ready = some i) :
    i ∈ ready ∧ ((ptr ≤ i ∧ ∀ j ∈ ready, ptr ≤ j → i ≤ j) ∨ (i < ptr ∧ (∀ j ∈ ready, j < ptr) ∧ ∀ j ∈ ready, i ≤ j)) := by
  cases habove : (ready.filter (fun j => decide (ptr ≤ j))).min? with
  | some k =>
    obtain ⟨hwin, hmem, hptr, hle⟩ := arbWinner_of_min?_above habove
    obtain rfl : k = i := Option.some.inj (hwin.symm.trans h)
    exact ⟨hmem, .inl ⟨hptr, hle⟩⟩
  | none =>
    obtain ⟨hwin, hbelow⟩ := arbWinner_of_all_below habove
    obtain ⟨hmem, hle⟩ := List.min?_eq_some_iff.mp (hwin.symm.trans h)
    exact ⟨hmem, .inr ⟨hbelow i hmem, hbelow, hle⟩⟩

theorem exists_arbWinner_of_ne_nil (ptr : Nat) {ready : List Nat} (h : ready ≠ []) : ∃ i, arbWinner ptr ready = some i := by
  cases habove : (ready.filter (fun j => decide (ptr ≤ j))).min? with
  | some k => exact ⟨k, (arbWinner_of_min?_above habove).1⟩
  | none =>
    rw [(arbWinner_of_all_below habove).1]
    exact Option.ne_none_iff_exists'.mp (mt List.min?_eq_none_iff.mp h)

/-- Settles O60, by whether a ready index lies at or above the pointer; with pointer 0 every index does. -/
theorem arbiterWinner : Obligations.ArbiterWinner := by
  unfold Obligations.ArbiterWinner
  refine fun ptr ready => ⟨?_, fun i => arbWinner_spec, exists_arbWinner_of_ne_nil ptr, ?_, fun n w hn => ⟨rfl, Nat.mod_lt _ hn⟩⟩
  · rintro rfl
    rfl
  · rintro i rfl h j hj
    obtain ⟨-, ⟨-, hle⟩ | ⟨hlt, -⟩⟩ := arbWinner_spec h
    · exact hle j hj (Nat.zero_le j)
    · exact absurd hlt (Nat.not_lt_zero i)

/-! ### The pools after an update (R80) -/

theorem num_of_pool?_eq_some {s : State} {n : Nat} {p : Pool} (h : s.pool? n = some p) : p.num = n := by
  simpa using List.find?_some h

theorem pool?_congr {s t : State} (h : t.pools.pools = s.pools.pools) (n : Nat) : t.pool? n = s.pool? n := by
  unfold State.pool?
  rw [h]

theorem OnlySpeaks.pool? {s t : State} (h : OnlySpeaks s t) (n : Nat) : t.pool? n = s.pool? n :=
  pool?_congr (congrArg PoolState.pools h.pools) n

/-- A pool changed but for its number is found in its place, and every other pool as before. -/
theorem setPool_pool? {s : State} {n : Nat} {p p' : Pool} (h : s.pool? n = some p) (hnum : p'.num = p.num) (m : Nat) :
    (s.setPool p').pool? m = if m = n then some p' else s.pool? m := by
  obtain rfl := num_of_pool?_eq_some h
  unfold State.pool? State.setPool at *
  rw [hnum]
  split
  next hm => rw [hm, find?_updateFirst_same (by simp [hnum]), h, Option.map_some]
  next hm =>
    refine find?_updateFirst_other (fun q hq => ?_) _
    have hq : q.num = p.num := by simpa using hq
    simp [hq, hnum, Ne.symm hm]

/-! ### The held buffers of a pool and a free one (R82 to R84) -/

theorem lookup?_eq_none_iff {l : List (Nat × Nat)} {i : Nat} : lookup? l i = none ↔ ∀ h ∈ l, h.1 ≠ i := by
  simp [lookup?]

@[simp] theorem length_insertHeld (i q : Nat) (l : List (Nat × Nat)) : (insertHeld i q l).length = l.length + 1 := by
  induction l with
  | nil => rfl
  | cons h l ih =>
    unfold insertHeld
    split <;> simp [ih]

@[simp] theorem mem_insertHeld {i q : Nat} {l : List (Nat × Nat)} {h : Nat × Nat} :
    h ∈ insertHeld i q l ↔ h = (i, q) ∨ h ∈ l := by
  induction l with
  | nil => simp [insertHeld]
  | cons x l ih =>
    unfold insertHeld
    split
    next => exact List.mem_cons
    next =>
      calc h ∈ x :: insertHeld i q l ↔ h = x ∨ h = (i, q) ∨ h ∈ l := by rw [List.mem_cons, ih]
        _ ↔ h = (i, q) ∨ h = x ∨ h ∈ l := or_left_comm
        _ ↔ h = (i, q) ∨ h ∈ x :: l := by rw [List.mem_cons]

/-- A new holder is entered in its place. -/
theorem insertHeld_rising {i q : Nat} {l : List (Nat × Nat)} (h : l.Pairwise (fun a b => a.1 ≤ b.1)) :
    (insertHeld i q l).Pairwise (fun a b => a.1 ≤ b.1) := by
  induction l with
  | nil => simp [insertHeld]
  | cons x l ih =>
    obtain ⟨hx, hl⟩ := List.pairwise_cons.mp h
    unfold insertHeld
    split
    next hlt =>
      refine List.pairwise_cons.mpr ⟨fun y hy => ?_, h⟩
      obtain rfl | hy := List.mem_cons.mp hy
      · exact Nat.le_of_lt hlt
      · exact Nat.le_trans (Nat.le_of_lt hlt) (hx y hy)
    next hge =>
      refine List.pairwise_cons.mpr ⟨fun y hy => ?_, ih hl⟩
      obtain rfl | hy := mem_insertHeld.mp hy
      · exact Nat.le_of_not_lt hge
      · exact hx y hy

theorem lookup?_insertHeld_same {i : Nat} {l : List (Nat × Nat)} (h : lookup? l i = none) (q : Nat) :
    lookup? (insertHeld i q l) i = some q := by
  induction l with
  | nil => simp [insertHeld, lookup?]
  | cons x l ih =>
    rw [lookup?_eq_none_iff, List.forall_mem_cons, ← lookup?_eq_none_iff] at h
    obtain ⟨hx, hl⟩ := h
    unfold insertHeld
    split
    · simp [lookup?]
    · simpa [lookup?, hx] using ih hl

/-- Each taken index moves the free one up by at most one. -/
theorem kthFree_le (l : List (Nat × Nat)) (i k : Nat) : kthFree l i k ≤ i + k + l.length := by
  induction l generalizing i k with
  | nil => simp [kthFree]
  | cons x l ih =>
    unfold kthFree
    split
    · omega
    · have := ih (x.1 + 1) (k - (x.1 - i))
      simp only [List.length_cons]
      omega

theorem le_kthFree {l : List (Nat × Nat)} (hl : l.Pairwise (fun a b => a.1 ≤ b.1)) {i : Nat} (hi : ∀ h ∈ l, i ≤ h.1 + 1)
    (k : Nat) : i ≤ kthFree l i k := by
  induction l generalizing i k with
  | nil => simp [kthFree]
  | cons x l ih =>
    obtain ⟨hx, hl⟩ := List.pairwise_cons.mp hl
    unfold kthFree
    split
    · omega
    · have := ih hl (i := x.1 + 1) (fun h hh => Nat.succ_le_succ (hx h hh)) (k - (x.1 - i))
      have := hi x (List.mem_cons_self ..)
      omega

/-- The index found is none of those taken. -/
theorem kthFree_not_taken {l : List (Nat × Nat)} (hl : l.Pairwise (fun a b => a.1 ≤ b.1)) (i k : Nat) :
    ∀ h ∈ l, h.1 ≠ kthFree l i k := by
  induction l generalizing i k with
  | nil => simp
  | cons x l ih =>
    obtain ⟨hx, hl⟩ := List.pairwise_cons.mp hl
    unfold kthFree
    split
    next hlt =>
      refine List.forall_mem_cons.mpr ⟨Nat.ne_of_gt hlt, fun h hh => ?_⟩
      exact Nat.ne_of_gt (Nat.lt_of_lt_of_le hlt (hx h hh))
    next =>
      refine List.forall_mem_cons.mpr ⟨?_, ih hl _ _⟩
      exact Nat.ne_of_lt (le_kthFree hl (fun h hh => Nat.succ_le_succ (hx h hh)) _)

/-- The buffers no grant may give in this cycle: those held, and the one returned in this very cycle (R92). -/
def State.barred (s : State) (p : Pool) : List (Nat × Nat) := match p.lastReturn with
  | some (c, i) => if c = s.fclk then insertHeld i 0 p.held else p.held
  | none => p.held

theorem pickBuffer_eq_kthFree_barred (s : State) (p : Pool) :
    s.pickBuffer p = kthFree (s.barred p) 0 (s.free % (p.count - (s.barred p).length)) := rfl

/-- Either nothing beside the held buffers is barred, or one buffer. -/
theorem barred_cases (s : State) (p : Pool) :
    (s.barred p = p.held ∧ s.grantable p = p.free) ∨ ∃ i, s.barred p = insertHeld i 0 p.held ∧ s.grantable p = p.free - 1 := by
  cases hl : p.lastReturn with
  | none => simp [State.barred, State.grantable, hl]
  | some r =>
    by_cases hr : r.1 = s.fclk
    · exact .inr ⟨r.2, by simp [State.barred, State.grantable, hl, hr]⟩
    · exact .inl (by simp [State.barred, State.grantable, hl, hr])

/-- What may be granted is what is not barred. -/
theorem grantable_eq (s : State) (p : Pool) : s.grantable p = p.count - (s.barred p).length := by
  obtain ⟨hb, hg⟩ | ⟨i, hb, hg⟩ := barred_cases s p
  · rw [hb, hg, Pool.free]
  · rw [hb, hg, Pool.free, length_insertHeld, Nat.sub_sub]

section
variable {s : State} {p : Pool}

theorem mem_barred_of_mem_held {h : Nat × Nat} (hh : h ∈ p.held) : h ∈ s.barred p := by
  obtain ⟨hb, -⟩ | ⟨i, hb, -⟩ := barred_cases s p
  · rwa [hb]
  · rw [hb]
    exact mem_insertHeld.mpr (.inr hh)

theorem barred_rising (h : p.held.Pairwise (fun a b => a.1 < b.1)) : (s.barred p).Pairwise (fun a b => a.1 ≤ b.1) := by
  have hle : p.held.Pairwise (fun a b => a.1 ≤ b.1) := h.imp Nat.le_of_lt
  obtain ⟨hb, -⟩ | ⟨i, hb, -⟩ := barred_cases s p
  · rwa [hb]
  · rw [hb]
    exact insertHeld_rising hle

theorem pickBuffer_lt_count (hg : 0 < s.grantable p) : s.pickBuffer p < p.count := by
  rw [grantable_eq] at hg
  have hk := Nat.mod_lt s.free hg
  have hle := kthFree_le (s.barred p) 0 (s.free % (p.count - (s.barred p).length))
  rw [pickBuffer_eq_kthFree_barred]
  omega

theorem lookup?_pickBuffer (h : p.held.Pairwise (fun a b => a.1 < b.1)) : lookup? p.held (s.pickBuffer p) = none :=
  lookup?_eq_none_iff.mpr fun _ hx => kthFree_not_taken (barred_rising h) _ _ _ (mem_barred_of_mem_held hx)

end

/-! ### Allocation (R83, R85, R87) -/

section
variable (s : State) (n q : Nat)

/-- The ALLOC block of a host requester lies in the link (R571). -/
theorem hostAlloc_eq (st ptr : Nat) : ∃ link, s.hostAlloc q st ptr = { s with link := link } := by
  unfold State.hostAlloc
  split
  · exact ⟨_, rfl⟩
  · exact ⟨s.link, rfl⟩

/-- What follows a failed allocation changes no pool, only who waits for a return (R87). -/
theorem afterAlloc_failed_eq (st : Status) : ∃ link waitReturn,
    s.afterAlloc n q (.failed st) = { s with link := link, pools := { s.pools with waitReturn := waitReturn } } := by
  obtain ⟨link, hlink⟩ := hostAlloc_eq s q st.value 0
  simp only [State.afterAlloc, hlink]
  split
  · exact ⟨link, _, rfl⟩
  · exact ⟨link, s.pools.waitReturn, rfl⟩

end

/-- An allocation that won arbitration, and what follows for its requester. -/
def State.allocated (s : State) (n q : Nat) : State := (s.allocate n q).1.afterAlloc n q (s.allocate n q).2

/-- A pool whose arbiter has granted a requester (R92). -/
def Pool.won (p : Pool) (q : Nat) : Pool := { p with arb := arbNext 256 q }

/-- The state once a requester has won the arbitration of a pool (R92). -/
def State.won (s : State) (p : Pool) (q : Nat) : State :=
  let t := s.setPool (p.won q)
  { t with pools := { t.pools with retrying := t.pools.retrying.erase (p.num, q) } }

@[simp] theorem Pool.won_num (p : Pool) (q : Nat) : (p.won q).num = p.num := rfl

/-- A pool after a granted allocation. -/
def Pool.granted (p : Pool) (i q : Nat) : Pool := { p with held := insertHeld i q p.held, cached := p.cached - 1 }

@[simp] theorem Pool.granted_num (p : Pool) (i q : Nat) : (p.granted i q).num = p.num := rfl

/-- A pool after a failed allocation (R93). -/
def Pool.refused (p : Pool) (q : Nat) : Pool := { p with fails := assign p.fails q (lookupD p.fails q 0 + 1) }

@[simp] theorem Pool.refused_num (p : Pool) (q : Nat) : (p.refused q).num = p.num := rfl

section
variable {s : State} {n q : Nat} {p : Pool} (h : s.pool? n = some p)
include h

theorem won_pool? (m : Nat) : (s.won p q).pool? m = if m = n then some (p.won q) else s.pool? m :=
  (pool?_congr rfl m).trans (setPool_pool? h (p.won_num q) m)

theorem won_pool?_same : (s.won p q).pool? n = some (p.won q) :=
  (won_pool? h n).trans (if_pos rfl)

/-- What is written of a pool after its arbitration overwrites what the arbitration wrote. -/
theorem won_setPool_pool? {p' : Pool} (hnum : p'.num = p.num) (m : Nat) :
    ((s.won p q).setPool p').pool? m = if m = n then some p' else s.pool? m := by
  rw [setPool_pool? (won_pool?_same h) (hnum.trans (p.won_num q).symm), won_pool? h]
  split <;> rfl

theorem poolAllocate_of_winner {ready : List Nat} (hw : arbWinner p.arb (ready.filter (fun x => decide (x < 256))) = some q) :
    exec (.poolAllocate n ready) s = .next ((s.won p q).allocated n q) := by
  obtain rfl := num_of_pool?_eq_some h
  show execPoolAllocate p.num ready s = _
  simp only [execPoolAllocate, h, Option.map_some, Option.getD_some, hw]
  rfl

theorem allocated_of_grant (hq : p.heldBy q < p.quota q) (hg : 0 < s.grantable p) (hc : 0 < p.cached) : ∃ link,
    s.allocated n q = { (s.setPool (p.granted (s.pickBuffer p) q)).used.count (.pool n 0) with link := link } := by
  have halloc : s.allocate n q = ((s.setPool (p.granted (s.pickBuffer p) q)).used.count (.pool n 0),
      .granted (p.pointer (s.pickBuffer p))) := by
    simp only [State.allocate, h]
    rw [if_neg (Nat.not_le_of_gt hq), if_neg (Nat.ne_of_gt hg), if_neg (Nat.ne_of_gt hc)]
    rfl
  rw [State.allocated, halloc]
  exact hostAlloc_eq ..

theorem allocFailed_eq (st : Status) :
    s.allocFailed n q st = (s.setPool (p.refused q)).count (.pool n (if st = .poolEmpty then 1 else 2)) := by
  simp only [State.allocFailed, h]
  rfl

/-- An allocation without quota, or with nothing to grant, fails; the check of the quota comes first (R85). -/
theorem allocate_of_fail (hf : p.quota q ≤ p.heldBy q ∨ s.grantable p = 0) : ∃ st,
    s.allocate n q = ((s.setPool (p.refused q)).count (.pool n (if p.quota q ≤ p.heldBy q then 2 else 1)), .failed st) := by
  simp only [State.allocate, h]
  by_cases hq : p.quota q ≤ p.heldBy q
  · rw [if_pos hq, if_pos hq, allocFailed_eq h]
    exact ⟨_, rfl⟩
  · rw [if_neg hq, if_pos (hf.resolve_left hq), if_neg hq, allocFailed_eq h]
    exact ⟨_, rfl⟩

theorem allocated_of_fail (hf : p.quota q ≤ p.heldBy q ∨ s.grantable p = 0) : ∃ link waitReturn,
    let t := (s.setPool (p.refused q)).count (.pool n (if p.quota q ≤ p.heldBy q then 2 else 1))
    s.allocated n q = { t with link := link, pools := { t.pools with waitReturn := waitReturn } } := by
  obtain ⟨st, halloc⟩ := allocate_of_fail h hf
  rw [State.allocated, halloc]
  exact afterAlloc_failed_eq ..

/-- A grant: the winner holds a buffer that nobody held (R83, R84, R92). -/
theorem poolAllocate_grants {ready : List Nat} (hw : arbWinner p.arb (ready.filter (fun x => decide (x < 256))) = some q)
    (hq : p.heldBy q < p.quota q) (hg : 0 < s.grantable p) (hc : 0 < p.cached) :
    ∃ t : State, exec (.poolAllocate n ready) s = .next t ∧
      t.pool? n = some ((p.won q).granted ((s.won p q).pickBuffer (p.won q)) q) ∧
      t.counter (.pool n 0) = satAdd (s.counter (.pool n 0)) 1 ∧ (∀ m, m ≠ n → t.pool? m = s.pool? m) ∧
      t.mem = s.mem ∧ t.lock = s.lock := by
  obtain ⟨link, hlink⟩ := allocated_of_grant (won_pool?_same (q := q) h) hq hg hc
  have hpool := won_setPool_pool? (q := q) h ((p.won q).granted_num ((s.won p q).pickBuffer (p.won q)) q)
  rw [poolAllocate_of_winner h hw, hlink]
  exact ⟨_, rfl, (hpool n).trans (if_pos rfl), count_counter_same .., fun m hm => (hpool m).trans (if_neg hm), rfl, rfl⟩

/-- A failed allocation is counted and changes nothing else of the pools (R83, R84). -/
theorem poolAllocate_fails {ready : List Nat} (hw : arbWinner p.arb (ready.filter (fun x => decide (x < 256))) = some q)
    (hf : p.quota q ≤ p.heldBy q ∨ s.grantable p = 0) :
    ∃ t : State, exec (.poolAllocate n ready) s = .next t ∧ t.pool? n = some ((p.won q).refused q) ∧
      t.counter (.pool n (if p.quota q ≤ p.heldBy q then 2 else 1))
        = satAdd (s.counter (.pool n (if p.quota q ≤ p.heldBy q then 2 else 1))) 1 ∧
      (∀ m, m ≠ n → t.pool? m = s.pool? m) := by
  obtain ⟨link, waitReturn, hwaits⟩ := allocated_of_fail (won_pool?_same (q := q) h) hf
  have hpool := won_setPool_pool? (q := q) h ((p.won q).refused_num q)
  rw [poolAllocate_of_winner h hw, hwaits]
  exact ⟨_, rfl, (hpool n).trans (if_pos rfl), count_counter_same .., fun m hm => (hpool m).trans (if_neg hm)⟩

end

/-- Settles O5: a grant gives the free buffer that `kthFree` finds among those not barred; a failure writes the requester's count
of failures and a counter. -/
theorem poolsAllocate : Obligations.PoolsAllocate := by
  unfold Obligations.PoolsAllocate
  refine ⟨fun s n q ready p h hw hq hg hc hrising _ => ?_, fun s n q ready p h hw hf => ?_⟩
  · obtain ⟨t, hexec, hpool, hcount, hothers, hmem, hlock⟩ := poolAllocate_grants h hw hq hg hc
    have hfree : lookup? p.held ((s.won p q).pickBuffer (p.won q)) = none := lookup?_pickBuffer (p := p.won q) hrising
    exact ⟨t, _, _, hexec, pickBuffer_lt_count (s := s.won p q) (p := p.won q) hg, hfree, hpool, rfl,
      lookup?_insertHeld_same hfree q, rfl, rfl, rfl, hcount, hothers, hmem, hlock⟩
  · obtain ⟨t, hexec, hpool, hcount, hothers⟩ := poolAllocate_fails h hw hf
    exact ⟨t, _, hexec, hpool, rfl, rfl, lookupD_assign_same .., hcount, hothers⟩

/-! ### Returns (R89, R90) -/

/-- Where the buffers of a pool are: who holds them, and how many of the free ones lie in the cache. -/
def Pool.holdings (p : Pool) : List (Nat × Nat) × Nat := (p.held, p.cached)

theorem setPool_holdings {s : State} {n : Nat} {p p' : Pool} (h : s.pool? n = some p) (hnum : p'.num = p.num)
    (hh : p'.holdings = p.holdings) (m : Nat) : ((s.setPool p').pool? m).map Pool.holdings = (s.pool? m).map Pool.holdings := by
  rw [setPool_pool? h hnum]
  split
  next hm => rw [hm, h, Option.map_some, Option.map_some, hh]
  next => rfl

/-- A refused pointer is counted and keeps the holdings of every pool; beyond that it may only raise POOL_BAD_RETURN (R90). -/
theorem refuseReturn_speaks (s : State) (q pointer reason : Nat) : ∃ u : State, OnlySpeaks u (s.refuseReturn q pointer reason) ∧
    u.counter (.pool (bitsOf pointer 46 41) (2 + reason)) = satAdd (s.counter (.pool (bitsOf pointer 46 41) (2 + reason))) 1 ∧
    ∀ m, (u.pool? m).map Pool.holdings = (s.pool? m).map Pool.holdings := by
  have hcount := count_counter_same s (.pool (bitsOf pointer 46 41) (2 + reason)) 1
  unfold State.refuseReturn
  dsimp only
  split
  next p h =>
    split
    · exact ⟨_, OnlySpeaks.refl _, hcount, fun m => rfl⟩
    · exact ⟨_, raise_speaks .., hcount, setPool_holdings h rfl rfl⟩
  next =>
    split
    · exact ⟨_, OnlySpeaks.refl _, hcount, fun m => rfl⟩
    · exact ⟨_, raise_speaks .., hcount, fun m => rfl⟩

/-- The checks of R89 on a pool that is configured, from that of the space on: the reason and the buffer index. -/
def Pool.judgeReturn (p : Pool) (q space a : Nat) : Nat × Nat :=
  if space ≠ p.space then (3, 0)
  else if a < p.base ∨ p.base + p.count * p.bufSize ≤ a then (4, 0)
  else if (a - p.base) % p.bufSize ≠ 0 then (5, 0)
  else match lookup? p.held ((a - p.base) / p.bufSize) with
    | none => (6, (a - p.base) / p.bufSize)
    | some owner => if owner = q then (0, (a - p.base) / p.bufSize) else (7, (a - p.base) / p.bufSize)

section
variable {s : State} {q pointer : Nat}

theorem checkReturn_of_reserved_bits (h : pointer / 2 ^ 47 ≠ 0) : s.checkReturn q pointer = (1, 0) :=
  if_pos h

theorem checkReturn_of_no_pool (h : pointer / 2 ^ 47 = 0) (hn : s.pool? (pointer / 2 ^ 41 % 64) = none) :
    s.checkReturn q pointer = (2, 0) := by
  have hn : s.pool? (bitsOf pointer 46 41) = none := hn
  simp only [State.checkReturn, hn]
  exact if_neg (not_not_intro h)

theorem checkReturn_of_pool {p : Pool} (h : pointer / 2 ^ 47 = 0) (hp : s.pool? (pointer / 2 ^ 41 % 64) = some p) :
    s.checkReturn q pointer = p.judgeReturn q (pointer / 2 ^ 40 % 2) (pointer % 2 ^ 40) := by
  have hp : s.pool? (bitsOf pointer 46 41) = some p := hp
  have ha : bitsOf pointer 39 0 = pointer % 2 ^ 40 := by simp [bitsOf]
  simp only [State.checkReturn, hp, ha]
  exact if_neg (not_not_intro h)

theorem returnBuffer_of_refused (h : (s.checkReturn q pointer).1 ≠ 0) :
    s.returnBuffer q pointer = (s.refuseReturn q pointer (s.checkReturn q pointer).1, (s.checkReturn q pointer).1) :=
  if_neg h

theorem returnBuffer_of_accepted {i : Nat} (h : s.checkReturn q pointer = (0, i)) :
    s.returnBuffer q pointer = (s.freeBuffer (pointer / 2 ^ 41 % 64) i, 0) := by
  simp only [State.returnBuffer, h]
  rfl

theorem returnBuffer_reason : (s.returnBuffer q pointer).2 = (s.checkReturn q pointer).1 := by
  by_cases h : (s.checkReturn q pointer).1 = 0
  · rw [returnBuffer_of_accepted (Prod.ext h rfl), h]
  · rw [returnBuffer_of_refused h]

end

section
variable {p : Pool} {q space a : Nat}

theorem judgeReturn_of_space (h : space ≠ p.space) : p.judgeReturn q space a = (3, 0) :=
  if_pos h

theorem judgeReturn_of_outside (hs : space = p.space) (h : a < p.base ∨ p.base + p.count * p.bufSize ≤ a) :
    p.judgeReturn q space a = (4, 0) :=
  (if_neg (not_not_intro hs)).trans (if_pos h)

variable (hs : space = p.space) (hlo : p.base ≤ a) (hhi : a < p.base + p.count * p.bufSize)
include hs hlo hhi

theorem judgeReturn_of_misaligned (h : (a - p.base) % p.bufSize ≠ 0) : p.judgeReturn q space a = (5, 0) :=
  (if_neg (not_not_intro hs)).trans ((if_neg (by omega)).trans (if_pos h))

/-- A pointer to a buffer of the pool is judged by who holds the buffer. -/
theorem judgeReturn_of_buffer (h : (a - p.base) % p.bufSize = 0) :
    p.judgeReturn q space a = ((match lookup? p.held ((a - p.base) / p.bufSize) with
      | none => 6
      | some owner => if owner = q then 0 else 7), (a - p.base) / p.bufSize) := by
  unfold Pool.judgeReturn
  rw [if_neg (not_not_intro hs), if_neg (by omega), if_neg (not_not_intro h)]
  cases lookup? p.held ((a - p.base) / p.bufSize) with
  | none => rfl
  | some owner => by_cases ho : owner = q <;> simp [ho]

end

/-- A pool that got a buffer back (R82, R92). -/
def Pool.freed (p : Pool) (i fclk : Nat) : Pool :=
  { p with held := erase p.held i, cached := p.cached + 1, lastReturn := some (fclk, i) }

@[simp] theorem Pool.freed_num (p : Pool) (i fclk : Nat) : (p.freed i fclk).num = p.num := rfl

section
variable {s : State} {n : Nat} {p : Pool} (h : s.pool? n = some p) (i : Nat)
include h

/-- An accepted buffer changes its pool, and who waits for a return (R82, R87). -/
theorem freeBuffer_eq : ∃ waitReturn retrying, s.freeBuffer n i = { s with pools := { s.pools with
    pools := (s.setPool (p.freed i s.fclk)).pools.pools, waitReturn := waitReturn, retrying := retrying } } := by
  simp only [State.freeBuffer, h]
  exact ⟨_, _, rfl⟩

theorem freeBuffer_pool? (m : Nat) : (s.freeBuffer n i).pool? m = if m = n then some (p.freed i s.fclk) else s.pool? m := by
  obtain ⟨waitReturn, retrying, heq⟩ := freeBuffer_eq h i
  rw [heq]
  exact (pool?_congr rfl m).trans (setPool_pool? h (p.freed_num i s.fclk) m)

theorem freeBuffer_tel : (s.freeBuffer n i).tel = s.tel := by
  obtain ⟨waitReturn, retrying, heq⟩ := freeBuffer_eq h i
  rw [heq]

theorem freeBuffer_lock : (s.freeBuffer n i).lock = s.lock := by
  obtain ⟨waitReturn, retrying, heq⟩ := freeBuffer_eq h i
  rw [heq]

end

/-- Settles O6, by the first of the checks that fails; past them all the buffer goes back to its pool. -/
theorem returnChecksInOrder : Obligations.ReturnChecksInOrder := by
  unfold Obligations.ReturnChecksInOrder
  intro s q pointer n space a t reason
  have hreason : reason = (s.checkReturn q pointer).1 := returnBuffer_reason
  refine ⟨rfl, fun h => ?_, fun h hn => ?_, fun p h hp => ?_, fun hne => ?_⟩
  · rw [hreason, checkReturn_of_reserved_bits h]
  · rw [hreason, checkReturn_of_no_pool h hn]
  · have hcheck : s.checkReturn q pointer = p.judgeReturn q space a := checkReturn_of_pool h hp
    rw [hcheck] at hreason
    refine ⟨fun hs => ?_, fun hs => ⟨fun hout => ?_, fun hlo hhi => ⟨fun hal => ?_, fun hal => ?_⟩⟩⟩
    · rw [hreason, judgeReturn_of_space hs]
    · rw [hreason, judgeReturn_of_outside hs hout]
    · rw [hreason, judgeReturn_of_misaligned hs hlo hhi hal]
    · have hjudge := judgeReturn_of_buffer (q := q) hs hlo hhi hal
      refine ⟨fun hfree => ?_, fun owner hown hne => ?_, fun hown => ?_⟩
      · rw [hreason, hjudge, hfree]
      · rw [hreason, hjudge, hown]
        exact if_neg hne
      · rw [hown] at hjudge
        have hret := returnBuffer_of_accepted (hcheck.trans (hjudge.trans (Prod.ext (if_pos rfl) rfl)))
        refine ⟨congrArg Prod.snd hret, ?_⟩
        rw [show t = _ from congrArg Prod.fst hret]
        exact ⟨(freeBuffer_pool? hp _ n).trans (if_pos rfl), fun m hm => (freeBuffer_pool? hp _ m).trans (if_neg hm),
          freeBuffer_tel hp _, freeBuffer_lock hp _⟩
  · have ht : t = s.refuseReturn q pointer reason := by
      rw [hreason] at hne ⊢
      exact congrArg Prod.fst (returnBuffer_of_refused hne)
    obtain ⟨u, hspeaks, hcount, hheld⟩ := refuseReturn_speaks s q pointer reason
    rw [ht]
    exact ⟨fun m => (congrArg (Option.map Pool.holdings) (hspeaks.pool? m)).trans (hheld m), (hspeaks.counter _).trans hcount⟩

/-! ### The other commands of the pools (R82, R86, R93) -/

section
variable {s : State} {n : Nat} {p : Pool}

theorem bufferHandoff_of_holder {pointer a i : Nat} (hp : s.pool? (bitsOf pointer 46 41) = some p)
    (hc : s.checkReturn a pointer = (0, i)) (b : Nat) :
    exec (.bufferHandoff pointer a b) s = .next (s.setPool { p with held := assign p.held i b }) := by
  show execBufferHandoff pointer a b s = _
  simp only [execBufferHandoff, hc, hp]

theorem refill_of_ring (hc : p.cached ≤ 64) (hr : p.held.length + p.cached < p.count) :
    p.refill = { p with cached := p.cached + min 128 (p.count - p.held.length - p.cached) } :=
  if_pos ⟨hc, by unfold Pool.free; omega⟩

/-- A refill that nobody waits for moves pointers to the cache and does nothing else (R82, R83). -/
theorem poolCacheRefill_of_none_waiting (h : s.pool? n = some p) (hw : s.pools.waitRefill = []) :
    exec (.poolCacheRefill n) s = .next (s.setPool p.refill) := by
  show execPoolCacheRefill n s = _
  simp only [execPoolCacheRefill, h, hw, State.serveRefill]
  simp only [State.setPool, ← hw]

theorem poolCacheSpill_of_full (h : s.pool? n = some p) (hc : 448 ≤ p.cached) :
    exec (.poolCacheSpill n) s = .next (s.setPool { p with cached := p.cached - 128 }) := by
  show execPoolCacheSpill n s = _
  simp only [execPoolCacheSpill, h, if_pos hc]

/-- The checks of POOL_DESTROY up to the last leave it to whether a buffer is held (R93). -/
theorem poolDestroy_eq {r : Req} (hform : FormOk s r 0x0231) (hheld : s.isHeld (.pool n) = false) (hn : n ≤ 63)
    (h : s.pool? n = some p) : exec (.poolDestroy r n) s = .next (if p.held = [] then (s.destroyPool n).answer r 0x0231 .ok
      else s.answer r 0x0231 .poolInUse) := by
  show Host.Outcome.next (s.finish r 0x0231 _ _) = _
  have hn : ¬63 < n := Nat.not_lt.mpr hn
  simp only [State.heldBusy, hheld, hn, h, decide_false, firstReject_cons, Bool.false_eq_true, ↓reduceIte,
    Option.isNone_some, Option.map_some, Option.getD_some, firstReject_nil]
  by_cases he : p.held = []
  · simp [he, finish_ok hform]
  · simp [he, finish_reject hform]

theorem poolQuotaSet_of_check_passes {r : Req} {first : Nat} {quotas : List Nat} (hform : FormOk s r 0x0232)
    (hcheck : poolQuotaCheck n first quotas s = none) (h : s.pool? n = some p) : exec (.poolQuotaSet r n first quotas) s =
      .next ((s.setPool { p with quotas := setQuotas p.quotas first quotas }).answer r 0x0232 .ok) := by
  show Host.Outcome.next (s.finish r 0x0232 _ _) = _
  simp only [hcheck, finish_ok hform, State.putQuotas, h]

theorem poolRead_of_pool {r : Req} (hform : FormOk s r 0x0233) (hn : n ≤ 63) (h : s.pool? n = some p) :
    exec (.poolRead r n) s = .next (s.answer r 0x0233 .ok 0 [] (s.poolReport p)) := by
  show execPoolRead r n s = _
  simp only [execPoolRead, h]
  rw [finish_of_checks_pass hform (by simpa using hn)]

end

/-- A pool as POOL_CREATE makes it: nothing held, nothing in the cache, every quota 0 (R84, R93). -/
def Pool.fresh (n space size count base ring held : Nat) : Pool :=
  { num := n, space := space, bufSize := size, count := count, base := base, ringBase := ring, heldBase := held }

theorem poolCreate_of_check_passes {s : State} {r : Req} {n space size count base ring held : Nat} (hform : FormOk s r 0x0230)
    (hcheck : poolCreateCheck (.fresh n space size count base ring held) s = none) :
    exec (.poolCreate r n space size count base ring held) s = .next (if 65536 < count
      then (s.createPool (.fresh n space size count base ring held)).answerLong r 0x0230 .ok
      else (s.createPool (.fresh n space size count base ring held)).answer r 0x0230 .ok) := by
  show Host.Outcome.next (s.finish r 0x0230 (poolCreateCheck (.fresh n space size count base ring held) s) _) = _
  rw [hcheck, finish_ok hform]
  rfl

/-- Settles O7, command by command. -/
theorem poolCommandsRun : Obligations.PoolCommandsRun := by
  unfold Obligations.PoolCommandsRun
  refine ⟨?handoff, ?refill, ?spill, ?create, ?createLong, ?destroy, ?quotaSet, ?read⟩
  case handoff => exact fun s pointer a b i p hp hc => bufferHandoff_of_holder hp hc b
  case refill =>
    intro s n p h _ hc hr hw
    rw [poolCacheRefill_of_none_waiting h hw, refill_of_ring hc hr]
  case spill => exact fun s n p => poolCacheSpill_of_full
  case create =>
    intro s r n space size count base ring held hform p hcheck hcount
    exact (poolCreate_of_check_passes hform hcheck).trans (congrArg _ (if_neg (Nat.not_lt.mpr hcount)))
  case createLong =>
    intro s r n space size count base ring held hform p hcheck hcount
    exact (poolCreate_of_check_passes hform hcheck).trans (congrArg _ (if_pos hcount))
  case destroy =>
    intro s r n p hform hheld hn h
    rw [poolDestroy_eq hform hheld hn h]
    exact ⟨fun he => by rw [if_pos he]; rfl, fun he => by rw [if_neg he]⟩
  case quotaSet => exact fun s r n first quotas p => poolQuotaSet_of_check_passes
  case read => exact fun s r n p => poolRead_of_pool

end Sys2Proof.Machine
end

section
/-! Family `04_reservoir_media.md`: reading, writing, zones, trimming and flushing (R105 to R107, R114, R134 to R138).

First what a lookup of a pair or a zone gives after an update; then what beginning and ending a storage command do to its pair;
then one lemma for each command that says its effect once it begins. -/

namespace Sys2Proof.Machine

/-! ### Lists after an update -/

section
variable {α β : Type}

/-- An element changed but for its key is found in its place, and every other as before. -/
theorem find?_updateFirst_key (key : α → Nat) {n : Nat} {x x' : α} {l : List α} (h : l.find? (fun y => decide (key y = n)) = some x)
    (hkey : key x' = n) (m : Nat) :
    (updateFirst (fun y => decide (key y = key x')) (fun _ => x') l).find? (fun y => decide (key y = m))
      = if m = n then some x' else l.find? (fun y => decide (key y = m)) := by
  rw [hkey]
  split
  next hm => rw [hm, find?_updateFirst_same (by simp [hkey]), h, Option.map_some]
  next hm =>
    refine find?_updateFirst_other (fun y hy => ?_) _
    have hy : key y = n := by simpa using hy
    simp [hy, hkey, Ne.symm hm]

/-- Putting what is found in its own place changes nothing. -/
theorem updateFirst_eq_self {p : α → Bool} {x : α} {l : List α} (h : l.find? p = some x) : updateFirst p (fun _ => x) l = l := by
  induction l with
  | nil => rfl
  | cons y ys ih =>
    by_cases hy : p y = true
    · obtain rfl : y = x := by simpa [hy] using h
      simp [updateFirst, hy]
    · simpa [updateFirst, hy] using ih (by simpa [hy] using h)

/-- What a filter leaves out may change unseen. -/
theorem filter_updateFirst_of_dropped {p q : α → Bool} {f : α → α} (hq : ∀ x, p x = true → q x = false ∧ q (f x) = false)
    (l : List α) : (updateFirst p f l).filter q = l.filter q := by
  induction l with
  | nil => rfl
  | cons x xs ih =>
    by_cases hx : p x = true
    · simp [updateFirst, hx, hq x hx]
    · simp [updateFirst, hx, List.filter_cons, ih]

theorem lookupD_erase_same [DecidableEq α] (l : List (α × β)) (k : α) (d : β) : lookupD (erase l k) k d = d := by
  have hnone : (erase l k).find? (fun p => decide (p.1 = k)) = none := by simp [erase]
  simp only [lookupD, hnone]

end

/-! ### Memory, pairs and zones after an update -/

section
variable (s : State)

@[simp] theorem memWrite_mem (a : Nat) (bs : Bytes) : (s.memWrite a bs).mem = s.mem.writeBytes a bs := by
  unfold State.memWrite; dsimp only; split <;> rfl

@[simp] theorem memWrite_media (a : Nat) (bs : Bytes) : (s.memWrite a bs).media = s.media := by
  unfold State.memWrite; dsimp only; split <;> rfl

@[simp] theorem memWrite_queues (a : Nat) (bs : Bytes) : (s.memWrite a bs).queues = s.queues := by
  unfold State.memWrite; dsimp only; split <;> rfl

/-- A zone reads as it was set, an EMPTY one left out of the map included. -/
@[simp] theorem setZone_zone_same (n : Nat) (z : Zone) : (s.setZone n z).zone n = z := by
  unfold State.zone State.setZone
  rw [setMedia_media]
  split
  next hz => rw [hz]; exact lookupD_erase_same ..
  next => exact lookupD_assign_same ..

@[simp] theorem abandonRelocation_geometry (src : Nat) : (s.abandonRelocation src).media.geometry = s.media.geometry := by
  unfold State.abandonRelocation; split <;> rfl

end

/-! ### What depends on the Reservoir alone -/

theorem zone_congr {s t : State} (h : t.media = s.media) (z : Nat) : t.zone z = s.zone z :=
  congrArg (fun m => (s.setMedia m).zone z) h

theorem readFault_congr {s t : State} (h : t.media = s.media) (lba n : Nat) : t.readFault lba n = s.readFault lba n :=
  congrArg (fun m => (s.setMedia m).readFault lba n) h

theorem logicalRead_congr {s t : State} (h : t.media = s.media) (lba n : Nat) : t.logicalRead lba n = s.logicalRead lba n :=
  congrArg (fun m => (s.setMedia m).logicalRead lba n) h

theorem openStripes_congr {s t : State} (h : t.media = s.media) : t.openStripes = s.openStripes :=
  congrArg (fun m => (s.setMedia m).openStripes) h

/-! ### The pairs after an update -/

theorem qp?_congr {s t : State} (h : t.queues = s.queues) (q : Nat) : t.qp? q = s.qp? q := by
  unfold State.qp?
  rw [h]

section
variable {s : State} {q : Nat} {p : QueuePair} (h : s.qp? q = some p)
include h

theorem num_of_qp?_eq_some : p.num = q := by
  simpa using List.find?_some h

/-- A pair changed but for its number is found in its place, and every other pair as before. -/
theorem setQp_qp? (p' : QueuePair) (hnum : p'.num = p.num) (m : Nat) : (s.setQp p').qp? m = if m = q then some p' else s.qp? m :=
  find?_updateFirst_key QueuePair.num h (hnum.trans (num_of_qp?_eq_some h)) m

theorem setQp_eq_self : s.setQp p = s := by
  have hpairs : updateFirst (fun x => decide (x.num = p.num)) (fun _ => p) s.queues.pairs = s.queues.pairs :=
    updateFirst_eq_self (num_of_qp?_eq_some h ▸ h)
  unfold State.setQp
  rw [hpairs]

end

/-! ### A command begins (R129, R145) -/

/-- The pair once the command of a slot has begun. -/
def QueuePair.begun (p : QueuePair) (slot : Nat) : QueuePair :=
  { p with fetched := updateFirst (fun f => decide (f.slot = slot)) (fun f => { f with begun := true }) p.fetched }

theorem begun_eq_setQp {s : State} {q : Nat} {p : QueuePair} (h : s.qp? q = some p) (slot : Nat) :
    s.begun q slot = s.setQp (p.begun slot) := by
  simp only [State.begun, h, QueuePair.begun]

section
variable (s : State) (q slot : Nat)

@[simp] theorem begun_media : (s.begun q slot).media = s.media := by
  unfold State.begun; split <;> rfl

@[simp] theorem begun_mem : (s.begun q slot).mem = s.mem := by
  unfold State.begun; split <;> rfl

@[simp] theorem begun_zone (z : Nat) : (s.begun q slot).zone z = s.zone z :=
  zone_congr (begun_media ..) z

end

/-! ### A command ends with OK (R131) -/

/-- The pair once the command of a slot has ended with a completion that waits for a CQ slot. -/
def QueuePair.ended (p : QueuePair) (slot : Nat) (c : Completion) : QueuePair :=
  { p with fetched := p.fetched.filter (fun f => decide (f.slot ≠ slot)), waiting := p.waiting ++ [c] }

/-- On a live pair the completion of a command that ended with OK is the one left to post. -/
theorem endCommand_ok_of_live {s : State} {q : Nat} {p : QueuePair} (h : s.qp? q = some p) (hfrozen : p.frozen = false)
    (hresetting : p.resetting = none) (slot : Nat) (e : SqEntry) (result info : Nat) :
    s.endCommand q slot e .ok result info = s.setQp (p.ended slot ⟨result, e.cmdId, 0, slot, e.opcode, 1, result⟩) := by
  simp [State.endCommand, h, hfrozen, hresetting, infoOf, QueuePair.ended, Status.value]

/-- Nothing waits for the commands of a pair to end: no GET_LOG and no reset. -/
theorem pairDrained_of_none_waiting {s : State} {q : Nat} {p : QueuePair} (h : s.qp? q = some p) (hresetting : p.resetting = none)
    (hlogs : p.logWaiters = []) : s.pairDrained q = s := by
  have hsame : { p with logWaiters := [] } = p := by rw [← hlogs]
  unfold State.pairDrained
  simp only [h]
  split
  · rfl
  · rw [hsame, setQp_eq_self h, hlogs]
    simp only [State.serveLogs, hresetting]

theorem endStorage_ok_of_live {s : State} {q : Nat} {p : QueuePair} (h : s.qp? q = some p) (hfrozen : p.frozen = false)
    (hresetting : p.resetting = none) (hlogs : p.logWaiters = []) (slot : Nat) (e : SqEntry) (result : Nat) :
    s.endStorage q slot e .ok result = s.setQp (p.ended slot ⟨result, e.cmdId, 0, slot, e.opcode, 1, result⟩) := by
  have hended (c : Completion) : (s.setQp (p.ended slot c)).qp? q = some (p.ended slot c) :=
    (setQp_qp? h (p.ended slot c) rfl q).trans (if_pos rfl)
  unfold State.endStorage
  rw [endCommand_ok_of_live h hfrozen hresetting]
  exact pairDrained_of_none_waiting (hended _) hresetting hlogs

/-- Whether the command that ends was marked as begun is no matter: its slot is released. -/
theorem ended_begun (p : QueuePair) (slot : Nat) (c : Completion) : (p.begun slot).ended slot c = p.ended slot c := by
  have hfetched : (p.begun slot).fetched.filter (fun f => decide (f.slot ≠ slot))
      = p.fetched.filter (fun f => decide (f.slot ≠ slot)) :=
    filter_updateFirst_of_dropped (by simp) _
  simp only [QueuePair.ended, hfetched]
  rfl

/-! ### Reading (R136) -/

/-- A READ that nothing stops writes the blocks' bytes at its buffer and ends with OK. -/
theorem read_of_no_fault {s : State} {q slot : Nat} {e : SqEntry} (hbegin : s.beginning q e = some slot)
    (hfault : s.readFault e.slba e.nlb = none) :
    exec (.read q e) s = .next (((s.begun q slot).memWrite e.bufAddr (s.logicalRead e.slba e.nlb)).endStorage q slot e .ok) := by
  have hmedia := begun_media s q slot
  show execRead q e s = _
  simp only [execRead, hbegin, State.readBlocks, readFault_congr hmedia, hfault, logicalRead_congr hmedia]

/-- On a live pair a READ that nothing stops changes only its buffer and its pair, where its completion waits. -/
theorem read_of_live {s : State} {q slot : Nat} {e : SqEntry} {p : QueuePair} (hbegin : s.beginning q e = some slot)
    (hp : s.qp? q = some p) (hfrozen : p.frozen = false) (hresetting : p.resetting = none) (hlogs : p.logWaiters = [])
    (hfault : s.readFault e.slba e.nlb = none) :
    ∃ t : State, exec (.read q e) s = .next t ∧
      (∀ m, t.qp? m = if m = q then some (p.ended slot ⟨0, e.cmdId, 0, slot, e.opcode, 1, 0⟩) else s.qp? m) ∧
      t.mem = s.mem.writeBytes e.bufAddr (s.logicalRead e.slba e.nlb) ∧ t.media = s.media := by
  let u := (s.begun q slot).memWrite e.bufAddr (s.logicalRead e.slba e.nlb)
  have hu (m : Nat) : u.qp? m = if m = q then some (p.begun slot) else s.qp? m := by
    rw [qp?_congr (memWrite_queues ..), begun_eq_setQp hp, setQp_qp? hp (p.begun slot) rfl]
  have hq : u.qp? q = some (p.begun slot) := (hu q).trans (if_pos rfl)
  have hend := endStorage_ok_of_live hq hfrozen hresetting hlogs slot e 0
  rw [ended_begun] at hend
  refine ⟨_, (read_of_no_fault hbegin hfault).trans (congrArg _ hend), fun m => ?_, ?_, ?_⟩
  · rw [setQp_qp? hq (p.ended slot _) rfl, hu]
    split <;> rfl
  · rw [setQp_mem, memWrite_mem, begun_mem]
  · rw [setQp_media, memWrite_media, begun_media]

/-! ### Writing (R107, R135, R138) -/

/-- A write of a pair with none that waits is carried out. -/
theorem takeWrite_of_beginning {s : State} {q slot : Nat} {e : SqEntry} (hbegin : s.beginning q e = some slot)
    (hwaiting : s.media.waitingWrites.any (fun x => decide (x.1 = q)) = false) : s.takeWrite q e = s.writeBlocks q slot e := by
  simp [State.takeWrite, hbegin, hwaiting]

/-- A write to conventional space is staged at its own blocks. -/
theorem writeBlocks_conventional {s : State} {e : SqEntry} (hro : s.media.readOnly = false) (hconv : e.slba < s.convBlocks)
    (hroom : s.mayStage e.slba e.nlb = true) (q slot : Nat) : s.writeBlocks q slot e = s.acceptWrite q slot e e.slba 0 := by
  simp [State.writeBlocks, hro, hconv, hroom]

/-- A zone takes an append at its write pointer, which is the command's result. -/
theorem writeBlocks_append {s : State} {e : SqEntry} (hro : s.media.readOnly = false) (hzoned : s.convBlocks ≤ e.slba)
    (happend : e.opcode = 3) (hzone : s.zoneWriteFault (s.zoneOf e.slba) e.nlb none = none) (hroom : s.mayStage e.slba e.nlb = true)
    (q slot : Nat) :
    s.writeBlocks q slot e = (s.advanceZone (s.zoneOf e.slba) e.nlb).acceptWrite q slot e
      (s.zoneStart (s.zoneOf e.slba) + (s.zone (s.zoneOf e.slba)).wp)
      (s.zoneStart (s.zoneOf e.slba) + (s.zone (s.zoneOf e.slba)).wp) := by
  simp [State.writeBlocks, hro, Nat.not_lt.mpr hzoned, happend, hzone, hroom]

/-- Whatever superblock a zone opens on, its write pointer moves on by the blocks written. -/
theorem advanceZone_wp (s : State) (z n : Nat) : ((s.advanceZone z n).zone z).wp = (s.zone z).wp + n := by
  unfold State.advanceZone
  dsimp only
  rw [setZone_zone_same]
  split
  · split <;> rfl
  · rfl

/-- The state of an accepted write before its completion: it stands last in the staging buffer. -/
def State.stagedFor (s : State) (q slot : Nat) (e : SqEntry) (lba result : Nat) : State :=
  (s.begun q slot).stage lba (s.memRead e.bufAddr (e.nlb * 4096)) (some (q, slot, e.cmdId, e.opcode, result))
    (decide (s.queues.writeThrough = 1))

theorem stagedFor_staged (s : State) (q slot : Nat) (e : SqEntry) (lba result : Nat) :
    (s.stagedFor q slot e lba result).media.staged = s.media.staged ++
      [{ seq := s.media.stageSeq, lba := lba, data := s.memRead e.bufAddr (e.nlb * 4096)
         source := some (q, slot, e.cmdId, e.opcode, result), through := decide (s.queues.writeThrough = 1) }] := by
  rw [← begun_media s q slot]
  rfl

/-- Under WRITE_THROUGH an accepted write waits for durability; else it completes at once. -/
theorem acceptWrite_eq (s : State) (q slot : Nat) (e : SqEntry) (lba result : Nat) :
    s.acceptWrite q slot e lba result = if s.queues.writeThrough = 1 then s.stagedFor q slot e lba result
      else (s.stagedFor q slot e lba result).endStorage q slot e .ok result := by
  simp only [State.acceptWrite, State.stagedFor, decide_eq_true_eq]

/-! ### Zone commands (R114, R138) -/

section
variable {s : State} {q slot : Nat} {e : SqEntry} {st : ZoneStatus} (hbegin : s.beginning q e = some slot)
  (hst : (s.zone (s.zoneOf e.slba)).status = st)
include hbegin hst

/-- Only an OPEN or FULL zone has something to reset. -/
theorem zoneReset_of_status : exec (.zoneReset q e) s = .next (match st with
    | .readOnly => (s.begun q slot).endStorage q slot e .zoneReadOnly
    | .offline => (s.begun q slot).endStorage q slot e .zoneOffline
    | .empty => (s.begun q slot).endStorage q slot e .ok
    | .open | .full => ((s.begun q slot).resetZone (s.zoneOf e.slba)).endStorage q slot e .ok) := by
  show execZoneReset q e s = _
  cases st <;> simp only [execZoneReset, hbegin, begun_zone, hst]

/-- An EMPTY or OPEN zone becomes FULL; in an OPEN one no relocation of its superblock goes on. -/
theorem zoneFinish_of_status : exec (.zoneFinish q e) s =
    let z := s.zoneOf e.slba
    let u := s.begun q slot
    let full : Zone := { s.zone z with status := .full, wp := s.media.geometry.dataBlocks }
    .next (match st with
      | .readOnly => u.endStorage q slot e .zoneReadOnly
      | .offline => u.endStorage q slot e .zoneOffline
      | .full => u.endStorage q slot e .ok
      | .empty => (u.setZone z full).endStorage q slot e .ok
      | .open => (((s.zone z).superblock.elim u u.abandonRelocation).setZone z full).endStorage q slot e .ok) := by
  show execZoneFinish q e s = _
  match st, hst with
  | .open, hst =>
    cases hsb : (s.zone (s.zoneOf e.slba)).superblock <;>
      simp only [execZoneFinish, hbegin, hst, hsb, begun_media, abandonRelocation_geometry, Option.elim]
  | .empty, hst | .full, hst | .readOnly, hst | .offline, hst => simp only [execZoneFinish, hbegin, hst, begun_media]

end

/-! ### Trimming, flushing and durability (R106, R107, R137) -/

theorem trim_of_writable {s : State} {q slot : Nat} {e : SqEntry} (hbegin : s.beginning q e = some slot)
    (hro : s.media.readOnly = false) :
    exec (.trim q e) s
      = .next ((((s.begun q slot).clearBlocks e.slba e.nlb).journalAdd (.trim e.slba e.nlb)).endStorage q slot e .ok) := by
  show execTrim q e s = _
  simp only [execTrim, hbegin, begun_media, hro, Bool.false_eq_true, ↓reduceIte]

theorem clearBlocks_journalAdd_data (s : State) (lba n : Nat) (op : JournalOp) :
    ((s.clearBlocks lba n).journalAdd op).media.data = Memory.clear s.media.data (lba * 4096) (n * 4096) := rfl

/-- A FLUSH pads the open stripes and waits for the writes it covers, those whose completion has been posted. -/
theorem flush_of_writable {s : State} {q slot : Nat} {e : SqEntry} (hbegin : s.beginning q e = some slot)
    (hro : s.media.readOnly = false) :
    let u : State := (s.begun q slot).setMedia { s.media with interimParity := s.media.interimParity + s.openStripes }
    exec (.flush q e) s = .next (if (s.media.staged.filter (·.posted)).isEmpty then u.endStorage q slot e .ok
      else u.setMedia { u.media with
        flushes := s.media.flushes ++ [(q, slot, e.cmdId, (s.media.staged.filter (·.posted)).map (·.seq))] }) := by
  intro u
  have hwritable : ¬(s.media.readOnly = true ∧ (s.media.staged.filter (·.posted)).any (fun w => !w.programmed) = true) := by
    simp [hro]
  show execFlush q e s = _
  simp only [execFlush, hbegin, begun_media, openStripes_congr (begun_media s q slot), if_neg hwritable]
  split <;> rfl

theorem applyStageSize_of_none_pending {s : State} (h : s.media.stagePending = none) : s.applyStageSize = s := by
  simp only [State.applyStageSize, h]

theorem retryWaitingWrites_of_none {s : State} (h : s.media.waitingWrites = []) : s.retryWaitingWrites = s := by
  have hsame : s.setMedia { s.media with waitingWrites := [] } = s := by rw [← h]; rfl
  simp only [State.retryWaitingWrites, h, State.retryWrites, hsame]

/-- A durable write that no command waits for only moves into the contents. -/
theorem settleAll_singleton {s : State} {w : Staged} (hdurable : w.durable = true) (hthrough : w.through = false) :
    s.settleAll [w] = s.settle w := by
  cases hs : w.source <;> simp [State.settleAll, hdurable, hthrough, hs]

/-- The one staged write moves into the contents, and nothing waited for that. -/
theorem writeDurable_of_single {s : State} {w : Staged} (hstaged : s.media.staged = [w]) (hdurable : w.durable = true)
    (hthrough : w.through = false) (hflushes : s.media.flushes = []) (hwaiting : s.media.waitingWrites = [])
    (hpending : s.media.stagePending = none) : exec .writeDurable s = .next (s.settle w) := by
  have hnone : (s.settle w).media.flushes = [] := hflushes
  have hsame : (s.settle w).setMedia { (s.settle w).media with flushes := [] } = s.settle w := by rw [← hnone]; rfl
  show execWriteDurable s = _
  simp only [execWriteDurable, hstaged, settleAll_singleton hdurable hthrough,
    applyStageSize_of_none_pending (s := s.settle w) hpending, hnone, hsame, State.serveFlushes,
    retryWaitingWrites_of_none (s := s.settle w) hwaiting]

/-- Settles O10, command by command: each has begun, so its effect is the one said above; a zone command goes by its zone's
state. -/
theorem blocksAreReadAndWritten : Obligations.BlocksAreReadAndWritten := by
  unfold Obligations.BlocksAreReadAndWritten
  refine ⟨?read, ⟨?write, ?zoneAppend, ?accepted⟩, ?zones, ?trim, ?flush, ?durable⟩
  case read =>
    intro s q slot e p hbegin hp hfrozen hresetting hlogs hfault
    obtain ⟨t, ht, hqp, hmem, hmedia⟩ := read_of_live hbegin hp hfrozen hresetting hlogs hfault
    exact ⟨t, p.ended slot ⟨0, e.cmdId, 0, slot, e.opcode, 1, 0⟩, ht, (hqp q).trans (if_pos rfl), hfrozen, rfl, rfl, rfl, rfl,
      hmem, hmedia, fun m hm => (hqp m).trans (if_neg hm)⟩
  case write =>
    intro s q slot e hbegin hwaiting hro hconv hroom
    show Host.Outcome.next (s.takeWrite q e) = _
    rw [takeWrite_of_beginning hbegin hwaiting, writeBlocks_conventional hro hconv hroom]
  case zoneAppend =>
    intro s q slot e hbegin hwaiting hro hzoned happend hzone hroom at_
    refine ⟨?_, advanceZone_wp ..⟩
    show Host.Outcome.next (s.takeWrite q e) = _
    rw [takeWrite_of_beginning hbegin hwaiting, writeBlocks_append hro hzoned happend hzone hroom]
  case accepted =>
    exact fun s q slot lba result e => ⟨s.stagedFor q slot e lba result, stagedFor_staged .., acceptWrite_eq ..⟩
  case zones =>
    intro s q slot e hbegin z u st
    have hreset {st : ZoneStatus} := zoneReset_of_status (st := st) hbegin
    have hfinish {st : ZoneStatus} := zoneFinish_of_status (st := st) hbegin
    exact ⟨fun h => ⟨hreset h, hfinish h⟩, fun h => ⟨hreset h, hfinish h⟩, fun h => ⟨hreset h, hfinish h⟩,
      fun h => ⟨hreset h, hfinish h⟩, fun h => ⟨hreset h, _, hfinish h, setZone_zone_same ..⟩⟩
  case trim => exact fun s q slot e hbegin hro => ⟨trim_of_writable hbegin hro, by rw [clearBlocks_journalAdd_data, begun_media]⟩
  case flush => exact fun s q slot e => flush_of_writable
  case durable =>
    intro s w hstaged hdurable hthrough hflushes hwaiting hpending
    rw [writeDurable_of_single hstaged hdurable hthrough hflushes hwaiting hpending]
    simp [State.settle, State.setMedia, hstaged]

end Sys2Proof.Machine
end

section
/-! Family `05_storage_queues.md`: a failed command freezes its pair; the rings and the admin commands (R126 to R146, R574).

First what a freeze does to its pair and leaves alone, for a failed command and for a faulty doorbell; then the rings, from the
doorbells to posting; then the admin commands, each by its effect once it has begun and its own checks pass. -/

namespace Sys2Proof.Machine

/-! ### A freeze (R143, R144) -/

/-- What the error page records of a completion (R144). -/
def Completion.record (c : Completion) : ErrEntry := ⟨c.cmdId, c.slot, c.status, c.opcode, c.effect, c.info⟩

/-- The completion of a command that ended in a failure (R131). -/
def failedCompletion (e : SqEntry) (slot : Nat) (st : Status) (info : Nat) : Completion :=
  ⟨0, e.cmdId, st.value, slot, e.opcode, 0, info⟩

/-- A pair as a freeze leaves it: the completions that waited are withdrawn into the page, those of `post` are left to post. -/
def QueuePair.frozenBy (p : QueuePair) (cause : ErrEntry) (post : List Completion) (doorbell : Bool) : QueuePair :=
  { p with frozen := true, doorbellFault := doorbell, cause := some cause, waiting := post
           errors := p.waiting.map Completion.record }

section
variable (s : State) (p : QueuePair) (cause : ErrEntry) (post : List Completion) (doorbell : Bool)

@[simp] theorem freeze_mem : (s.freeze p cause post doorbell).mem = s.mem := rfl

@[simp] theorem freeze_media : (s.freeze p cause post doorbell).media = s.media := rfl

/-- FREEZE_COUNT of the pair goes up by one. -/
theorem freeze_freezeCount {p : QueuePair} {q : Nat} (hnum : p.num = q) :
    lookupD (s.freeze p cause post doorbell).queues.freezeCounts q 0 = lookupD s.queues.freezeCounts q 0 + 1 := by
  rw [← hnum]
  exact lookupD_assign_same ..

/-- A freeze is found in its pair, whatever of the pair but its number changed with it, and in no other. -/
theorem freeze_qp? {s : State} {q : Nat} {p p' : QueuePair} (h : s.qp? q = some p) (hnum : p'.num = p.num) (m : Nat) :
    (s.freeze p' cause post doorbell).qp? m = if m = q then some (p'.frozenBy cause post doorbell) else s.qp? m :=
  setQp_qp? h (p'.frozenBy cause post doorbell) hnum m

end

/-! ### A command begins (R129, R145) -/

theorem begun_qp? {s : State} {q : Nat} {p : QueuePair} (h : s.qp? q = some p) (slot m : Nat) :
    (s.begun q slot).qp? m = if m = q then some (p.begun slot) else s.qp? m := by
  rw [begun_eq_setQp h, setQp_qp? h (p.begun slot) rfl]

@[simp] theorem begun_freezeCounts (s : State) (q slot : Nat) :
    (s.begun q slot).queues.freezeCounts = s.queues.freezeCounts := by
  unfold State.begun; split <;> rfl

/-- A command that begins makes no pair. -/
theorem begun_qp?_of_none {s : State} {m : Nat} (h : s.qp? m = none) (q slot : Nat) : (s.begun q slot).qp? m = none := by
  cases hq : s.qp? q with
  | none => simp only [State.begun, hq, h]
  | some p => rw [begun_qp? hq, if_neg (fun hm => by simp [← hm, h] at hq), h]

/-! ### A command ends in a failure (R131, R143, R144) -/

/-- The pair without the fetched command of a slot. -/
def QueuePair.released (p : QueuePair) (slot : Nat) : QueuePair :=
  { p with fetched := p.fetched.filter (fun f => decide (f.slot ≠ slot)) }

/-- Whether the command whose slot is released was marked as begun is no matter. -/
theorem released_begun (p : QueuePair) (slot : Nat) : (p.begun slot).released slot = p.released slot := by
  have hfetched := congrArg QueuePair.fetched (ended_begun p slot ⟨0, 0, 0, 0, 0, 0, 0⟩)
  exact congrArg (fun l => { p with fetched := l }) hfetched

/-- On a live pair that nothing waits for, a command's failure freezes the pair and is its one completion left to post. -/
theorem endStorage_failed_of_live {s : State} {q : Nat} {p : QueuePair} (h : s.qp? q = some p) (hfrozen : p.frozen = false)
    (hresetting : p.resetting = none) (hlogs : p.logWaiters = []) {st : Status} (hst : st ≠ .ok) (slot : Nat) (e : SqEntry)
    (result info : Nat) :
    s.endStorage q slot e st result info = s.freeze (p.released slot) (failedCompletion e slot st (infoOf st result info)).record
      [failedCompletion e slot st (infoOf st result info)] false := by
  have hend : s.endCommand q slot e st result info = s.freeze (p.released slot)
      (failedCompletion e slot st (infoOf st result info)).record [failedCompletion e slot st (infoOf st result info)] false := by
    simp [State.endCommand, h, hfrozen, hresetting, hst, QueuePair.released, failedCompletion, Completion.record]
  unfold State.endStorage
  rw [hend]
  exact pairDrained_of_none_waiting ((freeze_qp? _ _ _ h (p' := p.released slot) rfl q).trans (if_pos rfl)) hresetting hlogs

/-! ### A READ that fails (R136, R138) -/

/-- What stops a READ is a failure, and its INFO is the one R144 reports. -/
theorem readFault_status {s : State} {lba n : Nat} {f : StorageFault} (h : s.readFault lba n = some f) :
    f.status ≠ .ok ∧ infoOf f.status 0 f.info = f.info := by
  unfold State.readFault at h
  split at h
  · obtain rfl := Option.some.inj h
    exact ⟨nofun, rfl⟩
  · split at h
    · obtain rfl := Option.some.inj h
      exact ⟨nofun, rfl⟩
    · contradiction

theorem read_of_fault {s : State} {q slot : Nat} {e : SqEntry} {f : StorageFault} (hbegin : s.beginning q e = some slot)
    (hfault : s.readFault e.slba e.nlb = some f) :
    exec (.read q e) s = .next ((s.begun q slot).endStorage q slot e f.status 0 f.info) := by
  show execRead q e s = _
  simp only [execRead, hbegin, State.readBlocks, readFault_congr (begun_media s q slot), hfault]

/-- Settles O9: the READ ends in its fault, which on a live pair is a freeze of the pair without the command. -/
theorem failedReadFreezesPair : Obligations.FailedReadFreezesPair := by
  unfold Obligations.FailedReadFreezesPair
  intro s q slot e p f hbegin hp hfrozen hresetting hlogs hfault
  obtain ⟨hst, hinfo⟩ := readFault_status hfault
  have hq := (begun_qp? hp slot q).trans (if_pos rfl)
  have hend := endStorage_failed_of_live hq hfrozen hresetting hlogs hst slot e 0 f.info
  rw [hinfo, released_begun] at hend
  have hfreeze := freeze_qp? (failedCompletion e slot f.status f.info).record [failedCompletion e slot f.status f.info] false hq
    (p' := p.released slot) rfl
  refine ⟨_, _, (read_of_fault hbegin hfault).trans (congrArg _ hend), (hfreeze q).trans (if_pos rfl), rfl, rfl, rfl, rfl, ?_,
    fun m hm => ?_, ?_, ?_⟩
  · have hnum : (p.released slot).num = q := num_of_qp?_eq_some (p := p) hp
    rw [freeze_freezeCount _ _ _ _ hnum, begun_freezeCounts]
  · rw [hfreeze, begun_qp? hp, if_neg hm, if_neg hm]
  · rw [freeze_mem, begun_mem]
  · rw [freeze_media, begun_media]

/-! ### Doorbells (R128, R573) -/

/-- A faulty doorbell freezes a live pair with nothing left to post; of the cause CMD_ID and INFO are given. -/
theorem doorbellFault_of_live (s : State) {p : QueuePair} (hfrozen : p.frozen = false) (v : Nat) : ∃ c : ErrEntry,
    s.doorbellFault p v = s.used.used.used.freeze p c [] true ∧ c.cmdId = 0xFFFF ∧ c.info = v :=
  ⟨_, if_neg (by simp [hfrozen]), rfl, rfl⟩

section
variable {s : State} {q v : Nat} {p : QueuePair}

theorem sqTail_of_room (h : s.qp? q = some p) (hv : v < p.depth)
    (hroom : ringCount p.depth p.sqHead p.sqTail ≤ ringCount p.depth p.sqHead v) :
    exec (.sqTail q v) s = .next (s.setQp { p with sqDoorbell := v, sqTail := v }) := by
  show execSqTail q v s = _
  simp only [execSqTail, h]
  exact if_neg (by omega)

theorem sqTail_of_fault (h : s.qp? q = some p)
    (hbad : p.depth ≤ v ∨ ringCount p.depth p.sqHead v < ringCount p.depth p.sqHead p.sqTail) :
    exec (.sqTail q v) s = .next (s.doorbellFault { p with sqDoorbell := v } v) := by
  show execSqTail q v s = _
  simp only [execSqTail, h]
  exact if_pos hbad

theorem cqHead_of_posted (h : s.qp? q = some p) (hv : v < p.depth)
    (hposted : ringCount p.depth p.cqHead v ≤ ringCount p.depth p.cqHead p.cqTail) :
    exec (.cqHead q v) s = .next (s.setQp { p with cqDoorbell := v, cqHead := v }) := by
  show execCqHead q v s = _
  simp only [execCqHead, h]
  exact if_neg (by omega)

theorem sqTail_of_no_pair (h : s.qp? q = none) : exec (.sqTail q v) s = .next (s.hlError 3) := by
  show execSqTail q v s = _
  simp only [execSqTail, h]

theorem cqHead_of_no_pair (h : s.qp? q = none) : exec (.cqHead q v) s = .next (s.hlError 3) := by
  show execCqHead q v s = _
  simp only [execCqHead, h]

end

/-! ### Fetching (R129) -/

/-- With the admin SQ empty the arbiter's winner fetches a burst and the pointer goes past it. -/
theorem sqFetch_of_winner {s : State} {q : Nat} (hadmin : ((s.queues.pairs.filter s.mayFetch).map (·.num)).contains 0 = false)
    (hwin : arbWinner s.queues.arb ((s.queues.pairs.filter s.mayFetch).map (·.num)) = some q) :
    exec .sqFetch s
      = .next (State.fetchUpTo { s with queues := { s.queues with arb := (q + 1) % 256 } } q s.queues.arbBurst) := by
  show execSqFetch s = _
  simp only [execSqFetch, hadmin, hwin, arbNext, Bool.false_eq_true, ↓reduceIte]

theorem fetchUpTo_succ_of_mayFetch {s : State} {q : Nat} {p : QueuePair} (h : s.qp? q = some p) (hmay : s.mayFetch p = true)
    (n : Nat) : s.fetchUpTo q (n + 1) = (s.fetchOne p).fetchUpTo q n := by
  simp only [State.fetchUpTo, h, hmay, ↓reduceIte]

/-! ### Posting and signalling (R131, R132, R142, R574) -/

section
variable (s : State) (v : Nat)

/-- Signalling a completion counts it or sends a message; the pairs are as before. -/
@[simp] theorem signal_qp? (q : Nat) : (s.signal v).qp? q = s.qp? q := by
  unfold State.signal
  dsimp only
  split
  · exact qp?_congr (msix_speaks ..).queues q
  · rfl

@[simp] theorem signal_mem : (s.signal v).mem = s.mem := by
  unfold State.signal
  dsimp only
  split
  · exact (msix_speaks ..).mem
  · rfl

end

/-- The pair once its oldest waiting completion is posted, with `rest` still waiting. -/
def QueuePair.posted (p : QueuePair) (rest : List Completion) : QueuePair :=
  { p with waiting := rest, cqTail := (p.cqTail + 1) % p.depth
           phase := if (p.cqTail + 1) % p.depth = 0 then !p.phase else p.phase }

/-- A post writes the completion's entry and moves the pair's CQ on; which staged writes it marks is the Reservoir's. -/
theorem cqPost_of_waiting {s : State} {q : Nat} {p : QueuePair} {c : Completion} {rest : List Completion} (h : s.qp? q = some p)
    (hwaiting : p.waiting = c :: rest) (hfull : p.cqFull = false) : ∃ m : MediaState,
    exec (.cqPost q) s = .next (State.signal
      (((s.memWrite (p.cqBase + 16 * p.cqTail) (completionBytes p c)).setQp (p.posted rest)).setMedia m) (8 + q % 24)) := by
  constructor
  show execCqPost q s = _
  simp only [execCqPost, h, hwaiting, hfull, Bool.false_eq_true, ↓reduceIte]
  rfl

theorem coalTimeExpiry_of_unsignalled {s : State} {v : Nat} (hlo : 8 ≤ v) (hhi : v ≤ 31)
    (hn : s.queues.unsignalled.getD (v - 8) 0 ≠ 0) : exec (.coalTimeExpiry v) s = .next (State.msix
      { s with queues := { s.queues with unsignalled := s.queues.unsignalled.set (v - 8) 0 } } v) :=
  if_neg (by omega)

/-! ### An admin command whose own checks pass (R133, R139) -/

theorem admin_of_beginning {s : State} {q slot : Nat} {e : SqEntry} (hbegin : s.beginning q e = some slot)
    (f : State → Nat → State) : s.admin q e f = f (s.begun q slot) slot := by
  simp only [State.admin, hbegin]

theorem endBad_of_none_bad {l : List (Bool × StorageFault)} (h : ∀ x ∈ l, x.1 = false) (s : State) (q slot : Nat) (e : SqEntry)
    (effect : State) : s.endBad q slot e l effect = effect := by
  have hnone : l.find? (fun x => x.1) = none := List.find?_eq_none.mpr (by simpa using h)
  simp only [State.endBad, hnone]

section
variable {s : State} {q slot : Nat} {e : SqEntry} (hbegin : s.beginning q e = some slot)
include hbegin

theorem identify_of_beginning (h : e.params.getD 0 0 = 0) : exec (.identify q e) s
    = .next (((s.begun q slot).memWrite e.bufAddr (s.begun q slot).identifyPage).endStorage q slot e .ok) := by
  show Host.Outcome.next (s.admin q e _) = _
  rw [admin_of_beginning hbegin, endBad_of_none_bad (by simpa [badEntry] using h)]

/-- GET_LOG of a log that belongs to no pair: the health log, and the firmware status for the other identifier. -/
theorem getLog_of_device (hid : e.params.getD 0 0 = 0x10 ∨ e.params.getD 0 0 = 0x12) (hlo : 4 ≤ e.params.getD 4 0)
    (hhi : e.params.getD 4 0 ≤ 16777216) (hwords : e.params.getD 4 0 % 4 = 0) : exec (.getLog q e) s
      = .next (((s.begun q slot).giveLog e (if e.params.getD 0 0 = 0x10 then (s.begun q slot).healthLog
          else (s.begun q slot).fwStatus)).endStorage q slot e .ok) := by
  have hlength : outside (e.params.getD 4 0) 4 16777216 = false := (outside_eq_false ..).mpr ⟨hlo, hhi⟩
  show Host.Outcome.next (s.admin q e _) = _
  rw [admin_of_beginning hbegin]
  rcases hid with hid | hid
  · rw [endBad_of_none_bad (by simp only [badEntry, hid, hlength, hwords]; simp), hid]
    rfl
  · rw [endBad_of_none_bad (by simp only [badEntry, hid, hlength, hwords]; simp), hid]
    rfl

end

/-! ### Features (R142) -/

/-- The identifiers of features are 1 to 5. -/
theorem featureRange_isNone_of_known {f : Nat} (hlo : 1 ≤ f) (hhi : f ≤ 5) : (featureRange f).isNone = false :=
  match f, hlo, hhi with
  | 1, _, _ | 2, _, _ | 3, _, _ | 4, _, _ | 5, _, _ => rfl

/-- A value within a feature's range is one of a known feature. -/
theorem known_of_featureBad_eq_false {f v : Nat} (h : featureBad f v = false) : 1 ≤ f ∧ f ≤ 5 :=
  match f, h with
  | 1, _ | 2, _ | 3, _ | 4, _ | 5, _ => by decide

theorem feature_setFeature_same (s : State) {f : Nat} (hlo : 1 ≤ f) (hhi : f ≤ 5) (v : Nat) :
    (s.setFeature f v).feature f = v :=
  match f, hlo, hhi with
  | 1, _, _ | 2, _, _ | 3, _, _ | 4, _, _ | 5, _, _ => rfl

section
variable {s : State} {q slot : Nat} {e : SqEntry} (hbegin : s.beginning q e = some slot)
include hbegin

theorem getFeature_of_known (hlo : 1 ≤ e.params.getD 0 0) (hhi : e.params.getD 0 0 ≤ 5) : exec (.getFeature q e) s
    = .next ((s.begun q slot).endStorage q slot e .ok ((s.begun q slot).feature (e.params.getD 0 0))) := by
  show Host.Outcome.next (s.admin q e _) = _
  rw [admin_of_beginning hbegin,
    endBad_of_none_bad (by simp only [badEntry, featureRange_isNone_of_known hlo hhi, List.forall_mem_singleton])]

theorem setFeature_of_in_range (h : featureBad (e.params.getD 0 0) (e.params.getD 1 0) = false) : exec (.setFeature q e) s
    = .next (((s.begun q slot).setFeature (e.params.getD 0 0) (e.params.getD 1 0)).endStorage q slot e .ok) := by
  obtain ⟨hlo, hhi⟩ := known_of_featureBad_eq_false h
  show Host.Outcome.next (s.admin q e _) = _
  rw [admin_of_beginning hbegin,
    endBad_of_none_bad (by simp only [badEntry, h, featureRange_isNone_of_known hlo hhi, List.forall_mem_cons,
      List.not_mem_nil, false_implies, implies_true, and_self])]

/-! ### Firmware (R146, R556, R557) -/

theorem fwDownload_of_session (h : (s.begun q slot).sessionFault (.storage q) (e.params.getD 0 0) (e.nlb * 4096) = none) :
    exec (.fwDownload q e) s = .next (((s.begun q slot).sessionWrite (.storage q) (e.params.getD 0 0)
      ((s.begun q slot).memRead e.bufAddr (e.nlb * 4096))).endStorage q slot e .ok) := by
  show Host.Outcome.next (s.admin q e _) = _
  rw [admin_of_beginning hbegin, h]

theorem fwCommit_of_session (haction : e.params.getD 0 0 = 0) (h : s.commitFault (.storage q) = none) :
    exec (.fwCommit q e) s = .next ((s.begun q slot).commitSession none (some (q, slot))) := by
  show execFwCommit q e s = _
  simp only [execFwCommit, admin_of_beginning hbegin, haction, h, Nat.not_lt_zero, Nat.zero_ne_one, ↓reduceIte]

end

/-! ### Making pairs (R126, R127) -/

/-- A test that an updated element passes as it did before holds of some element as it did before. -/
theorem any_updateFirst_of_eq {α : Type} {p g : α → Bool} {x x' : α} {l : List α} (h : l.find? p = some x) (hg : g x' = g x) :
    (updateFirst p (fun _ => x') l).any g = l.any g := by
  induction l with
  | nil => rfl
  | cons y ys ih =>
    by_cases hy : p y = true
    · obtain rfl : y = x := by simpa [hy] using h
      simp [updateFirst, hy, hg]
    · simpa [updateFirst, hy] using congrArg (g y || ·) (ih (by simpa [hy] using h))

/-- A command that begins moves no queue. -/
theorem queueMeets_begun (s : State) (q slot : Nat) (n : QueuePair) (x : Nat × Nat) :
    (s.begun q slot).queueMeets n x = s.queueMeets n x := by
  cases hq : s.qp? q with
  | none => simp only [State.begun, hq]
  | some p =>
    have hself : s.qp? p.num = some p := by rwa [num_of_qp?_eq_some hq]
    rw [begun_eq_setQp hq]
    unfold State.queueMeets
    rw [List.any_filter, List.any_filter]
    exact any_updateFirst_of_eq (x := p) hself rfl

theorem pairFaults_begun (s : State) (q slot : Nat) (n : QueuePair) (i j k : Nat) :
    (s.begun q slot).pairFaults n i j k = s.pairFaults n i j k := by
  simp only [State.pairFaults, queueMeets_begun]

theorem createQueue_of_placed {s : State} {q slot : Nat} {e : SqEntry} (hbegin : s.beginning q e = some slot) {n : QueuePair}
    (hn : n = { num := e.params.getD 0 0, depth := e.params.getD 1 0
                sqBase := e.params.getD 2 0 + e.params.getD 3 0 * 2 ^ 32
                cqBase := e.params.getD 4 0 + e.params.getD 5 0 * 2 ^ 32 })
    (hlo : 1 ≤ n.num) (hhi : n.num ≤ 255) (hplaced : (s.pairFaults n 36 40 48).any (·.1) = false) (hnew : s.qp? n.num = none) :
    exec (.createQueue q e) s = .next (((s.begun q slot).addPair n).endStorage q slot e .ok) := by
  have hnum : outside n.num 1 255 = false := (outside_eq_false ..).mpr ⟨hlo, hhi⟩
  show Host.Outcome.next (s.admin q e _) = _
  rw [admin_of_beginning hbegin, ← hn, endBad_of_none_bad]
  rw [pairFaults_begun, begun_qp?_of_none hnew]
  simpa [badEntry, hnum] using hplaced

theorem queueAdminSetup_of_placed {s : State} {r : Req} {depth sq cq : Nat} (hform : FormOk s r 0x0810)
    (hplaced : (s.pairFaults { num := 0, depth := depth, sqBase := sq, cqBase := cq } 0 8 16).any (·.1) = false)
    (hnew : s.qp? 0 = none) : exec (.queueAdminSetup r depth sq cq) s
      = .next ((s.addPair { num := 0, depth := depth, sqBase := sq, cqBase := cq }).answer r 0x0810 .ok) := by
  show Host.Outcome.next (s.finish r 0x0810 _ _) = _
  rw [finish_of_checks_pass hform]
  simpa [hnew] using hplaced

/-! ### Resetting pairs (R139, R145) -/

/-- The reset of a pair that exists and is not being reset starts. -/
theorem resetBy_of_live {s : State} {e : SqEntry} {p : QueuePair} (hlo : 1 ≤ e.params.getD 0 0) (hhi : e.params.getD 0 0 ≤ 255)
    (h : s.qp? (e.params.getD 0 0) = some p) (hresetting : p.resetting = none) (q slot : Nat) (delete : Bool) :
    s.resetBy q slot e delete = s.startReset p (.storage slot e delete) := by
  have hnum : outside (e.params.getD 0 0) 1 255 = false := (outside_eq_false ..).mpr ⟨hlo, hhi⟩
  simp only [State.resetBy, h]
  rw [endBad_of_none_bad]
  simp [badEntry, hnum, hresetting, -List.getD_eq_getElem?_getD]

theorem queueAdminReset_of_pair {s : State} {r : Req} {p : QueuePair} (hform : FormOk s r 0x0811)
    (hheld : s.isHeld (.storageQp 0) = false) (h : s.qp? 0 = some p) : exec (.queueAdminReset r) s
      = .next ((s.answerInProgress r 0x0811 [.storageQp 0]).startReset p (.mailbox r 0x0811)) := by
  show Host.Outcome.next (s.finish r 0x0811 _ _) = _
  rw [finish_of_checks_pass hform (by simp [State.heldBusy, hheld, h])]
  simp only [State.resetPairFor, h]

/-- Settles O11, row by row: the rings, then the admin commands of queue pair 0 and of the mailbox. -/
theorem storageQueuesRun : Obligations.StorageQueuesRun := by
  unfold Obligations.StorageQueuesRun
  refine ⟨⟨?sqTail, ?cqHead, ?noPair, ?fetch, ?burst, ?fetchOne, ?post, ?coalesced⟩, ?admin, ?setup, ?reset⟩
  case sqTail =>
    intro s q v p h
    refine ⟨fun ⟨hv, hroom⟩ => sqTail_of_room h hv hroom, fun hfrozen hbad => ?_⟩
    obtain ⟨c, hc, hid, hinfo⟩ := doorbellFault_of_live s (p := { p with sqDoorbell := v }) hfrozen v
    have hfreeze := freeze_qp? (s := s.used.used.used) c [] true h (p' := { p with sqDoorbell := v }) rfl q
    exact ⟨_, _, (sqTail_of_fault h hbad).trans (congrArg _ hc), hfreeze.trans (if_pos rfl), rfl, rfl, rfl, rfl,
      congrArg some hid, congrArg some hinfo⟩
  case cqHead => exact fun s q v p h hv hposted => cqHead_of_posted h hv hposted
  case noPair => exact fun s q v h => ⟨sqTail_of_no_pair h, cqHead_of_no_pair h⟩
  case fetch => exact fun s q => sqFetch_of_winner
  case burst => exact fun s q n p h hmay => fetchUpTo_succ_of_mayFetch h hmay n
  case fetchOne => exact fun s p h => rfl
  case post =>
    intro s q p c rest h hwaiting hfull
    obtain ⟨m, hpost⟩ := cqPost_of_waiting h hwaiting hfull
    have hqp := setQp_qp? ((qp?_congr (memWrite_queues s (p.cqBase + 16 * p.cqTail) (completionBytes p c)) q).trans h)
      (p.posted rest) rfl q
    exact ⟨_, _, hpost, (signal_qp? ..).trans (hqp.trans (if_pos rfl)), rfl, rfl, rfl, by simp⟩
  case coalesced => exact fun s v => coalTimeExpiry_of_unsignalled
  case admin =>
    intro s q slot e hbegin u a
    refine ⟨identify_of_beginning hbegin, fun hid hlo hhi hwords => ?_, fun hid hlo hhi hwords => ?_, getFeature_of_known hbegin,
      fun h => ⟨setFeature_of_in_range hbegin h, ?_⟩, fwDownload_of_session hbegin, fwCommit_of_session hbegin,
      createQueue_of_placed hbegin rfl, fun p hlo hhi h hresetting => ?_⟩
    · exact (getLog_of_device hbegin (.inl hid) hlo hhi hwords).trans (by rw [if_pos hid])
    · exact (getLog_of_device hbegin (.inr hid) hlo hhi hwords).trans
        (by rw [if_neg (fun h => absurd (h.symm.trans hid) (by decide))])
    · obtain ⟨hlo, hhi⟩ := known_of_featureBad_eq_false h
      exact feature_setFeature_same u hlo hhi _
    · have hreset := resetBy_of_live hlo hhi h hresetting q slot
      exact ⟨congrArg _ ((admin_of_beginning hbegin _).trans (hreset true)),
        congrArg _ ((admin_of_beginning hbegin _).trans (hreset false))⟩
  case setup => exact fun s r depth sq cq => queueAdminSetup_of_placed
  case reset => exact fun s r p => queueAdminReset_of_pair

end Sys2Proof.Machine
end

section
/-! Family `06_ingots_and_epoch_plan.md`: the record permutation of an epoch, the places of its samples, the items that LOAD
commands store, the plan's commands and the preparation of steps (R148 to R175). -/

namespace Sys2Proof.Machine

/-! ### Numerals of two digits -/

/-- Two digits `(a, b)` and `(c, d)` of base `n` with one value are the same. -/
theorem digits_eq {n a b c d : Nat} (hb : b < n) (hd : d < n) (h : a * n + b = c * n + d) : a = c ∧ b = d := by
  have hmod := congrArg (· % n) h
  simp only [Nat.mul_add_mod_of_lt hb, Nat.mul_add_mod_of_lt hd] at hmod
  subst hmod
  exact ⟨Nat.eq_of_mul_eq_mul_right (Nat.zero_lt_of_lt hb) (Nat.add_right_cancel h), rfl⟩

theorem digits_lt {m n a b : Nat} (ha : a < m) (hb : b < n) : a * n + b < m * n :=
  calc a * n + b < (a + 1) * n := by rw [Nat.succ_mul]; omega
    _ ≤ m * n := Nat.mul_le_mul_right n ha

/-! ### The rounds of the permutation (R164) -/

section
variable {f : RoundFn} {h : Nat}

/-- A round of feistel. -/
def feistelRound (f : RoundFn) (i : Nat) (x : Nat × Nat) : Nat × Nat := (x.2, x.1 ^^^ f i x.2)

/-- A round of feistel_inv. -/
def feistelUnround (f : RoundFn) (i : Nat) (x : Nat × Nat) : Nat × Nat := (x.2 ^^^ f i x.1, x.1)

/-- Both halves of a pair are `h` bits wide. -/
def HalvesFit (h : Nat) (x : Nat × Nat) : Prop := x.1 < 2 ^ h ∧ x.2 < 2 ^ h

theorem feistelUnround_feistelRound (f : RoundFn) (i : Nat) (x : Nat × Nat) : feistelUnround f i (feistelRound f i x) = x := by
  simp only [feistelUnround, feistelRound, Nat.xor_assoc, Nat.xor_self, Nat.xor_zero]

theorem feistelRound_feistelUnround (f : RoundFn) (i : Nat) (x : Nat × Nat) : feistelRound f i (feistelUnround f i x) = x := by
  simp only [feistelUnround, feistelRound, Nat.xor_assoc, Nat.xor_self, Nat.xor_zero]

/-- The last of `n + 1` rounds is round `i + n`; the definition peels off the first. -/
theorem feistelRounds_succ_last (f : RoundFn) (n i : Nat) (x : Nat × Nat) :
    feistelRounds f (n + 1) i x = feistelRound f (i + n) (feistelRounds f n i x) := by
  induction n generalizing i x with
  | zero => rfl
  | succ n ih =>
    calc feistelRounds f (n + 2) i x = feistelRounds f (n + 1) (i + 1) (feistelRound f i x) := rfl
      _ = feistelRound f (i + 1 + n) (feistelRounds f (n + 1) i x) := ih (i + 1) _
      _ = feistelRound f (i + (n + 1)) (feistelRounds f (n + 1) i x) := by rw [Nat.add_right_comm, Nat.add_assoc]

theorem feistelBack_feistelRounds (f : RoundFn) (n : Nat) (x : Nat × Nat) : feistelBack f n (feistelRounds f n 0 x) = x := by
  induction n with
  | zero => rfl
  | succ n ih =>
    rw [feistelRounds_succ_last, Nat.zero_add]
    exact (congrArg (feistelBack f n) (feistelUnround_feistelRound f n _)).trans ih

theorem feistelRounds_feistelBack (f : RoundFn) (n : Nat) (x : Nat × Nat) : feistelRounds f n 0 (feistelBack f n x) = x := by
  induction n generalizing x with
  | zero => rfl
  | succ n ih =>
    rw [feistelRounds_succ_last, Nat.zero_add]
    exact (congrArg (feistelRound f n) (ih (feistelUnround f n x))).trans (feistelRound_feistelUnround f n x)

variable (hf : ∀ i r, f i r < 2 ^ h)
include hf

theorem feistelRounds_fit (n i : Nat) {x : Nat × Nat} (hx : HalvesFit h x) : HalvesFit h (feistelRounds f n i x) := by
  induction n generalizing i x with
  | zero => exact hx
  | succ n ih => exact ih (i + 1) ⟨hx.2, Nat.xor_lt_two_pow hx.1 (hf ..)⟩

theorem feistelBack_fit (n : Nat) {x : Nat × Nat} (hx : HalvesFit h x) : HalvesFit h (feistelBack f n x) := by
  induction n generalizing x with
  | zero => exact hx
  | succ n ih => exact ih ⟨Nat.xor_lt_two_pow hx.2 (hf ..), hx.1⟩

end

/-! ### The permutation of the power of two -/

/-- A value of `2 * h` bits as its halves. -/
def halvesOf (h x : Nat) : Nat × Nat := (x / 2 ^ h, x % 2 ^ h)

/-- Two halves as one value. -/
def joinHalves (h : Nat) (x : Nat × Nat) : Nat := x.1 * 2 ^ h + x.2

theorem halvesOf_fit {h x : Nat} (hx : x < 2 ^ (2 * h)) : HalvesFit h (halvesOf h x) := by
  rw [Nat.two_mul, Nat.pow_add] at hx
  exact ⟨Nat.div_lt_of_lt_mul hx, Nat.mod_lt _ (Nat.two_pow_pos h)⟩

theorem joinHalves_lt {h : Nat} {x : Nat × Nat} (hx : HalvesFit h x) : joinHalves h x < 2 ^ (2 * h) := by
  rw [Nat.two_mul, Nat.pow_add]
  exact digits_lt hx.1 hx.2

theorem joinHalves_halvesOf (h x : Nat) : joinHalves h (halvesOf h x) = x := Nat.div_add_mod' x (2 ^ h)

theorem halvesOf_joinHalves {h : Nat} {x : Nat × Nat} (hx : HalvesFit h x) : halvesOf h (joinHalves h x) = x := by
  refine Prod.ext ?_ (Nat.mul_add_mod_of_lt hx.2)
  show (x.1 * 2 ^ h + x.2) / 2 ^ h = x.1
  rw [Nat.mul_comm, Nat.mul_add_div (Nat.two_pow_pos h), Nat.div_eq_of_lt hx.2, Nat.add_zero]

/-- `g` and `g'` permute the values below `bound` and undo each other there. -/
structure InverseBelow (bound : Nat) (g g' : Nat → Nat) : Prop where
  maps : ∀ x < bound, g x < bound
  maps' : ∀ x < bound, g' x < bound
  left : ∀ x < bound, g' (g x) = x
  right : ∀ x < bound, g (g' x) = x

theorem InverseBelow.symm {bound : Nat} {g g' : Nat → Nat} (h : InverseBelow bound g g') : InverseBelow bound g' g :=
  ⟨h.maps', h.maps, h.right, h.left⟩

/-- feistel permutes the values of `2 * h` bits, and feistel_inv undoes it. -/
theorem feistel_inverseBelow {f : RoundFn} {h : Nat} (hf : ∀ i r, f i r < 2 ^ h) :
    InverseBelow (2 ^ (2 * h)) (feistel f h) (feistelInv f h) where
  maps x hx := joinHalves_lt (feistelRounds_fit hf 8 0 (halvesOf_fit hx))
  maps' x hx := joinHalves_lt (feistelBack_fit hf 8 (halvesOf_fit hx))
  left x hx := by
    show joinHalves h (feistelBack f 8 (halvesOf h (joinHalves h (feistelRounds f 8 0 (halvesOf h x))))) = x
    rw [halvesOf_joinHalves (feistelRounds_fit hf 8 0 (halvesOf_fit hx)), feistelBack_feistelRounds, joinHalves_halvesOf]
  right x hx := by
    show joinHalves h (feistelRounds f 8 0 (halvesOf h (joinHalves h (feistelBack f 8 (halvesOf h x))))) = x
    rw [halvesOf_joinHalves (feistelBack_fit hf 8 (halvesOf_fit hx)), feistelRounds_feistelBack, joinHalves_halvesOf]

/-! ### Cycle-walking -/

theorem repeat_apply (g : Nat → Nat) (k x : Nat) : Nat.repeat g k (g x) = Nat.repeat g (k + 1) x := by
  induction k with
  | zero => rfl
  | succ k ih => exact congrArg g ih

/-- With fuel for `k` steps the walk ends at the first value below `n`. -/
theorem walk_eq_repeat {g : Nat → Nat} {n k : Nat} (fuel : Nat) {y : Nat} (hk : k ≤ fuel) (habove : ∀ j < k, n ≤ Nat.repeat g j y)
    (hbelow : Nat.repeat g k y < n) : walk g n fuel y = Nat.repeat g k y := by
  induction k generalizing fuel y with
  | zero =>
    cases fuel with
    | zero => rfl
    | succ fuel => exact if_neg (Nat.not_le.mpr hbelow)
  | succ k ih =>
    obtain ⟨fuel, rfl⟩ := Nat.exists_eq_succ_of_ne_zero (Nat.ne_of_gt (Nat.lt_of_lt_of_le (Nat.succ_pos k) hk))
    rw [← repeat_apply] at hbelow ⊢
    refine (if_pos (habove 0 (Nat.succ_pos k))).trans (ih fuel (Nat.le_of_succ_le_succ hk) (fun j hj => ?_) hbelow)
    rw [repeat_apply]
    exact habove (j + 1) (Nat.succ_lt_succ hj)

/-- A property of some number has a least one. -/
theorem exists_least {P : Nat → Prop} (h : ∃ k, P k) : ∃ k, P k ∧ ∀ j < k, ¬P j := by
  obtain ⟨k, hk⟩ := h
  induction k using Nat.strongRecOn with
  | ind k ih =>
    by_cases hless : ∃ j, j < k ∧ P j
    · obtain ⟨j, hj, hPj⟩ := hless
      exact ih j hj hPj
    · exact ⟨k, hk, fun j hj hPj => hless ⟨j, hj, hPj⟩⟩

/-- Of `n + 1` values below `n` two agree. When no other agrees with the last one, it takes the place of `n` among them. -/
theorem exists_agreeing (n : Nat) (f : Nat → Nat) (hf : ∀ i ≤ n, f i < n) : ∃ i j, i < j ∧ j ≤ n ∧ f i = f j := by
  induction n generalizing f with
  | zero => exact absurd (hf 0 (Nat.le_refl 0)) (Nat.not_lt_zero _)
  | succ n ih =>
    by_cases hlast : ∃ i, i ≤ n ∧ f i = f (n + 1)
    · obtain ⟨i, hi, heq⟩ := hlast
      exact ⟨i, n + 1, Nat.lt_succ_of_le hi, Nat.le_refl _, heq⟩
    have hother (i : Nat) (hi : i ≤ n) : f i ≠ f (n + 1) := fun heq => hlast ⟨i, hi, heq⟩
    obtain ⟨i, j, hij, hj, heq⟩ := ih (fun i => if f i = n then f (n + 1) else f i) (fun i hi => by
      have hlt := hf i (by omega)
      have hlt' := hf (n + 1) (Nat.le_refl _)
      have hne := hother i hi
      split
      · omega
      · omega)
    refine ⟨i, j, hij, by omega, ?_⟩
    have hi := hother i (by omega)
    have hj := hother j hj
    by_cases hin : f i = n
    · by_cases hjn : f j = n
      · exact hin.trans hjn.symm
      · rw [if_pos hin, if_neg hjn] at heq
        exact absurd heq.symm hj
    · by_cases hjn : f j = n
      · rw [if_neg hin, if_pos hjn] at heq
        exact absurd heq hi
      · rwa [if_neg hin, if_neg hjn] at heq

namespace InverseBelow
variable {bound n x : Nat} {g g' : Nat → Nat} (h : InverseBelow bound g g')
include h

theorem repeat_lt (hx : x < bound) (k : Nat) : Nat.repeat g k x < bound := by
  induction k with
  | zero => exact hx
  | succ k ih => exact h.maps _ ih

theorem repeat_back (hx : x < bound) {j k : Nat} (hj : j ≤ k) : Nat.repeat g' j (Nat.repeat g k x) = Nat.repeat g (k - j) x := by
  induction j with
  | zero => rfl
  | succ j ih =>
    have hsub : k - j = (k - (j + 1)) + 1 := by omega
    calc g' (Nat.repeat g' j (Nat.repeat g k x)) = g' (Nat.repeat g (k - (j + 1) + 1) x) := by rw [ih (by omega), hsub]
      _ = Nat.repeat g (k - (j + 1)) x := h.left _ (h.repeat_lt hx _)

theorem repeat_back_all (hx : x < bound) (k : Nat) : Nat.repeat g' k (Nat.repeat g k x) = x := by
  rw [h.repeat_back hx (Nat.le_refl k), Nat.sub_self]
  rfl

/-- Among `bound + 1` values of an orbit two agree, so the orbit comes back to where it began. -/
theorem returns (hx : x < bound) : ∃ k, k < bound ∧ Nat.repeat g (k + 1) x = x := by
  obtain ⟨i, j, hij, hj, heq⟩ := exists_agreeing bound (fun k => Nat.repeat g k x) (fun k _ => h.repeat_lt hx k)
  refine ⟨j - i - 1, by omega, ?_⟩
  calc Nat.repeat g (j - i - 1 + 1) x = Nat.repeat g (j - i) x := by rw [Nat.sub_add_cancel (Nat.sub_pos_of_lt hij)]
    _ = Nat.repeat g' i (Nat.repeat g j x) := (h.repeat_back hx (Nat.le_of_lt hij)).symm
    _ = Nat.repeat g' i (Nat.repeat g i x) := congrArg _ heq.symm
    _ = x := h.repeat_back_all hx i

/-- From a value below `n` the walk goes on to the next one of its orbit, and the walk back from there returns. -/
theorem walk_spec (hn : n ≤ bound) (hx : x < n) :
    walk g n bound (g x) < n ∧ walk g' n bound (g' (walk g n bound (g x))) = x := by
  have hxb : x < bound := Nat.lt_of_lt_of_le hx hn
  obtain ⟨m, hm, hret⟩ := h.returns hxb
  obtain ⟨k, hk, hmin⟩ := exists_least (P := fun k => Nat.repeat g (k + 1) x < n) ⟨m, hret.symm ▸ hx⟩
  have hkb : k ≤ bound := by
    have hkm : k ≤ m := Nat.not_lt.mp (fun hlt => hmin m hlt (hret.symm ▸ hx))
    exact Nat.le_trans hkm (Nat.le_of_lt hm)
  have hwalk : walk g n bound (g x) = Nat.repeat g (k + 1) x := by
    rw [← repeat_apply] at hk ⊢
    refine walk_eq_repeat bound hkb (fun j hj => ?_) hk
    rw [repeat_apply]
    exact Nat.not_lt.mp (hmin j hj)
  have hback (j : Nat) (hj : j ≤ k) : Nat.repeat g' j (g' (Nat.repeat g (k + 1) x)) = Nat.repeat g (k - j) x := by
    rw [repeat_apply, h.repeat_back hxb (Nat.succ_le_succ hj), Nat.succ_sub_succ]
  have hstart : Nat.repeat g' k (g' (Nat.repeat g (k + 1) x)) = x := by
    rw [repeat_apply]
    exact h.repeat_back_all hxb (k + 1)
  rw [hwalk]
  refine ⟨hk, (walk_eq_repeat bound hkb (fun j hj => ?_) (hstart.symm ▸ hx)).trans hstart⟩
  have hpred : k - j = k - j - 1 + 1 := by omega
  rw [hback j (Nat.le_of_lt hj), hpred]
  exact Nat.not_lt.mp (hmin _ (by omega))

end InverseBelow

/-! ### The records of an epoch (R164) -/

theorem le_halfWidthFrom (n fuel m : Nat) (h : n ≤ 2 ^ (2 * m + 2 * fuel)) : n ≤ 2 ^ (2 * halfWidthFrom n fuel (2 * m)) := by
  induction fuel generalizing m with
  | zero => simpa [halfWidthFrom] using h
  | succ fuel ih =>
    unfold halfWidthFrom
    split
    · exact ih (m + 1) (by rwa [show 2 * (m + 1) + 2 * fuel = 2 * m + 2 * (fuel + 1) by omega])
    · rename_i hle
      simpa using hle

/-- A plan of at most 2^48 records lies inside the power of two that its Feistel network permutes. -/
theorem le_halfWidth {n : Nat} (h : n ≤ 2 ^ 48) : n ≤ 2 ^ (2 * halfWidth n) :=
  le_halfWidthFrom n 24 1 (Nat.le_trans h (Nat.pow_le_pow_right (by decide) (by decide)))

theorem roundF_lt (key : Bytes) (e stream h i r : Nat) : roundF key e stream h i r < 2 ^ h := Nat.mod_lt _ (Nat.two_pow_pos h)

/-- Settles O12: feistel permutes a power of two that holds every record, and cycle-walking carries that over to the records. -/
theorem epochPermutation : Obligations.EpochPermutation := by
  unfold Obligations.EpochPermutation
  intro p key e x _ hle hx
  have hinv := feistel_inverseBelow (roundF_lt key e p.stream (halfWidth p.total))
  obtain ⟨hlt, hback⟩ := hinv.walk_spec (le_halfWidth hle) hx
  obtain ⟨hlt', hback'⟩ := hinv.symm.walk_spec (le_halfWidth hle) hx
  exact ⟨hlt, hlt', hback, hback'⟩

/-! ### The schedule (R167, R168) -/

/-- Settles O13: a position is the numeral whose digits are the step in its epoch, the destination and the slot. -/
theorem schedulePlacesApart : Obligations.SchedulePlacesApart := by
  unfold Obligations.SchedulePlacesApart Plan.positionOf Plan.epochOf Plan.window Plan.batch
  intro p s s' d d' k k' hs hs' _ hspe hd hd' hk hk'
  have hslot := digits_lt hd hk
  have hslot' := digits_lt hd' hk'
  rw [Nat.add_assoc, Nat.add_assoc]
  refine ⟨digits_lt (Nat.mod_lt _ hspe) hslot, fun hepoch hpos => ?_⟩
  obtain ⟨hstep, hplace⟩ := digits_eq hslot hslot' hpos
  obtain ⟨hdest, hsample⟩ := digits_eq hk hk' hplace
  have hsame : s - p.startStep = s' - p.startStep := by
    rw [← Nat.div_add_mod (s - p.startStep) p.spe, hstep, Nat.add_left_cancel hepoch, Nat.div_add_mod]
  exact ⟨by omega, hdest, hsample⟩

/-! ### Loading items (R157, R166, R181, R231, R279, R355) -/

section
variable {s : State} {r : Req} {src a n h : Nat} {bs : Bytes}

theorem datasetLoad_of_checks_pass (hform : FormOk s r 0x0301) (hsrc : s.loadSource src a n = .ok bs)
    (hcheck : s.checkManifest n bs = none) : exec (.datasetLoad r src a n) s
      = .next (State.answerLong { s with plan := { s.plan with datasets := s.plan.datasets ++
          [{ id := fieldAt bs 8 8, total := fieldAt bs 16 8, ingots := (manifestEntries bs).map s.loadedIngot }] } } r 0x0301 .ok) := by
  show execDatasetLoad r src a n s = _
  simp only [execDatasetLoad, hsrc, hcheck, finish_ok hform]

theorem firstReject_notManager (hm : MayManage s r) : firstReject [s.notManager r] = none :=
  (firstReject_eq_none _).mpr (List.forall_mem_singleton.mpr ((notManager_fst s r).mpr hm))

theorem recipeLoad_of_checks_pass (hform : FormOk s r 0x0310) (hm : MayManage s r) (hsrc : s.loadSource src a n = .ok bs)
    (hcheck : leastFault (recipeFaults n bs s.pipe.vocabs s.pipe.dupSets ++ s.recipeSigFault bs) = none)
    (hfree : freeHandle (s.plan.recipes.map (fun x => x.1)) 16 = some h) :
    let body := bs.take (fieldAt bs 8 4)
    exec (.recipeLoad r src a n) s = .next ((State.answerInProgress
      { s with plan := { s.plan with recipes := s.plan.recipes ++ [(h, body)] } } r 0x0310 [.recipe h]).distribute r 0x0310
        (.recipe h body) (.answer r 0x0310 h (sha256 body) []) h (sha256 body)) := by
  intro body
  show execRecipeLoad r src a n s = _
  simp only [execRecipeLoad, firstReject_notManager hm, hsrc, hcheck, hfree, finish_ok hform, body]

theorem planLoad_of_checks_pass (hform : FormOk s r 0x0402) (hm : MayManage s r) (hsrc : s.loadSource src a n = .ok bs)
    (hcheck : leastFault (s.planFaultsHere n bs) = none) (hfree : freeHandle (s.plan.plans.map (fun x => x.1)) 16 = some h) :
    exec (.planLoad r src a n) s = .next ((State.answerInProgress
      { s with plan := { s.plan with plans := s.plan.plans ++ [(h, planOf bs)] } } r 0x0402 [.plan h]).distribute r 0x0402
        (.plan h bs) (.answer r 0x0402 h (sha256 bs) []) h (sha256 bs)) := by
  show execPlanLoad r src a n s = _
  simp only [execPlanLoad, firstReject_notManager hm, hsrc, hcheck, hfree, finish_ok hform]

theorem vocabLoad_of_checks_pass (hform : FormOk s r 0x0330) (hm : MayManage s r) (hsrc : s.loadSource src a n = .ok bs)
    (hcheck : vocabFault n bs = none) (hfree : freeHandle (s.pipe.vocabs.map (fun v => v.handle)) 4 = some h)
    (hnew : s.pipe.vocabs.any (fun v => decide (v.digest = sha256 bs)) = false) :
    exec (.vocabLoad r src a n) s = .next ((State.answerInProgress
      { s with pipe := { s.pipe with vocabs := s.pipe.vocabs ++ [⟨h, sha256 bs, bs⟩] } } r 0x0330 [.vocab h]).distribute r 0x0330
        (.vocab h bs) (.answer r 0x0330 h (sha256 bs) []) h (sha256 bs)) := by
  show execVocabLoad r src a n s = _
  simp only [execVocabLoad, firstReject_notManager hm, hsrc, hcheck, hfree, hnew, finish_ok hform, Bool.false_eq_true, ↓reduceIte,
    State.setPipe]

theorem dupSetLoad_of_checks_pass (hform : FormOk s r 0x0340) (hm : MayManage s r) (hsrc : s.loadSource src a n = .ok bs)
    (hcheck : dupSetFault n bs = none) (hfree : freeHandle (s.pipe.dupSets.map (fun v => v.handle)) 2 = some h)
    (hnew : s.pipe.dupSets.any (fun v => decide (v.digest = sha256 bs)) = false) :
    exec (.dupSetLoad r src a n) s = .next ((State.answerInProgress
      { s with pipe := { s.pipe with dupSets := s.pipe.dupSets ++ [⟨h, sha256 bs, bs⟩] } } r 0x0340 [.dupSet h]).distribute r 0x0340
        (.dupSet h bs) (.answer r 0x0340 h (sha256 bs) []) h (sha256 bs)) := by
  show execDupSetLoad r src a n s = _
  simp only [execDupSetLoad, firstReject_notManager hm, hsrc, hcheck, hfree, hnew, finish_ok hform, Bool.false_eq_true, ↓reduceIte,
    State.setPipe]

theorem programLoad_of_checks_pass (hform : FormOk s r 0x0501) (hm : MayManage s r) (hheld : s.isHeld (.program h) = false)
    (hh : h ≤ 63) (hone : src ≤ 1) (hsrc : s.loadSource src a n = .ok bs) (hcheck : imageFault n bs = none)
    (hroom : s.storeWords + fieldAt bs 8 4 ≤ 8192) (hnew : lookup? s.ngayx.programs h = none) :
    let image := bs.take (64 + 8 * fieldAt bs 8 4)
    let u := s.storeProgram h image
    exec (.programLoad r h src a n) s = .next ((u.answerInProgress r 0x0501 [.program h]).distribute r 0x0501 (.program h image)
      (.answer r 0x0501 0 (sha256 image) [8192 - u.storeWords]) 0 (sha256 image) [8192 - u.storeWords]) := by
  intro image u
  have hpass : firstReject [s.notManager r, s.heldBusy (.program h), (decide (63 < h), badParam 0)] = none :=
    (firstReject_eq_none _).mpr (by simpa [State.heldBusy, hheld, hh] using hm)
  show execProgramLoad r h src a n s = _
  simp only [execProgramLoad, hpass, State.programSource, Nat.not_lt.mpr hone, hsrc, hcheck, Nat.not_lt.mpr hroom, hnew,
    Option.isSome_none, Bool.false_eq_true, ↓reduceIte, finish_ok hform, image, u]

end

/-! ### What outlives a new determinism record (R427) -/

theorem OnlySpeaks.groupSet {s t : State} (h : OnlySpeaks s t) : t.group.set = s.group.set :=
  (congrArg (fun u : State => u.group.set) (show t = s.voicedAs t from h)).trans rfl

/-- A new record changes only the determinism state, and raises DET_RECORD_CHANGED (R427). -/
theorem issueRecord_speaks (s : State) (step : Nat) : ∃ d, OnlySpeaks { s with det := d } (s.issueRecord step) := by
  unfold State.issueRecord
  dsimp only
  refine iteInduction (motive := fun t => ∃ d, OnlySpeaks { s with det := d } t) (fun _ => ?_) (fun _ => ?_)
  · exact ⟨s.det, OnlySpeaks.refl s⟩
  · exact ⟨_, raise_speaks ..⟩

section
variable (s : State) (step : Nat)

@[simp] theorem issueRecord_gauge : (s.issueRecord step).gauge = s.gauge := (issueRecord_speaks s step).choose_spec.gauge
@[simp] theorem issueRecord_plan : (s.issueRecord step).plan = s.plan := (issueRecord_speaks s step).choose_spec.plan
@[simp] theorem issueRecord_pipe : (s.issueRecord step).pipe = s.pipe := (issueRecord_speaks s step).choose_spec.pipe
@[simp] theorem issueRecord_ngayx : (s.issueRecord step).ngayx = s.ngayx := (issueRecord_speaks s step).choose_spec.ngayx
@[simp] theorem issueRecord_groupSet : (s.issueRecord step).group.set = s.group.set :=
  (issueRecord_speaks s step).choose_spec.groupSet
@[simp] theorem recordNow_gauge : s.recordNow.gauge = s.gauge := issueRecord_gauge ..
@[simp] theorem recordNow_plan : s.recordNow.plan = s.plan := issueRecord_plan ..
@[simp] theorem recordNow_pipe : s.recordNow.pipe = s.pipe := issueRecord_pipe ..
@[simp] theorem recordNow_ngayx : s.recordNow.ngayx = s.ngayx := issueRecord_ngayx ..

end

/-! ### A program in the store (R355) -/

/-- A list of pairs that has been assigned a key holds its value. -/
theorem lookup?_assign_same {α β : Type} [DecidableEq α] (l : List (α × β)) (k : α) (v : β) : lookup? (assign l k v) k = some v := by
  induction l with
  | nil => simp [assign, lookup?]
  | cons x xs ih =>
    unfold lookup? at ih ⊢
    by_cases hx : x.1 = k <;> simp [assign, hx, ih]

theorem lookup?_storeProgram (s : State) (h : Nat) (image : Bytes) :
    lookup? (s.storeProgram h image).ngayx.programs h = some image := by
  rw [State.storeProgram, recordNow_ngayx]
  exact lookup?_assign_same ..

/-! ### Dropping items (R180, R252, R280, R359) -/

section
variable {s : State} {r : Req} {h : Nat}

theorem datasetUnload_of_unused (hform : FormOk s r 0x0302) (hheld : s.isHeld (.dataset h) = false)
    (hloaded : (s.dataset? h).isSome = true) (hused : s.plansInUse.any (fun p => decide (p.datasetId = h)) = false) :
    exec (.datasetUnload r h) s = .next (State.answer { s with plan := { s.plan with
      datasets := s.plan.datasets.filter (fun x => decide (x.id ≠ h))
      catalogues := s.plan.catalogues.filter (fun c => decide (c.datasetId ≠ h)) } } r 0x0302 .ok) := by
  show Host.Outcome.next (s.finish r 0x0302 _ _) = _
  rw [finish_of_checks_pass hform (by simp [State.heldBusy, hheld, hloaded, hused])]

/-- The five checks of a DROP command (R180, R252, R280, R359): one that may manage drops an item that is loaded and that
nothing uses. -/
theorem finish_drop_of_unused {code limit : Nat} {held : Held} {missing used : Bool} (hform : FormOk s r code)
    (hm : MayManage s r) (hheld : s.isHeld held = false) (hh : h ≤ limit) (hloaded : missing = false) (hunused : used = false)
    (effect : State) : s.finish r code (firstReject [s.notManager r, s.heldBusy held, (decide (limit < h), badParam 0),
      (missing, ⟨.notFound, 0⟩), (used, ⟨.inUse, 0⟩)]) effect = effect :=
  finish_of_checks_pass hform (by simp [State.heldBusy, (notManager_fst s r).mpr hm, hheld, hh, hloaded, hunused]) effect

theorem recipeDrop_of_unused (hform : FormOk s r 0x0311) (hm : MayManage s r) (hheld : s.isHeld (.recipe h) = false) (hh : h ≤ 15)
    (hloaded : (lookup? s.plan.recipes h).isSome = true) (hforce : s.plan.recipe ≠ some h)
    (harmed : (s.armedOf .recipeChange).any (fun e => decide (e.item = h)) = false) : exec (.recipeDrop r h) s
      = .next (State.forward { s with plan := { s.plan with recipes := erase s.plan.recipes h } } r 0x0311 (natLe 2 h)) :=
  congrArg Host.Outcome.next (finish_drop_of_unused hform hm hheld hh (by simpa using hloaded) (by simp [hforce, harmed]) _)

theorem planDrop_of_unused (hform : FormOk s r 0x0407) (hm : MayManage s r) (hheld : s.isHeld (.plan h) = false) (hh : h ≤ 15)
    (hloaded : (s.plan? h).isSome = true) (hforce : ∀ x, s.plan.active = some x → x.1 ≠ h)
    (harmed : (s.armedOf .planChange).any (fun e => decide (e.item = h)) = false) : exec (.planDrop r h) s
      = .next (State.forward { s with plan := { s.plan with plans := erase s.plan.plans h } } r 0x0407 (natLe 2 h)) := by
  refine congrArg Host.Outcome.next (finish_drop_of_unused hform hm hheld hh (by simpa using hloaded) ?_ _)
  cases hactive : s.plan.active with
  | none => simp [harmed]
  | some x => simp [harmed, hforce x hactive]

theorem vocabDrop_of_unused (hform : FormOk s r 0x0331) (hm : MayManage s r) (hheld : s.isHeld (.vocab h) = false) (hh : h ≤ 3)
    (hloaded : s.pipe.vocabs.any (fun v => decide (v.handle = h)) = true)
    (hnamed : ∀ v ∈ s.pipe.vocabs, v.handle = h → ∀ x ∈ s.plan.recipes, vocabDigest x.2 ≠ some v.digest) :
    exec (.vocabDrop r h) s = .next (State.forward { s with pipe := { s.pipe with
      vocabs := s.pipe.vocabs.filter (fun v => decide (v.handle ≠ h)) } } r 0x0331 (natLe 2 h)) :=
  congrArg Host.Outcome.next (finish_drop_of_unused hform hm hheld hh (by rw [hloaded]; rfl) (by simpa using hnamed) _)

/-- A recipe's filter section looks for duplicates of the reference set of a digest (R279). -/
def namesDupSet (recipe digest : Bytes) : Bool := match filterSection? recipe with
  | some f => bitOf f.dupMode 1 && decide (f.dupDigest = digest)
  | none => false

theorem namesDupSet_eq_false {recipe digest : Bytes}
    (h : ∀ f, filterSection? recipe = some f → bitOf f.dupMode 1 = true → f.dupDigest ≠ digest) :
    namesDupSet recipe digest = false := by
  unfold namesDupSet
  split
  next f hf => simpa using h f hf
  next => rfl

theorem dupSetDrop_of_unused (hform : FormOk s r 0x0341) (hm : MayManage s r) (hheld : s.isHeld (.dupSet h) = false) (hh : h ≤ 1)
    (hloaded : s.pipe.dupSets.any (fun v => decide (v.handle = h)) = true)
    (hnamed : ∀ v ∈ s.pipe.dupSets, v.handle = h → ∀ x ∈ s.plan.recipes, ∀ f, filterSection? x.2 = some f →
      bitOf f.dupMode 1 = true → f.dupDigest ≠ v.digest) :
    exec (.dupSetDrop r h) s = .next (State.forward { s with pipe := { s.pipe with
      dupSets := s.pipe.dupSets.filter (fun v => decide (v.handle ≠ h)) } } r 0x0341 (natLe 2 h)) := by
  have hunnamed : s.pipe.dupSets.any (fun v => decide (v.handle = h) && s.plan.recipes.any (fun x =>
      namesDupSet x.2 v.digest)) = false := by
    simpa using fun v hv hvh a b hx => namesDupSet_eq_false (hnamed v hv hvh (a, b) hx)
  exact congrArg Host.Outcome.next (finish_drop_of_unused hform hm hheld hh (by rw [hloaded]; rfl) hunnamed _)

theorem programDrop_of_unused (hform : FormOk s r 0x0502) (hm : MayManage s r) (hheld : s.isHeld (.program h) = false)
    (hh : h ≤ 63) (hloaded : (lookup? s.ngayx.programs h).isSome = true) (hidle : s.programLaunched h = false)
    (hunbound : s.ngayx.bindings.any (fun b => decide (b.2 = h)) = false) : exec (.programDrop r h) s
      = .next ((State.recordNow { s with ngayx := { s.ngayx with programs := erase s.ngayx.programs h } }).forward r 0x0502
          (natLe 2 h)) :=
  congrArg Host.Outcome.next (finish_drop_of_unused hform hm hheld hh (by simpa using hloaded) (by simp [hidle, hunbound]) _)

end

/-- Settles O14, command by command: a LOAD command whose checks pass stores its item, and a DROP command of an item that
nothing uses takes it away. -/
theorem loadsAndDropsRun : Obligations.LoadsAndDropsRun := by
  unfold Obligations.LoadsAndDropsRun
  refine ⟨⟨?dataset, ?recipe, ?plan, ?vocab, ?dupSet, ?program⟩, ⟨?datasetUnload, ?recipeDrop, ?planDrop, ?vocabDrop,
    ?dupSetDrop, ?programDrop⟩⟩
  case dataset => exact fun s r src a n bs => datasetLoad_of_checks_pass
  case recipe => exact fun s r src a n h bs => recipeLoad_of_checks_pass
  case plan => exact fun s r src a n h bs => planLoad_of_checks_pass
  case vocab => exact fun s r src a n h bs => vocabLoad_of_checks_pass
  case dupSet => exact fun s r src a n h bs => dupSetLoad_of_checks_pass
  case program =>
    intro s r h src a n bs hform hm hheld hh hone hsrc hcheck hroom hnew
    exact ⟨programLoad_of_checks_pass hform hm hheld hh hone hsrc hcheck hroom hnew, lookup?_storeProgram ..⟩
  case datasetUnload => exact fun s r d => datasetUnload_of_unused
  case recipeDrop => exact fun s r h => recipeDrop_of_unused
  case planDrop => exact fun s r h => planDrop_of_unused
  case vocabDrop => exact fun s r h => vocabDrop_of_unused
  case dupSetDrop => exact fun s r h => dupSetDrop_of_unused
  case programDrop => exact fun s r h => programDrop_of_unused

/-! ### The commands of the plan (R160, R161, R165, R171 to R180) -/

section
variable {s : State} {r : Req} {d h recipe : Nat} {p : Plan}

theorem datasetRead_of_loaded {x : Dataset} (hform : FormOk s r 0x0303) (hloaded : s.dataset? d = some x) :
    exec (.datasetRead r d) s = .next (s.answer r 0x0303 .ok 0
      (match s.catalogue? d with | some c => sha256 c.bytes | none => natLe 32 0)
      [(x.ingots.map (fun i => i.recordCount)).sum, x.ingots.length, (x.ingots.filter (fun i => i.lost)).length]) := by
  show execDatasetRead r d s = _
  unfold execDatasetRead
  rw [hloaded]
  exact congrArg Host.Outcome.next (finish_ok hform _)

theorem catalogueBuild_of_free (hform : FormOk s r 0x0304) (hm : MayManage s r) (hheld : s.isHeld (.dataset d) = false) :
    let u := s.answerInProgress r 0x0304 [.dataset d]
    exec (.catalogueBuild r d) s = .next (if (s.audience.filter (fun x => decide (x < 128))).isEmpty then u.finishCatalogue r d
      else State.sendPiece { u with plan := { u.plan with building := some (r, d, s.audience.filter (fun x => decide (x < 128))) } } 0
        (.collect d)) :=
  congrArg Host.Outcome.next (finish_of_checks_pass hform
    (by simp [State.heldBusy, (notManager_fst s r).mpr hm, hheld]) _)

theorem jobSeed_of_no_plan {seed : Bytes} (hform : FormOk s r 0x0401) (hm : MayManage s r) (hlo : 32 ≤ seed.length)
    (hhi : seed.length ≤ 256) (hidle : s.plan.active = none) : exec (.jobSeed r seed) s
      = .next ((State.recordNow { s with plan := { s.plan with seed := some seed } }).forward r 0x0401 seed) :=
  congrArg Host.Outcome.next (finish_of_checks_pass hform (by simp [(notManager_fst s r).mpr hm, hlo, hhi, hidle]) _)

theorem planRead_of_active (hform : FormOk s r 0x0403) (hactive : s.plan.active = some (h, p)) : exec (.planRead r) s
    = .next (s.answer r 0x0403 .ok 0 p.digest [h, s.gauge.epoch, s.gauge.fence, p.spe, p.window, p.reserve]) := by
  show execPlanRead r s = _
  unfold execPlanRead
  rw [hactive]
  exact congrArg Host.Outcome.next (finish_ok hform _)

/-- The position of an epoch that PLAN_QUERY asks about in a mode (R180). -/
def Plan.queried (p : Plan) (key : Bytes) (mode a b c : Nat) : Nat × Nat :=
  if mode = 0 then (p.epochOf a, p.positionOf a b c) else if mode = 1 then (a, b) else (a, p.unrecord key a b)

theorem planQuery_of_range {c : Catalogue} {mode x y z : Nat} (hform : FormOk s r 0x0404) (hh : h ≤ 15) (hmode : mode ≤ 2)
    (hplan : s.plan? h = some p) (hcatalogue : s.catalogue? p.datasetId = some c)
    (hrange : ∀ q ∈ planQueryRange p mode x y z, q.1 = false) : exec (.planQuery r h mode x y z) s
      = .next (s.answer r 0x0404 .ok 0 [] (planAnswer p c s.jobKey (p.queried s.jobKey mode x y z).1
          (p.queried s.jobKey mode x y z).2)) := by
  show execPlanQuery r h mode x y z s = _
  simp only [execPlanQuery, Nat.not_lt.mpr hh, Nat.not_lt.mpr hmode, hplan, hcatalogue, (firstReject_eq_none _).mpr hrange,
    ↓reduceIte, finish_ok hform]
  unfold Plan.queried
  split
  · rfl
  · split <;> rfl

end

/-- Arming the first Weir of a job sets the Weir, and otherwise only tells the other members (R77). -/
theorem firstWeir_speaks (s : State) (r : Req) (g : Gauge) :
    OnlySpeaks (s.armWeir g { startFeed := true, bothSides := s.group.set.twin }) (s.firstWeir r g) := by
  unfold State.firstWeir
  dsimp only
  split
  · exact OnlySpeaks.refl _
  · exact spread_speaks ..

theorem firstWeir_gauge (s : State) (r : Req) (g : Gauge) : (s.firstWeir r g).gauge = { s.gauge with
    weir := some { target := g, actions := { startFeed := true, bothSides := s.group.set.twin } } } :=
  (firstWeir_speaks s r g).gauge

/-- The state once a plan and its recipe are in force from START_STEP:0, before the command is forwarded (R56, R77, R171). -/
def State.planStarted (s : State) (r : Req) (h : Nat) (p : Plan) (recipe : Nat) : State :=
  ((State.runPlan { s.startJob ⟨p.startStep, 0⟩ with plan := { s.plan with startGauge := ⟨p.startStep, 0⟩ } } h p recipe
    p.startStep).issueRecord p.startStep).firstWeir r ⟨p.startStep, 0⟩

section
variable (s : State) (r : Req) (h : Nat) (p : Plan) (recipe : Nat)

theorem planStarted_plan : (s.planStarted r h p recipe).plan = { s.plan with
    startGauge := ⟨p.startStep, 0⟩, active := some (h, p), recipe := some recipe, nextStep := p.startStep, epochLimit := false } :=
  (firstWeir_speaks ..).plan.trans (issueRecord_plan ..)

theorem planStarted_gauge : (s.planStarted r h p recipe).gauge = { (s.startJob ⟨p.startStep, 0⟩).gauge with
    epoch := p.epochOf p.startStep
    weir := some { target := ⟨p.startStep, 0⟩, actions := { startFeed := true, bothSides := s.group.set.twin } } } := by
  rw [State.planStarted, firstWeir_gauge, issueRecord_gauge, issueRecord_groupSet]
  rfl

theorem planStarted_feedStarted : (s.planStarted r h p recipe).pipe.feedStarted = false := by
  rw [State.planStarted, (firstWeir_speaks ..).pipe]
  exact congrArg PipeState.feedStarted (issueRecord_pipe ..)

end

theorem planStart_of_check_passes {s : State} {r : Req} {h recipe : Nat} {p : Plan} (hform : FormOk s r 0x0405)
    (hcheck : planStartCheck r h recipe s = none) (hplan : s.plan? h = some p) : exec (.planStart r h recipe) s
      = .next ((s.planStarted r h p recipe).forward r 0x0405 (natLe 2 h ++ natLe 2 recipe)) := by
  show execPlanStart r h recipe s = _
  unfold execPlanStart
  rw [hplan, hcheck]
  exact congrArg Host.Outcome.next (finish_ok hform _)

/-! ### The end of a plan (R180, R303) -/

theorem planStop_of_active {s : State} {r : Req} (hform : FormOk s r 0x0406) (hm : MayManage s r)
    (hactive : s.plan.active.isSome = true) : exec (.planStop r) s = .next (s.stopPlan.recordNow.forward r 0x0406 []) :=
  congrArg Host.Outcome.next (finish_of_checks_pass hform 
    (by simp [(notManager_fst s r).mpr hm, hactive]) _)

/-! ### Preparation begins (R71, R175) -/

section
variable {s : State} {h : Nat} {p : Plan} (hsegment : s.segmentAt s.plan.nextStep = some (h, p))
include hsegment

theorem stepPrepare_of_within (hlimit : s.plan.epochLimit = false)
    (hhorizon : s.plan.nextStep ≤ s.gauge.leading.step + s.gauge.horizon) (hfence : s.plan.nextStep ≤ s.gauge.fence) :
    exec .stepPrepare s = .next (if p.lastStep < s.plan.nextStep
      then State.raise { s with plan := { s.plan with epochLimit := true } } .epochLimit else s.beginStep p s.plan.nextStep) := by
  show execStepPrepare s = _
  simp only [execStepPrepare, hsegment, hlimit, State.mayPrepare, hhorizon, hfence, decide_true, Bool.and_self, Bool.not_true,
    Bool.false_eq_true, or_self, ↓reduceIte]
  exact (apply_ite Host.Outcome.next ..).symm

theorem stepPrepare_of_beyond
    (hbeyond : s.gauge.leading.step + s.gauge.horizon < s.plan.nextStep ∨ s.gauge.fence < s.plan.nextStep) :
    exec .stepPrepare s = .next s := by
  have hmay : s.mayPrepare s.plan.nextStep = false := by
    rw [State.mayPrepare, Bool.and_eq_false_iff, decide_eq_false_iff_not, decide_eq_false_iff_not, Nat.not_le, Nat.not_le]
    exact hbeyond
  show execStepPrepare s = _
  simp only [execStepPrepare, hsegment, hmay, Bool.not_false, or_true, ↓reduceIte]

end

/-! ### A record arrives (R155, R185, R197) -/

@[simp] theorem handOff_pipe (s : State) (pointer holder receiver : Nat) : (s.handOff pointer holder receiver).pipe = s.pipe := by
  unfold State.handOff
  split <;> rfl

@[simp] theorem handOffAll_pipe (s : State) (l : List Nat) (holder receiver : Nat) :
    (s.handOffAll l holder receiver).pipe = s.pipe := by
  induction l generalizing s with
  | nil => rfl
  | cons x l ih => exact (ih _).trans (handOff_pipe ..)

theorem setSample_sample? {s : State} {id : Nat} {x y : Sample} (h : s.sample? id = some x) (hid : y.id = x.id) :
    (s.setSample y).sample? id = some y := by
  have hx : x.id = id := by simpa using List.find?_some h
  exact (find?_updateFirst_key Sample.id h (hid.trans hx) id).trans (if_pos rfl)

/-- A sample whose record has passed its checks, with the fields that the recipe names (R185). -/
def Sample.checkedWith (x : Sample) (named : List FieldFrame) : Sample :=
  { x with phase := .checked, owner := 58 + x.stage, fields := named.map (fun f => { frame := f }) }

/-- The state once a record has passed its checks: its buffers are handed on, and the fields not named are counted (R185). -/
def State.recordChecked (s : State) (x : Sample) (fs : List FieldFrame) : State :=
  let named := namedFields (s.recipeBytes x.recipe) fs
  let t := s.handOffAll x.buffers x.owner (58 + x.stage)
  (t.setPipe { t.pipe with unnamed := t.pipe.unnamed + (fs.length - named.length) }).setSample (x.checkedWith named)

theorem recordChecked_sample? {s : State} {id : Nat} {x : Sample} (h : s.sample? id = some x) (fs : List FieldFrame) :
    (s.recordChecked x fs).sample? id = some (x.checkedWith (namedFields (s.recipeBytes x.recipe) fs)) := by
  refine setSample_sample? (x := x) ?_ rfl
  show (s.handOffAll x.buffers x.owner (58 + x.stage)).pipe.samples.find? _ = _
  rw [handOffAll_pipe]
  exact h

section
variable {s : State} {id : Nat} {x : Sample} (h : s.sample? id = some x) (hphase : x.phase = .reading)
include h hphase

/-- A record whose frames pass goes on to dispatch. -/
theorem recordArrival_of_sound {fs : List FieldFrame} (hlost : x.lost = none) (hbuffers : x.buffers ≠ [])
    (hcheck : checkRecord x.record x.bytes = .ok fs) : exec (.recordArrival id) s = .next (s.recordChecked x fs) := by
  have htaken : s.recordBuffers x = (s, some x) := if_neg (by simpa using hbuffers)
  show execRecordArrival id s = _
  simp only [execRecordArrival, h, hphase, hlost, htaken, hcheck, State.recordChecked, Sample.checkedWith]

theorem recordArrival_of_lost {reason : Nat} (hlost : x.lost = some reason) :
    exec (.recordArrival id) s = .next (s.rejectSample x reason 0xFFFF 0) := by
  show execRecordArrival id s = _
  simp only [execRecordArrival, h, hphase, hlost]

end

/-! ### Peer fetch (R172, R173) -/

/-- A returned pointer, accepted or refused, changes the pools and telemetry, and may raise POOL_BAD_RETURN (R89, R90). -/
theorem returnBuffer_speaks (s : State) (q pointer : Nat) :
    ∃ pools tel, OnlySpeaks { s with pools := pools, tel := tel } (s.returnBuffer q pointer).1 := by
  unfold State.returnBuffer
  dsimp only
  split
  · unfold State.freeBuffer
    split
    · exact ⟨s.pools, s.tel, OnlySpeaks.refl s⟩
    · exact ⟨_, s.tel, OnlySpeaks.refl _⟩
  · unfold State.refuseReturn
    dsimp only
    split
    · split
      · exact ⟨s.pools, _, OnlySpeaks.refl _⟩
      · exact ⟨_, _, raise_speaks ..⟩
    · split
      · exact ⟨s.pools, _, OnlySpeaks.refl _⟩
      · exact ⟨_, _, raise_speaks ..⟩

/-- A message taken off the inbox leaves it, and its receive buffer is returned. -/
theorem consume_speaks (s : State) (m : Inbound) : ∃ pools tel, OnlySpeaks { s with
    rdma := { s.rdma with inbox := s.rdma.inbox.erase m }, pools := pools, tel := tel } (s.consume m) := by
  unfold State.consume
  dsimp only
  split
  · exact returnBuffer_speaks ..
  · exact ⟨s.pools, s.tel, OnlySpeaks.refl _⟩

theorem consume_of_no_pointer {m : Inbound} (s : State) (h : m.pointer = none) :
    s.consume m = { s with rdma := { s.rdma with inbox := s.rdma.inbox.erase m } } := by
  simp only [State.consume, h]

/-- The state once a request is taken off the inbox: what was read ahead for it is taken too (R171). -/
def State.fetchAsked (s : State) (m : Inbound) : State :=
  let t := s.consume m
  t.setPipe { t.pipe with aheads := t.pipe.aheads.filter (fun a => decide (a.record ≠ fieldAt m.bytes 0 6)) }

/-- A request for a record of another owner is answered with status 1. -/
theorem peerFetchRequest_of_other_owner {s : State} {qp : Nat} {m : Inbound} (hm : s.inboxOf qp 32 = some m)
    (hreserved : fieldAt m.bytes 6 2 = 0) (hreserved' : fieldAt m.bytes 30 2 = 0) (hqp : qp < 256)
    (howner : (s.catalogue? (s.datasetHolding (fieldAt m.bytes 0 6))).bind (fun c => c.owner (fieldAt m.bytes 0 6))
      ≠ some s.group.set.deviceId) :
    ∃ u : State, exec (.peerFetchRequest qp) s = .next (u.post qp
      { kind := .send, data := fetchReply (fieldAt m.bytes 28 2) 1 0 0, user := .owner }) ∧ u.rdma.inbox = s.rdma.inbox.erase m := by
  obtain ⟨pools, tel, hconsume⟩ := consume_speaks s m
  refine ⟨s.fetchAsked m, ?_, congrArg RdmaState.inbox hconsume.rdma⟩
  have hlow : ¬256 ≤ qp := Nat.not_le.mpr hqp
  have hdevice : (s.consume m).group.set.deviceId = s.group.set.deviceId := congrArg _ hconsume.groupSet
  show execPeerFetchRequest qp s = _
  simp only [execPeerFetchRequest, hm, hreserved, hreserved', hlow, ne_eq, not_true_eq_false, false_and, or_self,
    ↓reduceIte, setPipe_group, hdevice, howner, State.replyFetch, State.fetchAsked]

theorem memRead_length (s : State) (a n : Nat) : (s.memRead a n).length = n := by
  induction n generalizing a with
  | zero => rfl
  | succ n ih => exact congrArg (· + 1) (ih (a + 1))

/-- The reply that completes a record hands it over. -/
theorem peerFetchReply_of_complete {s : State} {qp : Nat} {m : Inbound} {f : Fetch} (hm : s.inboxOf qp 16 = some m)
    (hpointer : m.pointer = none) (hfetch : s.fetch? qp (fieldAt m.bytes 0 2) = some f) (hok : fieldAt m.bytes 2 1 = 0)
    (hlength : fieldAt m.bytes 4 4 = f.received.length + fieldAt m.bytes 8 4) (hpiece : 0 < fieldAt m.bytes 8 4) :
    let u : State := { s with rdma := { s.rdma with inbox := s.rdma.inbox.erase m } }
    exec (.peerFetchReply qp) s = .next (u.endFetch f
      (f.received ++ s.memRead (bitsOf f.pointer 39 0) (fieldAt m.bytes 8 4))) := by
  intro u
  have hfetch : u.fetch? qp (fieldAt m.bytes 0 2) = some f := hfetch
  have hwhole : ¬(f.received ++ u.memRead (bitsOf f.pointer 39 0) (fieldAt m.bytes 8 4)).length < fieldAt m.bytes 4 4 := by
    rw [List.length_append, hlength, memRead_length]
    exact Nat.lt_irrefl _
  show execPeerFetchReply qp s = _
  simp only [execPeerFetchReply, hm, consume_of_no_pointer s hpointer]
  rw [hfetch]
  simp only [hok, Nat.ne_of_gt hpiece, ne_eq, not_false_eq_true, true_or, and_self, ↓reduceIte]
  rw [if_neg hwhole]
  rfl

/-- Settles O15, command by command, then the events by which preparation begins. -/
theorem plansRun : Obligations.PlansRun := by
  unfold Obligations.PlansRun
  refine ⟨⟨?datasetRead, ?catalogueBuild, ?jobSeed, ?planRead, ?planQuery, ?planStart, ?planStop⟩,
    ⟨?stepWithin, ?stepBeyond, ?recordSound, ?recordLost, ?fetchRequest, ?fetchReply⟩⟩
  case datasetRead => exact fun s r d x => datasetRead_of_loaded
  case catalogueBuild => exact fun s r d => catalogueBuild_of_free
  case jobSeed => exact fun s r seed => jobSeed_of_no_plan
  case planRead => exact fun s r h p => planRead_of_active
  case planQuery =>
    intro s r h e x p c hform hh hplan hcatalogue he hx
    have hrange (mode : Nat) (hmode : mode ≠ 0) : ∀ q ∈ planQueryRange p mode e x 0, q.1 = false := by
      simpa [planQueryRange, hmode] using ⟨he, hx⟩
    refine ⟨planQuery_of_range hform hh (by decide) hplan hcatalogue (hrange 1 (by decide)),
      planQuery_of_range hform hh (by decide) hplan hcatalogue (hrange 2 (by decide)), fun step d k hlo hhi hd hk => ?_⟩
    exact planQuery_of_range hform hh (by decide) hplan hcatalogue (by simp [planQueryRange, hlo, hhi, hd, hk])
  case planStart =>
    intro s r h recipe p hform hcheck hplan
    refine ⟨s.planStarted r h p recipe, planStart_of_check_passes hform hcheck hplan, ?_⟩
    rw [planStarted_plan, planStarted_gauge]
    exact ⟨rfl, rfl, rfl, rfl, rfl, rfl, rfl, rfl, planStarted_feedStarted ..⟩
  case planStop =>
    intro s r hform hm hactive
    refine ⟨_, planStop_of_active hform hm hactive, ?_⟩
    rw [recordNow_plan, recordNow_pipe, recordNow_gauge]
    exact ⟨rfl, rfl, rfl, rfl, rfl⟩
  case stepWithin =>
    intro s h p hsegment hlimit hhorizon hfence
    rw [stepPrepare_of_within hsegment hlimit hhorizon hfence]
    exact ⟨fun hle => by rw [if_neg (Nat.not_lt.mpr hle)], fun hlt => by rw [if_pos hlt]⟩
  case stepBeyond => exact fun s h p => stepPrepare_of_beyond
  case recordSound =>
    intro s id x fs h hphase hlost hbuffers hcheck
    exact ⟨_, _, recordArrival_of_sound h hphase hlost hbuffers hcheck, recordChecked_sample? h fs, rfl, rfl, rfl, rfl⟩
  case recordLost => exact fun s id reason x h hphase => recordArrival_of_lost h hphase
  case fetchRequest => exact fun s qp m => peerFetchRequest_of_other_owner
  case fetchReply => exact fun s qp m f => peerFetchReply_of_complete

end Sys2Proof.Machine
end

section
/-! Family `07_riffle_decode.md`, the Riffles: a sample through a slot, the watchdog, faults, release and the reports (R183 to
R205, R221; for the steps of a slot log entry 104).

A row of a slot acts on the sample, field and descriptor that `slotWork` finds there; each outcome of its check or of its
decoder has an equation of its own below. -/

namespace Sys2Proof.Machine

/-! ### Dispatch (R185, R186) -/

/-- A sample as its dispatch leaves it, every field that needs no unit arrived (R185). -/
def Sample.dispatched (x : Sample) (recipe : Bytes) : Sample :=
  { x with phase := .units, fields := x.fields.map (fun p => fieldAtDispatch recipe p.frame) }

/-- A sample that holds its resequencer entry takes no second one. -/
theorem reserve_of_entry {s : State} {x : Sample} (h : x.entry = true) : s.reserve x = (s, x) := if_pos h

section
variable {s : State} {id : Nat} {x : Sample} (h : s.sample? id = some x) (hentry : x.entry = true) (hphase : x.phase = .checked)
include h hentry hphase

theorem sampleDispatch_of_no_riffle_field (hnone : riffleFields (s.recipeBytes x.recipe) x = []) :
    exec (.sampleDispatch id) s = .next (s.settleSample (x.dispatched (s.recipeBytes x.recipe))) := by
  have hroom (b : Bool) : (x.entry || b) = true := by rw [hentry, Bool.true_or]
  have hreserve := reserve_of_entry (s := s) (x := x.dispatched (s.recipeBytes x.recipe)) hentry
  unfold Sample.dispatched at hreserve ⊢
  show execSampleDispatch id s = _
  simp only [execSampleDispatch, h, hroom, hphase, hnone, hreserve, Bool.not_true, Bool.false_eq_true, reduceCtorEq, ne_eq,
    not_true_eq_false, ↓reduceIte]

theorem sampleDispatch_of_free_slot {f : FieldFrame} {rest : List FieldFrame} {n i : Nat}
    (hfields : riffleFields (s.recipeBytes x.recipe) x = f :: rest) (hslot : s.pickSlot x.stage = some (n, i)) :
    exec (.sampleDispatch id) s = .next (s.placeInSlot (x.dispatched (s.recipeBytes x.recipe)) n i f.nameId) := by
  have hroom (b : Bool) : (x.entry || b) = true := by rw [hentry, Bool.true_or]
  have hreserve := reserve_of_entry (s := s) (x := x.dispatched (s.recipeBytes x.recipe)) hentry
  unfold Sample.dispatched at hreserve ⊢
  show execSampleDispatch id s = _
  simp only [execSampleDispatch, h, hroom, hphase, hfields, hslot, hreserve, Bool.not_true, Bool.false_eq_true, reduceCtorEq,
    ne_eq, not_true_eq_false, ↓reduceIte]

end

/-! ### HEADER and ALLOC (R87, R187, R192, R193) -/

/-- The output limit of a field, from what its headers declare (R192). -/
def State.outputOf (s : State) (x : Sample) (o : Nat) (d : DecodeDesc) (f : FieldFrame) : Nat :=
  outputLimit d (declaredSize f.typ f.codec (s.headerOf x o d f).1 (s.headerOf x o d f).2.2) (decide (f.codec / 16 ≠ 0))
    f.payload.length

/-- A slot that has its buffers begins to decode its field and takes a free engine (R183, R187). -/
def State.beginDecode (s : State) (n i : Nat) (x : Sample) (l : List Nat) : State :=
  (s.setSlot n i { s.slot n i with
    state := .decode, consumed := 0, lastUnit := s.now, buffers := (s.slot n i).buffers ++ l
    engine := (s.riffle n).freeEngine }).setSample { x with decodeAt := some (x.decodeAt.getD s.now) }

section
variable {s : State} {n i o : Nat} {x : Sample} {f : FieldFrame} {d : DecodeDesc}

theorem slotHeaderCheck_of_reject {reason : Nat} (h : s.slotWork n i .header = some (x, f, o, d))
    (hcheck : headerReject d f.typ f.codec f.payload.length (s.headerOf x o d f).2.2 (s.headerOf x o d f).1 = some reason) :
    exec (.slotHeaderCheck n i) s = .next (s.rejectInSlot n i x reason 0) := by
  show execSlotHeaderCheck n i s = _
  simp only [execSlotHeaderCheck, h, hcheck]

theorem slotHeaderCheck_of_pass (h : s.slotWork n i .header = some (x, f, o, d))
    (hcheck : headerReject d f.typ f.codec f.payload.length (s.headerOf x o d f).2.2 (s.headerOf x o d f).1 = none) :
    exec (.slotHeaderCheck n i) s = .next (s.setSlot n i { s.slot n i with state := .alloc }) := by
  show execSlotHeaderCheck n i s = _
  simp only [execSlotHeaderCheck, h, hcheck]

theorem slotAlloc_of_no_buffers (h : s.slotWork n i .alloc = some (x, f, o, d))
    (hgot : (s.takeBuffers (48 + n) (s.outputOf x o d f)).2 = none) :
    exec (.slotAlloc n i) s = .next (s.takeBuffers (48 + n) (s.outputOf x o d f)).1 := by
  have hpair : s.takeBuffers _ _ = (_, none) := Prod.ext rfl hgot
  unfold State.outputOf at hpair ⊢
  show execSlotAlloc n i s = _
  simp only [execSlotAlloc, h]
  rw [hpair]

theorem slotAlloc_of_buffers {l : List Nat} (h : s.slotWork n i .alloc = some (x, f, o, d))
    (hgot : (s.takeBuffers (48 + n) (s.outputOf x o d f)).2 = some l) :
    exec (.slotAlloc n i) s = .next ((s.takeBuffers (48 + n) (s.outputOf x o d f)).1.beginDecode n i x l) := by
  have hpair : s.takeBuffers _ _ = (_, some l) := Prod.ext rfl hgot
  unfold State.outputOf at hpair ⊢
  show execSlotAlloc n i s = _
  simp only [execSlotAlloc, h]
  rw [hpair]
  rfl

end

/-! ### DECODE (R183, R189 to R196) -/

section
variable {s : State} {n i o e : Nat} {x : Sample} {f : FieldFrame} {d : DecodeDesc}
  (h : s.slotWork n i .decode = some (x, f, o, d)) (hengine : (s.slot n i).engine = some e)
include h hengine

theorem budgetExceeded_of_passes {c : Nat} (hbudget : passesAt (s.limitOf x o d f) (s.runOf x o d f).steps 0 = some c) :
    exec (.budgetExceeded n i) s = .next ((s.addUnits n (c - (s.slot n i).consumed)).rejectInSlot n i x 230 c) := by
  show execBudgetExceeded n i s = _
  simp only [execBudgetExceeded, h, hengine, hbudget]

theorem decodeFieldEnd_of_fault {w : Nat × Nat} (hbudget : passesAt (s.limitOf x o d f) (s.runOf x o d f).steps 0 = none)
    (hfault : (s.addUnits n ((s.runOf x o d f).steps.sum - (s.slot n i).consumed)).decodeFault x o d f = some w) :
    exec (.decodeFieldEnd n i) s = .next ((s.addUnits n ((s.runOf x o d f).steps.sum
      - (s.slot n i).consumed)).rejectInSlot n i x w.1 w.2) := by
  show execDecodeFieldEnd n i s = _
  simp only [execDecodeFieldEnd, h, hengine, hbudget, hfault]

theorem decodeFieldEnd_of_sound (hbudget : passesAt (s.limitOf x o d f) (s.runOf x o d f).steps 0 = none)
    (hfault : (s.addUnits n ((s.runOf x o d f).steps.sum - (s.slot n i).consumed)).decodeFault x o d f = none) :
    exec (.decodeFieldEnd n i) s = .next (((s.addUnits n ((s.runOf x o d f).steps.sum - (s.slot n i).consumed)).setSlot n i
      { s.slot n i with state := .transform, engine := none, consumed := (s.runOf x o d f).steps.sum
                        lastUnit := s.now }).giveEngine n e) := by
  show execDecodeFieldEnd n i s = _
  simp only [execDecodeFieldEnd, h, hengine, hbudget, hfault]
  rfl

theorem engineYield_of_waiting (hwaiting : (s.riffle n).waiting ≠ []) :
    exec (.engineYield n i) s = .next (if (s.runOf x o d f).steps.sum < (s.slot n i).consumed + 65536 then s
      else ((s.addUnits n 65536).giveEngine n e).setSlot n i { s.slot n i with
        engine := none, consumed := (s.slot n i).consumed + 65536, lastUnit := ((s.addUnits n 65536).giveEngine n e).now }) := by
  show execEngineYield n i s = _
  simp only [execEngineYield, h, hengine, List.isEmpty_iff, hwaiting, false_or]
  exact (apply_ite Host.Outcome.next ..).symm

end

/-! ### TRANSFORM (R187, R206, R216) -/

/-- The free values that the stochastic cast of a media field's tensor uses in fast mode (R216). -/
def State.castUsed (s : State) (d : DecodeDesc) (f : FieldFrame) (p : PField) : State := match p.tensor with
  | some t => if d.rounding = 2 ∧ f.typ ≤ 3 then s.usedFor t else s
  | none => s

/-- A tensor draws free values and nothing else, so that the recipe of the sample is as it was. -/
theorem castUsed_recipeBytes {s : State} (d : DecodeDesc) (f : FieldFrame) (p : PField) (r : Nat) :
    (s.castUsed d f p).recipeBytes r = s.recipeBytes r := by
  unfold State.castUsed State.usedFor
  split
  · split
    · split <;> rfl
    · rfl
  · rfl

section
variable {s : State} {n i o : Nat} {x : Sample} {f : FieldFrame} {d : DecodeDesc}
  (h : s.slotWork n i .transform = some (x, f, o, d))
include h

theorem transformDone_of_error {reason : Nat}
    (hfield : s.transformed x o d ((x.field? f.nameId).getD { frame := f }) = .error reason) :
    exec (.transformDone n i) s = .next (s.rejectInSlot n i x reason 0) := by
  show execTransformDone n i s = _
  simp only [execTransformDone, h, hfield]


variable {p : PField} (hfield : s.transformed x o d ((x.field? f.nameId).getD { frame := f }) = .ok p)
include hfield

theorem transformDone_of_next_field {name : Nat}
    (hnext : nextRiffleField (s.recipeBytes x.recipe) (x.setField p) f.nameId = some name) :
    exec (.transformDone n i) s = .next (((s.castUsed d f p).setSample (x.setField p)).setSlot n i
      { (s.castUsed d f p).slot n i with state := .header, name := name, lastUnit := (s.castUsed d f p).now }) := by
  rw [← castUsed_recipeBytes d f p] at hnext
  show execTransformDone n i s = _
  simp only [execTransformDone, h, hfield]
  split
  next name' hnext' =>
    cases hnext'.symm.trans hnext
    rfl
  next hlast => cases hlast.symm.trans hnext

theorem transformDone_of_last_field (hlast : nextRiffleField (s.recipeBytes x.recipe) (x.setField p) f.nameId = none) :
    exec (.transformDone n i) s = .next ((s.castUsed d f p).slotDone n i (x.setField p)) := by
  rw [← castUsed_recipeBytes d f p] at hlast
  show execTransformDone n i s = _
  simp only [execTransformDone, h, hfield]
  split
  next name hnext => cases hnext.symm.trans hlast
  next => rfl

end

/-! ### The watchdog (R202) -/

section
variable {s : State} {id : Nat} {x : Sample} (h : s.sample? id = some x) (hbegun : x.decodeAt.isSome = true)
  (hquick : x.slow = false) (hphase : x.phase = .units)
include h hbegun hquick hphase

theorem sampleWatchdogExpiry_of_defer (hexact : s.det.exact = false) (hlate : lateDefer (s.recipeBytes x.recipe) = true) :
    exec (.sampleWatchdogExpiry id) s = .next (((s.setSample { x with slow := true, deferred := true }).writeReport
      (x.report 4 0 0xFFFF (watchdogMs (s.recipeBytes x.recipe)))).settlePosition x.dest x.step) := by
  have hbegun : x.decodeAt.isNone = false := Option.isNone_eq_false_iff.mpr hbegun
  show execSampleWatchdogExpiry id s = _
  simp only [execSampleWatchdogExpiry, h, hbegun, hquick, hphase, hexact, hlate, Bool.false_eq_true, ne_eq, not_true_eq_false,
    or_self, Bool.not_false, and_self, ↓reduceIte]

theorem sampleWatchdogExpiry_of_keep (hkeep : s.det.exact = true ∨ lateDefer (s.recipeBytes x.recipe) = false) :
    exec (.sampleWatchdogExpiry id) s = .next (((s.setSample { x with slow := true }).writeReport
      (x.report 3 0 0xFFFF (watchdogMs (s.recipeBytes x.recipe)))).raiseSlow x) := by
  have hbegun : x.decodeAt.isNone = false := Option.isNone_eq_false_iff.mpr hbegun
  have hkeep : ¬((!s.det.exact) = true ∧ lateDefer (s.recipeBytes x.recipe) = true) := by
    rintro ⟨hfast, hlate⟩
    exact hkeep.elim (fun hexact => by simp [hexact] at hfast) (fun hnot => by simp [hnot] at hlate)
  show execSampleWatchdogExpiry id s = _
  simp only [execSampleWatchdogExpiry, h, hbegun, hquick, hphase, hkeep, Bool.false_eq_true, ne_eq, not_true_eq_false, or_self,
    ↓reduceIte]

end

/-! ### Faults (R203 to R205, R599) -/

/-- A unit's event is logged and raised, and no unit changes by it (R529, R610). -/
@[simp] theorem unitEvent_pipe (s : State) (e : Event) (logical site : Nat) : (s.unitEvent e logical site).pipe = s.pipe :=
  (raise_speaks ..).pipe

@[simp] theorem returnAllOf_pipe (s : State) (q : Nat) : (s.returnAllOf q).pipe = s.pipe := rfl

/-- An update that keeps a property of every element keeps whether some element has it. -/
theorem any_updateFirst_of_keeps {α : Type} {p q : α → Bool} {f : α → α} (hf : ∀ x, q (f x) = q x) (l : List α) :
    (updateFirst p f l).any q = l.any q := by
  induction l with
  | nil => rfl
  | cons x xs ih => by_cases hx : p x = true <;> simp [updateFirst, hx, hf, ih]

/-- A block that is put in reset is held there (R600). -/
theorem blockHeld_blockReset (s : State) (target : Nat) (waiter : Option Req) :
    (s.blockReset target waiter).blockHeld target = true := by
  unfold State.blockHeld State.blockReset
  dsimp only
  split
  next hknown =>
    refine (any_updateFirst_of_keeps ?_ _).trans hknown
    exact fun _ => rfl
  next => simp

theorem riffle_setRiffle_same {s : State} {n : Nat} (h : n < s.pipe.riffles.length) (f : Riffle) :
    (s.setRiffle n f).riffle n = f := by
  simp [State.riffle, State.setRiffle, h]

/-- A Riffle without samples loses its buffers and has its slots emptied. -/
theorem emptyRiffle_of_idle {s : State} {n : Nat} (h : s.samplesIn n = []) :
    s.emptyRiffle n = (s.returnAllOf (48 + n)).setRiffle n { s.riffle n with slots := List.replicate 24 {} } := by
  simp only [State.emptyRiffle, h, List.foldl_nil]
  rfl

/-- The state once a Riffle's fault has emptied it and is counted, before its block reset or its retirement (R204). -/
def State.riffleStopped (s : State) (n : Nat) : State :=
  let t := (s.emptyRiffle n).unitEvent .riffleFault n (s.riffleSite n)
  t.setRiffle n { t.riffle n with state := .reset, faults := (s.riffle n).faults + 1, sinceFault := some 0 }

/-- The first fault of a Riffle is a block reset (R204). -/
theorem riffleFault_of_first {s : State} {n : Nat} (hin : (s.riffle n).state ≠ .out) (hfirst : (s.riffle n).sinceFault = none) :
    s.riffleFault n = (s.riffleStopped n).blockReset (0x0200 + n) := by
  simp only [State.riffleFault, hin, hfirst, Bool.false_eq_true, ↓reduceIte]
  rfl

theorem riffle_riffleStopped {s : State} {n : Nat} (hidle : s.samplesIn n = []) (hn : n < s.pipe.riffles.length) :
    ((s.riffleStopped n).riffle n).state = .reset ∧ ((s.riffleStopped n).riffle n).faults = (s.riffle n).faults + 1 := by
  unfold State.riffleStopped
  rw [riffle_setRiffle_same]
  · exact ⟨rfl, rfl⟩
  · rw [unitEvent_pipe, emptyRiffle_of_idle hidle]
    simpa [State.setRiffle] using hn

theorem riffleEccError_of_riffle {s : State} {n : Nat} (hn : n < 8) : exec (.riffleEccError n) s = .next (s.riffleFault n) :=
  congrArg Host.Outcome.next (if_neg (Nat.not_le.mpr hn))

theorem riffleStallTimeout_of_busy {s : State} {n i : Nat} (h : (s.slot n i).state = .decode ∨ (s.slot n i).state = .transform) :
    exec (.riffleStallTimeout n i) s = .next (s.riffleFault n) :=
  congrArg Host.Outcome.next (if_pos h)

/-! ### Release (R199, R200, R254) -/

section
variable {s : State} {dest : Nat} {q : DestQueue} {x : Sample} (hq : s.destQ? dest = some q) (hhead : s.headOf q = some x)
include hq hhead

/-- A vacancy and a sample that a resume carries pass no window check. -/
theorem reseqRelease_of_unchecked (h : x.phase ≠ .kept ∨ x.resumed = true) :
    exec (.reseqRelease dest) s = .next (s.releaseHead q x q.window) := by
  have hgoes : ¬(x.phase = .kept ∧ (!x.resumed) = true ∧ (batchOf q x).isNone = true) := by
    rintro ⟨hkept, hfresh, -⟩
    exact h.elim (fun hnot => hnot hkept) (fun hresumed => by simp [hresumed] at hfresh)
  show execReseqRelease dest s = _
  simp only [execReseqRelease, hq, hhead, hgoes, h, ↓reduceIte]
  split <;> rfl

theorem reseqRelease_of_no_filters (hbatch : (batchOf q x).isSome = true) (hfilter : filterSection? (s.recipeBytes x.recipe) = none) :
    exec (.reseqRelease dest) s = .next (s.releaseHead q x q.window) := by
  have hbatch : (batchOf q x).isNone = false := Option.isNone_eq_false_iff.mpr hbatch
  show execReseqRelease dest s = _
  simp only [execReseqRelease, hq, hhead, hbatch, hfilter, Bool.false_eq_true, and_false, ↓reduceIte]

end

/-! ### The commands (R221) -/

theorem riffleStatus_of_range {s : State} {r : Req} {n : Nat} (hform : FormOk s r 0x0320) (hn : n ≤ 7 ∨ n = 255) :
    exec (.riffleStatus r n) s = .next (s.answer r 0x0320 .ok 0 []
      ((if n = 255 then List.range 8 else [n]).flatMap s.riffleReport ++ s.pipe.stages.map (fun g => g.reserved))) :=
  congrArg Host.Outcome.next (finish_of_checks_pass hform (by simpa using fun h => hn.resolve_left (Nat.not_le.mpr h)) _)

theorem sampleReportRead_of_range {s : State} {r : Req} {first count : Nat} (hform : FormOk s r 0x0321) (hlo : 1 ≤ count)
    (hhi : count ≤ 100) :
    let oldest := s.pipe.reportSeq - s.pipe.reports.length
    let from_ := max first oldest
    let got := (s.pipe.reports.drop (from_ - oldest)).take count
    exec (.sampleReportRead r first count) s = .next (s.answer r 0x0321 .ok 0 (got.flatMap Report.bytes)
      [(decide (first < oldest)).toNat, from_ + got.length, s.pipe.reportOverflow]) :=
  congrArg Host.Outcome.next (finish_of_checks_pass hform (by simp [hlo, hhi]) _)

/-- Settles O16, row by row: the steps of a slot, each by the outcome of its check or of its decoder, then the watchdog, the
faults, the release and the commands. -/
theorem rifflesRun : Obligations.RifflesRun := by
  unfold Obligations.RifflesRun
  refine ⟨⟨?dispatch, ?header, ?alloc, ?decode, ?yield, ?transform⟩, ?watchdog, ?fault, ?releaseUnchecked, ?releaseUnfiltered,
    ?status, ?reports⟩
  case dispatch =>
    intro s id x h hentry hphase
    exact ⟨sampleDispatch_of_no_riffle_field h hentry hphase, fun f rest n i => sampleDispatch_of_free_slot h hentry hphase⟩
  case header =>
    intro s n i o x f d h hd
    split
    next reason hcheck => exact slotHeaderCheck_of_reject h hcheck
    next hcheck => exact slotHeaderCheck_of_pass h hcheck
  case alloc =>
    intro s n i o x f d h hd limit got
    split
    next hgot => exact slotAlloc_of_no_buffers h hgot
    next l hgot => exact slotAlloc_of_buffers h hgot
  case decode =>
    intro s n i o e x f d h hengine run u
    split
    next c hbudget => exact budgetExceeded_of_passes h hengine hbudget
    next hbudget =>
      split
      next w hfault => exact decodeFieldEnd_of_fault h hengine hbudget hfault
      next hfault => exact decodeFieldEnd_of_sound h hengine hbudget hfault
  case yield => exact fun s n i o e x f d => engineYield_of_waiting
  case transform =>
    intro s n i o x f d h
    split
    next reason hfield => exact transformDone_of_error h hfield
    next p hfield =>
      intro y u
      split
      next name hnext => exact transformDone_of_next_field h hfield hnext
      next hlast => exact transformDone_of_last_field h hfield hlast
  case watchdog =>
    intro s id x h hbegun hquick hphase
    exact ⟨sampleWatchdogExpiry_of_defer h hbegun hquick hphase, sampleWatchdogExpiry_of_keep h hbegun hquick hphase⟩
  case fault =>
    intro s n i hn hin
    refine ⟨riffleEccError_of_riffle hn, riffleStallTimeout_of_busy, fun hidle hfirst hlength => ?_⟩
    rw [riffleFault_of_first hin hfirst]
    obtain ⟨hstate, hfaults⟩ := riffle_riffleStopped hidle hlength
    exact ⟨hstate, hfaults, blockHeld_blockReset ..⟩
  case releaseUnchecked => exact fun s d q x => reseqRelease_of_unchecked
  case releaseUnfiltered => exact fun s d q x hq hhead _ _ => reseqRelease_of_no_filters hq hhead
  case status => exact fun s r n => riffleStatus_of_range
  case reports => exact fun s r first count => sampleReportRead_of_range

end Sys2Proof.Machine
end

section
/-! Family `07_riffle_decode.md`, the Drawplates: text fields, returned synthetic messages, faults, the status and the probe (R222
to R252, R304; for what a rejected probe answers log entry 31). -/

namespace Sys2Proof.Machine

/-! ### A text field takes a stream (R222, R223, R245) -/

section
variable {s : State} {id name : Nat} {x : Sample} {p : PField} {d : TextDesc} (h : s.sample? id = some x)
  (hwaiting : s.waitingText x name = some (p, d))
include h hwaiting

theorem textStreamAssign_of_no_plates (hplates : s.noPlates = true) :
    exec (.textStreamAssign id name) s = .next (s.rejectSample x 305 name 0) := by
  show execTextStreamAssign id name s = _
  simp only [execTextStreamAssign, h, hwaiting, hplates, ↓reduceIte]

theorem textStreamAssign_of_too_long (hplates : s.noPlates = false) (hlong : d.maxBytes < (p.data.getD []).length) :
    exec (.textStreamAssign id name) s = .next (s.rejectSample x 304 name 0) := by
  show execTextStreamAssign id name s = _
  simp only [execTextStreamAssign, h, hwaiting, hplates, hlong, Bool.false_eq_true, ↓reduceIte]

theorem textStreamAssign_of_free_stream {n i : Nat} (hplates : s.noPlates = false) (hfits : (p.data.getD []).length ≤ d.maxBytes)
    (hstream : s.streamFor x.stage false = some (n, i)) :
    exec (.textStreamAssign id name) s = .next (s.takeStream n i (.encode id name)) := by
  have hid : x.id = id := by simpa using List.find?_some h
  show execTextStreamAssign id name s = _
  simp only [execTextStreamAssign, h, hwaiting, hplates, Nat.not_lt.mpr hfits, hstream, hid, Bool.false_eq_true, ↓reduceIte]

end

/-! ### A text field comes back (R225 to R238) -/

/-- A rejected text field frees its stream, and the Drawplate counts the reason and the replacements. -/
def State.textRejected (s : State) (n i reason replaced : Nat) : State :=
  let u := s.freeStreamAt n i
  u.setPlate n { u.plate n with
    rejections := bump (u.plate n).rejections reason, replacements := (u.plate n).replacements + replaced }

/-- A finished text field's buffers are handed to the holder of its sample, its stream is free and the Drawplate counts it. -/
def State.textFinished (s : State) (n i : Nat) (l : List Nat) (owner bytes replaced : Nat) : State :=
  let u := (s.handOffAll l (56 + n) owner).freeStreamAt n i
  u.setPlate n ((u.plate n).fieldDone bytes replaced)

section
variable {s : State} {n i id name : Nat} {x : Sample} {p : PField} {d : TextDesc} (huse : s.streamUse n i = some (.encode id name))
  (h : s.sample? id = some x) (hfield : x.field? name = some p) (hdesc : textDescOf (s.recipeBytes x.recipe) name = some d)
include huse h hfield hdesc

theorem textEncodeDone_of_error {reason : Nat}
    (hresult : (encodeText (s.vocabOf (s.recipeBytes x.recipe)) d (p.data.getD [])).result = .error reason) :
    exec (.textEncodeDone n i) s = .next ((s.textRejected n i reason
      (encodeText (s.vocabOf (s.recipeBytes x.recipe)) d (p.data.getD [])).replaced).rejectSample x reason name 0) := by
  show execTextEncodeDone n i s = _
  simp only [execTextEncodeDone, huse, h, hfield, hdesc, hresult]
  rfl

section
variable {ts : List Nat} (hresult : (encodeText (s.vocabOf (s.recipeBytes x.recipe)) d (p.data.getD [])).result = .ok ts)
include hresult

theorem textEncodeDone_of_no_buffers (hgot : (s.takeBuffers (56 + n) (tokenTensor ts).bytes.length).2 = none) :
    exec (.textEncodeDone n i) s = .next (s.takeBuffers (56 + n) (tokenTensor ts).bytes.length).1 := by
  have hpair : s.takeBuffers _ _ = (_, none) := Prod.ext rfl hgot
  show execTextEncodeDone n i s = _
  simp only [execTextEncodeDone, huse, h, hfield, hdesc, hresult]
  rw [hpair]

theorem textEncodeDone_of_buffers {l : List Nat} (hgot : (s.takeBuffers (56 + n) (tokenTensor ts).bytes.length).2 = some l) :
    exec (.textEncodeDone n i) s = .next (((s.takeBuffers (56 + n) (tokenTensor ts).bytes.length).1.textFinished n i l x.owner
      (p.data.getD []).length (encodeText (s.vocabOf (s.recipeBytes x.recipe)) d (p.data.getD [])).replaced).settleSample
        ({ x with buffers := x.buffers ++ l }.setField
          { p with tokens := some ts, tensor := some (tokenTensor ts), arrived := true })) := by
  have hpair : s.takeBuffers _ _ = (_, some l) := Prod.ext rfl hgot
  show execTextEncodeDone n i s = _
  simp only [execTextEncodeDone, huse, h, hfield, hdesc, hresult]
  rw [hpair]
  rfl

end

end

/-! ### A synthetic message takes a stream (R239, R304) -/

/-- The sample that a returned synthetic message becomes, with its tokens. -/
def State.synthSampleOf (s : State) (m : Inbound) : Sample :=
  { id := s.pipe.nextId, recipe := (s.recipeAt s.gauge.committed.step).getD 0, stage := s.stageOfPort m.port, phase := .units
    owner := 58 + s.stageOfPort m.port
    synth := some { tag := fieldAt m.bytes 8 8, profile := fieldAt m.bytes 2 1, pointer := m.pointer, owner := m.owner
                    tokens := (List.range (fieldAt m.bytes 4 4)).map (fun t => fieldAt m.bytes (32 + 4 * t) 4) } }

/-- The state once a message is off the inbox, counted and a sample. -/
def State.synthReceived (s : State) (m : Inbound) : State :=
  { s with
    rdma := { s.rdma with inbox := s.rdma.inbox.erase m }
    pipe := { s.pipe with samples := s.pipe.samples ++ [s.synthSampleOf m], nextId := s.pipe.nextId + 1
                          synth := { s.pipe.synth with received := s.pipe.synth.received + 1 } } }

theorem synthStreamAssign_of_free_stream {s : State} {m : Inbound} {n i : Nat} (hmessage : s.synthMessage = some m)
    (hsound : s.synthFault m.bytes = none) (hstream : s.streamFor (s.stageOfPort m.port) true = some (n, i)) :
    exec .synthStreamAssign s = .next ((s.synthReceived m).takeStream n i (.decode s.pipe.nextId)) := by
  show execSynthStreamAssign s = _
  simp only [execSynthStreamAssign, hmessage, hsound, hstream]
  rfl

/-! ### A synthetic message comes back as text (R240 to R245) -/

/-- A finished message's text buffers are handed to the holder of its sample, its stream is free and the Drawplate counts it. -/
def State.messageFinished (s : State) (n i : Nat) (l : List Nat) (owner : Nat) (d : Decoded) : State :=
  let v := (s.handOffAll l (56 + n) owner).freeStreamAt n i
  v.setPlate n { v.plate n with
    messages := (v.plate n).messages + 1, bytesOut := (v.plate n).bytesOut + d.text.length
    replacements := (v.plate n).replacements + d.replaced, stops := bump (v.plate n).stops d.reason }

section
variable {s : State} {n i id : Nat} {x : Sample} {y : SynthPart} {p : Profile} (huse : s.streamUse n i = some (.decode id))
  (h : s.sample? id = some x) (hsynth : x.synth = some y) (hprofile : profile? (s.recipeBytes x.recipe) y.profile = some p)
include huse h hsynth hprofile

theorem detokDone_of_error {reason : Nat}
    (hdecode : decodeTokens (s.vocabOf (s.recipeBytes x.recipe)) p y.tokens = .error reason) :
    exec (.detokDone n i) s = .next ((s.setPlate n { s.plate n with
      rejections := bump (s.plate n).rejections reason, dropped := (s.plate n).dropped + 1 }).dropSynthSample x 4) := by
  show execDetokDone n i s = _
  simp only [execDetokDone, huse, h, hsynth, Option.bind_some, hprofile, hdecode]

section
variable {d : Decoded} (hdecode : decodeTokens (s.vocabOf (s.recipeBytes x.recipe)) p y.tokens = .ok d)
include hdecode

theorem detokDone_of_no_buffers (hgot : (s.takeBuffers (56 + n) d.text.length).2 = none) :
    exec (.detokDone n i) s = .next (s.takeBuffers (56 + n) d.text.length).1 := by
  have hpair : s.takeBuffers _ _ = (_, none) := Prod.ext rfl hgot
  show execDetokDone n i s = _
  simp only [execDetokDone, huse, h, hsynth, Option.bind_some, hprofile, hdecode]
  rw [hpair]

theorem detokDone_of_buffers {l : List Nat} (hpointer : y.pointer = none)
    (hgot : (s.takeBuffers (56 + n) d.text.length).2 = some l) :
    exec (.detokDone n i) s = .next (((s.takeBuffers (56 + n) d.text.length).1.messageFinished n i l x.owner d).settleSample
      { x with buffers := l, fields := synthFields (s.recipeBytes x.recipe) p y.tokens d
               synth := some { y with report := d.report, pointer := none } }) := by
  have hpair : s.takeBuffers _ _ = (_, some l) := Prod.ext rfl hgot
  show execDetokDone n i s = _
  simp only [execDetokDone, huse, h, hsynth, Option.bind_some, hprofile, hdecode]
  rw [hpair]
  simp only [hpointer]
  rfl

end

end

/-! ### Faults (R246, R247) -/

/-- The state once a Drawplate's fault has emptied it and is counted, before its block reset or its retirement (R246). -/
def State.plateStopped (s : State) (n : Nat) : State :=
  let t := (s.emptyPlate n).unitEvent .drawplateFault n n
  t.setPlate n { t.plate n with state := .reset, faults := (s.plate n).faults + 1, sinceFault := some 0 }

/-- The first fault of a Drawplate is a block reset (R246). -/
theorem plateFault_of_first {s : State} {n : Nat} (hin : (s.plate n).state ≠ .out) (hfirst : (s.plate n).sinceFault = none) :
    s.plateFault n = (s.plateStopped n).blockReset (0x0300 + n) := by
  simp only [State.plateFault, hin, hfirst, Bool.false_eq_true, ↓reduceIte]
  rfl

theorem plateStopped_plates (s : State) (n : Nat) : (s.plateStopped n).pipe.plates = (s.emptyPlate n).pipe.plates.set n
    { (s.emptyPlate n).plate n with state := .reset, faults := (s.plate n).faults + 1, sinceFault := some 0 } := by
  simp only [State.plateStopped, State.setPlate, State.plate, setPipe_pipe, unitEvent_pipe]

theorem drawplateStallTimeout_of_busy {s : State} {n i : Nat} (h : (s.streamUse n i).isSome = true) :
    exec (.drawplateStallTimeout n i) s = .next (s.plateFault n) :=
  congrArg Host.Outcome.next (if_pos h)

/-! ### The commands (R252) -/

theorem drawplateStatus_of_range {s : State} {r : Req} {n : Nat} (hform : FormOk s r 0x0332) (hn : n ≤ 1 ∨ n = 255) :
    exec (.drawplateStatus r n) s
      = .next (s.answer r 0x0332 .ok 0 [] ((if n = 255 then [0, 1] else [n]).flatMap s.plateReport)) :=
  congrArg Host.Outcome.next
    (finish_of_checks_pass hform (by simpa using fun h => hn.resolve_left (Nat.not_le.mpr h)) _)

theorem textProbe_of_fits {s : State} {r : Req} {recipe item out limit dir : Nat} {input bs rep : Bytes}
    (hform : FormOk s r 0x0333) (hrecipe : recipe ≤ 15) (hdir : dir ≤ 1) (hloaded : (lookup? s.plan.recipes recipe).isSome = true)
    (hwindow : inWindow out limit = true) (hinput : input.length ≤ 4000) (hwhole : dir = 1 → input.length % 4 = 0)
    (hprobe : s.probe (s.recipeBytes recipe) dir item input = some (.ok (bs, rep))) (hfits : bs.length ≤ limit) :
    exec (.textProbe r recipe dir item out limit input) s = .next ((s.memWrite out bs).answer r 0x0333 .ok bs.length rep) := by
  show execTextProbe r recipe dir item out limit input s = _
  simp only [execTextProbe, hprobe, Nat.not_lt.mpr hfits, ↓reduceIte]
  exact congrArg Host.Outcome.next
    (finish_of_checks_pass hform (by simpa [hrecipe, hdir, hloaded, hwindow, hinput] using hwhole) _)

/-- Settles O17: a text field and a synthetic message by what each meets on its way through a stream, then the faults and the
commands. -/
theorem drawplatesRun : Obligations.DrawplatesRun := by
  unfold Obligations.DrawplatesRun
  refine ⟨?textAssign, ?textDone, ?synthAssign, ?synthRejected, ?synthDone, ?fault, ?status, ?probe⟩
  case textAssign =>
    intro s id name x p d h hwaiting
    exact ⟨textStreamAssign_of_no_plates h hwaiting, textStreamAssign_of_too_long h hwaiting,
      fun n i => textStreamAssign_of_free_stream h hwaiting⟩
  case textDone =>
    intro s n i id name x p d huse h hfield hdesc e
    split
    next reason hresult => exact textEncodeDone_of_error huse h hfield hdesc hresult
    next ts hresult =>
      intro t got
      split
      next hgot => exact textEncodeDone_of_no_buffers huse h hfield hdesc hresult hgot
      next l hgot => exact textEncodeDone_of_buffers huse h hfield hdesc hresult hgot
  case synthAssign =>
    intro s m n i hmessage hsound hstream
    exact ⟨_, synthStreamAssign_of_free_stream hmessage hsound hstream, rfl, rfl, rfl, List.map_append⟩
  case synthRejected => exact fun s n i id reason x y p huse h hsynth hprofile => detokDone_of_error huse h hsynth hprofile
  case synthDone =>
    intro s n i id x y p d huse h hsynth hprofile hpointer hdecode got
    split
    next hgot => exact detokDone_of_no_buffers huse h hsynth hprofile hdecode hgot
    next l hgot => exact detokDone_of_buffers huse h hsynth hprofile hdecode hpointer hgot
  case fault =>
    intro s n i hin
    exact ⟨rfl, drawplateStallTimeout_of_busy, fun hfirst =>
      ⟨s.plateStopped n, plateFault_of_first hin hfirst, plateStopped_plates s n⟩⟩
  case status => exact fun s r n => drawplateStatus_of_range
  case probe => exact fun s r recipe item out limit input bs rep dir => textProbe_of_fits

end Sys2Proof.Machine
end

section
/-! Family `08_drawplate_text.md`: the screening of samples, and the Anvil with its row tiles, jobs, faults and status (R253 to
R274, R280, R371; that a job's rows are computed when it ends from log entry 103). -/

namespace Sys2Proof.Machine

/-! ### A sample is screened (R253 to R262) -/

theorem stageOf_setStage_same {s : State} {n : Nat} (h : n < s.pipe.stages.length) (g : Stage) :
    (s.setStage n g).stageOf n = g := by
  simp [State.stageOf, State.setStage, h]

theorem screened_stageOf {s : State} {x : Sample} (h : x.stage < s.pipe.stages.length) :
    (s.screened x).stageOf x.stage = { s.stageOf x.stage with screened := (s.stageOf x.stage).screened + 1 } :=
  stageOf_setStage_same h _

/-- A sample that is not a synthetic message waits for its release, and its stage counts it (R253). -/
theorem screenKeep_of_no_message (s : State) {x : Sample} (h : x.synth = none) :
    s.screenKeep x = ((s.screened x).setStage x.stage { (s.screened x).stageOf x.stage with
      kept := ((s.screened x).stageOf x.stage).kept + 1 }).setSample { x with phase := .kept } := by
  simp only [State.screenKeep, h, Option.isSome_none, Bool.false_eq_true, ↓reduceIte]

theorem screenKeep_stageOf {s : State} {x : Sample} (hmessage : x.synth = none) (hstage : x.stage < s.pipe.stages.length) :
    (s.screenKeep x).stageOf x.stage = { s.stageOf x.stage with
      screened := (s.stageOf x.stage).screened + 1, kept := (s.stageOf x.stage).kept + 1 } := by
  have hlength : x.stage < (s.screened x).pipe.stages.length := by simpa [State.screened, State.setStage] using hstage
  rw [screenKeep_of_no_message s hmessage]
  refine (stageOf_setStage_same hlength _).trans ?_
  rw [screened_stageOf hstage]

section
variable {s : State} {id : Nat} {x : Sample} (h : s.sample? id = some x)
include h

theorem screenKeep_sample? (hmessage : x.synth = none) : (s.screenKeep x).sample? id = some { x with phase := .kept } := by
  rw [screenKeep_of_no_message s hmessage]
  exact setSample_sample? h rfl

variable (hphase : x.phase = .screening)
include hphase

theorem sampleScreen_of_no_filters (hscreen : x.screen = .first)
    (hnone : filterSection? (s.recipeBytes x.recipe) = none) : exec (.sampleScreen id) s = .next (s.screenKeep x) := by
  show execSampleScreen id s = _
  simp only [execSampleScreen, h, hphase, hscreen, hnone]

variable {f : FilterSection} (hfilter : filterSection? (s.recipeBytes x.recipe) = some f)
include hfilter

theorem sampleScreen_of_fixedFault {reason name : Nat} (hscreen : x.screen = .first)
    (hfault : fixedFault f x = some (reason, name)) : exec (.sampleScreen id) s = .next (s.screenReject x reason name) := by
  show execSampleScreen id s = _
  simp only [execSampleScreen, h, hphase, hscreen, hfilter, State.screenFirst, hfault]

theorem sampleScreen_of_setFault {reason : Nat} (hscreen : x.screen = .scored) (hfault : s.setFault f x = some reason) :
    exec (.sampleScreen id) s = .next (s.screenReject x reason 0xFFFF) := by
  show execSampleScreen id s = _
  simp only [execSampleScreen, h, hphase, hscreen, hfilter, State.screenScored, hfault]

end

/-! ### A kernel reaches its bound (R264, R371) -/

/-- The state once a kernel's context is free and its instructions are counted (R264, R280). -/
def State.kernelFreed (s : State) (c : NgCtx) (stage k : Nat) : State :=
  let t := { s with ngayx := { s.ngayx with contexts := s.ngayx.contexts.filter (fun y => decide (y.id ≠ c.id)) } }
  t.setStage stage { t.stageOf stage with insns := bump (t.stageOf stage).insns k c.executed }

section
variable {s : State} {c : NgCtx} {stage id k : Nat} (hrun : c.run = .kernel stage id k)
include hrun

theorem kernelEnded_of_bound {x : Sample} (hbound : c.bound = true) (h : s.sample? id = some x) :
    s.kernelEnded c = (s.kernelFreed c stage k).screenReject x (460 + k) 0xFFFF := by
  have hthere : (s.kernelFreed c stage k).sample? id = some x := h
  unfold State.kernelFreed at hthere ⊢
  simp only [State.kernelEnded, hrun, hthere, hbound, ↓reduceIte]

theorem kernelBoundReached_of_spent {ctx : Nat} (h : s.ngayx.contexts.find? (fun c => decide (c.id = ctx)) = some c)
    (hrunning : c.ended = false) (hspent : c.budget ≤ c.executed) :
    exec (.kernelBoundReached ctx) s = .next (s.kernelEnded { c with bound := true }) := by
  show execKernelBoundReached ctx s = _
  simp only [execKernelBoundReached, h, hrun, hrunning, hspent, Bool.not_false, decide_true, Bool.and_self, ↓reduceIte]

end

/-! ### Row tiles (R268) -/

theorem rowTile_length_le (s : State) (stage : Nat) : (s.rowTile stage).length ≤ 128 := List.length_take_le ..

theorem anvilRowTileTimeout_of_stage {s : State} {stage : Nat} (hstage : stage < 2) :
    exec (.anvilRowTileTimeout stage) s = .next (s.submitTile stage) :=
  congrArg Host.Outcome.next (if_pos hstage)

theorem anvilRowTileSubmit_of_full {s : State} {stage : Nat} (hstage : stage < 2)
    (hfull : 128 ≤ (s.stageOf stage).vectors.length) : exec (.anvilRowTileSubmit stage) s = .next (s.submitTile stage) :=
  congrArg Host.Outcome.next (if_pos (by simp [hstage, hfull]))

/-- A row tile joins the Anvil's jobs last; its samples' own records leave the Anvil as it is. -/
theorem submitTile_jobs {s : State} {stage : Nat} (h : s.rowTile stage ≠ []) :
    (s.submitTile stage).pipe.anvil.jobs = s.pipe.anvil.jobs ++ [(2 * stage, .feature (s.rowTile stage))] := by
  have hsome : (s.rowTile stage).isEmpty = false := List.isEmpty_eq_false_iff.mpr h
  simp only [State.submitTile, hsome, Bool.false_eq_true, ↓reduceIte]
  refine List.foldlRecOn (motive := fun t : State => t.pipe.anvil.jobs = _) _ _ rfl fun t ht i _ => ?_
  split
  · exact ht
  · exact ht

/-! ### Jobs (R259, R260, R269, R270) -/

theorem featureRow_anvil (s : State) (id : Nat) : (s.featureRow id).pipe.anvil = s.pipe.anvil := by
  unfold State.featureRow
  split
  · rfl
  · dsimp only
    split
    · rfl
    · split <;> rfl

theorem jobCounted_anvil {s : State} {a : Anvil} (h : s.pipe.anvil = a) (queue mode pairs : Nat) :
    (s.jobCounted queue mode pairs).pipe.anvil = { a with
      pairs := a.pairs.set mode (a.pairs.getD mode 0 + pairs), done := a.done.set queue (a.done.getD queue 0 + 1)
      arb := arbNext 4 queue } := by
  rw [← h]
  rfl

theorem featureRows_anvil (s : State) (ids : List Nat) :
    (ids.foldl (fun t i => t.featureRow i) s).pipe.anvil = s.pipe.anvil :=
  List.foldlRecOn (motive := fun t : State => t.pipe.anvil = s.pipe.anvil) _ _ rfl fun t ht i _ => (featureRow_anvil t i).trans ht

/-- A feature job never waits: its rows are done, and the Anvil counts its tile pairs and its end. -/
theorem endJob_feature (s : State) (queue : Nat) (ids : List Nat) : ∃ (t : State) (pairs : List Nat),
    s.endJob queue (.feature ids) = (t, true) ∧ t.pipe.anvil = { s.pipe.anvil with
      pairs := pairs, done := s.pipe.anvil.done.set queue (s.pipe.anvil.done.getD queue 0 + 1), arb := arbNext 4 queue } :=
  ⟨_, _, rfl, jobCounted_anvil (featureRows_anvil s ids) queue _ _⟩

theorem anvilJobComplete_of_feature {s : State} {queue : Nat} {ids : List Nat} (hactive : s.pipe.anvil.state = .active)
    (hjob : s.pipe.anvil.jobs.find? (fun j => decide (j.1 = queue)) = some (queue, .feature ids)) :
    ∃ (t : State) (pairs : List Nat), exec (.anvilJobComplete queue) s = .next t ∧ t.pipe.anvil = { s.pipe.anvil with
      jobs := s.pipe.anvil.jobs.erase (queue, .feature ids), pairs := pairs
      done := s.pipe.anvil.done.set queue (s.pipe.anvil.done.getD queue 0 + 1), arb := arbNext 4 queue } := by
  obtain ⟨u, pairs, hend, hanvil⟩ := endJob_feature s queue ids
  refine ⟨u.setAnvil { u.pipe.anvil with jobs := u.pipe.anvil.jobs.erase (queue, .feature ids) }, pairs, ?_, ?_⟩
  · show execAnvilJobComplete queue s = _
    simp only [execAnvilJobComplete, hactive, hjob, hend]
  · simp only [State.setAnvil, setPipe_pipe, hanvil]

/-! ### Faults (R273) -/

/-- A unit's event is logged and raised, and no reset changes by it (R529, R610). -/
@[simp] theorem unitEvent_power (s : State) (e : Event) (logical site : Nat) : (s.unitEvent e logical site).power = s.power :=
  (raise_speaks ..).power

section
variable {s : State} (hin : s.pipe.anvil.state ≠ .out)
include hin

theorem anvilFault_of_in : s.anvilFault = ((s.setAnvil { s.pipe.anvil with
    state := .reset, faults := s.pipe.anvil.faults + 1 }).blockReset 0x0400).unitEvent .anvilFault 0 0 := if_neg hin

theorem anvilFault_anvil :
    s.anvilFault.pipe.anvil = { s.pipe.anvil with state := .reset, faults := s.pipe.anvil.faults + 1 } := by
  rw [anvilFault_of_in hin, unitEvent_pipe]
  rfl

theorem anvilFault_blockHeld : s.anvilFault.blockHeld 0x0400 = true := by
  rw [anvilFault_of_in hin, State.blockHeld, unitEvent_power]
  exact blockHeld_blockReset ..

end

theorem anvilTileTimeout_of_job {s : State} (hjobs : s.pipe.anvil.jobs ≠ []) : exec .anvilTileTimeout s = .next s.anvilFault :=
  congrArg Host.Outcome.next (if_neg (by simpa using hjobs))

/-! ### The commands (R280) -/

theorem anvilStatus_of_formOk {s : State} {r : Req} (hform : FormOk s r 0x0343) :
    exec (.anvilStatus r) s = .next (s.answer r 0x0343 .ok 0 [] ([s.pipe.anvil.state.value] ++ s.pipe.anvil.pairs
      ++ s.pipe.anvil.done ++ [s.pipe.anvil.discards, s.pipe.anvil.faults, s.weightBytes])) :=
  congrArg Host.Outcome.next (finish_ok hform _)

theorem filterStatus_of_range {s : State} {r : Req} {n : Nat} (hform : FormOk s r 0x0342) (hn : n ≤ 1 ∨ n = 255) :
    exec (.filterStatus r n) s
      = .next (s.answer r 0x0342 .ok 0 [] ((if n = 255 then [0, 1] else [n]).flatMap s.filterReport)) :=
  congrArg Host.Outcome.next
    (finish_of_checks_pass hform (by simpa using fun h => hn.resolve_left (Nat.not_le.mpr h)) _)

/-- Settles O18: the ends of a screening, each by the check that decides it, then the Anvil's tiles, jobs, faults and commands. -/
theorem screeningAndAnvilRun : Obligations.ScreeningAndAnvilRun := by
  unfold Obligations.ScreeningAndAnvilRun
  refine ⟨⟨?unfiltered, ?fixed, ?scored, ?bound⟩, ?tiles, ?job, ?fault, ?anvilStatus, ?filterStatus⟩
  case unfiltered =>
    intro s id x h hphase hscreen hmessage hnone hstage
    have hcounts := screenKeep_stageOf hmessage hstage
    refine ⟨s.screenKeep x, _, sampleScreen_of_no_filters h hphase hscreen hnone, screenKeep_sample? h hmessage, rfl,
      congrArg Stage.screened hcounts, congrArg Stage.kept hcounts, ?_, ?_⟩ <;>
    · rw [screenKeep_of_no_message s hmessage]
      rfl
  case fixed =>
    exact fun s id reason name x f h hphase hscreen hfilter => sampleScreen_of_fixedFault h hphase hfilter hscreen
  case scored => exact fun s id reason x f h hphase hscreen hfilter => sampleScreen_of_setFault h hphase hfilter hscreen
  case bound =>
    intro s ctx stage id k c hctx hrun hrunning hspent
    exact ⟨kernelBoundReached_of_spent hrun hctx hrunning hspent, fun x hx =>
      ⟨s.kernelFreed { c with bound := true } stage k, kernelEnded_of_bound (c := { c with bound := true }) hrun rfl hx, rfl⟩⟩
  case tiles =>
    exact fun s stage hstage => ⟨anvilRowTileTimeout_of_stage hstage, anvilRowTileSubmit_of_full hstage,
      rowTile_length_le s stage, submitTile_jobs⟩
  case job =>
    intro s stage ids hactive hjobs
    obtain ⟨t, pairs, hexec, hanvil⟩ := anvilJobComplete_of_feature (queue := 2 * stage) (ids := ids) hactive (by simp [hjobs])
    refine ⟨t, hexec, ?_, ?_, ?_⟩
    · simp [hanvil, hjobs]
    · rw [hanvil]
    · rw [hanvil, arbNext]
  case fault =>
    intro s hin hjobs
    have hanvil := anvilFault_anvil hin
    exact ⟨s.anvilFault, rfl, anvilTileTimeout_of_job hjobs, congrArg Anvil.state hanvil, congrArg Anvil.faults hanvil,
      anvilFault_blockHeld hin⟩
  case anvilStatus => exact fun s r => anvilStatus_of_formOk
  case filterStatus => exact fun s r n => filterStatus_of_range

end Sys2Proof.Machine
end

section
/-! Family `10_packing_and_feed.md`: the batches of a destination, the slots and credits of its ring, and the commands of the feed
and of the synthetic path (R285 to R308; that a batch starts within QUEUE_DEPTH from log entry 33, what a
ring registered again writes again from log entry 25, when an Ingot closes and a flush completes from log entry 22).

Each event has an equation for the branch that its checks select; each command has its effect once its own checks pass. -/

namespace Sys2Proof.Machine

/-! ### A batch starts (R171, R289, R296) -/

/-- The batch in construction that a queue's next step opens, by the plan and recipe in force at that step. -/
def State.nextBatch (s : State) (q : DestQueue) (p : Plan) (recipe : Nat) : OpenBatch where
  step := q.next
  recipe := recipe
  port := (p.dests.getD q.dest ⟨0, 0, 0⟩).port
  last := decide (q.next = p.lastStep)
  packs := !decide (q.next < s.plan.startGauge.step) && decide (q.packFrom ≤ q.next)

@[simp] theorem putDestQ_plan (s : State) (q : DestQueue) : (s.putDestQ q).plan = s.plan := by
  unfold State.putDestQ
  split <;> rfl

/-- A destination's queue bears its number, whether it is there or new. -/
theorem destQOrNew_dest {s : State} {d : Nat} {q : DestQueue} (h : s.destQOrNew d = some q) : q.dest = d := by
  unfold State.destQOrNew at h
  split at h
  next q' hq =>
    obtain rfl : q' = q := Option.some.inj h
    simpa only [decide_eq_true_eq] using List.find?_some hq
  next =>
    obtain ⟨a, -, ha⟩ := Option.bind_eq_some_iff.mp h
    split at ha
    · exact congrArg DestQueue.dest (Option.some.inj ha).symm
    · exact absurd ha nofun

/-- A batch ahead of preparation starts without positions: they are issued when its step is prepared for. -/
theorem batchStart_of_ahead {s : State} {d recipe x : Nat} {q : DestQueue} {p : Plan} (hq : s.destQOrNew d = some q)
    (hsegment : s.segmentAt q.next = some (x, p)) (hrecipe : s.recipeAt q.next = some recipe)
    (hprepare : s.mayPrepare q.next = true) (hlast : q.next ≤ p.lastStep) (hdepth : q.building < (s.queueSet d).1)
    (hlocal : (s.localDests p).contains d = true) (hahead : s.plan.nextStep ≤ q.next) :
    exec (.batchStart d) s = .next (s.putDestQ { q with
      next := q.next + 1, depth := (s.queueSet d).1, opens := q.opens ++ [s.nextBatch q p recipe]
      stage := s.stageOfPort (s.nextBatch q p recipe).port }) := by
  obtain rfl := destQOrNew_dest hq
  have hstarts : ¬((!s.mayPrepare q.next) = true ∨ p.lastStep < q.next ∨ (s.queueSet q.dest).1 ≤ q.building
      ∨ (!(s.localDests p).contains q.dest) = true) := by
    simp only [hprepare, hlocal, Bool.not_true, Bool.false_eq_true, false_or, or_false, not_or, Nat.not_lt, Nat.not_le]
    exact ⟨hlast, hdepth⟩
  show execBatchStart q.dest s = _
  simp only [execBatchStart, hq, hsegment, hrecipe, hstarts, putDestQ_plan, Nat.not_lt.mpr hahead, ↓reduceIte]
  rfl

/-! ### A batch closes (R287, R288, R290) -/

theorem batchClose_of_settled {s : State} {d : Nat} {q : DestQueue} {b : OpenBatch} {rest : List OpenBatch} {k : PackSection}
    (hq : s.destQ? d = some q) (hopens : q.opens = b :: rest) (hsettled : s.batchSettled q b = true) (hpacks : b.packs = true)
    (hpacking : packSection? (s.recipeBytes b.recipe) = some k) : exec (.batchClose d) s = .next (s.closePacked q b k) := by
  show execBatchClose d s = _
  simp only [execBatchClose, hq, hopens, hsettled, hpacks, hpacking, Bool.not_true, Bool.false_eq_true, ↓reduceIte]

/-! ### A batch is written to its slot (R298, R299) -/

theorem feedSlotWrite_of_ready {s : State} {d : Nat} {q : DestQueue} {b : Batch} {g : Ring} (hq : s.destQ? d = some q)
    (hhead : q.closed.find? (fun b => b.index.isNone) = some b) (hown : s.proxied q b = false) (hring : s.ring? b.port = some g)
    (hstarted : s.pipe.feedStarted = true) (hpair : s.rqpReady g.qp = true) (hslot : g.slotReady = true) :
    exec (.feedSlotWrite d) s = .next (((s.setDestQ { q with
      closed := updateFirst (fun x => x.index.isNone) (fun x => { x with index := some g.written }) q.closed }).postBatch g b).count
        (.feed d 0)) := by
  show execFeedSlotWrite d s = _
  simp only [execFeedSlotWrite, hq, hhead, hown, hring, hstarted, hpair, hslot, Bool.not_true, Bool.false_eq_true, or_self,
    ↓reduceIte]

/-! ### The credit word (R301) -/

/-- How many batches a value of the credit word adds to the accepted ones: its count is carried modulo 2^32. -/
def Ring.credited (g : Ring) (v : Nat) : Nat := (v % 2 ^ 32 + 2 ^ 32 - g.accepted % 2 ^ 32) % 2 ^ 32

/-- The state once a value of the credit word is accepted, its batches not yet dropped. -/
def State.creditAccepted (s : State) (port : Nat) (g : Ring) (v : Nat) : State :=
  let t := s.setRing { g with lastRead := some v, ignoredRun := 0, accepted := g.accepted + g.credited v }
  t.setPipe { t.pipe with consumed := bump t.pipe.consumed port (g.credited v) }

/-- The state once a value of the credit word is ignored: each destination of the port counts it. -/
def State.creditIgnored (s : State) (port : Nat) (g : Ring) (v : Nat) : State :=
  let t := s.setRing { g with lastRead := some v, ignoredRun := g.ignoredRun + 1 }
  (t.destsOfPort port).foldl (fun s d => s.count (.feed d 2)) t

section
variable {s : State} {port : Nat} {g : Ring} (hring : s.ring? port = some g)
include hring

theorem creditRead_of_unchanged (hsame : g.lastRead = some (leNat (s.memRead g.credit 8))) :
    exec (.creditRead port) s = .next s := by
  show execCreditRead port s = _
  simp only [execCreditRead, hring, hsame, ↓reduceIte]

variable (hnew : g.lastRead ≠ some (leNat (s.memRead g.credit 8)))
include hnew

theorem creditRead_of_accepted (haccepts : g.ignores (leNat (s.memRead g.credit 8)) = false) :
    exec (.creditRead port) s = .next ((s.creditAccepted port g (leNat (s.memRead g.credit 8))).creditBatches port
      (g.accepted + g.credited (leNat (s.memRead g.credit 8)))) := by
  show execCreditRead port s = _
  simp only [execCreditRead, hring, hnew, haccepts, Bool.false_eq_true, ↓reduceIte]
  rfl

/-- The eighth value ignored in a row raises FEED_CREDIT_FAULT. -/
theorem creditRead_of_eighth_ignored (hignores : g.ignores (leNat (s.memRead g.credit 8)) = true) (hrun : g.ignoredRun = 7) :
    exec (.creditRead port) s
      = .next ((s.creditIgnored port g (leNat (s.memRead g.credit 8))).raise .feedCreditFault port) := by
  show execCreditRead port s = _
  simp only [execCreditRead, hring, hnew, hignores, hrun, State.creditIgnored, ↓reduceIte]

end

/-! ### The commands of the feed (R301, R302, R308) -/

section
variable {s : State} {r : Req}

/-- FEED_RING_SET of a port without a ring registers one; the credit word has the highest free region (R301). -/
theorem feedRingSet_of_new {port qp va rkey slots size tag i : Nat} (hform : FormOk s r 0x0350) (hport : s.isAccel port = true)
    (hlo : 2 ≤ slots) (hhi : slots ≤ 256) (hsmall : 4096 ≤ size) (hlarge : size ≤ 1073741824) (hpages : size % 4096 = 0)
    (htag : tag ≠ 0) (hpair : (s.rqp? qp).isSome = true) (hbounds : s.boundsInUse.any (fun b => decide (size < b)) = false)
    (hnew : s.ring? port = none) (hfree : (s.dropRing port).highestFree 16383 = some i) :
    let u := (s.dropRing port).registerRing port qp va rkey slots size tag i
    exec (.feedRingSet r port qp va rkey slots size tag) s = .next (u.answer r 0x0350 .ok
      (match u.ring? port with | some g => g.credit | none => 0) (natLe 4 (u.rkeyOf i) ++ natLe 4 0)) := by
  have hpair : (s.rqp? qp).isNone = false := Option.isNone_eq_false_iff.mpr hpair
  have hroom : ((s.dropRing port).highestFree 16383).isNone = false := by rw [hfree, Option.isNone_some]
  obtain rfl : ((s.dropRing port).highestFree 16383).getD 0 = i := by rw [hfree, Option.getD_some]
  refine congrArg Host.Outcome.next (finish_of_checks_pass hform ?_ _)
  simp only [List.forall_mem_cons, List.not_mem_nil, outside_eq_false, hnew, hport, hbounds, hpair, hroom, hlo, hhi, hsmall, hlarge,
    hpages, htag, Bool.or_eq_false_iff, Bool.not_true, decide_eq_false_iff_not, ne_eq, not_true_eq_false, not_false_eq_true,
    false_implies, implies_true, and_self]

theorem feedRingClear_of_unplanned {port : Nat} (hform : FormOk s r 0x0351) (hport : s.isAccel port = true)
    (hring : (s.ring? port).isSome = true) (hunplanned : s.portPlanned port = false) :
    exec (.feedRingClear r port) s = .next ((s.dropRing port).answer r 0x0351 .ok) := by
  have hring : (s.ring? port).isNone = false := Option.isNone_eq_false_iff.mpr hring
  refine congrArg Host.Outcome.next (finish_of_checks_pass hform ?_ _)
  simp only [List.forall_mem_cons, List.not_mem_nil, hport, hring, hunplanned, Bool.not_true, false_implies, implies_true, and_self]

section
variable {d depth low : Nat} (hform : FormOk s r 0x0352) (hlo : 1 ≤ depth) (hhi : depth ≤ 64) (hlow : low ≤ depth)
include hform hlo hhi hlow

/-- FEED_QUEUE_SET with DEST in range, for either form of DEST (R296). -/
theorem feedQueueSet_of_range (hd : d ≤ 14335 ∨ d = 0xFFFF) : exec (.feedQueueSet r d depth low) s
    = .next ((if d = 0xFFFF then s.setPipe { s.pipe with queueSets := [], queueDepth := depth, lowWater := low }
        else s.setPipe { s.pipe with
          queueSets := s.pipe.queueSets.filter (fun q => decide (q.1 ≠ d)) ++ [(d, depth, low)] }).answer r 0x0352 .ok) := by
  refine congrArg Host.Outcome.next (finish_of_checks_pass hform ?_ _)
  have hdest : ¬(14335 < d ∧ d ≠ 0xFFFF) := fun ⟨hlarge, hother⟩ => hother (hd.resolve_left (Nat.not_le.mpr hlarge))
  simp only [List.forall_mem_cons, List.not_mem_nil, outside_eq_false, ← Bool.decide_and, decide_eq_false_iff_not, hdest,
    hlo, hhi, Nat.not_lt.mpr hlow, not_false_eq_true, false_implies, implies_true, and_self]

theorem feedQueueSet_of_dest (hd : d ≤ 14335) : exec (.feedQueueSet r d depth low) s
    = .next ((s.setPipe { s.pipe with
        queueSets := s.pipe.queueSets.filter (fun q => decide (q.1 ≠ d)) ++ [(d, depth, low)] }).answer r 0x0352 .ok) := by
  rw [feedQueueSet_of_range hform hlo hhi hlow (.inl hd), if_neg (by omega)]

theorem feedQueueSet_of_all (hd : d = 0xFFFF) : exec (.feedQueueSet r d depth low) s
    = .next ((s.setPipe { s.pipe with queueSets := [], queueDepth := depth, lowWater := low }).answer r 0x0352 .ok) := by
  rw [feedQueueSet_of_range hform hlo hhi hlow (.inr hd), if_pos hd]

end

theorem feedStatus_of_dest {d : Nat} {q : DestQueue} (hform : FormOk s r 0x0353) (hd : d ≤ 14335) (hq : s.destQ? d = some q) :
    exec (.feedStatus r d) s = .next (s.answer r 0x0353 .ok 0 [] (s.feedReport q)) := by
  have hone : d ≠ 0xFFFF := by omega
  have hrange : ¬14335 < d := Nat.not_lt.mpr hd
  show execFeedStatus r d s = _
  simp only [execFeedStatus, hone, hq, Option.toList_some, List.flatMap_singleton, ↓reduceIte]
  refine congrArg Host.Outcome.next (finish_of_checks_pass hform ?_ _)
  simp only [List.forall_mem_cons, List.not_mem_nil, hrange, decide_false, Bool.false_and, List.isEmpty_cons, Bool.and_false,
    false_implies, implies_true, and_self]

/-! ### The commands of the synthetic path (R307, R308) -/

theorem synthConfig_of_range {pool ds next z1 z2 recs bytes : Nat} (hform : FormOk s r 0x0354) (hpool : pool ≤ 63) (hds : ds ≠ 0)
    (hnext : next < 2 ^ 48) (hzones : z1 ≤ z2) (hzone : z2 < s.media.zoneCount) (hlo : 1 ≤ recs) (hhi : recs ≤ 16777216)
    (hsmall : 1048576 ≤ bytes) (hlarge : bytes ≤ 1073741824) (hpages : bytes % 4096 = 0) (hthere : (s.pool? pool).isSome = true)
    (hidle : s.pipe.synth.building = none) :
    exec (.synthConfig r pool ds next z1 z2 recs bytes) s = .next ((s.setSynth { s.pipe.synth with
      config := some (pool, ds, z1, z2, recs, bytes), nextRecord := next, zone := z1, stopped := false }).answer r 0x0354 .ok) := by
  have hthere : (s.pool? pool).isNone = false := Option.isNone_eq_false_iff.mpr hthere
  have hpool : ¬63 < pool := Nat.not_lt.mpr hpool
  have hnext : ¬2 ^ 48 ≤ next := Nat.not_le.mpr hnext
  have hfirst : ¬s.media.zoneCount ≤ z1 := Nat.not_le.mpr (Nat.lt_of_le_of_lt hzones hzone)
  have hlast : z2 ≤ s.media.zoneCount - 1 := Nat.le_sub_one_of_lt hzone
  refine congrArg Host.Outcome.next (finish_of_checks_pass hform ?_ _)
  simp only [List.forall_mem_cons, List.not_mem_nil, outside_eq_false, hpool, hds, hnext, hfirst, hzones, hlast, hlo, hhi, hsmall,
    hlarge, hpages, hthere, hidle, Bool.or_eq_false_iff, decide_eq_false_iff_not, Option.isSome_none, ne_eq, not_true_eq_false,
    not_false_eq_true, false_implies, implies_true, and_self]

/-- SYNTH_FLUSH: the command waits in the list of flushes while the Ingot being built closes. -/
theorem synthFlush_of_formOk (hform : FormOk s r 0x0355) :
    let u := s.answerInProgress r 0x0355 []
    exec (.synthFlush r) s = .next (u.setSynth { u.pipe.synth with flushes := u.pipe.synth.flushes
      ++ [(r, if u.pipe.synth.building.isSome then none else some u.pipe.synth.ingots)] }).closeIngot.synthDurable :=
  congrArg Host.Outcome.next (finish_ok hform _)

theorem synthStatus_of_formOk (hform : FormOk s r 0x0356) :
    exec (.synthStatus r) s = .next (s.answer r 0x0356 .ok 0 [] ([s.pipe.synth.received, s.pipe.synth.kept]
      ++ (List.range 6).map (fun i => lookupD s.pipe.synth.drops (i + 1) 0)
      ++ [s.pipe.synth.records, s.pipe.synth.ingots, s.pipe.synth.nextRecord])) :=
  congrArg Host.Outcome.next (finish_ok hform _)

end

theorem ingotClose_of_due {s : State} (h : s.pipe.synth.due = true) : exec .ingotClose s = .next s.closeIngot.synthDurable :=
  congrArg Host.Outcome.next (if_pos h)

/-- Settles O19: a batch from its start to its credit, then the commands of the feed and of the synthetic path. -/
theorem batchesAndFeedRun : Obligations.BatchesAndFeedRun := by
  unfold Obligations.BatchesAndFeedRun
  refine ⟨⟨?start, ?close, ?write, ?credit⟩,
    ⟨?ringSet, ?ringClear, ?queueSet, ?feedStatus, ?synthConfig, ?synthFlush, ?synthStatus, ?ingotClose⟩⟩
  case start =>
    intro s d recipe x q p hq hsegment hrecipe hprepare hlast hdepth hlocal hahead
    obtain rfl := destQOrNew_dest hq
    exact batchStart_of_ahead hq hsegment hrecipe hprepare hlast hdepth hlocal hahead
  case close => exact fun s d q b rest k => batchClose_of_settled
  case write => exact fun s d q b g => feedSlotWrite_of_ready
  case credit =>
    exact fun s port g hring => ⟨creditRead_of_unchanged hring,
      fun hnew haccepts => ⟨_, creditRead_of_accepted hring hnew haccepts, rfl⟩,
      fun hnew hignores hrun => ⟨_, creditRead_of_eighth_ignored hring hnew hignores hrun⟩⟩
  case ringSet => exact fun s r port qp va rkey slots size tag i => feedRingSet_of_new
  case ringClear => exact fun s r port => feedRingClear_of_unplanned
  case queueSet =>
    exact fun s r d depth low hform hlo hhi hlow =>
      ⟨feedQueueSet_of_dest hform hlo hhi hlow, feedQueueSet_of_all hform hlo hhi hlow⟩
  case feedStatus => exact fun s r d q => feedStatus_of_dest
  case synthConfig => exact fun s r pool ds next z1 z2 recs bytes => synthConfig_of_range
  case synthFlush => exact fun s r => synthFlush_of_formOk
  case synthStatus => exact fun s r => synthStatus_of_formOk
  case ingotClose => exact fun s => ingotClose_of_due

end Sys2Proof.Machine
end

section
/-! Family `11_number_formats_and_rounding.md`: the format table and the program commands, the issue of an instruction, and the
control instructions (R335, R336, R347, R350, R351, R355, R357, R358, R370, R638; that a row acts only in its turn from log entry
26, that the FAULT_PC of INSN_BUDGET is a free value from log entry 4).

An instruction is issued in two moves: its context is put back, then its launch's grant is shared. Each has its own rules for
what a context is found to be; a control instruction then only has to give its context. -/

namespace Sys2Proof.Machine

/-! ### The format table and the program commands (R335, R355, R357, R358) -/

section
variable {s : State} {r : Req}

theorem lookupD_of_lookup? {α β : Type} [DecidableEq α] {l : List (α × β)} {k : α} {v : β} (h : lookup? l k = some v)
    (d : β) : lookupD l k d = v := by
  obtain ⟨p, hp, rfl⟩ := Option.map_eq_some_iff.mp h
  simp only [lookupD, hp]

theorem programKnown_of_loaded {h : Nat} (hloaded : (lookup? s.ngayx.programs h).isSome = true) : s.programKnown h = true := by
  simp only [State.programKnown, hloaded, Bool.or_true]

theorem programKnown_of_builtin {h : Nat} (hlo : 64 ≤ h) (hhi : h ≤ 67) : s.programKnown h = true := by
  simp only [State.programKnown, hlo, hhi, decide_true, Bool.and_self, Bool.true_or]

theorem formatTableRead_of_formOk (hform : FormOk s r 0x0110) :
    exec (.formatTableRead r) s = .next (s.answer r 0x0110 .ok 0 (numberFormats ++ sha256 numberFormats)) :=
  congrArg Host.Outcome.next (finish_ok hform _)

/-- The two checks of PROGRAM_READ (R358). -/
theorem finish_programRead_of_known {h : Nat} (hform : FormOk s r 0x0503) (hh : h ≤ 79) (hknown : s.programKnown h = true)
    (effect : State) :
    s.finish r 0x0503 (firstReject [(decide (79 < h), badParam 0), (!s.programKnown h, ⟨.notFound, 0⟩)]) effect = effect :=
  finish_of_checks_pass hform (by simp [hknown, hh]) effect

theorem programRead_of_loaded {h : Nat} {image : Bytes} (hform : FormOk s r 0x0503) (hh : h ≤ 63)
    (hloaded : lookup? s.ngayx.programs h = some image) :
    exec (.programRead r h) s = .next (s.answer r 0x0503 .ok 0 (image.take 64 ++ sha256 image) [s.programRuns h]) := by
  have hknown : s.programKnown h = true := programKnown_of_loaded (by rw [hloaded, Option.isSome_some])
  show execProgramRead r h s = _
  simp only [execProgramRead, finish_programRead_of_known hform (show h ≤ 79 by omega) hknown, lookupD_of_lookup? hloaded,
    show ¬64 ≤ h by omega, ↓reduceIte]

/-- The declaration of a built-in program and its active launches, as PROGRAM_READ gives them (R358). -/
def State.builtinReport (s : State) (h : Nat) : List Nat :=
  [builtinDeclared.maxChunk, builtinDeclared.pipeDepth, builtinDeclared.ctxCopies, builtinDeclared.scratch, s.programRuns h]

theorem programRead_of_builtin {h : Nat} (hform : FormOk s r 0x0503) (hlo : 64 ≤ h) (hhi : h ≤ 67) :
    exec (.programRead r h) s = .next (s.answer r 0x0503 .ok 0 [] (s.builtinReport h)) := by
  show execProgramRead r h s = _
  simp only [execProgramRead, finish_programRead_of_known hform (show h ≤ 79 by omega) (programKnown_of_builtin hlo hhi), hlo,
    ↓reduceIte]
  rfl

section
variable {c h : Nat} (hform : FormOk s r 0x0504) (hm : MayManage s r) (hchannel : s.isHeld (.channel c) = false)
  (hprogram : s.isHeld (.program h) = false) (hlo : 8 ≤ c) (hhi : c ≤ 1023)
include hform hm hchannel hprogram hlo hhi

/-- CHANNEL_PROGRAM_SET of a known program or of none, for either effect on the bindings. -/
theorem channelProgramSet_of_checks_pass (hrange : h ≤ 79 ∨ h = 0xFFFF) (hknown : h ≠ 0xFFFF → s.programKnown h = true) :
    exec (.channelProgramSet r c h) s = .next ((State.recordNow { s with ngayx := { s.ngayx with
      bindings := if h = 0xFFFF then erase s.ngayx.bindings c else assign s.ngayx.bindings c h } }).forward r 0x0504
        (natLe 2 c ++ natLe 2 h)) := by
  have hrange : ¬(79 < h ∧ h ≠ 0xFFFF) := fun ⟨hlarge, hother⟩ => hother (hrange.resolve_left (Nat.not_le.mpr hlarge))
  refine congrArg Host.Outcome.next (finish_of_checks_pass hform ?_ _)
  simpa [State.heldBusy, (notManager_fst s r).mpr hm, hchannel, hprogram, hlo, hhi] using ⟨by omega, hknown⟩

theorem channelProgramSet_of_known (hh : h ≤ 79) (hknown : s.programKnown h = true) :
    exec (.channelProgramSet r c h) s = .next ((State.recordNow { s with ngayx := { s.ngayx with
      bindings := assign s.ngayx.bindings c h } }).forward r 0x0504 (natLe 2 c ++ natLe 2 h)) := by
  rw [channelProgramSet_of_checks_pass hform hm hchannel hprogram hlo hhi (.inl hh) (fun _ => hknown), if_neg (by omega)]

theorem channelProgramSet_of_none (hh : h = 0xFFFF) :
    exec (.channelProgramSet r c h) s = .next ((State.recordNow { s with ngayx := { s.ngayx with
      bindings := erase s.ngayx.bindings c } }).forward r 0x0504 (natLe 2 c ++ natLe 2 h)) := by
  rw [channelProgramSet_of_checks_pass hform hm hchannel hprogram hlo hhi (.inr hh) (fun h' => absurd hh h'), if_pos hh]

end

end

/-! ### The contexts after an update (R336, R347) -/

theorem length_updateFirst {α : Type} (p : α → Bool) (f : α → α) (l : List α) : (updateFirst p f l).length = l.length := by
  induction l with
  | nil => rfl
  | cons x xs ih => by_cases hx : p x = true <;> simp [updateFirst, hx, ih]

theorem ctx?_id {s : State} {k : Nat} {c : NgCtx} (h : s.ctx? k = some c) : c.id = k := by
  simpa only [decide_eq_true_eq] using List.find?_some h

/-- A context put back is found under its number, and every other as before. -/
theorem setCtx_ctx? {s : State} {c y : NgCtx} (h : s.ctx? c.id = some y) (k : Nat) :
    (s.setCtx c).ctx? k = if k = c.id then some c else s.ctx? k :=
  find?_updateFirst_key NgCtx.id h rfl k

/-- A context with a launch's grant as given, if it runs for that launch (R347). -/
def NgCtx.granted (launch : Nat) (g : Memory) (x : NgCtx) : NgCtx := match x.run with
  | .node l _ _ _ _ => if l = launch then { x with grant := g } else x
  | .kernel _ _ _ => x

/-- A launch with its grant as given, if it is that launch. -/
def Launch.granted (launch : Nat) (g : Memory) (l : Launch) : Launch := if l.id = launch then { l with grant := g } else l

section
variable (launch : Nat) (g : Memory)

/-- Sharing a grant changes no more of a context than its grant. -/
theorem NgCtx.granted_eq (x : NgCtx) : x.granted launch g = { x with grant := (x.granted launch g).grant } := by
  unfold NgCtx.granted
  split
  · split <;> rfl
  · rfl

@[simp] theorem NgCtx.granted_id (x : NgCtx) : (x.granted launch g).id = x.id := by rw [NgCtx.granted_eq]

variable {launch}

theorem NgCtx.granted_of_node {x : NgCtx} {chunk level node cr : Nat} (h : x.run = .node launch chunk level node cr) :
    x.granted launch g = { x with grant := g } := by
  simp only [NgCtx.granted, h, ↓reduceIte]

theorem NgCtx.granted_of_other {x : NgCtx} (h : ∀ a b d e, x.run ≠ .node launch a b d e) : x.granted launch g = x := by
  unfold NgCtx.granted
  split
  next l a b d e hrun => exact if_neg (fun hl : l = launch => h a b d e (hl ▸ hrun))
  next => rfl

variable (launch)

theorem Launch.granted_eq (l : Launch) : l.granted launch g = { l with grant := (l.granted launch g).grant } := by
  unfold Launch.granted
  split <;> rfl

theorem shareGrant_contexts (s : State) : (s.shareGrant launch g).ngayx.contexts = s.ngayx.contexts.map (NgCtx.granted launch g) :=
  rfl

theorem shareGrant_launches (s : State) : (s.shareGrant launch g).coll.launches = s.coll.launches.map (Launch.granted launch g) :=
  rfl

theorem shareGrant_ctx? (s : State) (k : Nat) : (s.shareGrant launch g).ctx? k = (s.ctx? k).map (NgCtx.granted launch g) := by
  simp only [State.ctx?, shareGrant_contexts, List.find?_map, Function.comp_def, NgCtx.granted_id]

end

/-! ### The issue of an instruction (R336, R347, R350) -/

section
variable {s : State} {c : NgCtx} {launch chunk level node cr : Nat} (hrun : c.run = .node launch chunk level node cr)
include hrun

theorem issued_of_node : s.issued c = (s.setCtx c).shareGrant launch c.grant := by
  simp only [State.issued, hrun]

section
variable {y : NgCtx} (h : s.ctx? c.id = some y)
include h

/-- The context that executed stands as the instruction left it. -/
theorem issued_ctx?_same : (s.issued c).ctx? c.id = some c := by
  rw [issued_of_node hrun, shareGrant_ctx?, setCtx_ctx? h, if_pos rfl, Option.map_some, NgCtx.granted_of_node _ hrun]

/-- Every other context keeps all but the grant that its launch shares. -/
theorem issued_ctx?_other {k : Nat} {z : NgCtx} (hk : k ≠ c.id) (hz : s.ctx? k = some z) :
    (s.issued c).ctx? k = some (z.granted launch c.grant) := by
  rw [issued_of_node hrun, shareGrant_ctx?, setCtx_ctx? h, if_neg hk, hz, Option.map_some]

end

theorem issued_contexts_length : (s.issued c).ngayx.contexts.length = s.ngayx.contexts.length := by
  rw [issued_of_node hrun, shareGrant_contexts, List.length_map]
  exact length_updateFirst ..

/-- The arbiter of the context's executor goes on from it (R92, R336). -/
theorem issued_arbs : (s.issued c).ngayx.arbs
    = s.ngayx.arbs.set (executorOf c.id).1 (arbNext (executorOf c.id).2.2 (executorOf c.id).2.1) := by
  rw [issued_of_node hrun]
  rfl

/-- Nothing changes but contexts, arbiters and launches. -/
theorem issued_frame : s.issued c
    = { s with ngayx := { s.ngayx with contexts := (s.issued c).ngayx.contexts, arbs := (s.issued c).ngayx.arbs }
               coll := { s.coll with launches := (s.issued c).coll.launches } } := by
  rw [issued_of_node hrun]
  rfl

/-- Nothing of a launch changes but the grant of the one the instruction ran for. -/
theorem issued_launches : ∀ z ∈ (s.issued c).coll.launches,
    ∃ o ∈ s.coll.launches, z = { o with grant := z.grant } ∧ (o.id ≠ launch → z = o) := by
  rw [issued_of_node hrun, shareGrant_launches]
  intro z hz
  obtain ⟨o, ho, rfl⟩ := List.mem_map.mp hz
  exact ⟨o, ho, o.granted_eq .., fun hother => if_neg hother⟩

end

section
variable {s : State} {ctx op : Nat} {w : Fields}

/-- A command that names another instruction than the one at the PC, or no context, changes nothing (R350, log entry 26). -/
theorem issue_of_not_about (f : Bytes → NgCtx → NgCtx) (h : ∀ c, s.ctx? ctx = some c → c.about op w = false) :
    s.issue ctx op w f = s := by
  unfold State.issue
  split
  · rfl
  next c hc => exact if_neg (Bool.eq_false_iff.mp (h c hc))

theorem issue_of_issues {c : NgCtx} (h : Issues s ctx op w c) (f : Bytes → NgCtx → NgCtx) :
    s.issue ctx op w f = s.issued (f s.jobKey c) := by
  obtain ⟨hctx, habout⟩ := h
  simp only [State.issue, hctx, habout, ↓reduceIte]

/-- A row that issues an instruction at the context's PC leaves the context that the instruction gives. -/
theorem next_issue_eq {c x : NgCtx} {f : Bytes → NgCtx → NgCtx} (h : Issues s ctx op w c) (hf : f s.jobKey c = x) :
    (Host.Outcome.next (s.issue ctx op w f) : Out) = .next (s.issued x) := by
  rw [issue_of_issues h, hf]

end

/-! ### The instruction bound (R350, R351) -/

/-- A node's context that has spent its budget (log entry 4: the PC that it records is a free value). -/
def NgCtx.overBudget (c : NgCtx) (pc : Nat) : NgCtx := { c with bound := true, fault := 1, faultPc := pc }

theorem insnBoundReached_of_spent {s : State} {ctx launch chunk level node cr : Nat} {c : NgCtx} (h : s.ctx? ctx = some c)
    (hrun : c.run = .node launch chunk level node cr) (hrunning : c.ended = false) (hspent : c.budget ≤ c.executed) :
    exec (.insnBoundReached ctx) s = .next (s.used.setCtx (c.overBudget (s.free % 1024))) := by
  show execInsnBoundReached ctx s = _
  simp only [execInsnBoundReached, h, hrun, hrunning, hspent, NgCtx.overBudget, Bool.not_false, decide_true,
    Bool.and_self, ↓reduceIte]

theorem overBudget_ended (c : NgCtx) (pc : Nat) : (c.overBudget pc).ended = true := by
  simp only [NgCtx.ended, NgCtx.overBudget, Bool.or_true, Bool.true_or]

theorem setCtx_overBudget_ctx? {s : State} {ctx : Nat} {c : NgCtx} (h : s.ctx? ctx = some c) (pc : Nat) :
    (s.used.setCtx (c.overBudget pc)).ctx? ctx = some (c.overBudget pc) := by
  obtain rfl := ctx?_id h
  exact (setCtx_ctx? (c := c.overBudget pc) (s := s.used) h c.id).trans (if_pos rfl)

/-! ### Scalar registers as words (R338, R372) -/

section
variable {c : NgCtx} (n : Nat)

theorem sr_lt_of_fits (hfits : c.fits = true) : c.sr n < 2 ^ 64 := by
  simp only [NgCtx.fits, Bool.and_eq_true, List.all_eq_true, decide_eq_true_eq] at hfits
  obtain ⟨⟨-, hall⟩, -⟩ := hfits
  rw [NgCtx.sr, List.getD_eq_getElem?_getD]
  cases hn : c.s[n]? with
  | none => exact Nat.two_pow_pos 64
  | some v => exact hall v (List.mem_of_getElem? hn)

theorem toNat_word (hfits : c.fits = true) : (c.word n).toNat = c.sr n :=
  (BitVec.toNat_ofNat ..).trans (Nat.mod_eq_of_lt (sr_lt_of_fits n hfits))

theorem word_eq_zero_iff (hfits : c.fits = true) : c.word n = 0 ↔ c.sr n = 0 := by
  rw [← toNat_word n hfits]
  exact BitVec.toNat_inj.symm

/-- One less than a register, as LOOP counts it (R370). -/
theorem toNat_word_sub_one (c : NgCtx) : (c.word n - 1).toNat = (c.sr n + (2 ^ 64 - 1)) % 2 ^ 64 := by
  rw [NgCtx.word, BitVec.toNat_sub, BitVec.toNat_ofNat]
  simp only [BitVec.ofNat_eq_ofNat, BitVec.toNat_ofNat]
  omega

end

/-! ### The control instructions (R370) -/

theorem branch_eq_branchAfter (x : NgCtx) (w : Fields) (taken : Bool) : x.branch w taken = x.branchAfter taken (w.imm % 1024) := by
  cases taken <;> rfl

theorem anyBit_iff (c : NgCtx) (w : Fields) : c.anyBit w = true ↔ ∃ i, i < lanes w.fmt ∧ bitOf (c.pr w.a) i = true := by
  simp only [NgCtx.anyBit, List.any_eq_true, List.mem_range]

/-- LOOP's branch is taken while the register, counted down, is not 0. -/
theorem loop_taken_eq (c : NgCtx) (n : Nat) : decide ((c.sr n + (2 ^ 64 - 1)) % 2 ^ 64 ≠ 0) = (c.word n != 1) := by
  rw [← toNat_word_sub_one, Bool.eq_iff_iff, decide_eq_true_iff, bne_iff_ne]
  exact not_congr ((BitVec.toNat_inj (y := 0)).trans sub_eq_zero)

section
variable {s : State} {ctx : Nat} {w : Fields} {c : NgCtx}

theorem halt_of_issues (h : Issues s ctx 0x01 w c) :
    exec (.halt ctx w) s = .next (s.issued { c with halted := true, executed := c.executed + 1 }) :=
  next_issue_eq h rfl

theorem br_of_issues (h : Issues s ctx 0x02 w c) : exec (.br ctx w) s = .next (s.issued (c.branchAfter true (w.imm % 1024))) :=
  next_issue_eq h rfl

theorem brz_of_issues (hfits : c.fits = true) (h : Issues s ctx 0x03 w c) :
    exec (.brz ctx w) s = .next (s.issued (c.branchAfter (c.word w.a == 0) (w.imm % 1024))) := by
  refine next_issue_eq h ?_
  rw [branch_eq_branchAfter, beq_eq_decide, decide_eq_decide.mpr (word_eq_zero_iff w.a hfits)]

theorem brnz_of_issues (hfits : c.fits = true) (h : Issues s ctx 0x04 w c) :
    exec (.brnz ctx w) s = .next (s.issued (c.branchAfter (c.word w.a != 0) (w.imm % 1024))) := by
  refine next_issue_eq h ?_
  have htaken : decide (c.sr w.a ≠ 0) = (c.word w.a != 0) := by
    rw [Bool.eq_iff_iff, decide_eq_true_iff, bne_iff_ne, ne_eq, ne_eq, word_eq_zero_iff w.a hfits]
  rw [branch_eq_branchAfter, htaken]

theorem brany_of_issues (h : Issues s ctx 0x05 w c) :
    exec (.brany ctx w) s = .next (s.issued (c.branchAfter (c.anyBit w) (w.imm % 1024))) :=
  next_issue_eq h (branch_eq_branchAfter ..)

theorem brnone_of_issues (h : Issues s ctx 0x06 w c) :
    exec (.brnone ctx w) s = .next (s.issued (c.branchAfter (!c.anyBit w) (w.imm % 1024))) :=
  next_issue_eq h (branch_eq_branchAfter ..)

theorem brend_of_issues (h : Issues s ctx 0x07 w c) :
    exec (.brend ctx w) s = .next (s.issued (c.branchAfter (c.ins.getD w.a {}).ended (w.imm % 1024))) :=
  next_issue_eq h (branch_eq_branchAfter ..)

theorem loop_of_issues (h : Issues s ctx 0x08 w c) : exec (.loop ctx w) s = .next (s.issued
    { c.branchAfter (c.word w.a != 1) (w.imm % 1024) with s := c.s.set w.a (c.word w.a - 1).toNat }) := by
  refine next_issue_eq h ?_
  rw [branch_eq_branchAfter, loop_taken_eq, toNat_word_sub_one]
  rfl

theorem stset_of_issues (h : Issues s ctx 0x09 w c) :
    exec (.stset ctx w) s = .next (s.issued { c.after with user := w.imm % 2 ^ 16 }) :=
  next_issue_eq h rfl

end

/-- Settles O20: the commands, then the frame of an issued instruction, then the control instructions one by one. -/
theorem programsAndControlRun : Obligations.ProgramsAndControlRun := by
  unfold Obligations.ProgramsAndControlRun
  refine ⟨⟨?table, ?read, ?readBuiltin, ?bind, ?bound⟩, ⟨?otherWord, ?frame⟩, ?control⟩
  case table => exact fun s r => formatTableRead_of_formOk
  case read => exact fun s r h image => programRead_of_loaded
  case readBuiltin => exact fun s r h hform hlo hhi => ⟨_, programRead_of_builtin hform hlo hhi, rfl⟩
  case bind =>
    exact fun s r c h hform hm hchannel hprogram hlo hhi =>
      ⟨channelProgramSet_of_known hform hm hchannel hprogram hlo hhi,
        channelProgramSet_of_none hform hm hchannel hprogram hlo hhi⟩
  case bound =>
    exact fun s ctx launch chunk node tree idx c hctx hrun hrunning hspent =>
      ⟨_, _, insnBoundReached_of_spent hctx hrun hrunning hspent, setCtx_overBudget_ctx? hctx _, rfl, overBudget_ended ..,
        rfl, rfl, rfl⟩
  case otherWord => exact fun s ctx op w f => issue_of_not_about f
  case frame =>
    intro s c y l chunk level node cr hctx hy hsame
    have hrun : c.run = .node l chunk level node cr := hsame.trans hy
    refine ⟨issued_ctx?_same hrun hctx, issued_contexts_length hrun, fun k z hk hz => ?_, issued_arbs hrun, issued_frame hrun,
      issued_launches hrun⟩
    refine ⟨(z.granted l c.grant).grant, ?_, fun hother => congrArg NgCtx.grant (NgCtx.granted_of_other _ hother)⟩
    rw [issued_ctx?_other hrun hctx hk hz, ← NgCtx.granted_eq]
  case control =>
    intro s ctx w c hfits _
    refine ⟨halt_of_issues, br_of_issues, brz_of_issues hfits, brnz_of_issues hfits, fun b hb => ?_, brend_of_issues,
      loop_of_issues, stset_of_issues⟩
    obtain rfl : b = c.anyBit w := Bool.eq_iff_iff.mpr (hb.trans (anyBit_iff c w).symm)
    exact ⟨brany_of_issues, brnone_of_issues⟩

end Sys2Proof.Machine
end

section
/-! Family `12_ngayx_programming_model.md`: the fields of an instruction word (R360). -/

namespace Sys2Proof.Machine

/-! ### The instruction word (R360) -/

section
variable {op : Nat} {w : Fields}

theorem Fields.wf_iff : w.wf = true ↔ w.d < 16 ∧ w.a < 16 ∧ w.b < 16 ∧ w.c < 16 ∧ w.p < 8 ∧ w.pe < 2 ∧ w.f < 32 ∧ w.rm < 4 ∧
    w.imm < 2 ^ 28 := by
  simp [Fields.wf, below, and_assoc]

theorem fieldsOf_wordOf (hop : op < 256) (hw : w.wf = true) : fieldsOf (wordOf op w) = w := by
  obtain ⟨hd, ha, hb, hc, hp, hpe, hf, hrm, himm⟩ := Fields.wf_iff.mp hw
  simp only [fieldsOf, wordOf, bitsOf]
  cases w
  simp only [Fields.mk.injEq] at *
  refine ⟨?_, ?_, ?_, ?_, ?_, ?_, ?_, ?_, ?_⟩ <;> omega

theorem opOf_wordOf (hop : op < 256) : opOf (wordOf op w) = op := by
  unfold opOf wordOf
  omega

theorem reserved_bit_wordOf (hop : op < 256) (hw : w.wf = true) : bitOf (wordOf op w) 35 = false := by
  obtain ⟨hd, ha, hb, hc, hp, hpe, hf, hrm, -⟩ := Fields.wf_iff.mp hw
  unfold bitOf wordOf
  exact decide_eq_false (by omega)

theorem wordOf_lt (hop : op < 256) (hw : w.wf = true) : wordOf op w < 2 ^ 64 := by
  obtain ⟨hd, ha, hb, hc, hp, hpe, hf, hrm, himm⟩ := Fields.wf_iff.mp hw
  unfold wordOf
  omega

/-- A word whose reserved bit is 0 is spelt by its own opcode and fields. -/
theorem wordOf_opOf_fieldsOf {word : Nat} (hword : word < 2 ^ 64) (hreserved : bitOf word 35 = false) :
    wordOf (opOf word) (fieldsOf word) = word := by
  simp only [bitOf, decide_eq_false_iff_not] at hreserved
  simp only [wordOf, opOf, fieldsOf, bitsOf]
  omega

end

/-- Settles O26: each field is read back from its own place in the word, and reserved bit 35 is the one place no field fills. -/
theorem ngayxWordRoundTrip : Obligations.NgayxWordRoundTrip := by
  unfold Obligations.NgayxWordRoundTrip
  exact fun op w hop hw => ⟨fieldsOf_wordOf hop hw, opOf_wordOf hop, reserved_bit_wordOf hop hw, wordOf_lt hop hw,
    fun word => wordOf_opOf_fieldsOf⟩

end Sys2Proof.Machine
end

section
/-! Family `13_ngayx_instruction_reference.md`: the scalar and predicate instructions, context memory, gathers, and the instructions
of the stream ports (R339, R341 to R343, R347, R362, R363, R372, R384 to R390). -/

namespace Sys2Proof.Machine

/-! ### Lanes (R310, R339) -/

section
variable {b : Nat}

theorem packElems_lt (cs : List Nat) : packElems b cs < 2 ^ (b * cs.length) := by
  induction cs with
  | nil => simp [packElems]
  | cons c cs ih =>
    have hc : c % 2 ^ b < 2 ^ b := Nat.mod_lt _ (Nat.two_pow_pos b)
    have hpow : 2 ^ (b * (cs.length + 1)) = 2 ^ b * 2 ^ (b * cs.length) := by rw [Nat.mul_succ, Nat.add_comm, Nat.pow_add]
    have hmul : 2 ^ b * (packElems b cs + 1) ≤ 2 ^ b * 2 ^ (b * cs.length) := Nat.mul_le_mul_left _ ih
    rw [Nat.mul_succ] at hmul
    show c % 2 ^ b + 2 ^ b * packElems b cs < _
    rw [List.length_cons, hpow]
    omega

/-- A packed element is read back at its own place, and 0 beyond the last. -/
theorem packElems_lane (cs : List Nat) (i : Nat) : packElems b cs / 2 ^ (b * i) % 2 ^ b = cs.getD i 0 % 2 ^ b := by
  induction cs generalizing i with
  | nil => simp [packElems]
  | cons c cs ih =>
    show (c % 2 ^ b + 2 ^ b * packElems b cs) / 2 ^ (b * i) % 2 ^ b = _
    cases i with
    | zero => simp
    | succ i =>
      rw [Nat.mul_succ, Nat.add_comm (b * i), Nat.pow_add, ← Nat.div_div_eq_div_mul, Nat.add_mul_div_left _ _ (Nat.two_pow_pos b),
        Nat.div_eq_of_lt (Nat.mod_lt _ (Nat.two_pow_pos b)), Nat.zero_add, ih, List.getD_cons_succ]

@[simp] theorem length_unpackElems (n v : Nat) : (unpackElems b n v).length = n := by
  induction n generalizing v with
  | zero => rfl
  | succ n ih => simp [unpackElems, ih]

theorem getElem?_unpackElems {n i : Nat} (hi : i < n) (v : Nat) : (unpackElems b n v)[i]? = some (v / 2 ^ (b * i) % 2 ^ b) := by
  induction n generalizing v i with
  | zero => omega
  | succ n ih =>
    cases i with
    | zero => simp [unpackElems]
    | succ i =>
      rw [unpackElems, List.getElem?_cons_succ, ih (by omega), Nat.div_div_eq_div_mul, ← Nat.pow_add, Nat.mul_succ, Nat.add_comm b]

end

section
variable {f : Fmt}

theorem Fmt.bits_pos (f : Fmt) : 0 < f.bits := by cases f <;> decide

theorem Fmt.bits_le (f : Fmt) : f.bits ≤ 32 := by cases f <;> decide

/-- A register holds the lanes of a format that is no block format, and nothing beside them (R339). -/
theorem bits_mul_lanes (h : f.cls ≠ .blk) : f.bits * lanes f = 4096 := by
  revert h
  cases f <;> decide

theorem lanes_le (f : Fmt) : lanes f ≤ 1024 := by cases f <;> decide

theorem laneOf_lt (f : Fmt) (reg i : Nat) : laneOf f reg i < 2 ^ f.bits := Nat.mod_lt _ (Nat.two_pow_pos _)

@[simp] theorem length_laneCodes (reg : Nat) : (laneCodes f reg).length = lanes f := length_unpackElems ..

theorem laneCodes_getElem? {i : Nat} (hi : i < lanes f) (reg : Nat) : (laneCodes f reg)[i]? = some (laneOf f reg i) :=
  getElem?_unpackElems hi reg

theorem laneCodes_getD {i : Nat} (hi : i < lanes f) (reg d : Nat) : (laneCodes f reg).getD i d = laneOf f reg i := by
  rw [List.getD_eq_getElem?_getD, laneCodes_getElem? hi, Option.getD_some]

/-- The lanes of a register that was packed from codes. -/
theorem laneOf_packElems (cs : List Nat) (i : Nat) : laneOf f (packElems f.bits cs) i = cs.getD i 0 % 2 ^ f.bits := packElems_lane cs i

/-- As many codes as a register has lanes, or fewer, fit it. -/
theorem packElems_fits (h : f.cls ≠ .blk) {cs : List Nat} (hlen : cs.length ≤ lanes f) : packElems f.bits cs < 2 ^ 4096 := by
  have hbits : f.bits * cs.length ≤ 4096 := bits_mul_lanes h ▸ Nat.mul_le_mul_left _ hlen
  exact lt_of_lt_of_le (packElems_lt cs) (pow_le_pow_right₀ one_le_two hbits)

end

/-! ### Signed values -/

theorem signedOf_eq_toInt (n v : Nat) : signedOf n v = (BitVec.ofNat n v).toInt := by
  rw [BitVec.toInt_eq_toNat_cond, BitVec.toNat_ofNat, signedOf]
  cases n with
  | zero => simp [Nat.mod_one]
  | succ n =>
    have hpow : 2 ^ (n + 1) = 2 * 2 ^ n := by rw [Nat.pow_succ, Nat.mul_comm]
    rw [Nat.add_sub_cancel, hpow]
    split <;> split <;> omega

theorem wrapTo_eq_toNat (n : Nat) (v : Int) : wrapTo n v = (BitVec.ofInt n v).toNat := by
  rw [BitVec.toNat_ofInt]
  rfl

/-! ### The scalar instructions (R372) -/

section
variable {x : NgCtx} (d : Nat)

theorem setS_next (v : Nat) : (x.setS d v).next = x.scalarAfter d (BitVec.ofNat 64 v) := by
  simp only [NgCtx.scalarAfter, BitVec.toNat_ofNat]
  rfl

theorem setSi_next (v : Int) : (x.setSi d v).next = x.scalarAfter d (BitVec.ofInt 64 v) := by
  rw [NgCtx.setSi, setS_next, wrapTo_eq_toNat, BitVec.ofNat_toNat, BitVec.setWidth_eq]

end

section
variable {s : State} {ctx op : Nat} {w : Fields} {c : NgCtx}

/-- An instruction that computes a number modulo 2^64 into sD leaves the word of that number there. -/
theorem next_issue_setS {f : Bytes → NgCtx → NgCtx} {v : Nat} {u : BitVec 64} (h : Issues s ctx op w c)
    (hf : f s.jobKey c = (c.setS w.d v).next) (hv : BitVec.ofNat 64 v = u) :
    (Host.Outcome.next (s.issue ctx op w f) : Out) = .next (s.issued (c.scalarAfter w.d u)) :=
  next_issue_eq h (by rw [hf, setS_next, hv])

/-- The same for an instruction that computes an integer. -/
theorem next_issue_setSi {f : Bytes → NgCtx → NgCtx} {v : Int} {u : BitVec 64} (h : Issues s ctx op w c)
    (hf : f s.jobKey c = (c.setSi w.d v).next) (hv : BitVec.ofInt 64 v = u) :
    (Host.Outcome.next (s.issue ctx op w f) : Out) = .next (s.issued (c.scalarAfter w.d u)) :=
  next_issue_eq h (by rw [hf, setSi_next, hv])

end

/-- The condition of SCMP on words: 0 EQ, 1 NE, 2 LT, 3 LE signed, 4 LTU, 5 LEU (R372). -/
def wordCond (k : Nat) (a b : BitVec 64) : Bool :=
  match k with
  | 0 => a == b
  | 1 => a != b
  | 2 => a.slt b
  | 3 => a.sle b
  | 4 => a.ult b
  | _ => a.ule b

theorem simm_eq_toInt (w : Fields) : w.simm = (BitVec.ofNat 28 w.imm).toInt := signedOf_eq_toInt 28 w.imm

section
variable {c : NgCtx} {w : Fields}

theorem ofNat_shifted_upper (himm : w.imm < 2 ^ 28) :
    BitVec.ofNat 64 (c.sr w.d * 2 ^ 28 + w.imm) = (c.word w.d <<< 28) + (BitVec.ofNat 28 w.imm).setWidth 64 := by
  apply BitVec.eq_of_toNat_eq
  simp only [BitVec.toNat_ofNat, BitVec.toNat_add, BitVec.toNat_shiftLeft, BitVec.toNat_setWidth, NgCtx.word, Nat.shiftLeft_eq]
  omega

theorem ofInt_add_simm : BitVec.ofInt 64 ((c.sr w.a : Int) + w.simm) = c.word w.a + (BitVec.ofNat 28 w.imm).signExtend 64 := by
  rw [BitVec.ofInt_add, BitVec.ofInt_natCast, simm_eq_toInt]
  rfl

section
variable (hfits : c.fits = true) (a b : Nat)
include hfits

theorem ofNat_sub_wrapped : BitVec.ofNat 64 (c.sr a + 2 ^ 64 - c.sr b) = c.word a - c.word b := by
  have ha := sr_lt_of_fits a hfits
  have hb := sr_lt_of_fits b hfits
  apply BitVec.eq_of_toNat_eq
  rw [BitVec.toNat_sub, toNat_word a hfits, toNat_word b hfits, BitVec.toNat_ofNat]
  omega

theorem ofNat_shiftRight : BitVec.ofNat 64 (c.sr a / 2 ^ (c.sr b % 64)) = c.word a >>> ((c.word b).toNat % 64) := by
  have ha := sr_lt_of_fits a hfits
  apply BitVec.eq_of_toNat_eq
  rw [BitVec.toNat_ushiftRight, toNat_word a hfits, toNat_word b hfits, BitVec.toNat_ofNat, Nat.shiftRight_eq_div_pow,
    Nat.mod_eq_of_lt (Nat.lt_of_le_of_lt (Nat.div_le_self ..) ha)]

theorem ofNat_shiftLeft : BitVec.ofNat 64 (c.sr a * 2 ^ (c.sr b % 64)) = c.word a <<< ((c.word b).toNat % 64) := by
  apply BitVec.eq_of_toNat_eq
  rw [BitVec.toNat_shiftLeft, toNat_word a hfits, toNat_word b hfits, BitVec.toNat_ofNat, Nat.shiftLeft_eq]

theorem ofInt_sshiftRight :
    BitVec.ofInt 64 (signedOf 64 (c.sr a) / 2 ^ (c.sr b % 64)) = (c.word a).sshiftRight ((c.word b).toNat % 64) := by
  rw [signedOf_eq_toInt, toNat_word b hfits, BitVec.sshiftRight, Int.shiftRight_eq_div_pow]
  norm_cast

end

/-- SCMP compares the registers as words (R372). -/
theorem scalarCond_eq (hfits : c.fits = true) : ∀ k, scalarCond k (c.sr w.a) (c.sr w.b) = wordCond k (c.word w.a) (c.word w.b) := by
  have heq : c.sr w.a = c.sr w.b ↔ c.word w.a = c.word w.b := by
    rw [← BitVec.toNat_inj, toNat_word _ hfits, toNat_word _ hfits]
  have hlt (n m : Nat) : decide (signedOf 64 n < signedOf 64 m) = (BitVec.ofNat 64 n).slt (BitVec.ofNat 64 m) := by
    rw [signedOf_eq_toInt, signedOf_eq_toInt]
    rfl
  have hle (n m : Nat) : decide (signedOf 64 n ≤ signedOf 64 m) = (BitVec.ofNat 64 n).sle (BitVec.ofNat 64 m) := by
    rw [signedOf_eq_toInt, signedOf_eq_toInt]
    rfl
  intro k
  match k with
  | 0 => exact (decide_eq_decide.mpr heq).trans (beq_eq_decide ..).symm
  | 1 => simp only [scalarCond, wordCond, ne_eq, heq, bne, decide_not, beq_eq_decide]
  | 2 => exact hlt ..
  | 3 => exact hle ..
  | 4 => simp only [scalarCond, wordCond, BitVec.ult, toNat_word _ hfits]
  | n + 5 => simp only [scalarCond, wordCond, BitVec.ule, toNat_word _ hfits]

theorem getLane_next (hlane : w.imm % 1024 < lanes w.fmt) : c.getLane w = c.scalarAfter w.d
    (if w.fmt.cls = .flt then (BitVec.ofNat w.fmt.bits (laneOf w.fmt (c.vr w.a) (w.imm % 1024))).setWidth 64
      else (BitVec.ofNat w.fmt.bits (laneOf w.fmt (c.vr w.a) (w.imm % 1024))).signExtend 64) := by
  simp only [NgCtx.getLane, laneCodes_getD hlane]
  split
  · rw [setS_next]
    congr 1
    apply BitVec.eq_of_toNat_eq
    rw [BitVec.toNat_setWidth, BitVec.toNat_ofNat, BitVec.toNat_ofNat, Nat.mod_eq_of_lt (laneOf_lt ..)]
  · rw [setSi_next, signedOf_eq_toInt]
    rfl

end

/-! ### The predicate instructions (R363, R372) -/

section
variable {c : NgCtx} {w : Fields}

/-- What a predicate instruction leaves in pD. -/
def NgCtx.predicateBits (c : NgCtx) (w : Fields) (g : Nat → Bool) : Nat :=
  packElems 1 ((List.range (lanes w.fmt)).map (fun i => if (if c.gov w i then g i else bitOf (c.pr w.d) i) then 1 else 0))

theorem predicate_eq (g : Nat → Bool) : c.predicate w g = { c.after with p := c.p.set (w.d % 8) (c.predicateBits w g) } := rfl

theorem predicateBits_lt (g : Nat → Bool) : c.predicateBits w g < 2 ^ lanes w.fmt := by
  simpa [NgCtx.predicateBits] using packElems_lt (b := 1)
    ((List.range (lanes w.fmt)).map (fun i => if (if c.gov w i then g i else bitOf (c.pr w.d) i) then 1 else 0))

theorem bitOf_predicateBits (g : Nat → Bool) {i : Nat} (hi : i < lanes w.fmt) :
    bitOf (c.predicateBits w g) i = if c.gov w i then g i else bitOf (c.pr w.d) i := by
  have hlane := packElems_lane (b := 1)
    ((List.range (lanes w.fmt)).map (fun i => if (if c.gov w i then g i else bitOf (c.pr w.d) i) then 1 else 0)) i
  simp only [Nat.one_mul, Nat.pow_one, List.getD_eq_getElem?_getD, List.getElem?_map, List.getElem?_range hi, Option.map_some,
    Option.getD_some] at hlane
  show decide (c.predicateBits w g / 2 ^ i % 2 = 1) = _
  rw [NgCtx.predicateBits, hlane]
  cases (if c.gov w i then g i else bitOf (c.pr w.d) i) <;> rfl

theorem next_issue_predicate {s : State} {ctx op : Nat} {f : Bytes → NgCtx → NgCtx} {g : Nat → Bool} (h : Issues s ctx op w c)
    (hf : f s.jobKey c = c.predicate w g) : ∃ n : Nat,
      (Host.Outcome.next (s.issue ctx op w f) : Out) = .next (s.issued { c.after with p := c.p.set (w.d % 8) n }) ∧
      n < 2 ^ lanes w.fmt ∧ ∀ i, i < lanes w.fmt → bitOf n i = if c.gov w i then g i else bitOf (c.pr w.d) i :=
  ⟨c.predicateBits w g, next_issue_eq h hf, predicateBits_lt g, fun _ => bitOf_predicateBits g⟩

end

/-- Settles O21: a scalar instruction is arithmetic on the words of its registers; a predicate's bits are packed lane by lane. -/
theorem ngayxScalarsRun : Obligations.NgayxScalarsRun := by
  unfold Obligations.NgayxScalarsRun
  constructor
  · intro s ctx w c hfits hw
    obtain ⟨-, -, -, -, -, -, -, -, himm⟩ := Fields.wf_iff.mp hw
    refine ⟨?smovi, ?slui, ?sadd, ?saddi, ?ssub, ?smul, ?sand, ?sor, ?sxor, ?sshl, ?sshr, ?ssra, ?scmp, ?sget, ?pcnt⟩
    case smovi => exact fun h => next_issue_setSi h rfl (by rw [simm_eq_toInt]; rfl)
    case slui => exact fun h => next_issue_setS h rfl (ofNat_shifted_upper himm)
    case sadd => exact fun h => next_issue_setS h rfl (BitVec.ofNat_add ..)
    case saddi => exact fun h => next_issue_setSi h rfl ofInt_add_simm
    case ssub => exact fun h => next_issue_setS h rfl (ofNat_sub_wrapped hfits ..)
    case smul => exact fun h => next_issue_setS h rfl (BitVec.ofNat_mul ..)
    case sand => exact fun h => next_issue_setS h rfl BitVec.ofNat_and
    case sor => exact fun h => next_issue_setS h rfl BitVec.ofNat_or
    case sxor => exact fun h => next_issue_setS h rfl BitVec.ofNat_xor
    case sshl => exact fun h => next_issue_setS h rfl (ofNat_shiftLeft hfits ..)
    case sshr => exact fun h => next_issue_setS h rfl (ofNat_shiftRight hfits ..)
    case ssra => exact fun h => next_issue_setSi h rfl (ofInt_sshiftRight hfits ..)
    case scmp => exact fun h => next_issue_setS h rfl (by rw [scalarCond_eq hfits]; exact apply_ite (BitVec.ofNat 64) _ 1 0)
    case sget => exact fun h _ hlane => next_issue_eq h (getLane_next hlane)
    case pcnt => exact fun h => next_issue_setS h rfl (by rw [← List.countP_eq_length_filter])
  · intro s ctx w c _ _ op mk g hmem h
    simp only [List.mem_cons, Prod.mk.injEq, List.not_mem_nil, or_false] at hmem
    obtain ⟨rfl, rfl, rfl⟩ | ⟨rfl, rfl, rfl⟩ | ⟨rfl, rfl, rfl⟩ | ⟨rfl, rfl, rfl⟩ | ⟨rfl, rfl, rfl⟩ := hmem
    · exact next_issue_predicate h rfl
    · exact next_issue_predicate h rfl
    · exact next_issue_predicate h (congrArg (c.predicate w) (funext fun _ => rfl))
    · exact next_issue_predicate h rfl
    · exact next_issue_predicate h (congrArg (c.predicate w) (funext fun _ => by rw [signedOf_eq_toInt]; rfl))

/-! ### A kernel's end starts no kernel in its place (R264) -/

section
variable (s : State)

@[simp] theorem raise_ngayx (e : Event) (n : Nat) (p : Bytes) : (s.raise e n p).ngayx = s.ngayx := (raise_speaks s e n p).ngayx

@[simp] theorem setSlot_ngayx (n i : Nat) (x : Slot) : (s.setSlot n i x).ngayx = s.ngayx := rfl

@[simp] theorem giveEngine_ngayx (n e : Nat) : (s.giveEngine n e).ngayx = s.ngayx := by
  unfold State.giveEngine
  dsimp only
  split <;> simp

@[simp] theorem freeSlot_ngayx (n i : Nat) : (s.freeSlot n i).ngayx = s.ngayx := by
  unfold State.freeSlot
  dsimp only
  split <;> simp

@[simp] theorem freeBuffer_ngayx (n i : Nat) : (s.freeBuffer n i).ngayx = s.ngayx := by
  unfold State.freeBuffer
  split <;> rfl

@[simp] theorem refuseReturn_ngayx (q pointer reason : Nat) : (s.refuseReturn q pointer reason).ngayx = s.ngayx := by
  unfold State.refuseReturn
  dsimp only
  split <;> split <;> simp

@[simp] theorem returnBuffer_ngayx (q pointer : Nat) : (s.returnBuffer q pointer).1.ngayx = s.ngayx := by
  unfold State.returnBuffer
  dsimp only
  split <;> simp

/-- What every step of a fold leaves as it was, the fold does. -/
theorem foldl_keeps {α β γ : Type} {f : β → α → β} {g : β → γ} (h : ∀ b a, g (f b a) = g b) (l : List α) (b : β) :
    g (l.foldl f b) = g b := by
  induction l generalizing b with
  | nil => rfl
  | cons a l ih => exact (ih _).trans (h b a)

@[simp] theorem dropBuffers_ngayx (q : Nat) (l : List Nat) : (s.dropBuffers q l).ngayx = s.ngayx :=
  foldl_keeps (g := State.ngayx) (fun t p => returnBuffer_ngayx t q p) l s

@[simp] theorem evictSlots_ngayx (id : Nat) : (s.evictSlots id).ngayx = s.ngayx :=
  foldl_keeps (g := State.ngayx) (fun t p => by simp) _ s

@[simp] theorem noteReport_ngayx (x : Sample) (e : Report) : (s.noteReport x e).ngayx = s.ngayx := by
  unfold State.noteReport State.writeReport
  split <;> simp

@[simp] theorem vacate_ngayx (x : Sample) : (s.vacate x).ngayx = s.ngayx := by
  unfold State.vacate
  dsimp only
  split <;> simp

@[simp] theorem allocFailed_ngayx (n q : Nat) (st : Status) : (s.allocFailed n q st).ngayx = s.ngayx := by
  unfold State.allocFailed
  dsimp only
  split <;> simp

@[simp] theorem allocate_ngayx (n q : Nat) : (s.allocate n q).1.ngayx = s.ngayx := by
  unfold State.allocate
  (repeat' split) <;> simp

@[simp] theorem allocateNow_ngayx (n q : Nat) : (s.allocateNow n q).1.ngayx = s.ngayx := by
  unfold State.allocateNow
  (repeat' split) <;> simp

@[simp] theorem takeMany_ngayx (pool q k : Nat) : (s.takeMany pool q k).1.ngayx = s.ngayx := by
  induction k generalizing s with
  | zero => rfl
  | succ k ih =>
    have hnow := allocateNow_ngayx s pool q
    unfold State.takeMany
    split
    next t p hgrant => exact (ih t).trans (by simpa [hgrant] using hnow)
    next t _ _ hother => simpa [hother] using hnow

@[simp] theorem takeBuffers_ngayx (q n : Nat) : (s.takeBuffers q n).1.ngayx = s.ngayx := by
  unfold State.takeBuffers
  dsimp only
  (repeat' split) <;> simp

@[simp] theorem post_ngayx (i : Nat) (w : Work) : (s.post i w).ngayx = s.ngayx := by
  unfold State.post
  split <;> simp

@[simp] theorem poolRegion_ngayx (p : Pool) : (s.poolRegion p).1.ngayx = s.ngayx := by
  unfold State.poolRegion
  (repeat' split) <;> rfl

@[simp] theorem askPiece_ngayx (f : Fetch) : (s.askPiece f).ngayx = s.ngayx := by
  unfold State.askPiece
  split <;> simp

@[simp] theorem beginFetch_ngayx (qp sample record : Nat) (kind : FetchKind) : (s.beginFetch qp sample record kind).1.ngayx = s.ngayx := by
  have htake := takeBuffers_ngayx s (fetchRequester qp) 1
  unfold State.beginFetch
  dsimp only
  split
  · rfl
  · split <;> simp_all

@[simp] theorem issueRead_ngayx (x : Sample) : (s.issueRead x).ngayx = s.ngayx := by
  unfold State.issueRead
  split
  · rfl
  next p _ =>
    dsimp only
    cases (s.catalogue? p.datasetId).bind
        (fun c => c.owner (p.record s.jobKey x.epoch (p.attemptPosition x.position x.attempt))) with
    | none => rfl
    | some o =>
      generalize (if s.group.set.twin then s.twinQp 0 else none) = mirror
      generalize s.readRecord _ _ = found
      dsimp only
      split
      · cases found with
        | ok bs => rfl
        | error n => (repeat' split) <;> simp
      · simp

@[simp] theorem dropSynth_ngayx (reason : Nat) : (s.dropSynth reason).ngayx = s.ngayx := by
  unfold State.dropSynth
  dsimp only
  split <;> simp

@[simp] theorem removeSample_ngayx (id : Nat) : (s.removeSample id).ngayx = s.ngayx := rfl

/-- Evicting a sample takes contexts away and adds none. -/
theorem evict_contexts {id : Nat} {y : NgCtx} (h : y ∈ (s.evict id).ngayx.contexts) : y ∈ s.ngayx.contexts := by
  have hbefore : (((s.evictSlots id).evictStreams id).evictAnvil id).ngayx = s.ngayx := evictSlots_ngayx s id
  simp only [State.evict, State.evictKernels, hbefore] at h
  exact List.mem_of_mem_filter h

theorem dropSynthSample_contexts {x : Sample} {reason : Nat} {y : NgCtx}
    (h : y ∈ (s.dropSynthSample x reason).ngayx.contexts) : y ∈ s.ngayx.contexts := by
  have hngayx : (s.dropSynthSample x reason).ngayx = (s.evict x.id).ngayx := by
    unfold State.dropSynthSample
    dsimp only
    (repeat' split) <;> simp
  exact evict_contexts s (hngayx ▸ h)

theorem rejectSample_contexts {x : Sample} {reason nameId detail : Nat} {y : NgCtx}
    (h : y ∈ (s.rejectSample x reason nameId detail).ngayx.contexts) : y ∈ s.ngayx.contexts := by
  have hngayx : (s.rejectSample x reason nameId detail).ngayx = (s.evict x.id).ngayx := by
    unfold State.rejectSample
    dsimp only
    (repeat' split) <;> simp
  exact evict_contexts s (hngayx ▸ h)

theorem screenReject_contexts {x : Sample} {reason nameId : Nat} {y : NgCtx}
    (h : y ∈ (s.screenReject x reason nameId).ngayx.contexts) : y ∈ s.ngayx.contexts := by
  unfold State.screenReject at h
  dsimp only at h
  split at h
  · exact (dropSynthSample_contexts _ h :)
  · exact (rejectSample_contexts _ h :)

/-- A kernel that ends on a fault leaves no context of its number. -/
theorem kernelEnded_ctx?_of_fault {c : NgCtx} (hfault : c.fault ≠ 0) : (s.kernelEnded c).ctx? c.id = none := by
  have hgone (t : State) (h : ∀ y ∈ t.ngayx.contexts, y ∈ s.ngayx.contexts.filter (fun y => decide (y.id ≠ c.id))) :
      t.ctx? c.id = none := by
    refine List.find?_eq_none.mpr fun y hy => ?_
    have hother := (List.mem_filter.mp (h y hy)).2
    simpa using hother
  refine hgone _ fun y hy => ?_
  unfold State.kernelEnded at hy
  simp only [if_pos hfault] at hy
  split at hy
  · exact hy
  · split at hy
    · exact hy
    · split at hy <;> exact (screenReject_contexts _ hy :)

end
/-! ### Registers after a write (R338) -/

section
variable {c : NgCtx} (hfits : c.fits = true)
include hfits

theorem vr_lt_of_fits (n : Nat) : c.vr n < 2 ^ 4096 := by
  simp only [NgCtx.fits, Bool.and_eq_true, List.all_eq_true, decide_eq_true_eq] at hfits
  obtain ⟨⟨⟨⟨-, hall⟩, -⟩, -⟩, -⟩ := hfits
  rw [NgCtx.vr, List.getD_eq_getElem?_getD]
  cases hn : c.v[n]? with
  | none => exact Nat.two_pow_pos _
  | some v => exact hall v (List.mem_of_getElem? hn)

theorem length_v_of_fits : c.v.length = 16 := by
  simp only [NgCtx.fits, Bool.and_eq_true, decide_eq_true_eq] at hfits
  obtain ⟨⟨⟨⟨hlen, -⟩, -⟩, -⟩, -⟩ := hfits
  exact hlen

/-- A vector register reads back as it was written. -/
theorem getD_set_v_same {d : Nat} (hd : d < 16) (n : Nat) : (c.v.set d n).getD d 0 = n := by
  rw [List.getD_eq_getElem?_getD, List.getElem?_set_self (by rw [length_v_of_fits hfits]; exact hd), Option.getD_some]

end

theorem getD_set_v_other {c : NgCtx} {d k : Nat} (h : k ≠ d) (n : Nat) : (c.v.set d n).getD k 0 = c.vr k := by
  rw [NgCtx.vr, List.getD_eq_getElem?_getD, List.getD_eq_getElem?_getD, List.getElem?_set_ne (Ne.symm h)]

/-- The lanes of a register that codes were packed into. -/
theorem laneOf_set_v {c : NgCtx} (hfits : c.fits = true) {d : Nat} (hd : d < 16) {f : Fmt} (hf : f.cls ≠ .blk) {cs : List Nat}
    (hlen : cs.length ≤ lanes f) (i : Nat) :
    laneOf f ((c.v.set d (packElems f.bits cs % 2 ^ 4096)).getD d 0) i = cs.getD i 0 % 2 ^ f.bits := by
  rw [getD_set_v_same hfits hd, Nat.mod_eq_of_lt (packElems_fits hf hlen), laneOf_packElems]

/-! ### Context memory (R347, R384, R385) -/

theorem ctxOffset_eq (base : Nat) (imm : Int) : ctxOffset base imm = (signedOf 64 base + imm) - (signedOf 64 base + imm) % 64 := by
  unfold ctxOffset
  omega

theorem inGrant_iff {c : NgCtx} {o : Int} {n : Nat} : c.inGrant o n = true ↔ 0 ≤ o ∧ o + n ≤ c.grantBytes := by
  simp only [NgCtx.inGrant, Bool.and_eq_true, decide_eq_true_eq]

@[simp] theorem length_natLe (n v : Nat) : (natLe n v).length = n := by
  induction n generalizing v with
  | zero => rfl
  | succ n ih => rw [natLe, List.length_cons, ih]

theorem leNat_natLe (n v : Nat) : leNat (natLe n v) = v % 256 ^ n := by
  induction n generalizing v with
  | zero => simp [natLe, leNat, Nat.mod_one]
  | succ n ih =>
    have hpow : 256 ^ (n + 1) = 2 ^ 8 * 256 ^ n := Nat.pow_succ'
    rw [natLe, leNat, ih, BitVec.toNat_ofNat, hpow, Nat.mod_mul]
    rfl

section
variable {c : NgCtx} {w : Fields}

theorem loadCtx_of_inside (h : c.inGrant (ctxOffset (c.sr w.a) w.simm) 512 = true) : c.loadCtx w = { c.after with
    v := c.v.set w.d (leNat (c.grant.readBytes (ctxOffset (c.sr w.a) w.simm).toNat 512) % 2 ^ 4096) } := by
  simp only [NgCtx.loadCtx, h, ↓reduceIte]
  rfl

theorem loadCtx_of_outside (h : ¬c.inGrant (ctxOffset (c.sr w.a) w.simm) 512 = true) : c.loadCtx w = c.faulted 2 := by
  simp only [NgCtx.loadCtx, h, ↓reduceIte, Bool.false_eq_true]

theorem storeCtx_of_inside (h : c.inGrant (ctxOffset (c.sr w.b) w.simm) 512 = true) : c.storeCtx w = { c.after with
    grant := c.grant.writeBytes (ctxOffset (c.sr w.b) w.simm).toNat (natLe 512 (c.vr w.a)) } := by
  simp only [NgCtx.storeCtx, h, ↓reduceIte, NgCtx.next, NgCtx.after]

theorem storeCtx_of_outside (h : ¬c.inGrant (ctxOffset (c.sr w.b) w.simm) 512 = true) : c.storeCtx w = c.faulted 2 := by
  simp only [NgCtx.storeCtx, h, ↓reduceIte, Bool.false_eq_true]

/-- What a register's 512 bytes are once written to a grant. -/
theorem leNat_readBytes_written (hfits : c.fits = true) {m : Memory} (hm : m.wf = true) (a n : Nat) :
    leNat ((m.writeBytes a (natLe 512 (c.vr n))).readBytes a 512) = c.vr n := by
  have hread := Memory.readBytes_writeBytes a (natLe 512 (c.vr n)) hm
  have hpow : 256 ^ 512 = 2 ^ 4096 := (Nat.pow_mul 2 8 512).symm
  rw [length_natLe] at hread
  rw [hread, leNat_natLe, hpow, Nat.mod_eq_of_lt (vr_lt_of_fits hfits n)]

end

/-! ### Gathers (R384, R385) -/

section
variable {α β : Type} {g : β → α} {k : Nat}

theorem getElem?_foldl_set_of_not_mem {ls : List (Nat × β)} (h : ∀ l ∈ ls, l.1 ≠ k) (cs : List α) :
    (ls.foldl (fun cs l => cs.set l.1 (g l.2)) cs)[k]? = cs[k]? := by
  induction ls generalizing cs with
  | nil => rfl
  | cons l ls ih =>
    rw [List.foldl_cons, ih (fun m hm => h m (List.mem_cons_of_mem _ hm)), List.getElem?_set_ne (h l List.mem_cons_self)]

theorem length_foldl_set (ls : List (Nat × β)) (cs : List α) : (ls.foldl (fun cs l => cs.set l.1 (g l.2)) cs).length = cs.length :=
  foldl_keeps (g := List.length) (fun _ _ => List.length_set) ls cs

/-- Where every write to a place carries one value, that value stands there. -/
theorem getElem?_foldl_set_of_mem {ls : List (Nat × β)} {v : β} (hmem : (k, v) ∈ ls) (hone : ∀ l ∈ ls, l.1 = k → l.2 = v)
    {cs : List α} (hk : k < cs.length) : (ls.foldl (fun cs l => cs.set l.1 (g l.2)) cs)[k]? = some (g v) := by
  induction ls generalizing cs with
  | nil => exact absurd hmem List.not_mem_nil
  | cons l ls ih =>
    rw [List.foldl_cons]
    by_cases hlater : ∃ m ∈ ls, m.1 = k
    · obtain ⟨m, hm, rfl⟩ := hlater
      have hv : m.2 = v := hone m (List.mem_cons_of_mem _ hm) rfl
      exact ih (hv ▸ hm) (fun m' hm' => hone m' (List.mem_cons_of_mem _ hm')) (by rwa [List.length_set])
    · have hlast : (k, v) = l := (List.mem_cons.mp hmem).resolve_right (fun hm => hlater ⟨_, hm, rfl⟩)
      subst hlast
      rw [getElem?_foldl_set_of_not_mem (fun m hm hk' => hlater ⟨m, hm, hk'⟩), List.getElem?_set_self hk]

end

/-- The lane of a gather's index `i` (R384). -/
def gatherLane (w : Fields) (i : Nat) : Nat := 128 * (w.imm % 8) + i

/-- Index `i` of a gather, from the signed lanes of vB (R385). -/
def NgCtx.gatherIndex (c : NgCtx) (w : Fields) (i : Nat) : Int := signedOf 32 (laneOf .int32 (c.vr w.b) i)

/-- The place in context memory that index `i` of VGATHC names. -/
def NgCtx.gatherPlace (c : NgCtx) (w : Fields) (i : Nat) : Int :=
  signedOf 64 (c.sr w.a) + c.gatherIndex w i * (w.fmt.bits / 8 : Nat)

section
variable {c : NgCtx} {w : Fields}

theorem mem_gatherLanes {l : Nat × Int} : l ∈ c.gatherLanes w ↔
    ∃ i < 128, c.gov w (gatherLane w i) = true ∧ l = (gatherLane w i, c.gatherIndex w i) := by
  have hlanes : lanes .int32 = 128 := rfl
  simp only [NgCtx.gatherLanes, List.mem_filter, List.mem_mapIdx, length_laneCodes, hlanes]
  constructor
  · rintro ⟨⟨i, hi, rfl⟩, hgov⟩
    have hcode : (laneCodes .int32 (c.vr w.b))[i]'(by rw [length_laneCodes]; exact hi) = laneOf .int32 (c.vr w.b) i :=
      (List.getElem_eq_iff _).mpr (laneCodes_getElem? (by rw [hlanes]; exact hi) _)
    exact ⟨i, hi, hgov, by rw [hcode]; rfl⟩
  · rintro ⟨i, hi, hgov, rfl⟩
    have hcode : (laneCodes .int32 (c.vr w.b))[i]'(by rw [length_laneCodes]; exact hi) = laneOf .int32 (c.vr w.b) i :=
      (List.getElem_eq_iff _).mpr (laneCodes_getElem? (by rw [hlanes]; exact hi) _)
    exact ⟨⟨i, hi, by rw [hcode]; rfl⟩, hgov⟩

theorem any_gatherLanes {p : Int → Bool} : (c.gatherLanes w).any (fun l => p l.2) = true ↔
    ∃ i < 128, c.gov w (gatherLane w i) = true ∧ p (c.gatherIndex w i) = true := by
  simp only [List.any_eq_true, mem_gatherLanes]
  constructor
  · rintro ⟨-, ⟨i, hi, hgov, rfl⟩, hp⟩
    exact ⟨i, hi, hgov, hp⟩
  · rintro ⟨i, hi, hgov, hp⟩
    exact ⟨_, ⟨i, hi, hgov, rfl⟩, hp⟩

/-- The codes of vD once a gather has put its elements into their lanes. -/
def NgCtx.gathered (c : NgCtx) (w : Fields) (g : Int → Nat) : List Nat :=
  (c.gatherLanes w).foldl (fun cs l => cs.set l.1 (g l.2)) (laneCodes w.fmt (c.vr w.d))

theorem putLanes_eq (g : Int → Nat) : c.putLanes w g (c.gatherLanes w) =
    { c.after with v := c.v.set w.d (packElems w.fmt.bits (c.gathered w g) % 2 ^ 4096) } := rfl

theorem length_gathered (g : Int → Nat) : (c.gathered w g).length = lanes w.fmt :=
  (length_foldl_set ..).trans (length_laneCodes _)

section
variable (g : Int → Nat) (hsel : w.imm % 8 < lanes w.fmt / 128)
include hsel

theorem gatherLane_lt {i : Nat} (hi : i < 128) : gatherLane w i < lanes w.fmt := by
  unfold gatherLane
  omega

theorem gathered_getD {i : Nat} (hi : i < 128) : (c.gathered w g).getD (gatherLane w i) 0 =
    if c.gov w (gatherLane w i) then g (c.gatherIndex w i) else laneOf w.fmt (c.vr w.d) (gatherLane w i) := by
  have hlane := gatherLane_lt hsel hi
  have hsame {l : Nat × Int} (hl : l ∈ c.gatherLanes w) (hk : l.1 = gatherLane w i) :
      c.gov w (gatherLane w i) = true ∧ l.2 = c.gatherIndex w i := by
    obtain ⟨j, -, hgov, rfl⟩ := mem_gatherLanes.mp hl
    obtain rfl : j = i := Nat.add_left_cancel hk
    exact ⟨hgov, rfl⟩
  rw [NgCtx.gathered, List.getD_eq_getElem?_getD]
  split
  next hgov =>
    rw [getElem?_foldl_set_of_mem (mem_gatherLanes.mpr ⟨i, hi, hgov, rfl⟩) (fun l hl hk => (hsame hl hk).2)
      (by rw [length_laneCodes]; exact hlane), Option.getD_some]
  next hgov =>
    rw [getElem?_foldl_set_of_not_mem (fun l hl hk => hgov (hsame hl hk).1), laneCodes_getElem? hlane, Option.getD_some]

end

/-- Lanes of another part of the register than the gather's stay. -/
theorem gathered_getD_other (g : Int → Nat) {j : Nat} (hj : j < lanes w.fmt) (hpart : j / 128 ≠ w.imm % 8) :
    (c.gathered w g).getD j 0 = laneOf w.fmt (c.vr w.d) j := by
  have hnot : ∀ l ∈ c.gatherLanes w, l.1 ≠ j := by
    intro l hl hk
    obtain ⟨i, hi, -, rfl⟩ := mem_gatherLanes.mp hl
    have hplace : 128 * (w.imm % 8) + i = j := hk
    omega
  rw [NgCtx.gathered, List.getD_eq_getElem?_getD, getElem?_foldl_set_of_not_mem hnot, laneCodes_getElem? hj, Option.getD_some]

/-- A gather's result: the governed lanes of its part take their elements, every other lane and register stays. -/
theorem putLanes_spec (hfits : c.fits = true) (hw : w.wf = true) (hf : w.fmt.cls ≠ .blk) (hsel : w.imm % 8 < lanes w.fmt / 128)
    (g : Int → Nat) : ∃ u, c.putLanes w g (c.gatherLanes w) = u ∧ u = { c.after with v := u.v } ∧ (∀ k, k ≠ w.d → u.vr k = c.vr k) ∧
      (∀ i, i < 128 → laneOf w.fmt (u.vr w.d) (gatherLane w i) = if c.gov w (gatherLane w i)
        then g (c.gatherIndex w i) % 2 ^ w.fmt.bits else laneOf w.fmt (c.vr w.d) (gatherLane w i)) ∧
      ∀ j, j < lanes w.fmt → j / 128 ≠ w.imm % 8 → laneOf w.fmt (u.vr w.d) j = laneOf w.fmt (c.vr w.d) j := by
  obtain ⟨hd, -⟩ := Fields.wf_iff.mp hw
  have hlen : (c.gathered w g).length ≤ lanes w.fmt := (length_gathered g).le
  refine ⟨_, putLanes_eq g, rfl, fun k hk => getD_set_v_other hk _, fun i hi => ?_, fun j hj hpart => ?_⟩
  · refine (laneOf_set_v hfits hd hf hlen _).trans ?_
    rw [gathered_getD g hsel hi]
    split
    · rfl
    · exact Nat.mod_eq_of_lt (laneOf_lt ..)
  · refine (laneOf_set_v hfits hd hf hlen _).trans ?_
    rw [gathered_getD_other g hj hpart, Nat.mod_eq_of_lt (laneOf_lt ..)]

theorem InPort.allows_iff {p : InPort} {f : Fmt} : p.allows f = true ↔ ∀ g, p.fmt = some g → g = f := by
  unfold InPort.allows
  cases p.fmt <;> simp

theorem gatherCtx_of_inside (h : ∀ i, i < 128 → c.gov w (gatherLane w i) = true →
    0 ≤ c.gatherIndex w i ∧ c.inGrant (c.gatherPlace w i) (w.fmt.bits / 8) = true) :
    c.gatherCtx w = c.putLanes w (fun i => leNat (c.grant.readBytes (signedOf 64 (c.sr w.a) + i * (w.fmt.bits / 8 : Nat)).toNat
      (w.fmt.bits / 8))) (c.gatherLanes w) := by
  unfold NgCtx.gatherCtx
  refine if_neg fun hany => ?_
  obtain ⟨i, hi, hgov, hbad⟩ := (any_gatherLanes (p := fun v => decide (v < 0) ||
    !c.inGrant (signedOf 64 (c.sr w.a) + v * (w.fmt.bits / 8 : Nat)) (w.fmt.bits / 8))).mp hany
  obtain ⟨hpos, hin⟩ := h i hi hgov
  rw [NgCtx.gatherPlace] at hin
  simp only [hin, Bool.not_true, Bool.or_false, decide_eq_true_eq] at hbad
  omega

theorem gatherCtx_of_outside (h : ∃ i < 128, c.gov w (gatherLane w i) = true ∧
    (c.gatherIndex w i < 0 ∨ ¬c.inGrant (c.gatherPlace w i) (w.fmt.bits / 8) = true)) : c.gatherCtx w = c.faulted 2 := by
  unfold NgCtx.gatherCtx
  refine if_pos ?_
  obtain ⟨i, hi, hgov, hbad⟩ := h
  refine (any_gatherLanes (p := fun v => decide (v < 0) ||
    !c.inGrant (signedOf 64 (c.sr w.a) + v * (w.fmt.bits / 8 : Nat)) (w.fmt.bits / 8))).mpr ⟨i, hi, hgov, ?_⟩
  simpa [NgCtx.gatherPlace] using hbad

theorem gatherStream_of_format (hfmt : ¬(c.inPort w.a).allows w.fmt = true) : c.gatherStream w = c.faulted 4 := by
  simp only [NgCtx.gatherStream, hfmt, Bool.not_false, ↓reduceIte]

section
variable (hfmt : (c.inPort w.a).allows w.fmt = true)
include hfmt

theorem gatherStream_of_inside (h : ∀ i, i < 128 → c.gov w (gatherLane w i) = true →
    0 ≤ c.gatherIndex w i ∧ c.gatherIndex w i < ((c.inPort w.a).bytes.length / (w.fmt.bits / 8) : Nat)) :
    c.gatherStream w = c.putLanes w (fun i => fieldAt (c.inPort w.a).bytes (i.toNat * (w.fmt.bits / 8)) (w.fmt.bits / 8))
      (c.gatherLanes w) := by
  unfold NgCtx.gatherStream
  refine (if_neg (by simp [hfmt])).trans (if_neg fun hany => ?_)
  obtain ⟨i, hi, hgov, hbad⟩ := (any_gatherLanes (p := fun v => decide (v < 0) ||
    decide ((((c.inPort w.a).bytes.length / (w.fmt.bits / 8) : Nat) : Int) ≤ v))).mp hany
  obtain ⟨hpos, hend⟩ := h i hi hgov
  simp only [Bool.or_eq_true, decide_eq_true_eq] at hbad
  omega

theorem gatherStream_of_outside (h : ∃ i < 128, c.gov w (gatherLane w i) = true ∧
    (c.gatherIndex w i < 0 ∨ ((c.inPort w.a).bytes.length / (w.fmt.bits / 8) : Nat) ≤ c.gatherIndex w i)) :
    c.gatherStream w = c.faulted 5 := by
  unfold NgCtx.gatherStream
  refine (if_neg (by simp [hfmt])).trans (if_pos ?_)
  obtain ⟨i, hi, hgov, hbad⟩ := h
  refine (any_gatherLanes (p := fun v => decide (v < 0) ||
    decide ((((c.inPort w.a).bytes.length / (w.fmt.bits / 8) : Nat) : Int) ≤ v))).mpr ⟨i, hi, hgov, ?_⟩
  simpa using hbad

end

end
/-! ### Stream ports (R341 to R343, R389) -/

section
variable {c : NgCtx} {w : Fields}

theorem inPort_of_getElem? {n : Nat} {p : InPort} (h : c.ins[n]? = some p) : c.inPort n = p := by
  rw [NgCtx.inPort, List.getD_eq_getElem?_getD, h, Option.getD_some]

theorem load_of_format {p : InPort} (hp : c.ins[w.a]? = some p) (hfmt : ¬p.allows w.fmt = true) : c.load w = c.faulted 4 := by
  simp only [NgCtx.load, inPort_of_getElem? hp, hfmt, Bool.not_false, ↓reduceIte]

theorem load_of_allowed {p : InPort} (hp : c.ins[w.a]? = some p) (hfmt : p.allows w.fmt = true) : c.load w = { c.after with
    v := c.v.set w.d ((readPort p w.fmt).1 % 2 ^ 4096)
    s := c.s.set w.c ((readPort p w.fmt).2.1 % 2 ^ 64)
    ins := c.ins.set w.a (readPort p w.fmt).2.2
    flags := c.flags ||| portFlags p w.fmt } := by
  simp only [NgCtx.load, inPort_of_getElem? hp, hfmt, Bool.not_true, ↓reduceIte, Bool.false_eq_true, NgCtx.next, NgCtx.setS,
    NgCtx.setV, NgCtx.flag, NgCtx.after]

theorem readPort_of_scalar {f : Fmt} (hf : f.cls ≠ .blk) (p : InPort) :
    readPort p f = (leNat ((p.bytes.drop p.off).take 512),
      min (lanes f) ((8 * min 512 (p.bytes.length - p.off) + f.bits - 1) / f.bits),
      { p with off := p.off + min 512 (p.bytes.length - p.off)
               ended := decide (p.bytes.length ≤ p.off + min 512 (p.bytes.length - p.off)) }) := by
  simp only [readPort, hf, ↓reduceIte, List.length_drop]

theorem readPort_of_block {f : Fmt} (hf : f.cls = .blk) (p : InPort) :
    readPort p f = (packReg f (portBlocks p f), (takeBlocks f 8 (p.bytes.drop p.off)).1.length,
      { p with off := p.off + (takeBlocks f 8 (p.bytes.drop p.off)).2
               ended := decide (p.bytes.length ≤ p.off + (takeBlocks f 8 (p.bytes.drop p.off)).2) }) := by
  simp only [readPort, hf, ↓reduceIte]

theorem length_takeBlocks_le (f : Fmt) (n : Nat) (bs : Bytes) : (takeBlocks f n bs).1.length ≤ n := by
  induction n generalizing bs with
  | zero => exact Nat.zero_le _
  | succ n ih =>
    cases bs with
    | nil => exact Nat.zero_le _
    | cons b bs => exact Nat.succ_le_succ (ih _)

theorem readPort_count_le (p : InPort) (f : Fmt) : (readPort p f).2.1 ≤ 1024 := by
  by_cases hf : f.cls = .blk
  · rw [readPort_of_block hf]
    exact (length_takeBlocks_le f 8 _).trans (by decide)
  · rw [readPort_of_scalar hf]
    exact (Nat.min_le_left ..).trans (lanes_le f)

/-! Appending to an output port. -/

section
variable {port : Nat} {f : Fmt} {bs : Bytes} {ok : NgCtx → NgCtx} {o : OutPort} (ho : c.outs[port]? = some o)
include ho

theorem append_of_format {g : Fmt} (hg : o.fmt = some g) (hne : g ≠ f) : c.append port f bs ok = c.faulted 4 := by
  have hbad : o.fmt.isSome ∧ o.fmt ≠ some f := ⟨by rw [hg, Option.isSome_some], by rw [hg]; simpa using hne⟩
  simp only [NgCtx.append, ho, if_pos hbad]

theorem append_of_allowed (hfmt : ∀ g, o.fmt = some g → g = f) : c.append port f bs ok =
    if c.maxChunk < o.bytes.length + bs.length then c.faulted 3
    else ok { c with outs := c.outs.set port { o with bytes := o.bytes ++ bs } } := by
  have hgood : ¬(o.fmt.isSome ∧ o.fmt ≠ some f) := by
    rintro ⟨hsome, hne⟩
    obtain ⟨g, hg⟩ := Option.isSome_iff_exists.mp hsome
    exact hne (hg.trans (congrArg some (hfmt g hg)))
  simp only [NgCtx.append, ho, if_neg hgood]

end

/-- The number of elements VST appends: an odd count of INT4 is made even (R389). -/
theorem int4_round_up (f : Fmt) (m : Nat) : (if f = .int4 then (m + 1) / 2 * 2 else m) = if f = .int4 then m + m % 2 else m := by
  split
  · omega
  · rfl

/-! Governed lanes, in lane order. -/

theorem laneCodes_eq_map (f : Fmt) (reg : Nat) : laneCodes f reg = (List.range (lanes f)).map (laneOf f reg) := by
  apply List.ext_getElem?
  intro i
  by_cases hi : i < lanes f
  · rw [laneCodes_getElem? hi, List.getElem?_map, List.getElem?_range hi, Option.map_some]
  · rw [List.getElem?_eq_none (by simpa using hi), List.getElem?_eq_none (by simpa using hi)]

/-- The codes of the governed lanes of a register, in lane order (R362, R384, R389). -/
def NgCtx.kept (c : NgCtx) (w : Fields) (r : Nat) : List Nat :=
  ((List.range (lanes w.fmt)).filter (fun i => c.gov w i)).map (laneOf w.fmt (c.vr r))

theorem zipIdx_map_range {α : Type} (g : Nat → α) (n : Nat) : ((List.range n).map g).zipIdx = (List.range n).map (fun i => (g i, i)) := by
  apply List.ext_getElem?
  intro i
  rw [List.getElem?_zipIdx, List.getElem?_map, List.getElem?_map]
  by_cases hi : i < n
  · simp [List.getElem?_range hi]
  · simp [List.getElem?_eq_none (l := List.range n) (by simpa using hi)]

theorem kept_eq (r : Nat) : (((laneCodes w.fmt (c.vr r)).zipIdx.filter (fun x => c.gov w x.2)).map (·.1)) = c.kept w r := by
  rw [laneCodes_eq_map, zipIdx_map_range, List.filter_map, List.map_map]
  rfl

theorem length_kept_le (r : Nat) : (c.kept w r).length ≤ lanes w.fmt := by
  rw [NgCtx.kept, List.length_map]
  exact (List.length_filter_le ..).trans (List.length_range).le

theorem kept_getD_lt (r i : Nat) : (c.kept w r).getD i 0 < 2 ^ w.fmt.bits := by
  rw [List.getD_eq_getElem?_getD, NgCtx.kept, List.getElem?_map]
  cases ((List.range (lanes w.fmt)).filter (fun i => c.gov w i))[i]? with
  | none => exact Nat.two_pow_pos _
  | some j => exact laneOf_lt ..

theorem compact_eq : c.compact w = { c.after with
    v := c.v.set w.d (packElems w.fmt.bits (c.kept w w.a) % 2 ^ 4096)
    s := c.s.set w.c (c.kept w w.a).length } := by
  have hcount : (c.kept w w.a).length % 2 ^ 64 = (c.kept w w.a).length :=
    Nat.mod_eq_of_lt (((length_kept_le w.a).trans (lanes_le _)).trans_lt (by decide))
  simp only [NgCtx.compact, kept_eq, NgCtx.setV, NgCtx.setS, NgCtx.next, NgCtx.after, hcount]

theorem store_of_scalar (hf : w.fmt.cls ≠ .blk) : c.store w = c.append w.b w.fmt
    (natLe ((if w.fmt = .int4 then min (c.sr w.c) (lanes w.fmt) + min (c.sr w.c) (lanes w.fmt) % 2
      else min (c.sr w.c) (lanes w.fmt)) * w.fmt.bits / 8) (c.vr w.a)) NgCtx.next := by
  simp only [NgCtx.store, if_neg hf, int4_round_up]

theorem emitLanes_eq : c.emitLanes w = c.append w.b w.fmt ((c.kept w w.a).flatMap (natLe (w.fmt.bits / 8))) NgCtx.next := by
  simp only [NgCtx.emitLanes, kept_eq]

end

/-! ### Sums over the ports of a run (R320, R322, R390) -/

/-- What an SSUM may change in its context, whichever way it ends. -/
def NgCtx.SumFrame (c u : NgCtx) : Prop :=
  u = { c with pc := u.pc, executed := c.executed + 1, fault := u.fault, faultPc := u.faultPc, ins := u.ins, outs := u.outs,
               summed := u.summed, newResiduals := u.newResiduals, flags := u.flags, stats := u.stats } ∧
    ∀ k, k ≠ 0 → u.outs[k]? = c.outs[k]?

section
variable {c : NgCtx} {w : Fields} (key : Bytes) (free : Nat → Nat) (fresh : Nat)

theorem sumFrame_faulted (c : NgCtx) (code : Nat) : c.SumFrame (c.faulted code) := ⟨rfl, fun _ _ => rfl⟩

theorem sumFrame_ssum (c : NgCtx) (w : Fields) : c.SumFrame (c.ssum key free fresh w) := by
  unfold NgCtx.ssum NgCtx.append
  dsimp only
  split
  · exact sumFrame_faulted ..
  split
  · exact ⟨rfl, fun _ _ => rfl⟩
  split
  · exact sumFrame_faulted ..
  split
  · exact sumFrame_faulted ..
  split
  · exact sumFrame_faulted ..
  · exact ⟨rfl, fun k hk => List.getElem?_set_ne (Ne.symm hk)⟩

theorem ssum_of_format (h : ∃ p ∈ c.ins, ∃ g, p.fmt = some g ∧ g ≠ w.fmt) : c.ssum key free fresh w = c.faulted 4 := by
  refine if_pos (List.any_eq_true.mpr ?_)
  obtain ⟨p, hp, g, hg, hne⟩ := h
  refine ⟨p, hp, ?_⟩
  rw [Bool.not_eq_true', Bool.eq_false_iff]
  exact fun hallow => hne (InPort.allows_iff.mp hallow g hg)

section
variable (hfmt : ∀ p ∈ c.ins, ∀ g, p.fmt = some g → g = w.fmt)
include hfmt

theorem not_any_format : ¬c.ins.any (fun p => !p.allows w.fmt) = true := by
  simp only [List.any_eq_true, not_exists, not_and, Bool.not_eq_true', Bool.not_eq_false]
  exact fun p hp => InPort.allows_iff.mpr (hfmt p hp)

theorem ssum_of_ended (hend : ∀ p ∈ c.ins, p.ended = true) : c.ssum key free fresh w = c.after :=
  (if_neg (not_any_format hfmt)).trans (if_pos (List.all_eq_true.mpr hend))

/-- A sum while a port has elements left: what is taken from every port is summed and appended to out0. -/
theorem ssum_of_running (hrun : ∃ p ∈ c.ins, p.ended = false) :
    let taken := c.ins.map (fun p => readPort p w.fmt)
    let n := c.nodeSum key free fresh w.fmt w.mode taken
    c.ssum key free fresh w = c.append 0 w.fmt n.1.bytes (fun y =>
      { y with ins := taken.map (fun (t : Nat × Nat × InPort) => t.2.2), summed := y.summed + n.2, newResiduals := y.newResiduals ++ n.1.residuals,
               flags := y.flags ||| n.1.flags ||| orFlags (c.ins.map (fun p => portFlags p w.fmt))
               stats := y.stats.join n.1.stats }.next) := by
  refine (if_neg (not_any_format hfmt)).trans (if_neg fun hall => ?_)
  obtain ⟨p, hp, hopen⟩ := hrun
  exact Bool.false_ne_true (hopen ▸ List.all_eq_true.mp hall p hp)

end

theorem foldl_max_le {l : List Nat} {a b : Nat} (ha : a ≤ b) (h : ∀ x ∈ l, x ≤ b) : l.foldl max a ≤ b := by
  induction l generalizing a with
  | nil => exact ha
  | cons x l ih => exact ih (Nat.max_le.mpr ⟨ha, h x List.mem_cons_self⟩) (fun y hy => h y (List.mem_cons_of_mem _ hy))

theorem mapIdx_map_range {α β : Type} (g : Nat → α → β) (v : Nat → α) (n : Nat) :
    ((List.range n).map v).mapIdx g = (List.range n).map (fun i => g i (v i)) := by
  apply List.ext_getElem?
  intro i
  by_cases hi : i < n
  · simp [List.getElem?_range hi]
  · simp [List.getElem?_eq_none (l := List.range n) (by simpa using hi)]

/-- The exact sum of lane `i` over what was taken from the ports (R320, R322). -/
def takenSum (f : Fmt) (taken : List (Nat × Nat × InPort)) (i : Nat) : Val := sumVals (taken.map (fun t => f.value (laneOf f t.1 i)))

/-- Without residuals, the codes of a sum of scalar lanes are the rounded sums, lane by lane. -/
theorem sumScalars_bytes {f : Fmt} {n : Nat} (hn : n ≤ lanes f) (r : Rm) (taken : List (Nat × Nat × InPort)) (us : Nat → Nat) :
    (sumScalars f r (taken.map (fun t => (laneCodes f t.1).map f.value)) n us none).bytes
      = natLe (n * f.bits / 8) (packElems f.bits ((List.range n).map (fun i => (roundLane f r (us i) (takenSum f taken i)).1))) := by
  simp only [sumScalars, withResiduals, mapIdx_map_range, List.map_map, Function.comp_def]
  refine congrArg (fun cs => natLe _ (packElems f.bits cs)) (List.map_congr_left fun i hi => ?_)
  have hlane : i < lanes f := (List.mem_range.mp hi).trans_le hn
  simp [takenSum, List.getD_eq_getElem?_getD, laneCodes_getElem? hlane]

end

/-! ### SSUM and the free values it counts (R390, log entry 4) -/

section
variable {s : State} {ctx : Nat} {w : Fields} {c : NgCtx}

theorem exec_ssum_of_issues (h : Issues s ctx 0x7A w c) :
    let t := s.issued (c.ssum s.jobKey Config.freeNat s.freeCtr w)
    exec (.ssum ctx w) s = .next { t with freeCtr := if s.det.exact then t.freeCtr
      else t.freeCtr + (((t.ctx? ctx).map (fun c => c.summed)).getD c.summed - c.summed) } := by
  show execSsum ctx w s = _
  have hbefore : ((s.ctx? ctx).map (fun c => c.summed)).getD 0 = c.summed := by rw [h.1, Option.map_some, Option.getD_some]
  simp only [execSsum, issue_of_issues h, hbefore]

/-- A context that runs on, or ends on a fault, is found as it stands or not at all. -/
theorem issued_ctx?_summed {x : NgCtx} (hc : s.ctx? x.id = some c) (hgoes : x.ended = false ∨ x.fault ≠ 0) :
    (((s.issued x).ctx? x.id).map (fun c => c.summed)).getD x.summed = x.summed := by
  have hput : (s.setCtx x).ctx? x.id = some x := (setCtx_ctx? hc x.id).trans (if_pos rfl)
  cases hrun : x.run with
  | node l chunk level node cr => rw [issued_ctx?_same hrun hc, Option.map_some, Option.getD_some]
  | kernel stage sample k =>
    simp only [State.issued, hrun]
    split
    next hend =>
      have hfault : x.fault ≠ 0 := hgoes.resolve_left (by rw [hend]; exact Bool.true_eq_false_eq_False)
      rw [kernelEnded_ctx?_of_fault _ hfault, Option.map_none, Option.getD_none]
    next => rw [hput, Option.map_some, Option.getD_some]

/-- A sum that appends nothing uses no free value. -/
theorem exec_ssum_of_no_sum (h : Issues s ctx 0x7A w c) {x : NgCtx} (hx : c.ssum s.jobKey Config.freeNat s.freeCtr w = x)
    (hid : x.id = c.id) (hsummed : x.summed = c.summed) (hgoes : x.ended = false ∨ x.fault ≠ 0) :
    exec (.ssum ctx w) s = .next (s.issued x) := by
  have hctx : ctx = x.id := (ctx?_id h.1).symm.trans hid.symm
  have hafter : (((s.issued x).ctx? ctx).map (fun c => c.summed)).getD c.summed = c.summed := by
    rw [← hsummed, hctx]
    exact issued_ctx?_summed (hctx ▸ h.1) hgoes
  rw [exec_ssum_of_issues h, hx]
  simp only [hafter, Nat.sub_self, Nat.add_zero, ite_self]

/-- In exact mode no free value is used. -/
theorem exec_ssum_of_exact (h : Issues s ctx 0x7A w c) (hexact : s.det.exact = true) :
    exec (.ssum ctx w) s = .next (s.issued (c.ssum s.jobKey Config.freeNat s.freeCtr w)) := by
  rw [exec_ssum_of_issues h]
  simp only [hexact, ↓reduceIte]

theorem about_not_ended {op : Nat} (h : c.about op w = true) : c.ended = false := by
  simp only [NgCtx.about, Bool.and_eq_true, Bool.not_eq_true'] at h
  exact h.1.1

end
/-! ### The rows of context memory and the gathers (R347, R384, R385) -/

/-- A context that faults, issued. -/
theorem next_issue_faulted {s : State} {ctx op : Nat} {w : Fields} {c : NgCtx} {f : Bytes → NgCtx → NgCtx} {code : Nat}
    (h : Issues s ctx op w c) (hf : f s.jobKey c = c.faulted code) : (Host.Outcome.next (s.issue ctx op w f) : Out)
      = .next (s.issued { c with fault := code, faultPc := c.pc, executed := c.executed + 1 }) :=
  next_issue_eq h hf

section
variable {s : State} {ctx : Nat} {w : Fields} {c : NgCtx}

theorem vstc_of_inside (hfits : c.fits = true) (h : Issues s ctx 0x63 w c) (hm : c.grant.wf = true)
    (hin : c.inGrant (ctxOffset (c.sr w.b) w.simm) 512 = true) :
    ∃ g : Memory, exec (.vstc ctx w) s = .next (s.issued { c.after with grant := g }) ∧ g.wf = true ∧
      leNat (g.readBytes (ctxOffset (c.sr w.b) w.simm).toNat 512) = c.vr w.a ∧
      ∀ k : Nat, ((k : Int) < ctxOffset (c.sr w.b) w.simm ∨ ctxOffset (c.sr w.b) w.simm + 512 ≤ k) → g.read k = c.grant.read k := by
  refine ⟨_, next_issue_eq h (storeCtx_of_inside hin), Memory.writeBytes_wf _ _ hm, leNat_readBytes_written hfits hm _ _,
    fun k hk => Memory.read_writeBytes_other _ _ ?_⟩
  obtain ⟨hpos, -⟩ := inGrant_iff.mp hin
  rw [length_natLe]
  omega

theorem vgathc_of_inside (hfits : c.fits = true) (hw : w.wf = true) (hf : w.fmt.cls ≠ .blk) (hsel : w.imm % 8 < lanes w.fmt / 128)
    (h : Issues s ctx 0x60 w c) (hin : ∀ i, i < 128 → c.gov w (gatherLane w i) = true →
      0 ≤ c.gatherIndex w i ∧ c.inGrant (c.gatherPlace w i) (w.fmt.bits / 8) = true) :
    ∃ u, exec (.vgathc ctx w) s = .next (s.issued u) ∧ u = { c.after with v := u.v } ∧ (∀ k, k ≠ w.d → u.vr k = c.vr k) ∧
      (∀ i, i < 128 → laneOf w.fmt (u.vr w.d) (gatherLane w i) = if c.gov w (gatherLane w i)
        then leNat (c.grant.readBytes (c.gatherPlace w i).toNat (w.fmt.bits / 8)) % 2 ^ w.fmt.bits
        else laneOf w.fmt (c.vr w.d) (gatherLane w i)) ∧
      ∀ j, j < lanes w.fmt → j / 128 ≠ w.imm % 8 → laneOf w.fmt (u.vr w.d) j = laneOf w.fmt (c.vr w.d) j := by
  obtain ⟨u, hu, hframe, hother, hlanes, hrest⟩ := putLanes_spec hfits hw hf hsel (fun i =>
    leNat (c.grant.readBytes (signedOf 64 (c.sr w.a) + i * (w.fmt.bits / 8 : Nat)).toNat (w.fmt.bits / 8)))
  exact ⟨u, next_issue_eq h ((gatherCtx_of_inside hin).trans hu), hframe, hother, hlanes, hrest⟩

theorem vgaths_of_inside (hfits : c.fits = true) (hw : w.wf = true) (hf : w.fmt.cls ≠ .blk) (hsel : w.imm % 8 < lanes w.fmt / 128)
    (h : Issues s ctx 0x61 w c) (hfmt : (c.inPort w.a).allows w.fmt = true) (hin : ∀ i, i < 128 → c.gov w (gatherLane w i) = true →
      0 ≤ c.gatherIndex w i ∧ c.gatherIndex w i < ((c.inPort w.a).bytes.length / (w.fmt.bits / 8) : Nat)) :
    ∃ u, exec (.vgaths ctx w) s = .next (s.issued u) ∧ u = { c.after with v := u.v } ∧ (∀ k, k ≠ w.d → u.vr k = c.vr k) ∧
      ∀ i, i < 128 → laneOf w.fmt (u.vr w.d) (gatherLane w i) = if c.gov w (gatherLane w i)
        then fieldAt (c.inPort w.a).bytes ((c.gatherIndex w i).toNat * (w.fmt.bits / 8)) (w.fmt.bits / 8) % 2 ^ w.fmt.bits
        else laneOf w.fmt (c.vr w.d) (gatherLane w i) := by
  obtain ⟨u, hu, hframe, hother, hlanes, -⟩ := putLanes_spec hfits hw hf hsel (fun i =>
    fieldAt (c.inPort w.a).bytes (i.toNat * (w.fmt.bits / 8)) (w.fmt.bits / 8))
  exact ⟨u, next_issue_eq h ((gatherStream_of_inside hfmt hin).trans hu), hframe, hother, hlanes⟩

/-! ### The rows of the stream ports (R341 to R343, R366, R384, R389) -/

theorem vld_of_scalar (hfits : c.fits = true) (hw : w.wf = true) {p : InPort} (h : Issues s ctx 0x78 w c) (hf : w.fmt.cls ≠ .blk)
    (hp : c.ins[w.a]? = some p) (hfmt : ∀ g, p.fmt = some g → g = w.fmt) : ∃ u,
      exec (.vld ctx w) s = .next (s.issued u) ∧ u = { c.after with v := u.v, s := u.s, ins := u.ins } ∧
      (∀ k, k ≠ w.d → u.vr k = c.vr k) ∧ u.vr w.d = leNat ((p.bytes.drop p.off).take 512) % 2 ^ 4096 ∧
      u.s = c.s.set w.c (min (lanes w.fmt) ((8 * min 512 (p.bytes.length - p.off) + w.fmt.bits - 1) / w.fmt.bits)) ∧
      u.ins = c.ins.set w.a { p with off := p.off + min 512 (p.bytes.length - p.off)
                                     ended := decide (p.bytes.length ≤ p.off + min 512 (p.bytes.length - p.off)) } := by
  obtain ⟨hd, -⟩ := Fields.wf_iff.mp hw
  have hcount := readPort_count_le p w.fmt
  have hload := load_of_allowed hp (InPort.allows_iff.mpr hfmt)
  rw [Nat.mod_eq_of_lt (hcount.trans_lt (by decide))] at hload
  simp only [readPort_of_scalar hf, portFlags, if_neg hf, Nat.or_zero] at hload
  exact ⟨_, next_issue_eq h hload, rfl, fun k hk => getD_set_v_other hk _, getD_set_v_same hfits hd _, rfl, rfl⟩

theorem vld_of_block {p : InPort} (h : Issues s ctx 0x78 w c) (hf : w.fmt.cls = .blk) (hp : c.ins[w.a]? = some p)
    (hfmt : ∀ g, p.fmt = some g → g = w.fmt) :
    exec (.vld ctx w) s = .next (s.issued { c.after with
      v := c.v.set w.d (packReg w.fmt (portBlocks p w.fmt) % 2 ^ 4096)
      s := c.s.set w.c (takeBlocks w.fmt 8 (p.bytes.drop p.off)).1.length
      ins := c.ins.set w.a { p with off := p.off + (takeBlocks w.fmt 8 (p.bytes.drop p.off)).2
                                    ended := decide (p.bytes.length ≤ p.off + (takeBlocks w.fmt 8 (p.bytes.drop p.off)).2) }
      flags := c.flags ||| (packFlags w.fmt (portBlocks p w.fmt)).1 }) := by
  have hcount := readPort_count_le p w.fmt
  have hload := load_of_allowed hp (InPort.allows_iff.mpr hfmt)
  rw [Nat.mod_eq_of_lt (hcount.trans_lt (by decide))] at hload
  simp only [readPort_of_block hf, portFlags, if_pos hf] at hload
  exact next_issue_eq h hload

/-- A row that appends to an output port faults with PORT_OVERRUN past MAX_CHUNK, and appends otherwise. -/
theorem next_issue_append {op : Nat} {f : Bytes → NgCtx → NgCtx} {bs : Bytes} {ok : NgCtx → NgCtx} {o : OutPort}
    (h : Issues s ctx op w c) (hf : f s.jobKey c = c.append w.b w.fmt bs ok) (ho : c.outs[w.b]? = some o)
    (hfmt : ∀ g, o.fmt = some g → g = w.fmt) : (Host.Outcome.next (s.issue ctx op w f) : Out) = .next
      (if c.maxChunk < o.bytes.length + bs.length then
        s.issued { c with fault := 3, faultPc := c.pc, executed := c.executed + 1 }
      else s.issued (ok { c with outs := c.outs.set w.b { o with bytes := o.bytes ++ bs } })) := by
  rw [next_issue_eq h (hf.trans (append_of_allowed ho hfmt)), apply_ite s.issued]
  rfl

theorem vcomp_of_issues (hfits : c.fits = true) (hw : w.wf = true) (h : Issues s ctx 0x68 w c) (hf : w.fmt.cls ≠ .blk) : ∃ u,
    exec (.vcomp ctx w) s = .next (s.issued u) ∧ u = { c.after with v := u.v, s := u.s } ∧ (∀ k, k ≠ w.d → u.vr k = c.vr k) ∧
      u.s = c.s.set w.c (c.kept w w.a).length ∧ ∀ i, i < lanes w.fmt → laneOf w.fmt (u.vr w.d) i = (c.kept w w.a).getD i 0 := by
  obtain ⟨hd, -⟩ := Fields.wf_iff.mp hw
  refine ⟨_, next_issue_eq h compact_eq, rfl, fun k hk => getD_set_v_other hk _, rfl, fun i _ => ?_⟩
  exact (laneOf_set_v hfits hd hf (length_kept_le w.a) i).trans (Nat.mod_eq_of_lt (kept_getD_lt ..))

/-! ### The rows of SSUM (R390) -/

theorem ssum_of_node {l chunk level node cr : Nat} (h : Issues s ctx 0x7A w c) (hrun : c.run = .node l chunk level node cr) :
    ∃ (u : NgCtx) (n : Nat), exec (.ssum ctx w) s = .next { s.issued u with freeCtr := s.freeCtr + n } ∧
      (s.det.exact = true → n = 0) ∧ u.executed = c.executed + 1 ∧ u.v = c.v ∧ u.s = c.s ∧ u.p = c.p ∧ u.grant = c.grant ∧
      ∀ k, k ≠ 0 → u.outs[k]? = c.outs[k]? := by
  obtain ⟨hframe, houts⟩ := sumFrame_ssum s.jobKey Config.freeNat s.freeCtr c w
  generalize hu : c.ssum s.jobKey Config.freeNat s.freeCtr w = u at hframe houts
  have hexec := exec_ssum_of_issues h
  simp only [hu] at hexec
  have hunode : u.run = .node l chunk level node cr := by rw [hframe]; exact hrun
  have hfree : (s.issued u).freeCtr = s.freeCtr := by rw [issued_frame hunode]
  refine ⟨u, if s.det.exact then 0 else (((s.issued u).ctx? ctx).map (fun c => c.summed)).getD c.summed - c.summed, ?_,
    fun hexact => if_pos hexact, ?_⟩
  · rw [hexec, hfree]
    congr 2
    split <;> rfl
  · rw [hframe]
    exact ⟨rfl, rfl, rfl, rfl, rfl, houts⟩

/-- The codes that an exact-mode SSUM without residuals appends, lane by lane (R322, R333, R334). -/
def NgCtx.sumCodes (c : NgCtx) (w : Fields) (key : Bytes) (count : Nat) : List Nat :=
  let taken := c.ins.map (fun p => readPort p w.fmt)
  (List.range count).map (fun i => (roundLane w.fmt w.mode (if w.mode = .sr then Sys2Proof.Machine.nodeDraw key c.site.step c.site.channel
    c.site.ordinal c.site.level c.site.node (c.x0 + c.summed + i) else 0) (takenSum w.fmt taken i)).1)

theorem ssum_of_exact {o : OutPort} (h : Issues s ctx 0x7A w c) (hmode : s.det.exact = true) (hexact : c.exact = true)
    (hf : w.fmt.cls ≠ .blk) (hfmt : ∀ p ∈ c.ins, ∀ g, p.fmt = some g → g = w.fmt) (hopen : ∃ p ∈ c.ins, p.ended = false)
    (ho : c.outs[0]? = some o) (hofmt : ∀ g, o.fmt = some g → g = w.fmt) (hres : c.residuals = none) :
    let taken := c.ins.map (fun p => readPort p w.fmt)
    let count := (taken.map (fun t => t.2.1)).foldl max 0
    let bytes := natLe (count * w.fmt.bits / 8) (packElems w.fmt.bits (c.sumCodes w s.jobKey count))
    o.bytes.length + count * w.fmt.bits / 8 ≤ c.maxChunk → ∃ u, exec (.ssum ctx w) s = .next (s.issued u) ∧ u = { c.after with
      ins := taken.map (fun t => t.2.2)
      outs := c.outs.set 0 { o with bytes := o.bytes ++ bytes }
      summed := c.summed + count
      newResiduals := u.newResiduals
      flags := u.flags
      stats := u.stats } := by
  intro taken count bytes hroom
  have hcount : count ≤ lanes w.fmt := by
    refine foldl_max_le (Nat.zero_le _) fun x hx => ?_
    obtain ⟨t, ht, rfl⟩ := List.mem_map.mp hx
    obtain ⟨p, -, rfl⟩ := List.mem_map.mp ht
    rw [readPort_of_scalar hf]
    exact Nat.min_le_left ..
  have hhere : c.residualsHere = none := by rw [NgCtx.residualsHere, hres, Option.map_none]
  have hsum : c.nodeSum s.jobKey Config.freeNat s.freeCtr w.fmt w.mode taken = (sumScalars w.fmt w.mode
      (taken.map (fun t => (laneCodes w.fmt t.1).map w.fmt.value)) count
      (fun i => if w.mode = .sr then c.nodeDraw s.jobKey Config.freeNat s.freeCtr i else 0) none, count) := by
    simp only [NgCtx.nodeSum, if_neg hf, hhere]
    rfl
  have hbytes : (c.nodeSum s.jobKey Config.freeNat s.freeCtr w.fmt w.mode taken).1.bytes = bytes := by
    rw [hsum, sumScalars_bytes hcount]
    simp only [NgCtx.nodeDraw, hexact, ↓reduceIte]
    rfl
  have happend := (ssum_of_running s.jobKey Config.freeNat s.freeCtr hfmt hopen).trans (append_of_allowed ho hofmt)
  rw [hbytes, length_natLe _ _, if_neg (Nat.not_lt.mpr hroom), hsum] at happend
  exact ⟨_, (exec_ssum_of_exact h hmode).trans (congrArg (fun x => Host.Outcome.next (s.issued x)) happend), rfl⟩

end

/-- Settles O24: each row's context comes from the lemma about what the instruction does, and its issue from the row. -/
theorem ngayxMemoryRuns : Obligations.NgayxMemoryRuns := by
  unfold Obligations.NgayxMemoryRuns
  constructor
  · intro s ctx w c hfits hw
    dsimp only
    simp only [← simm_eq_toInt, ← ctxOffset_eq, ← inGrant_iff]
    refine ⟨?vldc, ?vldcOut, ?vstc, ?vstcOut, ?gathers⟩
    case vldc => exact fun h hin => next_issue_eq h (loadCtx_of_inside hin)
    case vldcOut => exact fun h hout => next_issue_faulted (f := fun _ x => x.loadCtx w) h (loadCtx_of_outside hout)
    case vstc =>
      intro h hm hin
      obtain ⟨g, hexec, hg⟩ := vstc_of_inside hfits h hm hin
      exact ⟨{ c.after with grant := g }, hexec, rfl, hg⟩
    case vstcOut => exact fun h hout => next_issue_faulted h (storeCtx_of_outside hout)
    case gathers =>
      intro hf _ hsel
      refine ⟨fun h hin => vgathc_of_inside hfits hw hf hsel h hin, fun h hout => next_issue_faulted h (gatherCtx_of_outside hout),
        fun h hfmt hin => vgaths_of_inside hfits hw hf hsel h (InPort.allows_iff.mpr hfmt) hin,
        fun h hfmt hout => next_issue_faulted h (gatherStream_of_outside (InPort.allows_iff.mpr hfmt) hout), fun g h hg hne => ?_⟩
      exact next_issue_faulted h (gatherStream_of_format fun hallow => hne (InPort.allows_iff.mp hallow g hg))
  · intro s ctx w c hfits hw
    refine ⟨?vld, ?vldBlock, ?vldFormat, ?vst, ?vstBlock, ?format, ?emitp, ?vcomp, ?ended, ?sumFormat, ?node, ?exact, ?bound⟩
    case vld => exact fun p h hf hp hfmt => vld_of_scalar hfits hw h hf hp hfmt
    case vldBlock => exact fun p h hf hp hfmt => vld_of_block h hf hp hfmt
    case vldFormat =>
      exact fun p g h hp hg hne =>
        next_issue_faulted h (load_of_format hp fun hallow => hne (InPort.allows_iff.mp hallow g hg))
    case vst =>
      intro o h hf ho hfmt
      refine (next_issue_append h (store_of_scalar hf) ho hfmt).trans ?_
      rw [length_natLe]
      rfl
    case vstBlock =>
      intro o h hf ho hfmt
      exact next_issue_append (f := fun _ x => x.store w) h (if_pos hf) ho hfmt
    case format =>
      intro o g _ ho hg hne
      refine ⟨fun h => next_issue_faulted h ?_, fun h => next_issue_faulted h (emitLanes_eq.trans (append_of_format ho hg hne))⟩
      by_cases hf : w.fmt.cls = .blk
      · exact (if_pos hf).trans (append_of_format ho hg hne)
      · exact (store_of_scalar hf).trans (append_of_format ho hg hne)
    case emitp =>
      intro o h _ _ ho hfmt
      exact next_issue_append (f := fun _ x => x.emitLanes w) h emitLanes_eq ho hfmt
    case vcomp => exact fun h hf => vcomp_of_issues hfits hw h hf
    case ended =>
      intro h hfmt hend
      have hgoes : c.ended = false := about_not_ended h.2
      exact exec_ssum_of_no_sum (x := c.after) h (ssum_of_ended _ _ _ hfmt hend) rfl rfl (.inl hgoes)
    case sumFormat =>
      exact fun h hother => exec_ssum_of_no_sum h (ssum_of_format _ _ _ hother) rfl rfl (.inr (by decide : (4 : Nat) ≠ 0))
    case node => exact fun l chunk level node cr h hrun => ssum_of_node h hrun
    case exact => exact fun o h hmode hexact hf hfmt hopen ho hofmt hres => ssum_of_exact h hmode hexact hf hfmt hopen ho hofmt hres
    case bound => exact fun x l chunk level node cr hctx hrun hend hspent => insnBoundReached_of_spent hctx hrun hend hspent

end Sys2Proof.Machine
end

section
/-! Family `14_collectives.md`: descriptors that form or join launches, the votes that decide them, the fixed reduction trees (R396,
R397, R400, R401, R409, R410; dropped and late descriptors from log entry 41, votes of a failed launch from log entry 51). -/

namespace Sys2Proof.Machine

/-! ### The channels after an update (R391) -/

section
variable {s : State} {c : Channel}

@[simp] theorem channel_num (s : State) (n : Nat) : (s.channel n).num = n := by
  unfold State.channel
  cases h : s.coll.channels.find? (fun x => decide (x.num = n)) with
  | none => rfl
  | some c => simpa using List.find?_some h

theorem setChannel_channel_same (s : State) (c : Channel) : (s.setChannel c).channel c.num = c := by
  have hput : (s.setChannel c).coll.channels.find? (fun x => decide (x.num = c.num)) = some c := by
    simp only [State.setChannel, State.setColl]
    by_cases hknown : s.coll.channels.any (fun x => decide (x.num = c.num)) = true
    · obtain ⟨y, hy⟩ := Option.isSome_iff_exists.mp (List.find?_isSome.mpr (List.any_eq_true.mp hknown))
      rw [if_pos hknown, find?_updateFirst_key Channel.num hy rfl, if_pos rfl]
    · have hnone : s.coll.channels.find? (fun x => decide (x.num = c.num)) = none := by
        simpa [List.find?_eq_none] using hknown
      rw [if_neg hknown, List.find?_append, hnone]
      simp
  rw [State.channel, hput, Option.getD_some]

end

/-! ### Taking a descriptor (R396, R397) -/

section
variable (s : State) (m : Inbound)

@[simp] theorem consume_coll : (s.consume m).coll = s.coll := by
  obtain ⟨pools, tel, h⟩ := consume_speaks s m
  exact h.coll

@[simp] theorem consume_self : (s.consume m).self = s.self := by
  obtain ⟨pools, tel, h⟩ := consume_speaks s m
  exact congrArg (fun g : GroupSettings => (g.side, g.deviceId)) h.groupSet

@[simp] theorem consume_channel (n : Nat) : (s.consume m).channel n = s.channel n := by
  simp only [State.channel, consume_coll]

end

/-- The port takes part in the channel's launches on this device (R397). -/
def State.takesPart (s : State) (ch port : Nat) : Prop :=
  (s.channel ch).spec ≠ [] ∧ s.self ∈ specMembers (s.channel ch).spec ∧ port ∈ specPorts (s.channel ch).spec

section
variable {s : State} {qp port : Nat} {m : Inbound}
  (hinbox : s.rdma.inbox.find? (fun m => decide (m.qp = qp) && m.imm.isNone) = some m) (hport : s.collPortOf qp = some port)

theorem takesPart_iff (ch : Nat) : (!(s.channel ch).spec.isEmpty && (specMembers (s.channel ch).spec).contains s.self &&
    (specPorts (s.channel ch).spec).contains port) = true ↔ s.takesPart ch port := by
  simp [State.takesPart, and_assoc]

include hinbox hport

theorem launchDescriptor_of_privileged (hlen : m.bytes.length = 96) (hch : fieldAt m.bytes 2 2 < 8) :
    ∃ l : Launch, exec (.launchDescriptor qp) s = .next ((s.consume m).writeRecord l 3 false port) ∧ l.channel = fieldAt m.bytes 2 2 ∧
      l.descs = [(port, m.bytes)] := by
  refine ⟨{ id := s.coll.nextLaunch, channel := fieldAt m.bytes 2 2, ordinal := 0, stepLo := descStep m.bytes
            spec := [0, 0, 0, 1, 0, 0, 1, 0], descs := [(port, m.bytes)], firstAt := (s.consume m).now }, ?_, rfl, rfl⟩
  show execLaunchDescriptor qp s = _
  simp only [execLaunchDescriptor, hinbox, hport, hlen, hch, and_self, ↓reduceIte, consume_coll]

theorem launchDescriptor_of_stranger (hch : 8 ≤ fieldAt m.bytes 2 2)
    (hout : 1023 < fieldAt m.bytes 2 2 ∨ ¬s.takesPart (fieldAt m.bytes 2 2) port) :
    exec (.launchDescriptor qp) s = .next ((s.consume m).setChannel { s.channel (fieldAt m.bytes 2 2) with
      dropped := (s.channel (fieldAt m.bytes 2 2)).dropped + 1 }) := by
  have hcond : m.bytes.length ≠ 96 ∨ 1023 < fieldAt m.bytes 2 2 ∨ (!(!(s.channel (fieldAt m.bytes 2 2)).spec.isEmpty &&
      (specMembers (s.channel (fieldAt m.bytes 2 2)).spec).contains s.self &&
      (specPorts (s.channel (fieldAt m.bytes 2 2)).spec).contains port)) = true := by
    rw [← takesPart_iff, Bool.not_eq_true, ← Bool.not_eq_true'] at hout
    exact .inr hout
  show execLaunchDescriptor qp s = _
  simp only [execLaunchDescriptor, hinbox, hport, consume_channel, consume_self]
  rw [if_neg (by omega), if_pos hcond]

section
variable (hlen : m.bytes.length = 96) (hlo : 8 ≤ fieldAt m.bytes 2 2) (hhi : fieldAt m.bytes 2 2 ≤ 1023)
  (hpart : s.takesPart (fieldAt m.bytes 2 2) port)
include hlen hlo hhi hpart

omit hinbox hport in
/-- The checks of a descriptor pass, so that the channel's waiting launch decides. -/
theorem participant_checks_pass : ¬(m.bytes.length = 96 ∧ fieldAt m.bytes 2 2 < 8) ∧
    ¬(m.bytes.length ≠ 96 ∨ 1023 < fieldAt m.bytes 2 2 ∨ (!(!(s.channel (fieldAt m.bytes 2 2)).spec.isEmpty &&
      (specMembers (s.channel (fieldAt m.bytes 2 2)).spec).contains s.self &&
      (specPorts (s.channel (fieldAt m.bytes 2 2)).spec).contains port)) = true) := by
  rw [(takesPart_iff _).mpr hpart]
  exact ⟨by omega, by simpa using ⟨hlen, hhi⟩⟩

theorem launchDescriptor_joins {l : Launch}
    (hwait : s.coll.launches.find? (fun l => decide (l.channel = fieldAt m.bytes 2 2) && l.missing.contains port) = some l) :
    exec (.launchDescriptor qp) s = .next ((s.consume m).joinLaunch l port m.bytes) := by
  obtain ⟨hfirst, hsecond⟩ := participant_checks_pass hlen hlo hhi hpart
  show execLaunchDescriptor qp s = _
  simp only [execLaunchDescriptor, hinbox, hport, consume_channel, consume_self, consume_coll]
  rw [if_neg hfirst, if_neg hsecond, hwait]

theorem launchDescriptor_forms
    (hwait : s.coll.launches.find? (fun l => decide (l.channel = fieldAt m.bytes 2 2) && l.missing.contains port) = none) :
    exec (.launchDescriptor qp) s = .next ((s.consume m).formLaunch (s.channel (fieldAt m.bytes 2 2)) port m.bytes) := by
  obtain ⟨hfirst, hsecond⟩ := participant_checks_pass hlen hlo hhi hpart
  show execLaunchDescriptor qp s = _
  simp only [execLaunchDescriptor, hinbox, hport, consume_channel, consume_self, consume_coll]
  rw [if_neg hfirst, if_neg hsecond, hwait]

end

end

/-! ### A launch is formed (R397) -/

/-- The ordinal of the launch that a channel forms next for a step: it counts the launches of one STEP_LO. -/
def Channel.nextOrdinal (c : Channel) (step : Nat) : Nat := match c.last with
  | some (st, o) => if st = step then o + 1 else 0
  | none => 0

/-- The launch that a descriptor forms on a channel. -/
def State.formed (s : State) (c : Channel) (port : Nat) (b : Bytes) : Launch where
  id := s.coll.nextLaunch
  channel := c.num
  ordinal := c.nextOrdinal (descStep b)
  stepLo := descStep b
  misplaced := (match c.last with
    | some (st, _) => decide (serialCmp (descStep b) st 32 = .before)
    | none => false) || decide (4095 < c.nextOrdinal (descStep b))
  spec := c.spec
  descs := [(port, b)]
  missing := (specPorts c.spec).filter (fun p => decide (p ≠ port))
  firstAt := s.now

/-- The state with a formed launch, before its check. -/
def State.withFormed (s : State) (c : Channel) (port : Nat) (b : Bytes) : State :=
  (s.setChannel { c with last := some (descStep b, c.nextOrdinal (descStep b)) }).setColl
    { (s.setChannel { c with last := some (descStep b, c.nextOrdinal (descStep b)) }).coll with
      launches := s.coll.launches ++ [s.formed c port b], nextLaunch := s.coll.nextLaunch + 1 }

section
variable (s : State) (c : Channel) (port : Nat) (b : Bytes)

theorem formLaunch_eq : s.formLaunch c port b = (s.withFormed c port b).checkLaunch (s.formed c port b).id := rfl

theorem withFormed_channel_last : ((s.withFormed c port b).channel c.num).last = some (descStep b, c.nextOrdinal (descStep b)) :=
  congrArg Channel.last (setChannel_channel_same s { c with last := some (descStep b, c.nextOrdinal (descStep b)) })

theorem formed_misplaced_iff : (s.formed c port b).misplaced = true ↔
    (∃ st o, c.last = some (st, o) ∧ serialCmp (descStep b) st 32 = .before) ∨ 4095 < (s.formed c port b).ordinal := by
  show ((match c.last with
    | some (st, _) => decide (serialCmp (descStep b) st 32 = .before)
    | none => false) || decide (4095 < c.nextOrdinal (descStep b))) = true ↔ _ ∨ 4095 < c.nextOrdinal (descStep b)
  rw [Bool.or_eq_true, decide_eq_true_eq]
  refine or_congr ?_ Iff.rfl
  split
  next st o hlast => simp [hlast]
  next hlast => simp [hlast]

end

/-! ### A launch is released, or ends without having run (R400, R401) -/

section
variable {s : State} {id : Nat} {l : Launch}

theorem launch?_id (h : s.launch? id = some l) : l.id = id := by
  simpa only [decide_eq_true_eq] using List.find?_some h

theorem launch?_congr {s t : State} (h : t.coll.launches = s.coll.launches) (id : Nat) : t.launch? id = s.launch? id := by
  simp only [State.launch?, h]

@[simp] theorem setChannel_freeBlocks (s : State) (c : Channel) : (s.setChannel c).coll.freeBlocks = s.coll.freeBlocks := rfl
@[simp] theorem setChannel_launch? (s : State) (c : Channel) (id : Nat) : (s.setChannel c).launch? id = s.launch? id := rfl
@[simp] theorem setChannel_ngayx (s : State) (c : Channel) : (s.setChannel c).ngayx = s.ngayx := rfl
@[simp] theorem setChannel_mem (s : State) (c : Channel) : (s.setChannel c).mem = s.mem := rfl

/-- A released grant gives its blocks back; contexts and memory stay. -/
theorem releaseGrant_of_launch (h : s.launch? id = some l) : s.releaseGrant id = ((s.setLaunch { l with blocks := 0, grant := [] }).setColl
    { (s.setLaunch { l with blocks := 0, grant := [] }).coll with freeBlocks := s.coll.freeBlocks + l.blocks }).unbind id := by
  simp only [State.releaseGrant, h]
  rfl

theorem dropLaunch_none_left (s : State) (id : Nat) : (s.dropLaunch id).coll.launches.any (fun x => decide (x.id = id)) = false := by
  simp [State.dropLaunch, State.setColl]

theorem releaseLaunch_freeBlocks (h : s.launch? id = some l) :
    (s.releaseLaunch l).coll.freeBlocks = s.coll.freeBlocks + l.blocks := by
  obtain rfl := launch?_id h
  simp only [State.releaseLaunch]
  rw [releaseGrant_of_launch (l := l) (by rw [setChannel_launch?, h])]
  rfl

/-- What writing status records to participants leaves as it was. -/
def RecordFrame (s t : State) : Prop := t.coll.freeBlocks = s.coll.freeBlocks ∧ t.ngayx = s.ngayx ∧ t.mem = s.mem

theorem RecordFrame.refl (s : State) : RecordFrame s s := ⟨rfl, rfl, rfl⟩

theorem RecordFrame.trans {s t u : State} (h : RecordFrame s t) (k : RecordFrame t u) : RecordFrame s u :=
  ⟨k.1.trans h.1, k.2.1.trans h.2.1, k.2.2.trans h.2.2⟩

theorem post_recordFrame (s : State) (i : Nat) (w : Work) : RecordFrame s (s.post i w) := by
  unfold State.post
  split <;> exact RecordFrame.refl _

theorem collPost_recordFrame (s : State) (id : Nat) (qp : Option Nat) (w : Work) : RecordFrame s (s.collPost id qp w) := by
  unfold State.collPost
  split
  · exact RecordFrame.refl s
  · split
    · exact RecordFrame.refl s
    · dsimp only
      split <;> exact post_recordFrame ..

theorem writeRecords_recordFrame (l : Launch) (st : Nat) (ports : List Nat) (s : State) :
    RecordFrame s (ports.foldl (fun s p => s.writeRecord l st false p) s) := by
  induction ports generalizing s with
  | nil => exact RecordFrame.refl s
  | cons p ps ih => exact (collPost_recordFrame ..).trans (ih _)

/-- A launch that ends without having run gives its blocks back and touches no context and no memory. -/
theorem endUnrun_spec (h : s.launch? id = some l) (st : Nat) : (s.endUnrun id st).coll.freeBlocks = s.coll.freeBlocks + l.blocks ∧
    (s.endUnrun id st).ngayx = s.ngayx ∧ (s.endUnrun id st).mem = s.mem := by
  have hfirst (c : Channel) : ((s.releaseGrant id).setChannel c).coll.freeBlocks = s.coll.freeBlocks + l.blocks ∧
      ((s.releaseGrant id).setChannel c).ngayx = s.ngayx ∧ ((s.releaseGrant id).setChannel c).mem = s.mem := by
    rw [releaseGrant_of_launch h]
    exact ⟨rfl, rfl, rfl⟩
  simp only [State.endUnrun, h, State.countResult]
  generalize hu : (s.releaseGrant id).setChannel _ = u
  obtain ⟨hblocks, hngayx, hmem⟩ : u.coll.freeBlocks = s.coll.freeBlocks + l.blocks ∧ u.ngayx = s.ngayx ∧ u.mem = s.mem :=
    hu ▸ hfirst _
  obtain ⟨kblocks, kngayx, kmem⟩ := writeRecords_recordFrame l st (l.descs.map (fun d => d.1)) u
  have hall := And.intro (kblocks.trans hblocks) (And.intro (kngayx.trans hngayx) (kmem.trans hmem))
  split
  · exact hall
  · split <;> exact hall

end

/-! ### Votes (R400) -/

theorem exists_digest_ne_iff {v : Nat × Bytes} {vs : List (Nat × Bytes)} :
    (∃ a ∈ v :: vs, ∃ b ∈ v :: vs, a.2 ≠ b.2) ↔ vs.all (fun x => decide (x.2 = v.2)) = false := by
  simp only [List.all_eq_false, decide_eq_true_eq]
  constructor
  · rintro ⟨a, ha, b, hb, hne⟩
    by_contra hall
    push Not at hall
    have hsame : ∀ x ∈ v :: vs, x.2 = v.2 := fun x hx => (List.mem_cons.mp hx).elim (fun hx => by rw [hx]) (hall x)
    exact hne ((hsame a ha).trans (hsame b hb).symm)
  · rintro ⟨x, hx, hne⟩
    exact ⟨x, List.mem_cons_of_mem _ hx, v, List.mem_cons_self, hne⟩

theorem exists_digest_ne_eq (votes : List (Nat × Bytes)) : (∃ a ∈ votes, ∃ b ∈ votes, a.2 ≠ b.2) ↔ (!(match votes with
    | [] => true
    | v :: vs => vs.all (fun x => decide (x.2 = v.2)))) = true := by
  cases votes with
  | nil => simp
  | cons v vs => rw [exists_digest_ne_iff, Bool.not_eq_true']

/-- A failed launch takes the first status of R400's order that a vote carries; unequal digests count as LAUNCH_MISMATCH. -/
theorem launchFailure_eq (votes : List (Nat × Bytes)) : launchFailure votes =
    if (∃ v ∈ votes, v.1 = 105) ∨ (∃ a ∈ votes, ∃ b ∈ votes, a.2 ≠ b.2) then some 105
    else if ∃ v ∈ votes, v.1 = 3 then some 3
    else if ∃ v ∈ votes, v.1 = 96 then some 96
    else if ∃ v ∈ votes, v.1 = 106 then some 106
    else if ∃ v ∈ votes, v.1 = 41 then some 41
    else none := by
  have hcarries (n : Nat) : (votes.map (fun v => v.1)).contains n = decide (∃ v ∈ votes, v.1 = n) := by
    rw [Bool.eq_iff_iff]
    simp
  have hfind (n : Nat) (ns : List Nat) (p : Nat → Bool) : (n :: ns).find? p = if p n = true then some n else ns.find? p := by
    rw [List.find?_cons]
    cases p n <;> rfl
  simp only [launchFailure, hcarries, exists_digest_ne_eq, decide_eq_true_eq, hfind, List.find?_nil] <;> rfl

section
variable {s : State} {id : Nat} {l : Launch} (h : s.launch? id = some l)
include h

section
variable (hphase : l.phase = .voting) {votes : List (Nat × Bytes)}
  (hvotes : (specMembers l.spec).map (fun m => lookup? l.votes m) = votes.map some)
include hphase hvotes

omit h in
/-- Every vote is in, so that a launch is decided by whether it fails. -/
theorem votes_in : ¬(l.phase ≠ .voting ∨ ((specMembers l.spec).map (fun m => lookup? l.votes m)).any (fun v => v.isNone) = true) ∧
    ((specMembers l.spec).map (fun m => lookup? l.votes m)).filterMap (fun v => v) = votes := by
  rw [hvotes, hphase]
  simp [List.filterMap_map]

theorem decideLaunch_of_failure {st : Nat} (hst : launchFailure votes = some st) : s.decideLaunch id = s.endUnrun id st := by
  obtain ⟨hin, hgot⟩ := votes_in hphase hvotes
  simp only [State.decideLaunch, h, if_neg hin, hgot, hst]

theorem decideLaunch_of_admit (hnone : launchFailure votes = none) : s.decideLaunch id = s.runLaunch id := by
  obtain ⟨hin, hgot⟩ := votes_in hphase hvotes
  simp only [State.decideLaunch, h, if_neg hin, hgot, hnone]

end

theorem decideLaunch_of_missing (hmissing : ∃ m ∈ specMembers l.spec, lookup? l.votes m = none) : s.decideLaunch id = s := by
  have hany : ((specMembers l.spec).map (fun m => lookup? l.votes m)).any (fun v => v.isNone) = true := by
    simpa [List.any_map] using hmissing
  simp only [State.decideLaunch, h, hany, or_true, ↓reduceIte]

end

/-- Settles O27: a descriptor by whether its channel and port take part, a launch by its votes. -/
theorem launchesAreDecided : Obligations.LaunchesAreDecided := by
  unfold Obligations.LaunchesAreDecided
  refine ⟨⟨fun s qp port m hinbox hport hlen => ⟨?privileged, ?stranger, ?joins, ?forms⟩, ?timeout, ?vote, ?release⟩,
    launchFailure_eq, ?decided, ?missing⟩
  case privileged => exact launchDescriptor_of_privileged hinbox hport hlen
  case stranger => exact launchDescriptor_of_stranger hinbox hport
  case joins => exact fun l hlo hhi hpart hwait => launchDescriptor_joins hinbox hport hlen hlo hhi hpart hwait
  case forms =>
    intro hlo hhi hpart hwait
    have hchannels : ((s.consume m).withFormed (s.channel (fieldAt m.bytes 2 2)) port m.bytes).coll.launches = s.coll.launches
        ++ [(s.consume m).formed (s.channel (fieldAt m.bytes 2 2)) port m.bytes] := by rw [← consume_coll s m]; rfl
    have hlast := withFormed_channel_last (s.consume m) (s.channel (fieldAt m.bytes 2 2)) port m.bytes
    rw [channel_num] at hlast
    have hexec := launchDescriptor_forms hinbox hport hlen hlo hhi hpart hwait
    rw [formLaunch_eq] at hexec
    refine ⟨_, _, hexec, hchannels, hlast, channel_num .., rfl, rfl, rfl, rfl,
      fun st o hst => ?_, fun hst => ?_, formed_misplaced_iff ..⟩
    · simp only [State.formed, Channel.nextOrdinal, hst]
    · simp only [State.formed, Channel.nextOrdinal, hst]
  case timeout =>
    intro s id l hl hphase hmissing
    show execLaunchTimeoutExpiry id s = _
    simp [execLaunchTimeoutExpiry, hl, hphase, hmissing]
  case vote =>
    intro s qp m hm
    show execVoteReceive qp s = _
    simp only [execVoteReceive, hm]
  case release =>
    intro s id l hl hfinished
    refine ⟨?_, releaseLaunch_freeBlocks hl, launch?_id hl ▸ dropLaunch_none_left ..⟩
    show execLaunchRelease id s = _
    rw [State.launch?] at hl
    simp only [execLaunchRelease, hl, hfinished, ↓reduceIte]
  case decided =>
    intro s id l votes hl hphase hvotes
    exact ⟨decideLaunch_of_admit hl hphase hvotes,
      fun st hst => ⟨decideLaunch_of_failure hl hphase hvotes hst, endUnrun_spec hl st⟩⟩
  case missing => exact fun s id l hl _ hmissing => decideLaunch_of_missing hl hmissing

/-! ### The leaves under an operand (R409) -/

/-- The leaves under an operand, from left to right, as the nodes of a list give them. -/
inductive Spans (ns : List TNode) : Opnd → List Nat → Prop
  | leaf (i : Nat) : Spans ns (.leaf i) [i]
  | node {t : TNode} {a b : List Nat} (ht : ns.find? (fun x => decide (x.k = t.k)) = some t) (ha : Spans ns t.left a)
    (hb : Spans ns t.right b) : Spans ns (.node t.k) (a ++ b)

section
variable {ns : List TNode} {o : Opnd} {is : List Nat}

theorem Spans.length_pos (h : Spans ns o is) : 0 < is.length := by
  induction h with
  | leaf i => exact Nat.one_pos
  | node _ _ _ ha _ => rw [List.length_append]; omega

/-- With fuel for as many levels as there are leaves, the leaves under an operand are found. -/
theorem Spans.leavesUnder_eq (h : Spans ns o is) {fuel : Nat} (hfuel : is.length ≤ fuel) : leavesUnder ns fuel o = is := by
  induction h generalizing fuel with
  | leaf i => cases fuel <;> rfl
  | @node t a b ht ha hb iha ihb =>
    have hapos := ha.length_pos
    have hbpos := hb.length_pos
    rw [List.length_append] at hfuel
    obtain ⟨fuel, rfl⟩ : ∃ f, fuel = f + 1 := ⟨fuel - 1, by omega⟩
    simp only [leavesUnder, ht, iha (show a.length ≤ fuel by omega), ihb (show b.length ≤ fuel by omega)]

end

/-! ### The size of a left side (R409) -/

/-- With enough fuel the doubling ends at the largest power of two below `n`. -/
theorem powerBelow_spec {n : Nat} (fuel e : Nat) (hlt : 2 ^ e < n) (hfuel : n ≤ 2 ^ e * 2 ^ fuel) :
    ∃ d, powerBelow n fuel (2 ^ e) = 2 ^ d ∧ 2 ^ d < n ∧ n ≤ 2 * 2 ^ d := by
  induction fuel generalizing e with
  | zero => omega
  | succ fuel ih =>
    have hnext : 2 * 2 ^ e = 2 ^ (e + 1) := Nat.pow_succ'.symm
    rw [powerBelow]
    split
    next h =>
      rw [hnext] at h ⊢
      refine ih (e + 1) h ?_
      rwa [Nat.pow_succ 2 fuel, Nat.mul_comm _ 2, ← Nat.mul_assoc, Nat.mul_comm (2 ^ e), hnext] at hfuel
    next h => exact ⟨e, rfl, hlt, Nat.not_lt.mp h⟩

theorem powerBelow_self {n : Nat} (h : 2 ≤ n) : ∃ d, powerBelow n n 1 = 2 ^ d ∧ 2 ^ d < n ∧ n ≤ 2 * 2 ^ d :=
  powerBelow_spec n 0 (by omega) (by rw [Nat.pow_zero, Nat.one_mul]; exact Nat.lt_two_pow_self.le)

/-! ### The nodes of a built tree (R409) -/

/-- A node joins two neighbouring runs of the leaves that a tree was built over: on the left a power of two of them, on the right
as many or fewer. -/
def JoinsRuns (ns : List TNode) (iss : List (List Nat)) (x : TNode) : Prop :=
  ∃ ls rs : List (List Nat), (ls ++ rs).Sublist iss ∧ Spans ns x.left ls.flatten ∧ Spans ns x.right rs.flatten ∧
    0 < rs.length ∧ rs.length ≤ ls.length ∧ ∃ e, ls.length = 2 ^ e

/-- Every node of `nodes` is the one of its number in `ns`. -/
def Found (ns nodes : List TNode) : Prop := ∀ x ∈ nodes, ns.find? (fun y => decide (y.k = x.k)) = some x

/-- A tree over leaves, its nodes numbered from `k`. -/
structure Builds (cr : Nat → Nat) (leaves : List Opnd) (k : Nat) (t : List TNode × Opnd × Nat) : Prop where
  numbers : t.1.map (fun x => x.k) = List.range' k (leaves.length - 1)
  next : t.2.2 = k + (leaves.length - 1)
  root : t.2.1 = if leaves.length = 1 then leaves.headD (.leaf 0) else .node (t.2.2 - 1)
  crucible : ∀ x ∈ t.1, x.crucible = cr x.k
  spans : ∀ {ns iss}, List.Forall₂ (Spans ns) leaves iss → Found ns t.1 → Spans ns t.2.1 iss.flatten
  joins : ∀ {ns iss}, List.Forall₂ (Spans ns) leaves iss → Found ns t.1 → ∀ x ∈ t.1, JoinsRuns ns iss x

/-- The node over two built halves builds the whole. -/
theorem Builds.join {cr : Nat → Nat} {leaves : List Opnd} {k g : Nat} {nl nr : List TNode} {ol or : Opnd} {kl kr : Nat}
    (hg : ∃ d, g = 2 ^ d) (hlt : g < leaves.length) (hle : leaves.length ≤ 2 * g)
    (hl : Builds cr (leaves.take g) k (nl, ol, kl)) (hr : Builds cr (leaves.drop g) kl (nr, or, kr)) :
    Builds cr leaves k (nl ++ nr ++ [⟨kr, ol, or, cr kr⟩], .node kr, kr + 1) := by
  obtain ⟨lnumbers, lnext, -, lcrucible, lspans, ljoins⟩ := hl
  obtain ⟨rnumbers, rnext, -, rcrucible, rspans, rjoins⟩ := hr
  have hpos : 0 < g := by obtain ⟨d, rfl⟩ := hg; exact Nat.two_pow_pos d
  have htake : (leaves.take g).length = g := by rw [List.length_take]; omega
  have hdrop : (leaves.drop g).length = leaves.length - g := List.length_drop
  simp only [htake, hdrop] at lnumbers lnext rnumbers rnext lspans rspans ljoins rjoins lcrucible rcrucible
  have hkr : kr = k + (leaves.length - 2) := by omega
  have hfound {ns : List TNode} (h : Found ns (nl ++ nr ++ [⟨kr, ol, or, cr kr⟩])) : Found ns nl ∧ Found ns nr :=
    ⟨fun x hx => h x (by simp [hx]), fun x hx => h x (by simp [hx])⟩
  refine ⟨?_, ?_, ?_, ?_, fun {ns iss} hs hin => ?_, fun {ns iss} hs hin => ?_⟩
  · rw [List.map_append, List.map_append, lnumbers, rnumbers, lnext, List.range'_append_1,
      show List.map (fun x : TNode => x.k) [⟨kr, ol, or, cr kr⟩] = List.range' kr 1 from rfl, hkr,
      show k + (leaves.length - 2) = k + (g - 1 + (leaves.length - g - 1)) by omega, List.range'_append_1]
    congr 1
    omega
  · show kr + 1 = _
    omega
  · rw [if_neg (by omega)]
    rfl
  · intro x hx
    rcases List.mem_append.mp hx with hx | hx
    · exact (List.mem_append.mp hx).elim (lcrucible x) (rcrucible x)
    · rw [List.mem_singleton.mp hx]
  · obtain ⟨hfl, hfr⟩ := hfound hin
    have hspan := Spans.node (hin ⟨kr, ol, or, cr kr⟩ (by simp)) (lspans (List.forall₂_take g hs) hfl)
      (rspans (List.forall₂_drop g hs) hfr)
    rwa [← List.flatten_append, List.take_append_drop] at hspan
  · obtain ⟨hfl, hfr⟩ := hfound hin
    have hlen : leaves.length = iss.length := hs.length_eq
    intro x hx
    rcases List.mem_append.mp hx with hx | hx
    · rcases List.mem_append.mp hx with hx | hx
      · obtain ⟨ls, rs, hsub, hrest⟩ := ljoins (List.forall₂_take g hs) hfl x hx
        exact ⟨ls, rs, hsub.trans (List.take_sublist g iss), hrest⟩
      · obtain ⟨ls, rs, hsub, hrest⟩ := rjoins (List.forall₂_drop g hs) hfr x hx
        exact ⟨ls, rs, hsub.trans (List.drop_sublist g iss), hrest⟩
    · rw [List.mem_singleton.mp hx]
      refine ⟨_, _, ?_, lspans (List.forall₂_take g hs) hfl, rspans (List.forall₂_drop g hs) hfr, ?_, ?_, ?_⟩
      · rw [List.take_append_drop]
      · rw [List.length_drop]; omega
      · rw [List.length_drop, List.length_take]; omega
      · rw [List.length_take, Nat.min_eq_left (by omega)]; exact hg

theorem buildTree_builds (cr : Nat → Nat) (fuel : Nat) {leaves : List Opnd} (k : Nat) (hpos : 0 < leaves.length)
    (hfuel : leaves.length ≤ fuel) : Builds cr leaves k (buildTree cr fuel leaves k) := by
  induction fuel generalizing leaves k with
  | zero => omega
  | succ fuel ih =>
    rw [buildTree]
    split
    next hone =>
      obtain ⟨o, rfl⟩ := List.length_eq_one_iff.mp (show leaves.length = 1 by omega)
      refine ⟨rfl, rfl, rfl, fun x hx => absurd hx List.not_mem_nil, fun hs _ => ?_, fun _ _ x hx => absurd hx List.not_mem_nil⟩
      obtain ⟨is, _, hspan, hnil, rfl⟩ := List.forall₂_cons_left_iff.mp hs
      rw [List.forall₂_nil_left_iff.mp hnil]
      simpa using hspan
    next hmore =>
      obtain ⟨d, hg, hlt, hle⟩ := powerBelow_self (show 2 ≤ leaves.length by omega)
      have hdpos : 0 < 2 ^ d := Nat.two_pow_pos d
      rw [hg]
      refine Builds.join ⟨d, rfl⟩ hlt hle (ih _ ?_ ?_) (ih _ ?_ ?_) <;>
        simp only [List.length_take, List.length_drop] <;> omega

/-! ### The level-2 tree (R409) -/

@[simp] theorem length_leavesOf (n : Nat) : (leavesOf n).length = n := by simp [leavesOf]

/-- The leaves of a tree, one run each. -/
def runsOf (n : Nat) : List (List Nat) := (List.range n).map fun i => [i]

theorem flatten_of_singletons {iss : List (List Nat)} (h : ∀ is ∈ iss, is.length = 1) : iss.flatten.length = iss.length := by
  induction iss with
  | nil => rfl
  | cons is iss ih =>
    rw [List.flatten_cons, List.length_append, h is (by simp), ih fun js hj => h js (by simp [hj]), List.length_cons, Nat.add_comm]

theorem length_of_mem_runsOf {n : Nat} {is : List Nat} (h : is ∈ runsOf n) : is.length = 1 := by
  obtain ⟨i, -, rfl⟩ := List.mem_map.mp h
  rfl

theorem flatten_runsOf (n : Nat) : (runsOf n).flatten = List.range n := by
  rw [runsOf, ← List.flatMap_def, List.flatMap_singleton']

theorem leavesOf_spans (ns : List TNode) (n : Nat) : List.Forall₂ (Spans ns) (leavesOf n) (runsOf n) := by
  rw [leavesOf, runsOf, List.forall₂_map_left_iff, List.forall₂_map_right_iff]
  exact List.forall₂_same.mpr fun i _ => .leaf i

/-- When the numbers of a list of nodes are the first ones in order, every node is found by its number. -/
theorem found_of_numbers {ns : List TNode} {n : Nat} (h : ns.map (fun x => x.k) = List.range n) : Found ns ns := by
  have hnodup : (ns.map fun x => x.k).Nodup := h ▸ List.nodup_range
  intro x hx
  cases hf : ns.find? (fun y => decide (y.k = x.k)) with
  | none => exact absurd (List.find?_eq_none.mp hf x hx) (by simp)
  | some y =>
    have hk : y.k = x.k := by simpa using List.find?_some hf
    rw [List.inj_on_of_nodup_map hnodup (List.mem_of_find?_eq_some hf) hx hk]

theorem level2Tree_builds {n : Nat} (h : 0 < n) :
    Builds (· % 16) (leavesOf n) 0 ((level2Tree n).1, (level2Tree n).2, n - 1) := by
  have hb := buildTree_builds (· % 16) n (leaves := leavesOf n) 0 (by simpa) (by simp)
  have hnext := hb.next
  rw [length_leavesOf, Nat.zero_add] at hnext
  rw [← hnext]
  exact hb

theorem Builds.root_eq {cr : Nat → Nat} {n : Nat} {t : List TNode × Opnd} (h : Builds cr (leavesOf n) 0 (t.1, t.2, n - 1)) :
    t.2 = if n = 1 then .leaf 0 else .node (n - 2) := by
  have hroot := h.root
  rw [length_leavesOf] at hroot
  show t.2 = _
  rw [show t.2 = _ from hroot]
  by_cases hone : n = 1
  · subst hone
    rfl
  · rw [if_neg hone, if_neg hone]
    rfl

theorem Builds.numbers_range {cr : Nat → Nat} {n : Nat} {t : List TNode × Opnd}
    (h : Builds cr (leavesOf n) 0 (t.1, t.2, n - 1)) : t.1.map (fun x => x.k) = List.range (n - 1) := by
  have hnumbers := h.numbers
  rwa [length_leavesOf, ← List.range_eq_range'] at hnumbers

/-! ### The level-1 tree (R409) -/

/-- The trees of `left` groups over a run of leaves, their nodes numbered from `k`. -/
structure BuildsGroups (left : Nat) (leaves : List Opnd) (k : Nat) (t : List TNode × List Opnd × Nat) : Prop where
  roots : t.2.1.length = left
  numbers : t.1.map (fun x => x.k) = List.range' k (leaves.length - left)
  next : t.2.2 = k + (leaves.length - left)
  spans : ∀ {ns iss}, List.Forall₂ (Spans ns) leaves iss → Found ns t.1 →
    ∃ jss : List (List Nat), List.Forall₂ (Spans ns) t.2.1 jss ∧ jss.flatten = iss.flatten

/-- A group's tree before the trees of the groups after it. -/
theorem BuildsGroups.cons {cr : Nat → Nat} {left size k kl kr : Nat} {leaves : List Opnd} {nl nr : List TNode} {ol : Opnd}
    {roots : List Opnd} (hsize : 0 < size) (hlen : size + left ≤ leaves.length)
    (hl : Builds cr (leaves.take size) k (nl, ol, kl)) (hr : BuildsGroups left (leaves.drop size) kl (nr, roots, kr)) :
    BuildsGroups (left + 1) leaves k (nl ++ nr, ol :: roots, kr) := by
  obtain ⟨lnumbers, lnext, -, -, lspans, -⟩ := hl
  obtain ⟨rroots, rnumbers, rnext, rspans⟩ := hr
  have htake : (leaves.take size).length = size := by rw [List.length_take]; omega
  have hdrop : (leaves.drop size).length = leaves.length - size := List.length_drop
  simp only [htake, hdrop] at lnumbers lnext rnumbers rnext rroots
  refine ⟨congrArg (· + 1) rroots, ?_, ?_, fun {ns iss} hs hin => ?_⟩
  · rw [List.map_append, lnumbers, rnumbers, lnext, List.range'_append_1]
    congr 1
    omega
  · show kr = _
    omega
  · have hroot := lspans (List.forall₂_take size hs) fun x hx => hin x (by simp [hx])
    obtain ⟨jss, hjss, hflat⟩ := rspans (List.forall₂_drop size hs) fun x hx => hin x (by simp [hx])
    refine ⟨_, .cons hroot hjss, ?_⟩
    rw [List.flatten_cons, hflat, ← List.flatten_append, List.take_append_drop]

theorem buildGroups_builds {q m : Nat} (hq : 0 < q) (left j : Nat) {leaves : List Opnd} (k : Nat) (hm : m ≤ j + left)
    (hlen : leaves.length = left * q + (m - j)) : BuildsGroups left leaves k (buildGroups q m left j leaves k) := by
  induction left generalizing j leaves k with
  | zero =>
    have hnil : leaves = [] := List.length_eq_zero_iff.mp (by omega)
    subst hnil
    refine ⟨rfl, rfl, rfl, fun hs _ => ⟨[], .nil, ?_⟩⟩
    rw [List.forall₂_nil_left_iff.mp hs]
  | succ left ih =>
    rw [Nat.succ_mul] at hlen
    have hmul : left ≤ left * q := Nat.le_mul_of_pos_right left hq
    rw [buildGroups]
    obtain ⟨size, hsize⟩ : ∃ size, size = if j < m then q + 1 else q := ⟨_, rfl⟩
    have hrest : 0 < size ∧ leaves.length - size = left * q + (m - (j + 1)) ∧ size + left ≤ leaves.length := by
      split at hsize <;> omega
    obtain ⟨hpos, hafter, hfits⟩ := hrest
    rw [← hsize]
    have htake : (leaves.take size).length = size := by rw [List.length_take]; omega
    exact BuildsGroups.cons hpos hfits (buildTree_builds _ size k (by omega) (by omega))
      (ih (j + 1) _ (by omega) (by rw [List.length_drop]; exact hafter))

/-- The tree over the group trees, when there are at least two groups. -/
theorem buildTree_over_groups {n gg : Nat} {ns : List TNode} {roots : List Opnd} {k : Nat} (cr : Nat → Nat) (hgg : 1 < gg)
    (hn : gg < n) (hg : BuildsGroups gg (leavesOf n) 0 (ns, roots, k)) :
    let t := buildTree cr gg roots k
    (ns ++ t.1).map (fun x => x.k) = List.range (n - 1) ∧ t.2.1 = .node (n - 2) ∧
      Spans (ns ++ t.1) t.2.1 (List.range n) := by
  obtain ⟨hroots, hnumbers, hnext, hspans⟩ := hg
  simp only [length_leavesOf] at hroots hnumbers hnext
  have hb := buildTree_builds cr gg (leaves := roots) k (by omega) (by omega)
  generalize buildTree cr gg roots k = t at hb
  obtain ⟨tnumbers, tnext, troot, -, tspans, -⟩ := hb
  have hall : (ns ++ t.1).map (fun x => x.k) = List.range (n - 1) := by
    rw [List.map_append, hnumbers, tnumbers, hnext, List.range'_append_1, List.range_eq_range', hroots]
    congr 1
    omega
  have hfound := found_of_numbers hall
  obtain ⟨jss, hjss, hflat⟩ := hspans (leavesOf_spans _ n) fun x hx => hfound x (List.mem_append_left _ hx)
  refine ⟨hall, ?_, ?_⟩
  · rw [troot, if_neg (by omega), tnext]
    congr 1
    omega
  · rw [← flatten_runsOf n, ← hflat]
    exact tspans hjss fun x hx => hfound x (List.mem_append_right _ hx)

/-- With one group the level-1 tree is that group's tree. -/
theorem level1Tree_one {n : Nat} (h : 1 < n) :
    level1Tree n 1 = ((buildTree (fun _ => 0) n (leavesOf n) 0).1, (buildTree (fun _ => 0) n (leavesOf n) 0).2.1) := by
  have htake : (leavesOf n).take n = leavesOf n := List.take_of_length_le (by simp)
  rw [level1Tree, if_neg (by omega), Nat.div_one, Nat.mod_one]
  simp only [buildGroups, Nat.not_lt_zero, if_false, htake, List.append_nil, buildTree, List.length_singleton, Nat.le_refl, if_true,
    List.headD_cons, Nat.zero_mod]

/-- What R409 asks of a tree over `n` leaves: its numbers, its root and the order of its leaves. -/
def TreeOver (n : Nat) (t : List TNode × Opnd) : Prop :=
  t.1.map (fun x => x.k) = List.range (n - 1) ∧ t.2 = (if n = 1 then .leaf 0 else .node (n - 2)) ∧
    leavesUnder t.1 n t.2 = List.range n

theorem Builds.treeOver {cr : Nat → Nat} {n : Nat} {t : List TNode × Opnd} (h : Builds cr (leavesOf n) 0 (t.1, t.2, n - 1)) :
    TreeOver n t := by
  refine ⟨h.numbers_range, h.root_eq, ?_⟩
  have hspan := h.spans (leavesOf_spans _ n) (found_of_numbers h.numbers_range)
  rw [flatten_runsOf] at hspan
  exact hspan.leavesUnder_eq (by simp)

theorem level1Tree_of_le {n g : Nat} (h : n ≤ g) : level1Tree n g = level2Tree n := by
  rw [level1Tree, if_pos (.inl h)]
  rfl

theorem level1Tree_treeOver {n g : Nat} (hn : 0 < n) (hg : 0 < g) : TreeOver n (level1Tree n g) := by
  by_cases hle : n ≤ g
  · rw [level1Tree_of_le hle]
    exact (level2Tree_builds hn).treeOver
  by_cases hone : g = 1
  · subst hone
    have hb := buildTree_builds (fun _ => 0) n (leaves := leavesOf n) 0 (by simpa) (by simp)
    have hnext := hb.next
    rw [length_leavesOf, Nat.zero_add] at hnext
    rw [level1Tree_one (by omega)]
    refine Builds.treeOver (cr := fun _ => 0) ?_
    rw [← hnext]
    exact hb
  · have hdiv := Nat.div_add_mod n g
    have hb := buildGroups_builds (q := n / g) (m := n % g) (Nat.div_pos (by omega) hg) g 0 (leaves := leavesOf n) 0
      ((Nat.mod_lt n hg).le.trans (by omega)) (by rw [length_leavesOf]; omega)
    obtain ⟨hnumbers, hroot, hspan⟩ := buildTree_over_groups (· % 16) (by omega) (by omega) hb
    rw [level1Tree, if_neg (by omega)]
    refine ⟨hnumbers, ?_, hspan.leavesUnder_eq (by simp)⟩
    rw [if_neg (by omega)]
    exact hroot

/-- The sides of a node of the level-2 tree: the left one a power of two of leaves, the right one as many or fewer. -/
theorem level2Tree_sides {n : Nat} (hn : 0 < n) {x : TNode} (hx : x ∈ (level2Tree n).1) :
    let under := leavesUnder (level2Tree n).1 n
    0 < (under x.right).length ∧ (under x.right).length ≤ (under x.left).length ∧ ∃ e, (under x.left).length = 2 ^ e := by
  have hb := level2Tree_builds hn
  obtain ⟨ls, rs, hsub, hleft, hright, hpos, hle, e, he⟩ :=
    hb.joins (leavesOf_spans _ n) (found_of_numbers hb.numbers_range) x hx
  have hone : ∀ is ∈ ls ++ rs, is.length = 1 := fun is his => length_of_mem_runsOf (hsub.subset his)
  have hl := flatten_of_singletons fun is his => hone is (List.mem_append_left _ his)
  have hr := flatten_of_singletons fun is his => hone is (List.mem_append_right _ his)
  have hall := hsub.length_le
  simp only [List.length_append, runsOf, List.length_map, List.length_range] at hall
  simp only [hleft.leavesUnder_eq (show ls.flatten.length ≤ n by omega), hright.leavesUnder_eq (show rs.flatten.length ≤ n by omega),
    hl, hr]
  exact ⟨hpos, hle, e, he⟩

/-! ### The node index (R333, R409) -/

theorem nodeIndex_one_inj {side device k s d j : Nat} (hdevice : device < 128) (hk : k < 256) (hd : d < 128) (hj : j < 256)
    (h : nodeIndex 1 side device k = nodeIndex 1 s d j) : s = side ∧ d = device ∧ j = k := by
  simp only [nodeIndex, if_true] at h
  omega

theorem nodeIndex_one_lt {side device k : Nat} (hside : side < 2) (hdevice : device < 128) (hk : k < 256) :
    nodeIndex 1 side device k < 65536 := by
  simp only [nodeIndex, if_true]
  omega

/-- Settles O28: each node spans the leaves of its left side and then those of its right, and the built nodes are found by their
numbers. -/
theorem treesReduceInOrder : Obligations.TreesReduceInOrder := by
  unfold Obligations.TreesReduceInOrder
  refine ⟨?level2, ?level1, ?index⟩
  case level2 =>
    intro n hn
    have hb := level2Tree_builds hn
    obtain ⟨hnumbers, hroot, hleaves⟩ := hb.treeOver
    exact ⟨hnumbers, hroot, hleaves, hb.crucible, fun x hx => level2Tree_sides hn hx⟩
  case level1 =>
    intro n g hn hg
    obtain ⟨hnumbers, hroot, hleaves⟩ := level1Tree_treeOver hn hg
    exact ⟨hnumbers, hroot, hleaves, level1Tree_of_le⟩
  case index =>
    intro side device k hside hdevice hk
    exact ⟨fun s d j _ hd hj h => nodeIndex_one_inj hdevice hk hd hj h, nodeIndex_one_lt hside hdevice hk⟩

end Sys2Proof.Machine
end

section
/-! Family `15_determinism.md`: checkpoint images, the checkpoint and the resume. -/

namespace Sys2Proof.Machine

/-! ### CRC-32C as a 32-bit field (R154) -/

theorem crcStep_lt (n : Nat) {c : Nat} (h : c < 2 ^ 32) : crcStep n c < 2 ^ 32 := by
  induction n generalizing c with
  | zero => exact h
  | succ n ih =>
    rw [crcStep]
    split
    · exact ih (Nat.xor_lt_two_pow (by omega) (by decide))
    · exact ih (by omega)

theorem crcBytes_lt (bs : Bytes) {c : Nat} (h : c < 2 ^ 32) : crcBytes c bs < 2 ^ 32 := by
  induction bs generalizing c with
  | nil => exact h
  | cons b bs ih => exact ih (crcStep_lt 8 (Nat.xor_lt_two_pow h (b.isLt.trans (by decide))))

theorem crc32c_lt (bs : Bytes) : crc32c bs < 2 ^ 32 := Nat.xor_lt_two_pow (crcBytes_lt bs (by decide)) (by decide)

/-! ### The image of a checkpoint (R435) -/

theorem natLe_zero (n : Nat) : natLe n 0 = List.replicate n 0 := by
  induction n with
  | zero => rfl
  | succ n ih =>
    rw [natLe, Nat.zero_div, ih, List.replicate_succ]
    rfl

/-- The fields of an image before IMAGE_CRC (R435). -/
def ckptHead (full : Bool) (device step epoch events dests stores plan length : Nat) : Bytes :=
  [0x43, 0x4B, 0x50, 0x54] ++ natLe 2 1 ++ natLe 1 full.toNat ++ natLe 1 device ++ natLe 8 step ++ natLe 4 epoch ++
    natLe 2 events ++ natLe 2 dests ++ natLe 1 stores ++ natLe 3 0 ++ natLe 4 plan ++ natLe 8 length ++ natLe 20 0

/-- An image is its head, the CRC of all but itself, and a body that begins with the record. -/
theorem ckptImage_eq (s : State) (c : Ckpt) (n : CkptSnap) (l : List (Nat × List (Nat × Nat × Nat))) :
    ∃ body head, s.ckptImage c n l = head ++ natLe 4 (crc32c (head ++ body)) ++ body ∧
      head = ckptHead c.params.full (s.group.set.deviceId + s.group.set.side * 128) c.step n.epoch n.events.length n.dests.length
        s.coll.stores.length n.plan.length (64 + body.length) ∧ ∃ rest, body = n.record ++ rest := by
  refine ⟨_, _, rfl, rfl, ?_⟩
  simp only [pad64, List.append_assoc]
  exact ⟨_, rfl⟩

section
variable (full : Bool) (device step epoch events dests stores plan length : Nat) (t : Bytes)

/-- What the fields of an image's head read. -/
structure HeadReads (b : Bytes) : Prop where
  magic : b.take 4 = [0x43, 0x4B, 0x50, 0x54]
  version : fieldAt b 4 2 = 1
  isFull : fieldAt b 6 1 = full.toNat
  ofDevice : fieldAt b 7 1 = device % 256
  atStep : fieldAt b 8 8 = step % 2 ^ 64
  eventCount : fieldAt b 20 2 = events % 2 ^ 16
  destCount : fieldAt b 22 2 = dests % 2 ^ 16
  storeCount : fieldAt b 24 1 = stores % 256
  zeros : zeroAt b 25 3 = true ∧ zeroAt b 40 20 = true
  imageLength : fieldAt b 32 8 = length % 2 ^ 64
  head : b.take 60 = ckptHead full device step epoch events dests stores plan length
  crc : fieldAt b 60 4 = leNat (t.take 4)
  body : b.drop 64 = t.drop 4

theorem headReads_append : HeadReads full device step epoch events dests stores plan length t
    (ckptHead full device step epoch events dests stores plan length ++ t) := by
  constructor <;> simp [ckptHead, fieldAt, zeroAt, List.drop_append, List.take_append, List.drop_eq_nil_of_le, List.take_of_length_le, length_natLe,
    leNat_natLe, natLe_zero]
  exact (Bool.toNat_lt full).trans (by decide)

end

/-- Settles O31. -/
theorem checkpointImageIsAccepted : Obligations.CheckpointImageIsAccepted := by
  unfold Obligations.CheckpointImageIsAccepted
  intro s c n l hdevice hside hevents hdests hstores
  obtain ⟨body, head, himage, hhead, rest, hbody⟩ := ckptImage_eq s c n l
  have hreads := headReads_append c.params.full (s.group.set.deviceId + s.group.set.side * 128) c.step n.epoch n.events.length
    n.dests.length s.coll.stores.length n.plan.length (64 + body.length) (natLe 4 (crc32c (head ++ body)) ++ body)
  rw [← hhead, ← List.append_assoc, ← himage] at hreads
  have hlength : (s.ckptImage c n l).length = 64 + body.length := by
    rw [himage, hhead]
    simp [ckptHead, length_natLe]
    omega
  generalize s.ckptImage c n l = b at hreads hlength
  have hbodyAt : b.drop 64 = body := by
    rw [hreads.body, List.drop_left' (length_natLe 4 _)]
  have hcrc : fieldAt b 60 4 = crc32c (b.take 60 ++ b.drop 64) := by
    rw [hreads.crc, List.take_left' (length_natLe 4 _), leNat_natLe, Nat.mod_eq_of_lt (show _ < 256 ^ 4 from crc32c_lt _),
      hbodyAt, hreads.head, hhead]
  have hdev : s.group.set.deviceId + s.group.set.side * 128 < 256 := by omega
  have hfull : c.params.full.toNat ≤ 1 := Bool.toNat_le _
  obtain ⟨hzero, hzeros⟩ := hreads.zeros
  refine ⟨?_, hcrc, hreads.atStep, hreads.isFull, by rw [hreads.imageLength, hlength], ?_⟩
  · simp only [State.imageOk, hreads.magic, hreads.version, hreads.isFull, hreads.ofDevice, hreads.eventCount, hreads.destCount,
      hreads.storeCount, hzero, hzeros, ← hcrc, Bool.and_eq_true, decide_eq_true_eq, true_and, and_true]
    omega
  · rw [sliceAt, hbodyAt, hbody, List.take_left, Nat.sub_self]
    exact List.append_nil _

theorem OnlySpeaks.restartDue {s t : State} (h : OnlySpeaks s t) : t.lock.restartDue = s.lock.restartDue :=
  (congrArg (fun u : State => u.lock.restartDue) (show t = s.voicedAs t from h)).trans rfl

theorem OnlySpeaks.isManager {s t : State} (h : OnlySpeaks s t) : t.isManager = s.isManager :=
  (congrArg State.isManager (show t = s.voicedAs t from h)).trans rfl

/-- A member's image is awaited as long as no acknowledgement names the member. -/
theorem ckptAwaited_iff (s : State) (c : Ckpt) :
    s.ckptAwaited c = true ↔ ∃ d ∈ s.audience ++ [s.group.set.deviceId], ∀ a ∈ c.acks, a.1 ≠ d := by
  rw [State.ckptAwaited, List.any_eq_true]
  simp

/-! ### Images written and acknowledged (R432, R433) -/

section
variable {s : State} {c : Ckpt} (hc : s.det.ckpt = some c)
include hc

section
variable {n : CkptSnap} {l : List (Nat × List (Nat × Nat × Nat))} (hn : c.snap = some n) (hphase : c.phase = .capturing)
  (hreleased : s.earlierReleased c.step = true)
  (hcarries : n.dests.map (fun d => ((s.destQ? d).bind (fun q => q.carryAt c.step)).map (fun l => (d, l))) = l.map some)
include hn hphase hreleased hcarries

theorem imageWrite_written {u : State} (hu : s.placeImage c.params.toMedia c.params.address (s.ckptImage c n l) = some u) :
    let image := s.ckptImage c n l
    let crc := fieldAt image 60 4
    let v : State := { u with det := { u.det with
      ckpt := some { c with phase := .written, own := some (crc, image.length) }
      lights := if c.params.full then u.det.lights else u.det.lights ++ [crc] } }
    exec (.checkpointImageWrite .written) s = .next (if u.isManager then v.takeCkptAck u.group.set.deviceId crc image.length
      else (v.sendPiece 3 (.ckptAck crc image.length)).startDue) := by
  show execCheckpointImageWrite .written s = _
  have hall : (l.map some).filterMap (fun x => x) = l := by simp
  simp only [execCheckpointImageWrite, hc, Option.bind_some, hn, hcarries, hall, if_true, hu]
  rw [if_neg (by simp [hphase, hreleased])]
  rfl

theorem imageWrite_failed : exec (.checkpointImageWrite .failed) s =
    .next (if s.leads then s.failCkpt else s.sendPiece 3 (.item (.ckptFailed c.step))) := by
  show execCheckpointImageWrite .failed s = _
  simp only [execCheckpointImageWrite, hc, Option.bind_some, hn, hcarries]
  rw [if_neg (by simp [hphase, hreleased])]
  rfl

end

/-- A checkpoint fails on the manager that leads: its events are gone, it is marked as failed and the holds are released. -/
theorem failCkpt_of_leads (hphase : c.phase = .capturing) (hleads : s.leads = true) : ∃ u : State, s.failCkpt = u.releaseHolds ∧
    (s.lock.restartDue = none → u.det.ckpt = some { c with phase := .failed }) ∧
    (s.lock.restartDue = none → ∀ e ∈ u.gauge.armed, e.kind ≠ .checkpoint) := by
  obtain ⟨g, hg⟩ : ∃ g : GaugeState, g = { s.gauge with armed := s.gauge.armed.filter (fun e => !decide (e.kind = .checkpoint)) } :=
    ⟨_, rfl⟩
  obtain ⟨u, hu⟩ : ∃ u : State, u = (({ s with gauge := g } : State).raise .checkpointFailed 0 (natLe 8 c.step)).spread
    (.ckptFailed c.step) := ⟨_, rfl⟩
  have hspeaks : OnlySpeaks { s with gauge := g } u := hu ▸ (raise_speaks _ _ _ _).trans (spread_speaks _ _)
  refine ⟨u.ckptPhase .failed, ?_, fun hdue => ?_, fun hdue => ?_⟩
  · have hl : State.leads { s with gauge := g } = true := hleads
    rw [hu, hg] at *
    simp only [State.failCkpt, hc, hphase, hl]
    rw [if_neg (by decide)]
    rfl
  · have hnone : u.lock.restartDue = none := hspeaks.restartDue.trans hdue
    simp only [State.ckptPhase, State.startDue, hnone, hspeaks.det, hc, Option.map_some]
  · have hnone : u.lock.restartDue = none := hspeaks.restartDue.trans hdue
    simp only [State.ckptPhase, State.startDue, hnone, hspeaks.gauge, hg]
    intro e he
    simpa using List.of_mem_filter he

/-! Acknowledgements reach the manager (R432). -/

section
variable (device crc length : Nat) (hmanager : s.isManager = true)
include hmanager

theorem ckptAck_kept {acks : List (Nat × Nat × Nat)}
    (hacks : acks = c.acks.filter (fun a => decide (a.1 ≠ device)) ++ [(device, crc, length)])
    (hopen : c.phase ≠ .written ∨ ∃ d ∈ s.audience ++ [s.group.set.deviceId], ∀ a ∈ acks, a.1 ≠ d) :
    exec (.checkpointAckReceive device crc length) s = .next { s with det := { s.det with ckpt := some { c with acks := acks } } } := by
  show execCheckpointAckReceive device crc length s = _
  rw [execCheckpointAckReceive, if_pos ⟨hmanager, by rw [hc]; rfl⟩]
  simp only [State.takeCkptAck, hc, Option.map_some, ← hacks, State.ckptComplete]
  rw [if_pos (hopen.imp_right (ckptAwaited_iff { s with det := { s.det with ckpt := some { c with acks := acks } } } _).mpr)]

theorem ckptAck_last {acks : List (Nat × Nat × Nat)}
    (hacks : acks = c.acks.filter (fun a => decide (a.1 ≠ device)) ++ [(device, crc, length)]) (hphase : c.phase = .written)
    (hall : ∀ d ∈ s.audience ++ [s.group.set.deviceId], ∃ a ∈ acks, a.1 = d) (hleads : s.leads = true) :
    exec (.checkpointAckReceive device crc length) s =
      .next (((({ s with det := { s.det with ckpt := some { c with acks := acks } } } : State).raise .checkpointDone 0
        (natLe 8 c.step)).spread (.ckptDone c.step)).finishCkpt) := by
  show execCheckpointAckReceive device crc length s = _
  have hdone : ¬ (c.phase ≠ .written ∨ State.ckptAwaited { s with det := { s.det with ckpt := some { c with acks := acks } } }
      { c with acks := acks } = true) := by
    rw [ckptAwaited_iff]
    rintro (h | ⟨d, hd, hnone⟩)
    · exact h hphase
    · obtain ⟨a, ha, hkey⟩ := hall d hd
      exact hnone a ha hkey
  rw [execCheckpointAckReceive, if_pos ⟨hmanager, by rw [hc]; rfl⟩]
  simp only [State.takeCkptAck, hc, Option.map_some, ← hacks, State.ckptComplete]
  rw [if_neg hdone, if_pos (show State.leads { s with det := { s.det with ckpt := some { c with acks := acks } } } = true from hleads)]

end
end

/-! ### Checks in their order (R523) -/

theorem firstReject_cons_of_pass {p : Bool × Reject} (h : p.1 = false) (l : List (Bool × Reject)) :
    firstReject (p :: l) = firstReject l := by
  obtain ⟨b, e⟩ := p
  rw [firstReject_cons, show b = false from h, if_neg Bool.false_ne_true]

theorem firstReject_cons_of_fail {p : Bool × Reject} (h : p.1 = true) (l : List (Bool × Reject)) :
    firstReject (p :: l) = some p.2 := by
  obtain ⟨b, e⟩ := p
  rw [firstReject_cons, show b = true from h, if_pos rfl]

theorem firstReject_append_of_pass {l : List (Bool × Reject)} (h : firstReject l = none) (m : List (Bool × Reject)) :
    firstReject (l ++ m) = firstReject m := by
  induction l with
  | nil => rfl
  | cons p l ih =>
    have hall := (firstReject_eq_none _).mp h
    have hp := hall p (List.mem_cons_self ..)
    rw [List.cons_append, firstReject_cons_of_pass hp, ih ((firstReject_eq_none _).mpr fun q hq => hall q (List.mem_cons_of_mem _ hq))]

/-! ### Resuming (R437, R438) -/

section
variable {s : State} {r : Req} {flags place address : Nat} (hform : FormOk s r 0x0434) (hm : MayManage s r) (hflags : flags ≤ 1)
  (hplace : place ≤ 1)

section
include hm hflags hplace

theorem resume_first_checks (hactive : s.plan.active = none) (hweir : r.mb ≠ 5 → s.weirBusy = false) :
    firstReject [s.notManager r, (decide (1 < place), badParam 0), (decide (1 < flags), badParam 16),
      (s.plan.active.isSome, ⟨.inUse, 0⟩), (decide (r.mb ≠ 5) && s.weirBusy, ⟨.weirBusy, 0⟩)] = none := by
  rw [firstReject_eq_none]
  by_cases hmb : r.mb = 5
  · simp [(notManager_fst s r).mpr hm, hflags, hplace, hactive, hmb]
  · simp [(notManager_fst s r).mpr hm, hflags, hplace, hactive, hweir hmb]

end

include hform hm hflags hplace

section
variable {b : Bytes} (hactive : s.plan.active = none) (hweir : r.mb ≠ 5 → s.weirBusy = false)
  (himage : s.readImage place address = some b) (hcheck : firstReject (s.resumeCheck flags (some b)) = none)
include hactive hweir himage hcheck

theorem resume_of_member (hmb : r.mb = 5) : exec (.checkpointResume r flags place address) s =
    .next (((s.resumeHere b).firstWeir r ⟨fieldAt b 8 8, 0⟩).answer r 0x0434 .ok) := by
  show execCheckpointResume r flags place address s = _
  simp only [execCheckpointResume, himage, firstReject_append_of_pass (resume_first_checks hm hflags hplace hactive hweir), hcheck,
    finish_ok hform, Option.getD_some]
  rw [if_pos hmb]

theorem resume_of_lone_manager (hmb : r.mb ≠ 5) (haudience : s.audience = []) :
    ∃ u : State, u = (s.answerInProgress r 0x0434 []).resumeHere b ∧
      exec (.checkpointResume r flags place address) s =
        .next { u.firstWeir r ⟨fieldAt b 8 8, 0⟩ with
          det := { (u.firstWeir r ⟨fieldAt b 8 8, 0⟩).det with resumeWaiter := some r } } := by
  refine ⟨_, rfl, ?_⟩
  show execCheckpointResume r flags place address s = _
  simp only [execCheckpointResume, himage, firstReject_append_of_pass (resume_first_checks hm hflags hplace hactive hweir), hcheck,
    finish_ok hform, Option.getD_some]
  rw [if_neg hmb, haudience]
  rfl

end

theorem resume_of_active (hactive : s.plan.active ≠ none) :
    exec (.checkpointResume r flags place address) s = .next (s.answer r 0x0434 .inUse) := by
  show execCheckpointResume r flags place address s = _
  have hisSome : s.plan.active.isSome = true := Option.isSome_iff_ne_none.mpr hactive
  simp only [execCheckpointResume, List.cons_append]
  rw [firstReject_cons_of_pass ((notManager_fst s r).mpr hm), firstReject_cons_of_pass (by simp [hplace]),
    firstReject_cons_of_pass (by simp [hflags]), firstReject_cons_of_fail hisSome, finish_reject hform]

theorem resume_of_weirBusy (hactive : s.plan.active = none) (hmb : r.mb ≠ 5) (hweir : s.weirBusy = true) :
    exec (.checkpointResume r flags place address) s = .next (s.answer r 0x0434 .weirBusy) := by
  show execCheckpointResume r flags place address s = _
  simp only [execCheckpointResume, List.cons_append]
  rw [firstReject_cons_of_pass ((notManager_fst s r).mpr hm), firstReject_cons_of_pass (by simp [hplace]),
    firstReject_cons_of_pass (by simp [hflags]), firstReject_cons_of_pass (by simp [hactive]),
    firstReject_cons_of_fail (by simp [hmb, hweir]), finish_reject hform]

theorem resume_of_bad_image (hactive : s.plan.active = none) (hweir : s.weirBusy = false)
    (hbad : ∀ b, s.readImage place address = some b → s.imageOk b = false) :
    exec (.checkpointResume r flags place address) s = .next (s.answer r 0x0434 .checkpointInvalid s.group.set.deviceId) := by
  show execCheckpointResume r flags place address s = _
  simp only [execCheckpointResume, firstReject_append_of_pass (resume_first_checks hm hflags hplace hactive fun _ => hweir)]
  have hinvalid : firstReject (s.resumeCheck flags (s.readImage place address)) = some ⟨.checkpointInvalid, s.group.set.deviceId⟩ := by
    cases himage : s.readImage place address with
    | none => rfl
    | some b =>
      simp only [State.resumeCheck, List.cons_append]
      rw [firstReject_cons_of_fail (by simp [hbad b himage])]
  rw [hinvalid, finish_reject hform]

end

/-! The Gauge and the plan that the image leaves (R438). -/

/-- Two states agree on the Gauge but for its armed events, and on the plan. -/
def SameJob (s t : State) : Prop :=
  t.gauge.epoch = s.gauge.epoch ∧ t.gauge.committed = s.gauge.committed ∧ t.plan = s.plan

theorem SameJob.trans {s t u : State} (h : SameJob s t) (k : SameJob t u) : SameJob s u :=
  ⟨k.1.trans h.1, k.2.1.trans h.2.1, k.2.2.trans h.2.2⟩

theorem OnlySpeaks.sameJob {s t : State} (h : OnlySpeaks s t) : SameJob s t := by
  rw [SameJob, h.gauge, h.plan]
  exact ⟨rfl, rfl, rfl⟩

theorem rearm_sameJob (s : State) (e : Nat × Nat × Bytes) : SameJob s (s.rearm e) := ⟨rfl, rfl, rfl⟩

theorem memWrite_sameJob (s : State) (a : Nat) (bs : Bytes) : SameJob s (s.memWrite a bs) := by
  unfold State.memWrite
  dsimp only
  split <;> exact ⟨rfl, rfl, rfl⟩

theorem recreateStore_sameJob (s : State) (b e : Bytes) : SameJob s (s.recreateStore b e) := by
  unfold State.recreateStore
  dsimp only
  split
  · exact ⟨rfl, rfl, rfl⟩
  · exact SameJob.trans ⟨rfl, rfl, rfl⟩ (memWrite_sameJob _ _ _)

theorem issueRecord_sameJob (s : State) (step : Nat) : SameJob s (s.issueRecord step) := by
  unfold State.issueRecord
  extract_lets r same all
  split
  · exact ⟨rfl, rfl, rfl⟩
  · exact (raise_speaks _ _ _ _).sameJob

theorem foldl_sameJob {α : Type} {f : State → α → State} (h : ∀ s x, SameJob s (f s x)) (xs : List α) (s : State) :
    SameJob s (xs.foldl f s) := by
  induction xs generalizing s with
  | nil => exact ⟨rfl, rfl, rfl⟩
  | cons x xs ih => exact (h s x).trans (ih _)

theorem foldl_no_carries {f : State → Nat → (Nat × Nat × Nat) → State} {qs : List (Nat × List (Nat × Nat × Nat))}
    (h : ∀ q ∈ qs, q.2 = []) (s : State) : qs.foldl (fun s q => q.2.foldl (fun s c => f s q.1 c) s) s = s := by
  induction qs with
  | nil => rfl
  | cons q qs ih =>
    rw [List.foldl_cons, h q (List.mem_cons_self ..)]
    exact ih fun x hx => h x (List.mem_cons_of_mem _ hx)

/-- The Gauge, the epoch and the plan are those of an image. -/
def JobOf (b : Bytes) (s : State) : Prop :=
  s.gauge.epoch = fieldAt b 16 4 ∧ s.gauge.committed = ⟨fieldAt b 8 8, 0⟩ ∧ s.plan.startGauge = ⟨fieldAt b 8 8, 0⟩ ∧
    ∃ n, s.plan.active = some (n, imagePlan b)

theorem SameJob.jobOf {s t : State} {b : Bytes} (h : SameJob s t) (hs : JobOf b s) : JobOf b t := by
  obtain ⟨hepoch, hcommitted, hplan⟩ := h
  rwa [JobOf, hepoch, hcommitted, hplan]

theorem resumeHere_jobOf (s : State) (b : Bytes) (h : ∀ q ∈ imageCarries b, q.2 = []) : JobOf b (s.resumeHere b) := by
  unfold State.resumeHere
  dsimp only
  rw [foldl_no_carries h]
  refine (issueRecord_sameJob _ _).jobOf ?_
  have hrearmed (u : State) (hu : JobOf b u) : JobOf b ((imageEvents b).foldl State.rearm u) :=
    (foldl_sameJob rearm_sameJob _ _).jobOf hu
  split
  · exact (foldl_sameJob (fun s e => recreateStore_sameJob s b e) _ _).jobOf (hrearmed _ ⟨rfl, rfl, rfl, _, rfl⟩)
  · exact hrearmed _ ⟨rfl, rfl, rfl, _, rfl⟩

/-- Settles O32. -/
theorem checkpointsRun : Obligations.CheckpointsRun := by
  unfold Obligations.CheckpointsRun
  refine ⟨⟨?write, ?acks, ?member⟩, ?resume, ?refused, fun s b h => resumeHere_jobOf s b h⟩
  case write =>
    intro s c n l hc hn hphase hreleased hcarries
    refine ⟨fun u hu => imageWrite_written hc hn hphase hreleased hcarries hu, fun hleads => ?_, fun hleads => ?_⟩
    · obtain ⟨u, hfail, hck, harmed⟩ := failCkpt_of_leads hc hphase hleads
      refine ⟨u, ?_, hck, harmed⟩
      rw [imageWrite_failed hc hn hphase hreleased hcarries, if_pos hleads, hfail]
    · rw [imageWrite_failed hc hn hphase hreleased hcarries, if_neg (by rw [hleads]; exact Bool.false_ne_true)]
  case acks =>
    intro s c device crc length hmanager hc
    exact ⟨fun hopen => ckptAck_kept hc device crc length hmanager rfl hopen,
      fun hphase hall hleads => ckptAck_last hc device crc length hmanager rfl hphase hall hleads⟩
  case member =>
    intro s device crc length hmanager
    show execCheckpointAckReceive device crc length s = _
    rw [execCheckpointAckReceive, if_neg (by simp [hmanager])]
  case resume =>
    intro s r flags place address b hform hm hflags hplace hactive hweir himage hcheck
    exact ⟨fun hmb => resume_of_member hform hm hflags hplace hactive hweir himage hcheck hmb,
      fun hmb haudience => resume_of_lone_manager hform hm hflags hplace hactive hweir himage hcheck hmb haudience⟩
  case refused =>
    intro s r flags place address hform hm hflags hplace
    exact ⟨resume_of_active hform hm hflags hplace, resume_of_weirBusy hform hm hflags hplace,
      resume_of_bad_image hform hm hflags hplace⟩

end Sys2Proof.Machine
end

section
/-! Family `16_switch_and_scheduler.md`: the disposal of received frames, admission and resequencing, egress and the buffer audit,
the port and switch commands. -/

namespace Sys2Proof.Machine

/-! ### The disposal of a received frame (R448) -/

section
variable {s : State} {port : Nat} {p : Port} {f : Frame} (hp : s.port? port = some p) (hup : p.up = true)
include hp hup

theorem frameReceive_of_bad_fcs (hfcs : f.fcsOk = false) :
    exec (.frameReceive port f) s = .next (s.setPort { p with fcsErrors := p.fcsErrors + 1 }) := by
  show execFrameReceive port f s = _
  simp [execFrameReceive, hp, hup, hfcs]

variable (hfcs : f.fcsOk = true)
include hfcs

theorem frameReceive_of_long (hlong : p.mtu < f.length) :
    exec (.frameReceive port f) s = .next (((s.count (.port port 0)).count (.port port 2) f.length).drop port 1) := by
  show execFrameReceive port f s = _
  simp [execFrameReceive, hp, hup, hfcs, hlong]

variable (hmtu : f.length ≤ p.mtu)
include hmtu

theorem frameReceive_of_ring (hring : p.kind = .ringIn ∨ p.kind = .ringOut) : exec (.frameReceive port f) s =
    let u := (s.count (.port port 0)).count (.port port 2) f.length
    .next (if f.ringPiece then { u with switch := { u.switch with toRing := s.switch.toRing + 1 } } else u.drop port 2) := by
  show execFrameReceive port f s = _
  have hdecide : (decide (p.kind = .ringIn) || decide (p.kind = .ringOut)) = true := by simpa using hring
  simp only [execFrameReceive, hp, hup, hfcs, hdecide]
  rw [if_neg (Nat.not_lt.mpr hmtu)]
  rfl

/-- The steps after the ring's decide by the EtherType and the destination. -/
theorem frameReceive_of_not_ring (hring : ¬ (p.kind = .ringIn ∨ p.kind = .ringOut)) : exec (.frameReceive port f) s =
    let u := (s.count (.port port 0)).count (.port port 2) f.length
    .next (if f.etherType = 0x88B5 then
        if p.kind = .accel then
          ({ u with switch := { u.switch with toGauge := s.switch.toGauge + 1 } } : State).takeGaugeFrame port f.payload
        else u.drop port 3
      else if f.etherType = 0x8808 then u.drop port 4
      else if f.dst = s.rdma.mac then
        if f.udp.map (·.2) = some 4791 then { u with switch := { u.switch with toRdma := s.switch.toRdma + 1 } } else u.drop port 5
      else u.forwardFrame p f) := by
  show execFrameReceive port f s = _
  have hdecide : (decide (p.kind = .ringIn) || decide (p.kind = .ringOut)) = false := by simpa using hring
  simp only [execFrameReceive, hp, hup, hfcs, hdecide]
  rw [if_neg (Nat.not_lt.mpr hmtu)]
  simp only [apply_ite Host.Outcome.next]
  rfl

end

/-- Settles O33. -/
theorem framesAreDisposed : Obligations.FramesAreDisposed := by
  unfold Obligations.FramesAreDisposed
  intro s port p f hp hup u ring
  refine ⟨frameReceive_of_bad_fcs hp hup, frameReceive_of_long hp hup, fun hfcs hmtu => ?_⟩
  have hring := frameReceive_of_ring hp hup hfcs hmtu
  have hnot := frameReceive_of_not_ring hp hup hfcs hmtu
  refine ⟨fun h hpiece => ?_, fun h hpiece => ?_, fun h htype hkind => ?_, fun h htype hkind => ?_, fun h htype => ?_,
    fun h hg hm hdst hudp => ?_, fun h hg hm hdst hudp => ?_, fun h hg hm hdst => ?_⟩
  · rw [hring h, hpiece]
    rfl
  · rw [hring h, hpiece]
    rfl
  · rw [hnot h]
    dsimp only
    rw [if_pos htype, if_pos hkind]
  · rw [hnot h]
    dsimp only
    rw [if_pos htype, if_neg hkind]
  · rw [hnot h]
    dsimp only
    rw [if_neg (by rw [htype]; decide), if_pos htype]
  · rw [hnot h]
    dsimp only
    rw [if_neg hg, if_neg hm, if_pos hdst, if_pos hudp]
  · rw [hnot h]
    dsimp only
    rw [if_neg hg, if_neg hm, if_pos hdst, if_neg hudp]
  · rw [hnot h]
    dsimp only
    rw [if_neg hg, if_neg hm, if_neg hdst]

/-! ### Lists of cells (R456, R457) -/

theorem le_maxD {l : List Nat} {d x : Nat} (h : x ≤ d ∨ x ∈ l) : x ≤ maxD l d := by
  induction l generalizing d with
  | nil => simpa [maxD] using h
  | cons y ys ih =>
    refine ih (d := max d y) ?_
    rcases h with h | h
    · exact .inl (h.trans (le_max_left d y))
    · rcases List.mem_cons.mp h with rfl | h
      · exact .inl (le_max_right d x)
      · exact .inr h

theorem maxD_eq_or_mem (l : List Nat) (d : Nat) : maxD l d = d ∨ maxD l d ∈ l := by
  induction l generalizing d with
  | nil => exact .inl rfl
  | cons y ys ih =>
    rcases ih (max d y) with h | h
    · rcases max_choice d y with hd | hy
      · exact .inl (h.trans hd)
      · exact .inr (List.mem_cons.mpr (.inl (h.trans hy)))
    · exact .inr (List.mem_cons_of_mem y h)

theorem maxD_mem {l : List Nat} (h : l ≠ []) : maxD l 0 ∈ l := by
  obtain ⟨x, hx⟩ := List.exists_mem_of_ne_nil l h
  rcases maxD_eq_or_mem l 0 with hzero | hmem
  · have hle := le_maxD (d := 0) (.inr hx)
    rw [hzero] at hle ⊢
    rwa [Nat.le_zero.mp hle] at hx
  · exact hmem

theorem getD_modify {α : Type} (l : List α) (i j : Nat) (f : α → α) (d : α) :
    (l.modify i f).getD j d = if i = j ∧ j < l.length then f (l.getD j d) else l.getD j d := by
  rw [List.getD_eq_getElem?_getD, List.getElem?_modify, List.getD_eq_getElem?_getD]
  by_cases hj : j < l.length
  · by_cases hij : i = j <;> simp [hj, hij]
  · simp [hj]

section
variable {free : List Nat} (h : free ≠ [])
include h

theorem freestPlane_lt : freestPlane free < free.length :=
  List.findIdx_lt_length.mpr ⟨_, maxD_mem h, decide_eq_true rfl⟩

theorem getD_freestPlane : free.getD (freestPlane free) 0 = maxD free 0 := by
  rw [List.getD_eq_getElem _ _ (freestPlane_lt h)]
  exact of_decide_eq_true (List.findIdx_getElem (w := freestPlane_lt h))

theorem getD_le_freestPlane {k : Nat} (hk : k < free.length) : free.getD k 0 ≤ free.getD (freestPlane free) 0 := by
  rw [getD_freestPlane h, List.getD_eq_getElem _ _ hk]
  exact le_maxD (.inr (List.getElem_mem hk))

theorem getD_lt_freestPlane {k : Nat} (hk : k < freestPlane free) : free.getD k 0 < free.getD (freestPlane free) 0 := by
  have hlt := hk.trans (freestPlane_lt h)
  refine lt_of_le_of_ne (getD_le_freestPlane h hlt) ?_
  rw [getD_freestPlane h, List.getD_eq_getElem _ _ hlt]
  exact of_decide_eq_false (List.not_of_lt_findIdx hk)

end

/-! ### Admission (R456 to R458) -/

theorem admits_iff {s : State} {port : Nat} {p : Port} (h : s.port? port = some p) (queue c colour : Nat) :
    let k := (p.queues.getD queue {}).params
    let limit := min k.maxCells (s.freeShared * 2 ^ k.alpha / 64)
    s.admits port queue c colour = true ↔ s.depth port queue + c ≤ k.minCells ∨
      (s.depth port queue + c ≤ (if colour = 1 then limit * k.yellowPct / 100 else limit) ∧ c ≤ s.freeShared) := by
  simp only [State.admits, h, Bool.or_eq_true, Bool.and_eq_true, decide_eq_true_eq]

theorem stamp_of_room {s : State} {ingress egress queue : Nat} {f : QFrame}
    (h : (s.switch.transit.filter (fun x => decide ((x.ingress, x.egress) = (ingress, egress)))).length < 512) :
    s.stamp ingress egress queue f = { s with switch := { s.switch with
      nextStamp := assign s.switch.nextStamp (ingress, egress) ((lookupD s.switch.nextStamp (ingress, egress) 0 + 1) % 2 ^ 16)
      transit := s.switch.transit ++ [{ ingress := ingress, egress := egress
                                        number := lookupD s.switch.nextStamp (ingress, egress) 0, queue := queue, frame := f }] } } :=
  if_neg (Nat.not_le.mpr h)

section
variable {s : State} {ingress queue colour : Nat} {out : Port} {dei : Bool} {f : Frame} {ch : Option Nat}

/-- A unicast frame that is admitted is stored whole and stamped into transit. -/
theorem admitUnicast_of_admits (hadmits : s.admits out.logical queue (cellsOf f.length) colour = true)
    (hroom : cellsOf f.length ≤ s.switch.freeCells.getD (freestPlane s.switch.freeCells) 0)
    (htransit : (s.switch.transit.filter (fun x => decide ((x.ingress, x.egress) = (ingress, out.logical)))).length < 512) :
    ∃ tel : TelemetryState, s.admitUnicast ingress out queue colour dei f ch = { s with
      tel := tel
      switch := { s.switch with
        stored := s.switch.stored ++
          [⟨s.switch.nextFrame, freestPlane s.switch.freeCells, cellsOf f.length, ingress, 1, f.length⟩]
        nextFrame := s.switch.nextFrame + 1
        freeCells := s.switch.freeCells.modify (freestPlane s.switch.freeCells) (· - cellsOf f.length)
        nextStamp := assign s.switch.nextStamp (ingress, out.logical)
          ((lookupD s.switch.nextStamp (ingress, out.logical) 0 + 1) % 2 ^ 16)
        transit := s.switch.transit ++ [{ ingress := ingress, egress := out.logical
                                          number := lookupD s.switch.nextStamp (ingress, out.logical) 0, queue := queue
                                          frame := { id := s.switch.nextFrame, length := f.length, channel := ch
                                                     ce := s.marks out.logical queue f, dei := dei } }] } } := by
  unfold State.admitUnicast
  dsimp only
  rw [if_pos ⟨hadmits, hroom⟩]
  split <;> exact ⟨_, stamp_of_room htransit⟩

section
variable (hrefused : s.admits out.logical queue (cellsOf f.length) colour = false)
include hrefused

theorem admitUnicast_refused_of_port (h : ingress < 256) :
    s.admitUnicast ingress out queue colour dei f ch = s.drop out.logical 8 := by
  unfold State.admitUnicast
  dsimp only
  rw [if_neg (by simp [hrefused]), if_neg (Nat.not_le.mpr h)]

theorem admitUnicast_waits_of_internal (h : 256 ≤ ingress) :
    (s.admitUnicast ingress out queue colour dei f ch).tel = s.tel ∧
      ∃ q, (s.admitUnicast ingress out queue colour dei f ch).switch.waiting =
        s.switch.waiting ++ [(ingress, out.logical, queue, q)] := by
  unfold State.admitUnicast
  dsimp only
  rw [if_neg (by simp [hrefused]), if_pos h]
  exact ⟨rfl, _, rfl⟩

end
end

/-! ### Resequencing (R459) -/

theorem setPort_port?_same {s : State} {e : Nat} {p p' : Port} (hp : s.port? e = some p) (hlogical : p'.logical = e) :
    (s.setPort p').port? e = some p' :=
  (find?_updateFirst_key Port.logical hp hlogical e).trans (if_pos rfl)

theorem serialCmp_self (n : Nat) (bits : Nat) : serialCmp n n bits = .equal := by
  have hpos := Nat.two_pow_pos bits
  have hlt := Nat.mod_lt n hpos
  rw [serialCmp, if_pos]
  rw [show n % 2 ^ bits + 2 ^ bits - n % 2 ^ bits = 2 ^ bits by omega, Nat.mod_self]

theorem serialCmp_ne_equal {a b bits : Nat} (ha : a < 2 ^ bits) (hb : b < 2 ^ bits) (h : a ≠ b) : serialCmp a b bits ≠ .equal := by
  rw [serialCmp, Nat.mod_eq_of_lt ha, Nat.mod_eq_of_lt hb]
  have hne : (a + 2 ^ bits - b) % 2 ^ bits ≠ 0 := by
    rcases Nat.lt_or_ge a b with hlt | hge
    · rw [Nat.mod_eq_of_lt (by omega)]
      omega
    · rw [show a + 2 ^ bits - b = a - b + 2 ^ bits by omega, Nat.add_mod_right, Nat.mod_eq_of_lt (by omega)]
      omega
  rw [if_neg hne]
  split
  · decide
  · split <;> decide

section
variable {s : State} {x : Stamped}

theorem resequence_of_due (h : x.number = lookupD s.switch.expected (x.ingress, x.egress) 0) :
    s.resequence x = (s.releaseStamped x).releaseRun x.ingress x.egress s.switch.held.length := by
  rw [State.resequence, ← h, serialCmp_self]

theorem resequence_of_after (h : serialCmp x.number (lookupD s.switch.expected (x.ingress, x.egress) 0) 16 = .after)
    (hroom : (s.switch.held.filter (fun y => decide (y.egress = x.egress))).length < 4096) :
    s.resequence x = { s with switch := { s.switch with held := s.switch.held ++ [{ x with since := s.fclk }] } } := by
  rw [State.resequence, h]
  dsimp only
  rw [if_neg (Nat.not_le.mpr hroom)]

theorem resequence_of_late (h : serialCmp x.number (lookupD s.switch.expected (x.ingress, x.egress) 0) 16 ≠ .after)
    (hne : serialCmp x.number (lookupD s.switch.expected (x.ingress, x.egress) 0) 16 ≠ .equal) :
    s.resequence x = (s.drop x.egress 11).leave x.frame.id := by
  cases hc : serialCmp x.number (lookupD s.switch.expected (x.ingress, x.egress) 0) 16 with
  | equal => exact absurd hc hne
  | after => exact absurd hc h
  | before => rw [State.resequence, hc]
  | outside => rw [State.resequence, hc]

theorem queueFrame_expected (s : State) (port queue : Nat) (f : QFrame) :
    (s.queueFrame port queue f).switch.expected = s.switch.expected := by
  unfold State.queueFrame
  split <;> rfl

theorem releaseStamped_expected (s : State) (x : Stamped) :
    lookupD (s.releaseStamped x).switch.expected (x.ingress, x.egress) 0 = (x.number + 1) % 65536 := by
  rw [State.releaseStamped, queueFrame_expected]
  exact lookupD_assign_same _ _ _ _

theorem releaseStamped_port? {p : Port} (hp : s.port? x.egress = some p) (hlogical : p.logical = x.egress) :
    (s.releaseStamped x).port? x.egress =
      some { p with queues := p.queues.modify x.queue (fun q => { q with frames := q.frames ++ [x.frame] }) } := by
  obtain ⟨u, hu⟩ : ∃ u : State, u = { s with switch := { s.switch with
      expected := assign s.switch.expected (x.ingress, x.egress) ((x.number + 1) % 2 ^ 16) } } := ⟨_, rfl⟩
  have hpu : u.port? x.egress = some p := hu ▸ hp
  rw [State.releaseStamped, ← hu, State.queueFrame, hpu]
  exact setPort_port?_same hpu hlogical

end

section
variable {s : State} {i e n : Nat} {x : Stamped}
  (hx : s.switch.transit.find? (fun x => decide (x.ingress = i) && decide (x.egress = e) && decide (x.number = n)) = some x)
include hx

theorem stamped_fields : x.ingress = i ∧ x.egress = e ∧ x.number = n := by
  have h := List.find?_some hx
  simpa [and_assoc] using h

theorem reseqArrival_of_eccError : exec (.reseqArrival i e n true) s =
    .next (((({ s with switch := { s.switch with transit := s.switch.transit.erase x } } : State).drop i 12).leave
      x.frame.id).retryAll) := by
  show execReseqArrival i e n true s = _
  simp only [execReseqArrival, hx, if_true]

theorem reseqArrival_resequences : exec (.reseqArrival i e n false) s =
    .next (({ s with switch := { s.switch with transit := s.switch.transit.erase x } } : State).resequence x).retryAll := by
  show execReseqArrival i e n false s = _
  simp only [execReseqArrival, hx, Bool.false_eq_true, if_false]

end

/-- Settles O34: admission stores and stamps a frame in one step, and an arrival's number decides what its resequencer does. -/
theorem framesThroughThePlanes : Obligations.FramesThroughThePlanes := by
  unfold Obligations.FramesThroughThePlanes
  refine ⟨⟨?admits, ?plane, ?admitted, ?refused⟩, ?arrivals⟩
  case admits =>
    intro s port queue c colour p hp
    exact admits_iff hp queue c colour
  case plane =>
    intro free h
    exact ⟨freestPlane_lt h, fun k hk => getD_le_freestPlane h hk, fun k hk => getD_lt_freestPlane h hk⟩
  case admitted =>
    intro s ingress queue colour out dei f ch c plane pair t hlength hadmits hroom htransit
    obtain ⟨tel, ht⟩ := admitUnicast_of_admits (dei := dei) (ch := ch) hadmits hroom htransit
    have hplane : plane < s.switch.freeCells.length := freestPlane_lt (List.ne_nil_of_length_pos (by omega))
    rw [show t = _ from ht]
    refine ⟨?_, fun k hk => ?_, rfl, rfl, lookupD_assign_same _ _ _ _, rfl, rfl⟩
    · rw [getD_modify, if_pos ⟨rfl, hplane⟩]
    · rw [getD_modify, if_neg fun h => hk h.1.symm]
  case refused =>
    intro s ingress queue colour out dei f ch hrefused
    exact ⟨admitUnicast_refused_of_port hrefused, admitUnicast_waits_of_internal hrefused⟩
  case arrivals =>
    intro s i e n x hx u due
    obtain ⟨rfl, rfl, rfl⟩ := stamped_fields hx
    have hresequence {v : State} (h : u.resequence x = v) :
        exec (.reseqArrival x.ingress x.egress x.number false) s = .next v.retryAll := by
      rw [← h]
      exact reseqArrival_resequences hx
    exact ⟨reseqArrival_of_eccError hx, fun hdue => ⟨hresequence (resequence_of_due (s := u) hdue), releaseStamped_expected u x,
        fun p hp hlogical => releaseStamped_port? (s := u) hp hlogical⟩,
      fun hafter hroom => hresequence (resequence_of_after (s := u) hafter hroom),
      fun hafter hne hn hd => hresequence (resequence_of_late (s := u) hafter (serialCmp_ne_equal hn hd hne)), rfl⟩

/-! ### Egress (R414, R453, R454) -/

/-- The deficit round robin picks one of its candidates. -/
theorem deficitRobin_mem {fuel : Nat} {l : List Turn} {cur i : Nat} {ds : List (Nat × Nat)}
    (h : deficitRobin fuel l cur = some (i, ds)) : i ∈ l.map (fun t => t.id) := by
  induction fuel generalizing l cur with
  | zero => exact absurd h (by simp [deficitRobin])
  | succ fuel ih =>
    rw [deficitRobin] at h
    split at h
    next t ht =>
      obtain ⟨rfl, -⟩ := Prod.mk.inj (Option.some.inj h)
      have hid : t.id = cur := by
        have := List.find?_some ht
        simp only [Bool.and_eq_true, decide_eq_true_eq] at this
        exact this.1
      exact hid ▸ List.mem_map_of_mem (List.mem_of_find?_eq_some ht)
    next =>
      split at h
      next => exact absurd h (by simp)
      next j _ =>
        have hi := ih h
        rw [List.map_map] at hi
        obtain ⟨t, ht, hid⟩ := List.mem_map.mp hi
        refine List.mem_map.mpr ⟨t, ht, ?_⟩
        rw [← hid, Function.comp_apply]
        split <;> rfl

theorem mem_eligible_iff (s : State) (p : Port) (i : Nat) : i ∈ s.eligible p ↔ i < 16 ∧ (p.queues.getD i {}).frames ≠ [] ∧
    p.openMask.getLsbD i = true ∧ s.bucketReady (p.queues.getD i {}).shaper = true ∧ s.bucketReady p.shaper = true := by
  simp only [State.eligible, List.mem_filter, List.mem_range, Bool.and_eq_true, Bool.not_eq_true', and_assoc,
    List.isEmpty_eq_false_iff]

/-- The scheduler picks an eligible queue of the highest PRIO. -/
theorem schedule_spec {s : State} {p : Port} {i prio : Nat} {ds : List (Nat × Nat)} (h : s.schedule p = some (i, ds, prio)) :
    i ∈ s.eligible p ∧ (p.queues.getD i {}).params.prio = prio ∧
      ∀ j ∈ s.eligible p, (p.queues.getD j {}).params.prio ≤ prio := by
  obtain ⟨⟨i', ds'⟩, hrobin, heq⟩ := Option.map_eq_some_iff.mp h
  simp only [Prod.mk.injEq] at heq
  obtain ⟨rfl, rfl, rfl⟩ := heq
  have hmem := deficitRobin_mem hrobin
  rw [List.map_map] at hmem
  obtain ⟨k, hk, rfl⟩ := List.mem_map.mp hmem
  obtain ⟨hel, hprio⟩ := List.mem_filter.mp hk
  exact ⟨hel, of_decide_eq_true hprio, fun j hj => le_maxD (.inr (List.mem_map_of_mem hj))⟩

section
variable {s : State} {port : Nat} {p : Port} (hp : s.port? port = some p) (hup : p.up = true)
include hp hup

theorem egressSelect_of_idle (h : s.schedule p = none) : exec (.egressSelect port) s = .next s := by
  show execEgressSelect port s = _
  simp [execEgressSelect, hp, hup, h]

theorem egressSelect_of_scheduled {i prio : Nat} {ds : List (Nat × Nat)} (h : s.schedule p = some (i, ds, prio)) :
    exec (.egressSelect port) s = .next (s.startFrame p i ds prio).retryAll := by
  show execEgressSelect port s = _
  simp [execEgressSelect, hp, hup, h]

end

/-- A bucket that is up to date and not above its burst stands as it is. -/
theorem refreshBucket_level {s : State} {b : Bucket} (hat : b.at_ = s.now) (hburst : b.level ≤ (b.burst * s.byteUnit : Nat)) :
    (s.refreshBucket b).level = b.level := by
  simp only [State.refreshBucket, hat, sub_self, mul_zero, add_zero]
  exact min_eq_left hburst

theorem bucketReady_iff {s : State} {b : Bucket} (hrate : b.rate ≠ 0) (hat : b.at_ = s.now)
    (hburst : b.level ≤ (b.burst * s.byteUnit : Nat)) : s.bucketReady b = true ↔ 0 ≤ b.level := by
  simp only [State.bucketReady, refreshBucket_level hat hburst, Bool.or_eq_true, decide_eq_true_eq, hrate, false_or]

theorem chargeBucket_level {s : State} {b : Bucket} (bytes : Nat) (hrate : b.rate ≠ 0) (hat : b.at_ = s.now)
    (hburst : b.level ≤ (b.burst * s.byteUnit : Nat)) :
    (s.chargeBucket b bytes).level = b.level - (bytes * s.byteUnit : Nat) := by
  rw [State.chargeBucket, if_neg hrate]
  show (s.refreshBucket b).level - _ = _
  rw [refreshBucket_level hat hburst]

/-! ### Gates (R465) -/

/-- The last entry that is not after the place in the cycle is the one whose OPEN holds. -/
theorem gateOpen_of_last {l : GateList} {origin : Nat} {g : Gauge} {a b : List (Nat × Nat × Nat)} {e : Nat × Nat × Nat}
    (hl : l.entries = a ++ e :: b) :
    let o := (((g.step : Int) - origin).emod l.cycle).toNat
    (e.1 < o ∨ (e.1 = o ∧ e.2.1 ≤ g.mark)) → (∀ x ∈ b, o < x.1 ∨ (o = x.1 ∧ g.mark < x.2.1)) → gateOpen l origin g = e.2.2 := by
  intro o he hb
  have hnil : b.filter (fun e => decide (e.1 < o) || (decide (e.1 = o) && decide (e.2.1 ≤ g.mark))) = [] := by
    rw [List.filter_eq_nil_iff]
    intro x hx
    simp only [Bool.or_eq_true, Bool.and_eq_true, decide_eq_true_eq]
    have := hb x hx
    omega
  simp only [gateOpen, hl, List.filter_append]
  rw [List.filter_cons_of_pos (by simp only [Bool.or_eq_true, Bool.and_eq_true, decide_eq_true_eq]; exact he), hnil, List.getLast?_concat]

theorem gateOpen_of_none_before {l : GateList} {origin : Nat} {g : Gauge} {a : List (Nat × Nat × Nat)} {e : Nat × Nat × Nat}
    (hl : l.entries = a ++ [e]) :
    let o := (((g.step : Int) - origin).emod l.cycle).toNat
    (∀ x ∈ l.entries, o < x.1 ∨ (o = x.1 ∧ g.mark < x.2.1)) → gateOpen l origin g = e.2.2 := by
  intro o hafter
  have hnil : l.entries.filter (fun e => decide (e.1 < o) || (decide (e.1 = o) && decide (e.2.1 ≤ g.mark))) = [] := by
    rw [List.filter_eq_nil_iff]
    intro x hx
    simp only [Bool.or_eq_true, Bool.and_eq_true, decide_eq_true_eq]
    have := hafter x hx
    omega
  unfold gateOpen
  dsimp only
  rw [hnil, hl, List.getLast?_concat]
  rfl

/-! ### Residue copies and the audit (R461, R462) -/

/-- Entries that no copy for the port waits in are kept in their order. -/
theorem retryResidue_of_none_waiting {port : Nat} {l : List Residue} (h : ∀ x ∈ l, ∀ w ∈ x.waiting, w.1 ≠ port)
    (s : State) (acc : List Residue) :
    State.retryResidue { s with switch := { s.switch with residue := acc } } port l =
      { s with switch := { s.switch with residue := acc ++ l } } := by
  induction l generalizing acc with
  | nil => rw [List.append_nil]; rfl
  | cons x l ih =>
    have hnone : x.waiting.find? (fun w => decide (w.1 = port)) = none := by
      simpa [List.find?_eq_none] using h x (List.mem_cons_self ..)
    simp only [State.retryResidue, hnone]
    rw [show acc ++ x :: l = (acc ++ [x]) ++ l by simp]
    exact ih (fun y hy => h y (List.mem_cons_of_mem _ hy)) (acc ++ [x])

theorem getD_foldl_modify (f : Nat → Nat) (cs : List (Nat × Nat)) {l : List Nat} {k : Nat} (hk : k < l.length) :
    (cs.foldl (fun l c => l.modify c.1 f) l).getD k 0 = f^[cs.countP (fun c => decide (c.1 = k))] (l.getD k 0) := by
  induction cs generalizing l with
  | nil => rfl
  | cons c cs ih =>
    rw [List.foldl_cons, ih (by rwa [List.length_modify]), getD_modify, List.countP_cons]
    by_cases hc : c.1 = k
    · rw [if_pos ⟨hc, hk⟩, if_pos (by simpa using hc), Function.iterate_succ_apply]
    · rw [if_neg fun h => hc h.1, if_neg (by simpa using hc), Nat.add_zero]

theorem length_foldl_modify (f : Nat → Nat) (cs : List (Nat × Nat)) (l : List Nat) :
    (cs.foldl (fun l c => l.modify c.1 f) l).length = l.length := by
  induction cs generalizing l with
  | nil => rfl
  | cons c cs ih => rw [List.foldl_cons, ih, List.length_modify]

theorem foldl_raise_speaks {α : Type} (e : Event) (f : α → Nat) (cs : List α) (s : State) :
    OnlySpeaks s (cs.foldl (fun s c => s.raise e (f c)) s) := by
  induction cs generalizing s with
  | nil => exact OnlySpeaks.refl s
  | cons c cs ih => exact (raise_speaks s e (f c) []).trans (ih _)

/-- The cells and counters after a pass of the audit; the time of its last event is apart. -/
def State.audited (s : State) (ownerless corrupt : List (Nat × Nat)) (leakAt : Option Nat) : State :=
  let twice := ownerless.filter (fun c => s.switch.suspects.contains c)
  { s with switch := { s.switch with
      freeCells := corrupt.foldl (fun l c => l.modify c.1 (· - 1)) (twice.foldl (fun l c => l.modify c.1 (· + 1)) s.switch.freeCells)
      suspects := ownerless.filter (fun c => !s.switch.suspects.contains c)
      leaked := s.switch.leaked + twice.length
      auditFaults := s.switch.auditFaults + corrupt.length
      leakAt := leakAt } }

theorem auditPass_audited (s : State) (ownerless corrupt : List (Nat × Nat)) : ∃ u leakAt,
    exec (.auditPass ownerless corrupt) s = .next u ∧ OnlySpeaks (s.audited ownerless corrupt leakAt) u := by
  have hraise := foldl_raise_speaks .bufferAuditFault (fun c : Nat × Nat => c.1) corrupt
  show ∃ u leakAt, execAuditPass ownerless corrupt s = .next u ∧ _
  unfold execAuditPass
  dsimp only
  split
  · exact ⟨_, s.switch.leakAt, rfl, hraise _⟩
  · exact ⟨_, some s.now, rfl, (raise_speaks _ _ _ _).trans (hraise _)⟩

theorem audited_freeCells (s : State) (ownerless corrupt : List (Nat × Nat)) (leakAt : Option Nat) {k : Nat}
    (hk : k < s.switch.freeCells.length) :
    (s.audited ownerless corrupt leakAt).switch.freeCells.getD k 0 = s.switch.freeCells.getD k 0
      + (ownerless.filter (fun c => s.switch.suspects.contains c)).countP (fun c => decide (c.1 = k))
      - corrupt.countP (fun c => decide (c.1 = k)) := by
  refine (getD_foldl_modify (· - 1) corrupt (by rwa [length_foldl_modify])).trans ?_
  rw [getD_foldl_modify (· + 1) _ hk]
  exact (Nat.pred_iterate _ _).trans (congrArg (· - _) (Nat.succ_iterate _ _))

/-! ### A port's link (R447) -/

theorem portLinkChange_eq {s : State} {port : Nat} {p : Port} (hp : s.port? port = some p) (up : Bool) :
    exec (.portLinkChange port up) s = .next (s.setLink p up) := by
  show execPortLinkChange port up s = _
  simp only [execPortLinkChange, hp]

/-- Settles O35. -/
theorem egressAndBufferRun : Obligations.EgressAndBufferRun := by
  unfold Obligations.EgressAndBufferRun
  refine ⟨⟨?select, fun s p i => mem_eligible_iff s p i, ?bucket, ?gate⟩, fun s port => rfl, ?kept, ?audit, ?link⟩
  case select =>
    intro s port p hp hup
    refine ⟨egressSelect_of_idle hp hup, fun i ds prio h => ?_⟩
    obtain ⟨hel, hprio, hmax⟩ := schedule_spec h
    exact ⟨egressSelect_of_scheduled hp hup h, hel, hprio, hmax⟩
  case bucket =>
    intro s b bytes hrate hat hburst
    exact ⟨bucketReady_iff hrate hat hburst, chargeBucket_level bytes hrate hat hburst⟩
  case gate =>
    intro l origin g a b e hl
    refine ⟨gateOpen_of_last hl, fun hafter hb => ?_⟩
    rw [hb] at hl
    exact gateOpen_of_none_before hl hafter
  case kept =>
    intro s port h
    show Host.Outcome.next _ = _
    rw [retryResidue_of_none_waiting h]
    rfl
  case audit =>
    intro s ownerless corrupt
    by_cases hnil : ownerless = [] ∧ corrupt = []
    · obtain ⟨rfl, rfl⟩ := hnil
      exact ⟨_, rfl, rfl, rfl, rfl, fun k _ => rfl, rfl, rfl, fun _ _ => rfl⟩
    · obtain ⟨u, leakAt, hexec, hspeaks⟩ := auditPass_audited s ownerless corrupt
      refine ⟨u, hexec, ?_⟩
      rw [hspeaks.switch, hspeaks.mem]
      exact ⟨rfl, rfl, rfl, fun k hk => audited_freeCells s ownerless corrupt leakAt hk, rfl, rfl,
        fun ho hc => absurd ⟨ho, hc⟩ hnil⟩
  case link =>
    intro s port p hp
    refine ⟨fun up hup => ?_, fun up _ => portLinkChange_eq hp up⟩
    rw [portLinkChange_eq hp, State.setLink, if_pos hup]

/-! ### Keyed tables (R449, R451) -/

section
variable {α β : Type} [DecidableEq α]

theorem lookupD_eq_getD (l : List (α × β)) (k : α) (d : β) : lookupD l k d = (lookup? l k).getD d := by
  unfold lookupD lookup?
  cases l.find? (fun p => decide (p.1 = k)) <;> rfl

theorem lookup?_cons (x : α × β) (l : List (α × β)) (k : α) :
    lookup? (x :: l) k = if x.1 = k then some x.2 else lookup? l k := by
  unfold lookup?
  by_cases h : x.1 = k <;> simp [h]

theorem lookup?_assign_other {l : List (α × β)} {k k' : α} (h : k' ≠ k) (v : β) : lookup? (assign l k v) k' = lookup? l k' := by
  induction l with
  | nil => simp [assign, lookup?, Ne.symm h]
  | cons x xs ih =>
    rw [assign, lookup?_cons]
    split
    next hx => rw [lookup?_cons, if_neg (Ne.symm h), if_neg (hx ▸ Ne.symm h)]
    next => rw [lookup?_cons, ih]

theorem lookup?_erase_same (l : List (α × β)) (k : α) : lookup? (erase l k) k = none := by
  simp [lookup?, erase, List.find?_eq_none]

theorem lookup?_erase_other {l : List (α × β)} {k k' : α} (h : k' ≠ k) : lookup? (erase l k) k' = lookup? l k' := by
  unfold lookup? erase
  rw [List.find?_filter]
  congr 2
  funext x
  by_cases hx : x.1 = k' <;> simp [hx, h]

end

/-- One entry of ENDPOINT_SET put in its place. -/
theorem lookup?_put_other {t : List (Nat × Endpoint)} {i k : Nat} (h : k ≠ i) (e : Endpoint) :
    lookup? (if e.kind = 0 then erase t i else assign t i e) k = lookup? t k := by
  split
  · exact lookup?_erase_other h
  · exact lookup?_assign_other h e

theorem lookup?_put_same (t : List (Nat × Endpoint)) (i : Nat) (e : Endpoint) :
    lookup? (if e.kind = 0 then erase t i else assign t i e) i = if e.kind = 0 then none else some e := by
  split
  · exact lookup?_erase_same t i
  · exact lookup?_assign_same t i e

theorem lookup?_putEndpoints_other {es : List Endpoint} {first k : Nat} (h : k < first ∨ first + es.length ≤ k)
    (t : List (Nat × Endpoint)) : lookup? (putEndpoints t first es) k = lookup? t k := by
  induction es generalizing t first with
  | nil => rfl
  | cons e es ih =>
    rw [List.length_cons] at h
    rw [putEndpoints, ih (by omega), lookup?_put_other (by omega)]

theorem lookup?_putEndpoints {es : List Endpoint} {i : Nat} {e : Endpoint} (h : es[i]? = some e) (t : List (Nat × Endpoint))
    (first : Nat) : lookup? (putEndpoints t first es) (first + i) = if e.kind = 0 then none else some e := by
  induction es generalizing t first i with
  | nil => simp at h
  | cons x es ih =>
    rw [putEndpoints]
    cases i with
    | zero =>
      obtain rfl : x = e := by simpa using h
      rw [lookup?_putEndpoints_other (by omega), Nat.add_zero, lookup?_put_same]
    | succ i =>
      rw [show first + (i + 1) = first + 1 + i by omega]
      exact ih (by simpa using h) _ _

/-! ### The port and switch commands (R443 to R468) -/

section
variable {s : State} {r : Req}

theorem endpointSet_of_checks_pass {first : Nat} {es : List Endpoint} (hform : FormOk s r 0x0610) (hm : MayManage s r)
    (hlast : first + es.length ≤ 65536) (hfirst : first ≤ 65535) (hone : 1 ≤ es.length) (hmany : es.length ≤ 255)
    (hfault : listFault endpointFault 16 es 8 = none) : exec (.endpointSet r first es) s = .next
      (let u : State := { s with switch := { s.switch with endpoints := putEndpoints s.switch.endpoints first es } }
       u.forward r 0x0610 (natLe 2 first ++ es.flatMap endpointBytes) 0 u.endpointDigest) :=
  congrArg Host.Outcome.next (finish_of_checks_pass hform
    (by simp [(notManager_fst s r).mpr hm, hlast, hfirst, hone, hmany, paramFault, hfault]) _)

theorem mcastGroupSet_of_checks_pass {g : Nat} (b : BitVec 256) (hform : FormOk s r 0x0611) (hg : g ≤ 4095) :
    exec (.mcastGroupSet r g b) s = .next (State.answer { s with switch := { s.switch with
      groups := if b = 0 then erase s.switch.groups g else assign s.switch.groups g b } } r 0x0611 .ok) :=
  congrArg Host.Outcome.next (finish_of_checks_pass hform (by simp [hg]) _)

/-- The group that MCAST_GROUP_SET names has the new bitmap, an empty one none of its own. -/
theorem lookupD_put_bitmap_same (l : List (Nat × BitVec 256)) (g : Nat) (b : BitVec 256) :
    lookupD (if b = 0 then erase l g else assign l g b) g 0 = b := by
  split
  next h => rw [lookupD_erase_same, h]
  next => exact lookupD_assign_same l g b 0

theorem lookupD_put_bitmap_other {l : List (Nat × BitVec 256)} {g k : Nat} (h : k ≠ g) (b : BitVec 256) :
    lookupD (if b = 0 then erase l g else assign l g b) k 0 = lookupD l k 0 := by
  rw [lookupD_eq_getD, lookupD_eq_getD]
  split
  · rw [lookup?_erase_other h]
  · rw [lookup?_assign_other h]

section
variable {port : Nat} {p : Port} (hp : s.port? port = some p)
include hp

theorem portStatus_of_checks_pass (hform : FormOk s r 0x0602) (hport : port ≤ 255) :
    exec (.portStatus r port) s = .next (s.answer r 0x0602 .ok 0 []
      ((s.switch.ports.filter (fun p => decide (port = 0xFFFF) || decide (p.logical = port))).flatMap s.portReport)) :=
  congrArg Host.Outcome.next (finish_of_checks_pass hform (by simp [hp, hport]) _)

theorem classMapSet_of_checks_pass {m : ClassMap} (hform : FormOk s r 0x0620) (hport : port ≤ 255) (hpcp : m.pcp.length = 8)
    (hdscp : m.dscp.length = 64) (hqueue : m.queue.length = 32) (hcolour : m.colour.length = 16) (hfault : classMapFault m = none) :
    exec (.classMapSet r port m) s = .next ((s.setPort { p with maps := m }).answer r 0x0620 .ok) := by
  show execClassMapSet r port m s = _
  rw [execClassMapSet, hp]
  exact congrArg Host.Outcome.next (finish_of_checks_pass hform
    (by simp [hport, hpcp, hdscp, hqueue, hcolour, paramFault, hfault]) _)

/-- SHAPER_SET gives the port, or one of its queues, a full bucket. -/
theorem shaperSet_of_checks_pass {queue rate burst overhead : Nat} (hform : FormOk s r 0x0622) (hport : port ≤ 255)
    (hqueue : queue ≤ 15 ∨ queue = 255) (hrate : rate ≤ p.rate) (hlow : 2048 ≤ burst) (hhigh : burst ≤ 16777216)
    (hoverhead : overhead ≤ 64) :
    let b : Bucket := ⟨rate, burst, (burst * s.byteUnit : Nat), s.now⟩
    exec (.shaperSet r port queue rate burst overhead) s = .next ((s.setPort
      (if queue = 0xFF then { p with shaper := b, overhead := overhead }
       else { p with queues := p.queues.modify queue (fun q => { q with shaper := b }), overhead := overhead })).answer r 0x0622 .ok) := by
  show execShaperSet r port queue rate burst overhead s = _
  have hq : (decide (15 < queue) && decide (queue ≠ 0xFF)) = false := by
    rcases hqueue with h | h <;> simp [h]
  simp only [execShaperSet, hp]
  exact congrArg Host.Outcome.next (finish_of_checks_pass hform
    (by simp only [List.forall_mem_cons, hq]; simp [hport, hrate, hlow, hhigh, hoverhead]) _)

end

/-- A policer without some pairs. -/
def Policer.without (y : Policer) (pairs : List (Nat × Nat)) : Policer :=
  { y with params := { y.params with assign := y.params.assign.filter (fun a => !pairs.contains a) } }

/-- The pairs a policer is given are in it alone. -/
theorem find?_policer_of_assigned {others : List Policer} {x : Policer} {a : Nat × Nat} (ha : a ∈ x.params.assign) :
    (others.map (fun y => y.without x.params.assign) ++ [x]).find? (fun x => x.params.assign.contains a) = some x := by
  have hnone : (others.map (fun y => y.without x.params.assign)).find? (fun x => x.params.assign.contains a) = none := by
    rw [List.find?_eq_none]
    intro z hz
    obtain ⟨y, -, rfl⟩ := List.mem_map.mp hz
    simp [Policer.without, ha]
  rw [List.find?_append, hnone, Option.none_or, List.find?_cons_of_pos (by simpa using ha)]

/-- The policers after POLICER_SET: the others without the pairs, and the one set. -/
theorem policerSet_of_checks_pass {n : Nat} {k : PolicerParams} (hform : FormOk s r 0x0623) (hcheck : policerCheck n k = none) :
    ∃ x : Policer, x.num = n ∧ x.params = k ∧ exec (.policerSet r n k) s = .next (State.answer { s with switch := { s.switch with
      policers := (s.switch.policers.filter (fun y => decide (y.num ≠ n))).map (fun y => y.without k.assign) ++ [x] } }
        r 0x0623 .ok) := by
  refine ⟨⟨n, k, (k.cbs * s.byteUnit : Nat), (k.ebs * s.byteUnit : Nat), s.fclk⟩, rfl, rfl, ?_⟩
  show execPolicerSet r n k s = _
  rw [execPolicerSet, hcheck, finish_ok hform]
  rfl

section
variable {h : Nat}

theorem gateListLoad_of_checks_pass {bs : Bytes} (hform : FormOk s r 0x0630) (hm : MayManage s r) (hh : h ≤ 63)
    (hlen : bs.length = 48 + 4 * fieldAt bs 3 1) (hfault : gateFault bs = none)
    (hfree : s.switch.gateLists.any (fun l => decide (l.handle = h)) = false) :
    exec (.gateListLoad r h bs) s = .next ((s.addGateList h bs).forward r 0x0630 (natLe 2 h ++ bs)) := by
  show Host.Outcome.next _ = _
  rw [gateLoadCheck, finish_of_checks_pass hform]
  intro p hp
  simp only [List.mem_cons, List.not_mem_nil, or_false] at hp
  rcases hp with rfl | rfl | rfl | rfl | rfl
  · exact (notManager_fst s r).mpr hm
  · simpa using hlen
  · simpa using hh
  · simp [hfault]
  · exact hfree

section
variable (hform : FormOk s r 0x0631) (hm : MayManage s r) (hh : h ≤ 63)
  (hknown : s.switch.gateLists.any (fun l => decide (l.handle = h)) = true)
include hform hm hh hknown

theorem gateListDrop_of_unused (hused : s.gateUsed h = false) : exec (.gateListDrop r h) s = .next
    (State.forward { s with switch := { s.switch with gateLists := s.switch.gateLists.filter (fun l => decide (l.handle ≠ h)) } }
      r 0x0631 (natLe 2 h)) :=
  congrArg Host.Outcome.next (finish_of_checks_pass hform (by
    simp only [List.forall_mem_cons]
    simp [(notManager_fst s r).mpr hm, hh, hknown, hused]) _)

theorem gateListDrop_of_used (hused : s.gateUsed h = true) :
    exec (.gateListDrop r h) s = .next (s.answer r 0x0631 .inUse) := by
  show execGateListDrop r h s = _
  rw [execGateListDrop, firstReject_cons_of_pass ((notManager_fst s r).mpr hm), firstReject_cons_of_pass (by simp [hh]),
    firstReject_cons_of_pass (by rw [hknown]; rfl), firstReject_cons_of_fail hused, finish_reject hform]

end
end

theorem portConfig_of_checks_pass {block : Nat} {es : List PortEntry} (hform : FormOk s r 0x0601) (hblock : block ≤ 63)
    (hlen : es.length ≤ 8) (hfault : listFault portEntryFault 16 es 8 = none) (hclash : s.portConflict block es = false)
    (hremoved : s.portRemoved block es = false) :
    exec (.portConfig r block es) s = .next (((s.putPorts block es).blockReset block).answer r 0x0601 .ok) :=
  congrArg Host.Outcome.next (finish_of_checks_pass hform (by simp [hblock, hlen, paramFault, hfault, hclash, hremoved]) _)

theorem switchStatus_eq (hform : FormOk s r 0x0640) : exec (.switchStatus r) s = .next (s.answer r 0x0640 .ok 0 []
    (s.switch.freeCells ++ ([s.switch.residue.length, s.switch.gaps, s.switch.leaked, s.switch.auditFaults] ++
      s.switch.ports.flatMap (fun p => [p.logical, (p.gate.map (·.handle)).getD 0xFFFF, p.openMask.toNat])))) := by
  show execSwitchStatus r s = _
  rw [execSwitchStatus, finish_ok hform, List.append_assoc]

end

/-- Settles O36: each command whose checks pass has its effect. -/
theorem switchCommandsRun : Obligations.SwitchCommandsRun := by
  unfold Obligations.SwitchCommandsRun
  refine ⟨fun s r block es hform => portConfig_of_checks_pass hform, fun s r port p hform hport hp => portStatus_of_checks_pass hp hform hport,
    ?endpoints, ?groups, ?classes, ?queues, ?shaper, ?policer, fun s r h bs => gateListLoad_of_checks_pass, ?drop, ?status⟩
  case endpoints =>
    intro s r first es hform hm hlast hfirst hone hmany hfault
    exact ⟨_, endpointSet_of_checks_pass hform hm hlast hfirst hone hmany hfault, fun i e he => lookup?_putEndpoints he _ first,
      fun k hk => lookup?_putEndpoints_other hk _, rfl, rfl⟩
  case groups =>
    intro s r g b hform hg
    exact ⟨_, mcastGroupSet_of_checks_pass b hform hg, lookupD_put_bitmap_same _ g b, fun k hk => lookupD_put_bitmap_other hk b⟩
  case classes =>
    intro s r port m p hform hp hport hpcp hdscp hqueue hcolour hfault
    exact classMapSet_of_checks_pass hp hform hport hpcp hdscp hqueue hcolour hfault
  case queues =>
    intro s r port queue k hform hcheck
    refine ⟨{ s with switch := { s.switch with
      ports := s.switch.ports.map (fun p => if port = 0xFFFF ∨ p.logical = port then p.putQueue queue k else p) } }, ?_, rfl⟩
    show execQueueConfig r port queue k s = _
    rw [execQueueConfig, hcheck, finish_ok hform]
  case shaper =>
    intro s r port queue rate burst overhead p hform hp hport hqueue hrate hlow hhigh hoverhead
    refine ⟨_, shaperSet_of_checks_pass hp hform hport hqueue hrate hlow hhigh hoverhead, ?_, fun h => ?_, fun h => ?_⟩
    · split <;> rfl
    · rw [if_pos h]
      exact ⟨rfl, rfl⟩
    · rw [if_neg h]
      refine ⟨rfl, fun j hj => ?_⟩
      show (p.queues.modify _ _).getD j {} = _
      rw [getD_modify, if_neg fun h => hj h.1.symm]
  case policer =>
    intro s r n k hform hcheck
    obtain ⟨x, rfl, rfl, hexec⟩ := policerSet_of_checks_pass hform hcheck
    exact ⟨_, hexec, fun a ha => congrArg (Option.map Policer.num) (find?_policer_of_assigned ha)⟩
  case drop =>
    intro s r h hform hm hh hknown
    exact ⟨fun hused => ⟨_, gateListDrop_of_unused hform hm hh hknown hused, rfl⟩, gateListDrop_of_used hform hm hh hknown⟩
  case status =>
    intro s r hform
    exact ⟨_, switchStatus_eq hform, rfl⟩

end Sys2Proof.Machine
end

section
/-! Family `17_remote_memory.md`: the congestion window, the checks of received packets, the requester and its timers, the moves of a
queue pair and the commands of the remote memory engine. -/

namespace Sys2Proof.Machine

/-! ### The congestion window (R486) -/

section
variable {c : CcProfile} {q : Qp} {r : Int} {sent now : Nat}

theorem onSample_of_stale (h : sent < q.last) : onSample c q r sent now = q := if_pos h

/-- A sample that counts: the gradient moves by a quarter, and the window is cut or grown and then clamped. -/
theorem onSample_of_fresh (h : q.last ≤ sent) :
    let grad : Int := q.grad + ((r - q.prev) - q.grad) / 4
    let cut (m d : Int) : Int := q.cwnd - (q.cwnd * c.beta * m) / d
    onSample c q r sent now = { q with
      prev := r
      grad := grad
      cwnd := (min (c.cwndMax : Int) (max (c.cwndMin : Int) (
        if r ≤ c.target then q.cwnd + c.ai
        else if r > 2 * c.target then cut (r - c.target) (256 * r)
        else if grad > 0 then cut (min grad c.target) (256 * c.target)
        else q.cwnd))).toNat
      last := now } := if_neg (Nat.not_lt.mpr h)

end

/-- A window clamped to its bounds lies within them. -/
theorem clamp_bounds {lo hi : Nat} (h : lo ≤ hi) (w : Int) :
    lo ≤ (min (hi : Int) (max (lo : Int) w)).toNat ∧ (min (hi : Int) (max (lo : Int) w)).toNat ≤ hi := by
  omega

/-- Settles O40. -/
theorem congestionWindow : Obligations.CongestionWindow := by
  unfold Obligations.CongestionWindow
  refine ⟨fun c q r sent now hbounds => ⟨onSample_of_stale, fun hfresh => ?_⟩, rfl, fun y hcwnd hlast hgrad => ?_⟩
  · intro t grad cut clamp
    have ht := onSample_of_fresh (c := c) (r := r) (now := now) hfresh
    obtain ⟨hlo, hhi⟩ := clamp_bounds hbounds (if r ≤ c.target then q.cwnd + c.ai
        else if r > 2 * c.target then cut (r - c.target) (256 * r)
        else if grad > 0 then cut (min grad c.target) (256 * c.target)
        else q.cwnd)
    rw [show t = _ from ht]
    refine ⟨hlo, hhi, rfl, rfl, rfl, fun h => ?_, fun h h2 => ?_, fun h h2 hg => ?_, fun h h2 hg => ?_⟩
    · exact congrArg clamp (if_pos h)
    · exact congrArg clamp ((if_neg (not_le.mpr h)).trans (if_pos h2))
    · exact congrArg clamp ((if_neg (not_le.mpr h)).trans ((if_neg (not_lt.mpr h2)).trans (if_pos hg)))
    · exact congrArg clamp ((if_neg (not_le.mpr h)).trans ((if_neg (not_lt.mpr h2)).trans (if_neg (not_lt.mpr hg))))
  · rw [onSample_of_fresh (by omega)]
    simp only [hgrad, hcwnd]
    rfl

/-! ### What sending a packet leaves unchanged (R451, R475) -/

/-- Two states agree on everything but the switch and the telemetry. -/
def OnlySwitches (s t : State) : Prop := t = { s with switch := t.switch, tel := t.tel }

theorem OnlySwitches.trans {s t u : State} (h : OnlySwitches s t) (k : OnlySwitches t u) : OnlySwitches s u := by
  unfold OnlySwitches at *
  rw [h] at k
  exact k

section
variable {s t : State} (h : OnlySwitches s t)
include h

theorem OnlySwitches.rdma : t.rdma = s.rdma := (congrArg State.rdma (show t = _ from h)).trans rfl
theorem OnlySwitches.mem : t.mem = s.mem := (congrArg State.mem (show t = _ from h)).trans rfl
theorem OnlySwitches.pools : t.pools = s.pools := (congrArg State.pools (show t = _ from h)).trans rfl

end

theorem stamp_onlySwitches (s : State) (i e n : Nat) (f : QFrame) : OnlySwitches s (s.stamp i e n f) := by
  unfold State.stamp
  dsimp only
  split <;> exact rfl

theorem admitUnicast_onlySwitches (s : State) (i : Nat) (p : Port) (n c : Nat) (dei : Bool) (f : Frame) (ch : Option Nat) :
    OnlySwitches s (s.admitUnicast i p n c dei f ch) := by
  unfold State.admitUnicast
  dsimp only
  split
  · refine OnlySwitches.trans ?_ (stamp_onlySwitches _ _ _ _ _)
    split <;> exact rfl
  · split <;> exact rfl

theorem originate_onlySwitches (s : State) (i o c p n : Nat) (ch : Option Nat) : OnlySwitches s (s.originate i o c p n ch) := by
  unfold State.originate
  split
  · exact rfl
  · split
    · exact rfl
    · exact admitUnicast_onlySwitches ..

theorem emit_onlySwitches (s : State) (q : Qp) (p : RdmaPacket) (o : Nat) (ch : Option Nat) :
    OnlySwitches { s with rdma := { s.rdma with out := s.rdma.out ++ [(q.index, p)] } } (s.emit q p o ch) := by
  unfold State.emit
  dsimp only
  split
  · exact rfl
  · exact originate_onlySwitches ..

section
variable (s : State) (q : Qp) (p : RdmaPacket) (o : Nat) (ch : Option Nat)

@[simp] theorem emit_rdma : (s.emit q p o ch).rdma = { s.rdma with out := s.rdma.out ++ [(q.index, p)] } :=
  (emit_onlySwitches s q p o ch).rdma

@[simp] theorem emit_mem : (s.emit q p o ch).mem = s.mem := (emit_onlySwitches s q p o ch).mem

@[simp] theorem emit_pools : (s.emit q p o ch).pools = s.pools := (emit_onlySwitches s q p o ch).pools

@[simp] theorem emit_rqp? (i : Nat) : (s.emit q p o ch).rqp? i = s.rqp? i := by rw [State.rqp?, emit_rdma]; rfl

end

theorem setRqp_rqp?_same {s : State} {i : Nat} {q q' : Qp} (h : s.rqp? i = some q) (hindex : q'.index = i) :
    (s.setRqp q').rqp? i = some q' :=
  (find?_updateFirst_key Qp.index h hindex i).trans (if_pos rfl)

/-! ### The checks of a received packet (R475, R476) -/

section
variable {s : State} {port : Nat} {p : RdmaPacket}

theorem packetReceive_of_other_gid (h : p.dgid = 0 ∨ p.dgid ∉ s.rdma.gids) : exec (.rdmaPacketReceive port p) s = .next s :=
  congrArg Host.Outcome.next (if_pos (by simpa using h))

variable (hgid : p.dgid ≠ 0) (hmine : p.dgid ∈ s.rdma.gids)
include hgid hmine

theorem packetReceive_of_own_gid : exec (.rdmaPacketReceive port p) s = .next (
    if !p.icrcOk then s.rdmaDrop port 1
    else if !p.headerOk then s.rdmaDrop port 2
    else if p.qpn < 0x10000 ∨ 0x1FFFF < p.qpn ∨ (s.rqp? (p.qpn - 0x10000)).isNone then s.rdmaDrop port 3
    else if !s.cached (p.qpn - 0x10000) ∨ s.buffered (p.qpn - 0x10000) then s.missBuffer port (p.qpn - 0x10000) p
    else (State.touch { s with rdma := { s.rdma with hits := s.rdma.hits + 1 } } (p.qpn - 0x10000)).takePacket port p) :=
  congrArg Host.Outcome.next (if_neg (by simp [hgid, hmine]))

theorem packetReceive_of_bad_icrc (h : p.icrcOk = false) : exec (.rdmaPacketReceive port p) s = .next (s.rdmaDrop port 1) := by
  rw [packetReceive_of_own_gid hgid hmine, h]
  rfl

variable (hicrc : p.icrcOk = true)
include hicrc

theorem packetReceive_of_bad_header (h : p.headerOk = false) :
    exec (.rdmaPacketReceive port p) s = .next (s.rdmaDrop port 2) := by
  rw [packetReceive_of_own_gid hgid hmine, hicrc, h]
  rfl

variable (hheader : p.headerOk = true)
include hheader

theorem packetReceive_of_unknown_pair (h : p.qpn < 0x10000 ∨ 0x1FFFF < p.qpn ∨ s.rqp? (p.qpn - 0x10000) = none) :
    exec (.rdmaPacketReceive port p) s = .next (s.rdmaDrop port 3) := by
  rw [packetReceive_of_own_gid hgid hmine, hicrc, hheader, if_neg (by decide), if_neg (by decide),
    if_pos (by simpa only [Option.isNone_iff_eq_none] using h)]

variable {q : Qp} (hlo : 0x10000 ≤ p.qpn) (hhi : p.qpn ≤ 0x1FFFF) (hq : s.rqp? (p.qpn - 0x10000) = some q)
include hlo hhi hq

theorem packetReceive_of_known_pair : exec (.rdmaPacketReceive port p) s = .next (
    if !s.cached (p.qpn - 0x10000) ∨ s.buffered (p.qpn - 0x10000) then s.missBuffer port (p.qpn - 0x10000) p
    else (State.touch { s with rdma := { s.rdma with hits := s.rdma.hits + 1 } } (p.qpn - 0x10000)).takePacket port p) := by
  rw [packetReceive_of_own_gid hgid hmine, hicrc, hheader, if_neg (by decide), if_neg (by decide), if_neg]
  rw [hq]
  simp only [Option.isNone_some, Bool.false_eq_true, or_false, not_or, not_lt]
  exact ⟨hlo, hhi⟩

theorem packetReceive_of_miss (h : s.cached (p.qpn - 0x10000) = false ∨ s.buffered (p.qpn - 0x10000) = true) :
    exec (.rdmaPacketReceive port p) s = .next (s.missBuffer port (p.qpn - 0x10000) p) := by
  rw [packetReceive_of_known_pair hgid hmine hicrc hheader hlo hhi hq, if_pos (by simpa using h)]

theorem packetReceive_of_hit (hcached : s.cached (p.qpn - 0x10000) = true) (hbuffered : s.buffered (p.qpn - 0x10000) = false) :
    exec (.rdmaPacketReceive port p) s = .next
      ((State.touch { s with rdma := { s.rdma with hits := s.rdma.hits + 1 } } (p.qpn - 0x10000)).takePacket port p) := by
  rw [packetReceive_of_known_pair hgid hmine hicrc hheader hlo hhi hq, if_neg (by simp [hcached, hbuffered])]

end

section
variable {s : State} {port : Nat} {p : RdmaPacket} {q : Qp} (hq : s.rqp? (p.qpn - 0x10000) = some q)
include hq

theorem takePacket_of_closed (h : q.state ≠ .rtr) (h' : q.state ≠ .rts) : s.takePacket port p = s.rdmaDrop port 4 := by
  simp only [State.takePacket, hq]
  rw [if_pos ⟨h, h'⟩]

theorem takePacket_of_other_key (h : q.state = .rtr ∨ q.state = .rts) (hkey : p.pkey ≠ q.attr.pkey) :
    s.takePacket port p = s.rdmaDrop port 5 := by
  simp only [State.takePacket, hq]
  rw [if_neg (by rcases h with h | h <;> simp [h]), if_pos hkey]

end

/-! ### What a packet's PSN decides (R477, R478) -/

/-- The response as a function of how the PSN compares with the expected one. The definition is opened as a function, before it has
arguments: the kernel would otherwise evaluate the comparison modulo 2^24. -/
theorem respondTo_eq (s : State) (q : Qp) (port : Nat) (p : RdmaPacket) : ∃ f : Serial → State,
    s.respondTo q port p = f (serialCmp p.psn q.expected 24) ∧ f .equal = s.execute q port p ∧
    f .after = (if q.nakSent then s else (s.setRqp { q with nakSent := true }).sendNak q 2 0 q.expected) ∧
    f .before = s.takeDuplicate q p ∧ f .outside = s.rdmaDrop port 6 := by
  obtain ⟨g, hg⟩ : ∃ g, g = State.respondTo := ⟨_, rfl⟩
  rw [← hg]
  delta State.respondTo at hg
  rw [hg]
  beta_reduce
  generalize serialCmp p.psn q.expected 24 = c
  refine ⟨fun c => match c with
    | .equal => s.execute q port p
    | .after => if q.nakSent then s else (s.setRqp { q with nakSent := true }).sendNak q 2 0 q.expected
    | .before => s.takeDuplicate q p
    | .outside => s.rdmaDrop port 6, ?_, rfl, rfl, rfl, rfl⟩
  cases c <;> rfl

section
variable {s : State} {q : Qp} {port : Nat} {p : RdmaPacket} (hq : s.rqp? q.index = some q)

theorem respondTo_of_equal (h : serialCmp p.psn q.expected 24 = .equal) : s.respondTo q port p = s.execute q port p := by
  obtain ⟨f, hf, hequal, -⟩ := respondTo_eq s q port p
  rw [hf, h, hequal]

theorem respondTo_of_outside (h : serialCmp p.psn q.expected 24 = .outside) : s.respondTo q port p = s.rdmaDrop port 6 := by
  obtain ⟨f, hf, -, -, -, houtside⟩ := respondTo_eq s q port p
  rw [hf, h, houtside]

theorem respondTo_of_after_naked (h : serialCmp p.psn q.expected 24 = .after) (hnak : q.nakSent = true) :
    s.respondTo q port p = s := by
  obtain ⟨f, hf, -, hafter, -⟩ := respondTo_eq s q port p
  rw [hf, h, hafter, if_pos hnak]

include hq

/-- The first packet beyond the expected one draws a NAK, and the pair remembers it. -/
theorem respondTo_of_after (h : serialCmp p.psn q.expected 24 = .after) (hnak : q.nakSent = false) :
    (s.respondTo q port p).rqp? q.index = some { q with nakSent := true } ∧ (s.respondTo q port p).rdma.out =
      s.rdma.out ++ [(q.index, { q.packet .ack q.expected with aeth := 2, aethCode := 0 })] := by
  obtain ⟨f, hf, -, hafter, -⟩ := respondTo_eq s q port p
  rw [hf, h, hafter, if_neg (by rw [hnak]; exact Bool.false_ne_true), State.sendNak, emit_rqp?, emit_rdma]
  exact ⟨setRqp_rqp?_same hq rfl, rfl⟩

theorem sendAck_setRqp {q' : Qp} (hindex : q'.index = q.index) : (s.setRqp q').sendAck q.index =
    ((s.setRqp q').setRqp { q' with unacked := 0, unackedAt := none }).emit q' (q'.packet .ack (q'.expected + 2 ^ 24 - 1)) 3 := by
  rw [State.sendAck, setRqp_rqp?_same hq hindex]

/-- A duplicate SEND or WRITE is acknowledged and has no other effect. -/
theorem respondTo_of_duplicate (h : serialCmp p.psn q.expected 24 = .before)
    (hop : p.op ∈ [BthOp.sendFirst, .sendMiddle, .sendLast, .sendOnly, .writeFirst, .writeMiddle, .writeLast, .writeLastImm,
      .writeOnly, .writeOnlyImm]) {q' : Qp} (hq' : q' = { q with duplicates := q.duplicates + 1 }) : s.respondTo q port p =
      ((s.setRqp q').setRqp { q' with unacked := 0, unackedAt := none }).emit q' (q'.packet .ack (q'.expected + 2 ^ 24 - 1)) 3 := by
  have hack : s.takeDuplicate q p = (s.setRqp q').sendAck q.index := by
    simp only [List.mem_cons, List.not_mem_nil, or_false] at hop
    rw [State.takeDuplicate, ← hq']
    rcases hop with hop | hop | hop | hop | hop | hop | hop | hop | hop | hop <;> rw [hop, hq']
  obtain ⟨f, hf, -, -, hbefore, -⟩ := respondTo_eq s q port p
  rw [hf, h, hbefore, hack, sendAck_setRqp hq (by rw [hq'])]

end

/-- Settles O37. -/
theorem rdmaPacketsAreChecked : Obligations.RdmaPacketsAreChecked := by
  unfold Obligations.RdmaPacketsAreChecked
  refine ⟨?checks, ?psn⟩
  case checks =>
    intro s port p i run u
    refine ⟨packetReceive_of_other_gid, fun hgid hmine => ⟨packetReceive_of_bad_icrc hgid hmine,
      packetReceive_of_bad_header hgid hmine, fun hicrc hheader => ⟨packetReceive_of_unknown_pair hgid hmine hicrc hheader,
      fun q hlo hhi hq => ⟨packetReceive_of_miss hgid hmine hicrc hheader hlo hhi hq, fun hcached hbuffered => ?_⟩⟩⟩⟩
    have hrun : run = .next (u.takePacket port p) := packetReceive_of_hit hgid hmine hicrc hheader hlo hhi hq hcached hbuffered
    have hqu : u.rqp? (p.qpn - 0x10000) = some q := hq
    exact ⟨fun h h' => hrun.trans (congrArg _ (takePacket_of_closed hqu h h')),
      fun h hkey => hrun.trans (congrArg _ (takePacket_of_other_key hqu h hkey)), fun _ _ => hrun⟩
  case psn =>
    intro s q port p hq
    refine ⟨respondTo_of_equal, respondTo_of_after_naked, respondTo_of_after hq, respondTo_of_outside, fun h hop => ?_⟩
    obtain ⟨q', hq'⟩ : ∃ q' : Qp, q' = { q with duplicates := q.duplicates + 1 } := ⟨_, rfl⟩
    intro t
    have ht : t = _ := respondTo_of_duplicate hq (port := port) h hop hq'
    clear_value t
    rw [ht, emit_mem, emit_pools, emit_rdma, emit_rqp?, hq']
    exact ⟨rfl, rfl, rfl, rfl, setRqp_rqp?_same (setRqp_rqp?_same hq rfl) rfl, rfl⟩

/-! ### The requester (R481, R482) -/

section
variable {s : State} {i : Nat} {q : Qp} (hq : s.rqp? i = some q)
include hq

section
variable {x : Port} (hegress : s.egressOf q = some x) (hup : x.up = true) (hstate : q.state = .rts) (hrnr : q.rnrUntil = none)
  (hwork : q.queue ≠ [] ∨ q.flight.any (fun x => x.again) = true)
include hegress hup hstate hrnr hwork

theorem packetSend_eq : exec (.rdmaPacketSend i) s =
    .next (if !s.cached i then s.fetchContext i else (s.touch i).sendOne q) := by
  show execRdmaPacketSend i s = _
  have hgo : ¬ (q.state ≠ .rts ∨ q.rnrUntil.isSome ∨ (!true) = true ∨ (q.queue.isEmpty ∧ !q.flight.any (fun x => x.again))) := by
    rcases hwork with h | h <;> simp [hstate, hrnr, h]
  simp only [execRdmaPacketSend, hq, hegress, hup]
  rw [if_neg hgo]
  exact (apply_ite Host.Outcome.next _ _ _).symm

end

theorem ackTimer_of_owed (howed : 0 < q.unacked) (hstate : q.state = .rtr ∨ q.state = .rts) :
    exec (.ackTimer i) s = .next (s.sendAck i) := by
  show execAckTimer i s = _
  simp only [execAckTimer, hq]
  rw [if_pos ⟨howed, hstate⟩]

section
variable {x : SentPacket} {xs : List SentPacket} (hflight : q.flight = x :: xs) (hstate : q.state = .rts)
include hflight hstate

theorem ackTimeout_of_spent (h : q.retriesLeft = 0) : exec (.ackTimeout i) s = .next (s.failQp i 1) := by
  show execAckTimeout i s = _
  simp [execAckTimeout, hq, hflight, hstate, h]

theorem ackTimeout_of_retries (h : 0 < q.retriesLeft) : exec (.ackTimeout i) s =
    .next ((s.setRqp { q with retriesLeft := q.retriesLeft - 1 }).resendFrom i x.psn) := by
  show execAckTimeout i s = _
  have hne : q.retriesLeft ≠ 0 := Nat.pos_iff_ne_zero.mp h
  simp [execAckTimeout, hq, hflight, hstate, hne]

end

theorem rnrTimerExpiry_eq : exec (.rnrTimerExpiry i) s = .next (s.setRqp { q with rnrUntil := none }) := by
  show execRnrTimerExpiry i s = _
  simp only [execRnrTimerExpiry, hq]

end

/-! The next packet of a SEND (R481). -/

theorem wrOp_send_ne_read (first last : Bool) : wrOp .send first last ≠ .readRequest := by
  cases first <;> cases last <;> decide

/-- The next packet of a SEND: it ends the message when what is left fits it, and asks for an acknowledgement then or as the
sixteenth since the last that did. -/
structure SendPacket (q : Qp) (w : Work) (x : SentPacket) : Prop where
  psn : x.psn = q.nextPsn
  span : x.span = 1
  op : x.op ≠ .readRequest
  payload : x.payload = (w.data.drop q.offset).take q.mtu
  got : x.got = []
  ackReq : x.ackReq = (decide (w.data.length ≤ q.offset + q.mtu) || decide (q.sinceAckReq + 1 = 16))

theorem nextOf_send {q : Qp} {w : Work} (hkind : w.kind = .send) :
    ∃ x, q.nextOf w = (x, decide (w.data.length ≤ q.offset + q.mtu)) ∧ SendPacket q w x := by
  have hop := wrOp_send_ne_read (decide (q.offset = 0)) (decide (w.data.length ≤ q.offset + q.mtu))
  simp only [Qp.nextOf, hkind]
  rw [if_neg hop, if_neg hop]
  exact ⟨_, rfl, rfl, rfl, hop, rfl, rfl, rfl⟩

section
variable {s : State} {q : Qp} {w : Work} {rest : List Work} (hagain : q.flight.any (fun x => x.again) = false)
  (hqueue : q.queue = w :: rest) (hkind : w.kind = .send)
include hagain hqueue hkind

/-- A SEND's next packet starts when the window has room for it or nothing is in flight. -/
theorem sendOne_of_send : ∃ x : SentPacket, SendPacket q w x ∧ s.sendOne q =
    if q.mayStart (min q.mtu (w.data.length - q.offset)) then
      (s.setRqp { q with
        flight := q.flight ++ [{ x with sentNs := some s.nowNs, sentAt := s.now }]
        nextPsn := (q.nextPsn + 1) % 2 ^ 24
        queue := if w.data.length ≤ q.offset + q.mtu then rest else w :: rest
        offset := if w.data.length ≤ q.offset + q.mtu then 0 else q.offset + q.mtu
        sinceAckReq := if x.ackReq then 0 else q.sinceAckReq + 1 }).emit q
          (q.wire { x with sentNs := some s.nowNs, sentAt := s.now }) q.origin (s.channelOf (some w.user))
    else s := by
  obtain ⟨x, hnext, hx⟩ := nextOf_send (q := q) hkind
  refine ⟨x, hx, ?_⟩
  have hnone : q.flight.find? (fun x => x.again) = none := by
    rw [List.find?_eq_none]
    exact List.any_eq_false.mp hagain
  have hlength : x.payload.length = min q.mtu (w.data.length - q.offset) := by
    rw [hx.payload, List.length_take, List.length_drop]
  simp only [State.sendOne, hnone, hqueue, hnext, hx.span, hx.op, hlength, false_and, or_false, decide_eq_true_eq]
  cases q.mayStart (min q.mtu (w.data.length - q.offset)) <;> rfl

theorem sendOne_of_full (hflight : q.inFlight ≠ 0) (hcwnd : q.cwnd < q.inFlight + min q.mtu (w.data.length - q.offset)) :
    s.sendOne q = s := by
  obtain ⟨x, -, hsend⟩ := sendOne_of_send (s := s) hagain hqueue hkind
  rw [hsend, if_neg]
  simp [Qp.mayStart, hflight, hcwnd]

/-- What a SEND's packet is, and what it leaves of its pair. -/
theorem sendOne_of_room (hroom : q.inFlight = 0 ∨ q.inFlight + min q.mtu (w.data.length - q.offset) ≤ q.cwnd)
    (hq : s.rqp? q.index = some q) : ∃ (p : RdmaPacket) (y : SentPacket),
      (s.sendOne q).rdma.out = s.rdma.out ++ [(q.index, p)] ∧
      p.payload = (w.data.drop q.offset).take (min q.mtu (w.data.length - q.offset)) ∧ p.psn = q.nextPsn % 2 ^ 24 ∧
      (s.sendOne q).rqp? q.index = some { q with
        flight := q.flight ++ [y]
        nextPsn := (q.nextPsn + 1) % 2 ^ 24
        queue := if w.data.length ≤ q.offset + q.mtu then rest else w :: rest
        offset := if w.data.length ≤ q.offset + q.mtu then 0 else q.offset + q.mtu
        sinceAckReq := if p.ackReq then 0 else q.sinceAckReq + 1 } ∧
      (p.ackReq = true ↔ w.data.length ≤ q.offset + q.mtu ∨ q.sinceAckReq + 1 = 16) := by
  obtain ⟨x, hx, hsend⟩ := sendOne_of_send (s := s) hagain hqueue hkind
  have hstart : q.mayStart (min q.mtu (w.data.length - q.offset)) = true := by
    rw [Qp.mayStart, Bool.or_eq_true, decide_eq_true_eq, decide_eq_true_eq]
    exact hroom.symm
  have htake : (w.data.drop q.offset).take (min q.mtu (w.data.length - q.offset)) = (w.data.drop q.offset).take q.mtu := by
    rw [← List.length_drop]
    exact List.take_eq_take_min.symm
  rw [hsend, if_pos hstart, emit_rdma, emit_rqp?]
  refine ⟨_, _, rfl, ?_, ?_, setRqp_rqp?_same hq rfl, ?_⟩
  · rw [htake, ← hx.payload]
    rfl
  · show (x.psn + x.got.length / q.mtu) % 2 ^ 24 = _
    rw [hx.psn, hx.got, List.length_nil, Nat.zero_div, Nat.add_zero]
  · show x.ackReq = true ↔ _
    rw [hx.ackReq, Bool.or_eq_true, decide_eq_true_eq, decide_eq_true_eq]

end

/-! ### The end of a context's fetch (R482, R483) -/

theorem contextFetchComplete_of_none_buffered {s : State} {i : Nat} (hfetching : s.rdma.fetching.contains i = true)
    (hmissed : ∀ m ∈ s.rdma.missed, m.2.qpn ≠ 0x10000 + i) (hwait : s.rdma.missWait = []) :
    exec (.contextFetchComplete i) s = .next { s with rdma := { s.rdma with
      fetching := s.rdma.fetching.erase i
      cache := updateFirst (fun e => decide (e.qp = i)) (fun e => { e with loading := false }) s.rdma.cache } } := by
  show execContextFetchComplete i s = _
  have hnone : s.rdma.missed.filter (fun m => decide (m.2.qpn = 0x10000 + i)) = [] := by
    simpa [List.filter_eq_nil_iff] using hmissed
  have hall : s.rdma.missed.filter (fun m => decide (m.2.qpn ≠ 0x10000 + i)) = s.rdma.missed := by
    simpa [List.filter_eq_self] using hmissed
  simp only [execContextFetchComplete, hfetching, hnone, hall, hwait, List.foldl_nil]
  rfl

/-! ### The moves of a queue pair (R474) -/

theorem moveOf_ne_unlisted_iff (st : QpState) (target : Nat) : moveOf st target ≠ .unlisted ↔ target = 0 ∨ target = 4 ∨
    (st = .reset ∧ target = 1) ∨ (st = .init ∧ target = 2) ∨ ((st = .rtr ∨ st = .rts) ∧ target = 3) := by
  unfold moveOf
  split
  case h_7 h0 h4 h1 h2 h3 h3' =>
    simp only [ne_eq, not_true, false_iff]
    rintro (h | h | ⟨hs, h⟩ | ⟨hs, h⟩ | ⟨hs | hs, h⟩)
    · exact h0 h
    · exact h4 h
    · exact h1 hs h
    · exact h2 hs h
    · exact h3 hs h
    · exact h3' hs h
  all_goals simp

section
variable {s : State} {r : Req} {i : Nat} {b : Bytes} {q : Qp} (hform : FormOk s r 0x0711) (hheld : (s.heldBusy (.qp i)).1 = false)
  (hlo : 512 ≤ i) (hhi : i ≤ 65535) (hq : s.rqp? i = some q) (htarget : fieldAt b 0 1 ≤ 4) (hzero : zeroAt b 48 16 = true)
include hform hheld hlo hhi hq htarget hzero

theorem qpModify_of_unlisted (h : moveOf q.state (fieldAt b 0 1) = .unlisted) :
    exec (.qpModify r i b) s = .next (s.answer r 0x0711 .qpState) := by
  show execQpModify r i b s = _
  simp only [execQpModify, hq, List.cons_append]
  rw [firstReject_cons_of_pass hheld, firstReject_cons_of_pass (by simp [hlo, hhi]), firstReject_cons_of_pass (by simp [htarget]),
    firstReject_cons_of_pass (by simp [hzero]), firstReject_cons_of_fail (by simp [h]), finish_reject hform]

theorem qpModify_of_listed (h : moveOf q.state (fieldAt b 0 1) ≠ .unlisted)
    (hfaults : (moveFaults (moveOf q.state (fieldAt b 0 1)) (attrOf b) ++
      s.routeFaults (moveOf q.state (fieldAt b 0 1)) q (attrOf b)).all (fun x => !x.1) = true) :
    exec (.qpModify r i b) s = .next ((s.moved (moveOf q.state (fieldAt b 0 1)) q (attrOf b)).answer r 0x0711 .ok) := by
  show execQpModify r i b s = _
  simp only [execQpModify, hq]
  refine congrArg Host.Outcome.next (finish_of_checks_pass hform (fun p hp => ?_) _)
  rcases List.mem_append.mp hp with hp | hp
  · simp only [List.mem_cons, List.not_mem_nil, or_false] at hp
    rcases hp with rfl | rfl | rfl | rfl | rfl
    · exact hheld
    · simp [hlo, hhi]
    · simp [htarget]
    · simp [hzero]
    · simp [h]
  · obtain ⟨x, hx, rfl⟩ := List.mem_map.mp hp
    simpa using List.all_eq_true.mp hfaults x hx

end

/-- Settles O39. -/
theorem rdmaPairsRun : Obligations.RdmaPairsRun := by
  unfold Obligations.RdmaPairsRun
  refine ⟨⟨?send, ?window, ?ack, ?timeout, fun s i q hq => rnrTimerExpiry_eq hq, ?fetched⟩, moveOf_ne_unlisted_iff, ?modify⟩
  case send =>
    intro s i q x hq hegress hup hstate hrnr hwork
    have hsend := packetSend_eq hq hegress hup hstate hrnr hwork
    refine ⟨fun hcached => ?_, fun hcached => ?_⟩
    · rw [hsend, hcached]
      rfl
    · rw [hsend, hcached]
      rfl
  case window =>
    intro s q w rest hagain hqueue hkind _ n
    exact ⟨sendOne_of_full hagain hqueue hkind, sendOne_of_room hagain hqueue hkind⟩
  case ack =>
    intro s i q hq howed hstate
    exact ackTimer_of_owed hq howed hstate
  case timeout =>
    intro s i q x xs hq hflight hstate
    exact ⟨ackTimeout_of_spent hq hflight hstate, ackTimeout_of_retries hq hflight hstate⟩
  case fetched =>
    intro s i hfetching hmissed hwait
    exact ⟨_, contextFetchComplete_of_none_buffered hfetching hmissed hwait, rfl, rfl, rfl, rfl⟩
  case modify =>
    intro s r i b q hform hheld hlo hhi hq htarget hzero m a
    have hlisted := qpModify_of_listed hform hheld hlo hhi hq htarget hzero
    refine ⟨qpModify_of_unlisted hform hheld hlo hhi hq htarget hzero, hlisted, fun hm hsgid => ?_, fun hm hfaults => ?_, fun hm => ?_⟩
    · change moveOf q.state (fieldAt b 0 1) = .toInit at hm
      rw [hm] at hlisted
      refine hlisted (by decide) ?_
      simp only [moveFaults, State.routeFaults, List.append_nil, List.all_cons, List.all_nil, Bool.and_true]
      simpa using hsgid
    · change moveOf q.state (fieldAt b 0 1) = .toRts at hm
      rw [hm] at hlisted
      refine ⟨_, hlisted (by decide) (by rw [show s.routeFaults .toRts q (attrOf b) = [] from rfl, List.append_nil]; exact hfaults),
        rfl, rfl, rfl, rfl, rfl⟩
    · change moveOf q.state (fieldAt b 0 1) = .toError at hm
      rw [hm] at hlisted
      exact hlisted (by decide) rfl

/-! ### The commands of the engine (R474, R485, R486, R491) -/

section
variable {s : State} {r : Req}

theorem rdmaAddrSet_of_busy (mac : Nat) (gids : List Nat) (hform : FormOk s r 0x0701)
    (hbusy : s.rdma.qps.any (fun q => decide (q.state = .rtr) || decide (q.state = .rts)) = true) :
    exec (.rdmaAddrSet r mac gids) s = .next (s.answer r 0x0701 .inUse) := by
  show execRdmaAddrSet r mac gids s = _
  rw [execRdmaAddrSet, firstReject_cons_of_fail hbusy, finish_reject hform]

theorem rdmaAddrSet_of_idle (mac : Nat) (gids : List Nat) (hform : FormOk s r 0x0701)
    (hidle : s.rdma.qps.any (fun q => decide (q.state = .rtr) || decide (q.state = .rts)) = false) :
    exec (.rdmaAddrSet r mac gids) s = .next (State.answer { s with
      rdma := { s.rdma with mac := mac % 2 ^ 48, gids := (List.range 4).map (fun i => gids.getD i 0) } } r 0x0701 .ok) :=
  congrArg Host.Outcome.next (finish_of_checks_pass hform (List.forall_mem_singleton.mpr hidle) _)

theorem rdmaStoreSet_of_checks_pass {store address : Nat} (hform : FormOk s r 0x0702) (hstore : store ≤ 1)
    (hplace : store = 1 → inWindow address 33554432 = true ∧ address % 4096 = 0)
    (hfree : s.rdma.qps.any (fun q => decide (512 ≤ q.index)) = false) : exec (.rdmaStoreSet r store address) s =
      .next (State.answer { s with rdma := { s.rdma with storeSel := store, storeAddr := address } } r 0x0702 .ok) := by
  refine congrArg Host.Outcome.next (finish_of_checks_pass hform (fun p hp => ?_) _)
  simp only [List.mem_cons, List.not_mem_nil, or_false] at hp
  rcases hp with rfl | rfl | rfl
  · simpa using hstore
  · by_cases h : store = 1
    · obtain ⟨hin, halign⟩ := hplace h
      simp [hin, halign]
    · simp [h]
  · exact hfree

/-! Queue pairs (R470, R489). -/

theorem placeContext_keeps {u : State} {e : CacheEntry} (h : s.placeContext e = some u) :
    u.rdma.qps = s.rdma.qps ∧ u.mem = s.mem := by
  unfold State.placeContext at h
  dsimp only at h
  split at h
  · cases h
    exact ⟨rfl, rfl⟩
  · split at h
    · exact absurd h (by simp)
    · cases h
      exact ⟨rfl, rfl⟩

/-- The pairs and the memory after a context has been placed or not. -/
theorem pinned_keeps (e : CacheEntry) (pin : Nat) :
    (if pin = 1 then (s.placeContext e).getD s else s).rdma.qps = s.rdma.qps ∧
      (if pin = 1 then (s.placeContext e).getD s else s).mem = s.mem := by
  split
  · cases h : s.placeContext e with
    | none => exact ⟨rfl, rfl⟩
    | some u => exact placeContext_keeps h
  · exact ⟨rfl, rfl⟩

section
variable {i : Nat}

theorem qpCreate_of_checks_pass {service pool domain pin : Nat} (hform : FormOk s r 0x0710)
    (hheld : (s.heldBusy (.qp i)).1 = false) (hlo : 512 ≤ i) (hhi : i ≤ 65535) (hservice : service ≤ 2)
    (hpool : service = 1 ∨ service = 2 → pool ≤ 63) (hdomain : domain ≤ 0xFFFE) (hpin : pin ≤ 1) (hnone : s.rqp? i = none)
    (hpinned : pin = 1 → s.pinnedCount < 2048) : ∃ u : State,
    exec (.qpCreate r i service pool domain pin) s = .next (u.answer r 0x0710 .ok (0x10000 + i)) ∧
    u.rdma.qps = s.rdma.qps ++
      [{ index := i, service := service, pool := pool, domain := domain, pinned := decide (pin = 1) }] ∧ u.mem = s.mem := by
  refine ⟨_, congrArg Host.Outcome.next (finish_of_checks_pass hform (fun p hp => ?_) _), pinned_keeps _ _⟩
  simp only [List.mem_cons, List.not_mem_nil, or_false] at hp
  rcases hp with rfl | rfl | rfl | rfl | rfl | rfl | rfl | rfl
  · exact hheld
  · simp [hlo, hhi]
  · simpa using hservice
  · by_cases h : service = 1 ∨ service = 2
    · simp [hpool h]
    · rw [not_or] at h
      simp [h]
  · simpa using hdomain
  · simpa using hpin
  · rw [hnone]
    rfl
  · by_cases h : pin = 1
    · simp [hpinned h]
    · simp [h]

theorem qpQuery_of_known {q : Qp} (hform : FormOk s r 0x0712) (hq : s.rqp? i = some q) : exec (.qpQuery r i) s =
    .next (s.answer r 0x0712 .ok 0 q.block [q.state.value, q.cause, q.cwnd, q.nextPsn, q.expected, q.retries, q.rnrNaks, q.duplicates]) := by
  show execQpQuery r i s = _
  simp only [execQpQuery, hq, finish_ok hform]

theorem qpQuery_of_unknown (hform : FormOk s r 0x0712) (hi : i ≤ 65535) (hq : s.rqp? i = none) :
    exec (.qpQuery r i) s = .next (s.answer r 0x0712 .notFound) := by
  show execQpQuery r i s = _
  simp only [execQpQuery, hq]
  rw [firstReject_cons_of_pass (by simp [hi]), firstReject_cons_of_fail rfl, finish_reject hform]

theorem qpDestroy_of_checks_pass {q : Qp} (hform : FormOk s r 0x0713) (hheld : (s.heldBusy (.qp i)).1 = false) (hlo : 512 ≤ i)
    (hhi : i ≤ 65535) (hq : s.rqp? i = some q) (hreset : q.state = .reset) (hbound : s.qpBound q = false) :
    exec (.qpDestroy r i) s = .next ((State.dropContext { s with rdma := { s.rdma with
      qps := s.rdma.qps.filter (fun q => decide (q.index ≠ i)) } } i).answer r 0x0713 .ok) := by
  refine congrArg Host.Outcome.next (finish_of_checks_pass hform (fun p hp => ?_) _)
  simp only [List.mem_cons, List.not_mem_nil, or_false] at hp
  rcases hp with rfl | rfl | rfl | rfl
  · exact hheld
  · simp [hlo, hhi]
  · rw [hq]
    rfl
  · simp [hq, hreset, hbound]

/-- Pairs after one has been taken out. -/
theorem find?_without_index (qs : List Qp) (k : Nat) :
    (qs.filter (fun q => decide (q.index ≠ i))).find? (fun q => decide (q.index = k)) =
      if k = i then none else qs.find? (fun q => decide (q.index = k)) := by
  rw [List.find?_filter]
  split
  next h =>
    subst h
    simp [List.find?_eq_none]
  next h =>
    congr 1
    funext q
    by_cases hq : q.index = k <;> simp [hq, h]

end

/-! Regions (R485, R489). -/

section
variable {i : Nat} (hheld : (s.heldBusy (.region i)).1 = false) (hi : i ≤ 16383)
include hheld hi

theorem mrRegister_of_checks_pass {address length va domain access : Nat} (hform : FormOk s r 0x0720)
    (hplace : s.registrable address length = true) (hone : 1 ≤ length) (hlong : length ≤ 2 ^ 40) (hdomain : domain ≤ 0xFFFE)
    (haccess : access ≤ 7) (hfree : s.regionFree i = true) {g : Region}
    (hg : g = { index := i, address := address, length := length, vaBase := va, domain := domain
                write := bitOf access 0, read := bitOf access 1, atomic := bitOf access 2 }) :
    exec (.mrRegister r i address length va domain access) s =
      .next ((s.register g).answer r 0x0720 .ok (i * 256 + (lookupD s.rdma.keys i 0 + 1) % 256)) := by
  have hkey : (s.register g).rkeyOf i = i * 256 + (lookupD s.rdma.keys i 0 + 1) % 256 := by
    rw [hg, State.rkeyOf, State.register, lookupD_assign_same]
  show execMrRegister r i address length va domain access s = _
  rw [← hkey, hg]
  refine congrArg Host.Outcome.next (finish_of_checks_pass hform (fun p hp => ?_) _)
  simp only [List.mem_cons, List.not_mem_nil, or_false] at hp
  rcases hp with rfl | rfl | rfl | rfl | rfl | rfl | rfl
  · exact hheld
  · simpa using hi
  · simpa using hplace
  · exact (outside_eq_false _ _ _).mpr ⟨hone, hlong⟩
  · simpa using hdomain
  · simpa using haccess
  · simpa using hfree

theorem mrDeregister_of_checks_pass (hform : FormOk s r 0x0721) (hknown : s.regionFree i = false)
    (hown : s.rdma.regions.any (fun g => decide (g.index = i) && g.firmware) = false) :
    exec (.mrDeregister r i) s = .next ((s.deregister i).answer r 0x0721 .ok) := by
  refine congrArg Host.Outcome.next (finish_of_checks_pass hform (fun p hp => ?_) _)
  simp only [List.mem_cons, List.not_mem_nil, or_false] at hp
  rcases hp with rfl | rfl | rfl | rfl
  · exact hheld
  · simpa using hi
  · exact hknown
  · exact hown

end

theorem deregister_regionFree (i : Nat) : (s.deregister i).regionFree i = true := by
  simp [State.regionFree, State.deregister]

theorem ccProfileSet_of_checks_pass {n target ai beta lo hi init cnp : Nat} (hform : FormOk s r 0x0730) (hn : n ≤ 7)
    (htarget : outside target 1000 100000 = false) (hai : outside ai 256 65536 = false) (hbeta : outside beta 1 255 = false)
    (hlo : outside lo 1024 1048576 = false) (hhi : outside hi lo 67108864 = false) (hinit : outside init lo hi = false)
    (hcnp : cnp ≤ 1) : exec (.ccProfileSet r n target ai beta lo hi init cnp) s = .next (State.answer { s with rdma := { s.rdma with
      profiles := s.rdma.profiles.set n { target := target, ai := ai, beta := beta, cwndMin := lo, cwndMax := hi, cwndInit := init
                                          cnpEnable := cnp } } } r 0x0730 .ok) := by
  refine congrArg Host.Outcome.next (finish_of_checks_pass hform (fun p hp => ?_) _)
  simp only [List.mem_cons, List.not_mem_nil, or_false] at hp
  rcases hp with rfl | rfl | rfl | rfl | rfl | rfl | rfl | rfl
  · simpa using hn
  · exact htarget
  · exact hai
  · exact hbeta
  · exact hlo
  · exact hhi
  · exact hinit
  · simpa using hcnp

theorem rdmaStatus_of_checks_pass {block : Nat} (hform : FormOk s r 0x0740) (hblock : block ≤ 63 ∨ block = 255) :
    exec (.rdmaStatus r block) s = .next (s.answer r 0x0740 .ok 0 []
      ((if block = 0xFF then List.range 64 else [block]).flatMap s.blockReport ++
        ([s.rdma.hits, s.rdma.misses, s.rdma.writeBacks, s.pinnedCount, s.rdma.cnpsSent, s.rdma.cnpsReceived] ++
          (List.range 9).map (fun i => lookupD s.rdma.errors (i + 1) 0)))) := by
  show execRdmaStatus r block s = _
  rw [← List.append_assoc]
  refine congrArg Host.Outcome.next (finish_of_checks_pass hform (List.forall_mem_singleton.mpr ?_) _)
  rcases hblock with h | h <;> simp [h]

end

/-- Settles O41. -/
theorem rdmaCommandsRun : Obligations.RdmaCommandsRun := by
  unfold Obligations.RdmaCommandsRun
  refine ⟨fun s r mac gids hform => ⟨rdmaAddrSet_of_busy mac gids hform, rdmaAddrSet_of_idle mac gids hform⟩,
    fun s r store address => rdmaStoreSet_of_checks_pass, ?create, fun s r i q hform _ => qpQuery_of_known hform,
    fun s r i => qpQuery_of_unknown, ?destroy, ?register, ?deregister, ?profile, ?status⟩
  case create =>
    intro s r i service pool domain pin hform hheld hlo hhi hservice hpool hdomain hpin hnone hpinned
    obtain ⟨u, hexec, hqps, hmem⟩ :=
      qpCreate_of_checks_pass hform hheld hlo hhi hservice hpool hdomain hpin hnone hpinned
    refine ⟨u, hexec, ?_, fun k hk => ?_, hmem⟩
    · rw [State.rqp?, hqps, List.find?_append, show s.rdma.qps.find? _ = none from hnone]
      simp
    · rw [State.rqp?, hqps, List.find?_append]
      simp [State.rqp?, Ne.symm hk]
  case destroy =>
    intro s r i q hform hheld hlo hhi hq hreset hbound
    refine ⟨_, qpDestroy_of_checks_pass hform hheld hlo hhi hq hreset hbound, ?_, fun k hk => ?_, rfl⟩
    · exact (find?_without_index _ i).trans (if_pos rfl)
    · exact (find?_without_index _ k).trans (if_neg hk)
  case register =>
    intro s r i address length va domain access hform hheld hi hplace hone hlong hdomain haccess hfree g
    exact mrRegister_of_checks_pass hheld hi hform hplace hone hlong hdomain haccess hfree rfl
  case deregister =>
    intro s r i hform hheld hi hknown hown
    exact ⟨_, mrDeregister_of_checks_pass hheld hi hform hknown hown, deregister_regionFree i, rfl,
      fun g hg hne => List.mem_filter.mpr ⟨hg, decide_eq_true hne⟩⟩
  case profile =>
    intro s r n target ai beta lo hi init cnp hform hn ht ht' ha ha' hb hb' hl hl' hh hh' hi' hi'' hc
    exact ccProfileSet_of_checks_pass hform hn ((outside_eq_false ..).mpr ⟨ht, ht'⟩) ((outside_eq_false ..).mpr ⟨ha, ha'⟩)
      ((outside_eq_false ..).mpr ⟨hb, hb'⟩) ((outside_eq_false ..).mpr ⟨hl, hl'⟩) ((outside_eq_false ..).mpr ⟨hh, hh'⟩)
      ((outside_eq_false ..).mpr ⟨hi', hi''⟩) hc
  case status =>
    intro s r block hform hblock
    exact ⟨_, rdmaStatus_of_checks_pass hform hblock, rfl⟩

end Sys2Proof.Machine
end

section
/-! Family `18_groups_and_the_twin.md`: pieces of the management ring, silence and formation, distribution and service. -/

namespace Sys2Proof.Machine

/-! ### Sending a piece (R392) -/

/-- The pieces of a channel that have not come back. -/
def State.away (s : State) (k : Nat) : Nat := (s.group.flying.filter (fun x => decide (x.1.channel = k))).length

section
variable (s : State) (ch : Nat) (b : Body)

/-- The next piece of a channel. -/
def State.nextPiece : Piece := ⟨s.group.set.deviceId, ch, lookupD s.group.nextSeq ch 0, b⟩

section
variable {s ch}

theorem sendPiece_of_room (haway : s.away ch < 64) (hqueued : s.group.queued.any (fun x => decide (x.channel = ch)) = false) :
    s.sendPiece ch b = { s with
      group := { s.group with nextSeq := assign s.group.nextSeq ch ((lookupD s.group.nextSeq ch 0 + 1) % 2 ^ 16)
                              flying := s.group.flying ++ [(s.nextPiece ch b, s.now, 0)] }
      sent := s.sent ++ [.piece (s.nextPiece ch b)] } :=
  if_pos ⟨haway, hqueued⟩

theorem sendPiece_of_full (h : 64 ≤ s.away ch ∨ s.group.queued.any (fun x => decide (x.channel = ch)) = true) :
    s.sendPiece ch b = { s with
      group := { s.group with nextSeq := assign s.group.nextSeq ch ((lookupD s.group.nextSeq ch 0 + 1) % 2 ^ 16)
                              queued := s.group.queued ++ [s.nextPiece ch b] } } := by
  refine if_neg fun hroom => ?_
  obtain ⟨haway, hqueued⟩ := hroom
  rcases h with h | h
  · exact absurd haway (Nat.not_lt.mpr h)
  · exact Bool.false_ne_true (hqueued.symm.trans h)

end

theorem sendPiece_cases : (s.away ch < 64 ∧ s.group.queued.any (fun x => decide (x.channel = ch)) = false) ∨
    (64 ≤ s.away ch ∨ s.group.queued.any (fun x => decide (x.channel = ch)) = true) := by
  rcases Nat.lt_or_ge (s.away ch) 64 with h | h
  · cases hq : s.group.queued.any (fun x => decide (x.channel = ch)) with
    | false => exact .inl ⟨h, rfl⟩
    | true => exact .inr (.inr rfl)
  · exact .inr (.inl h)

theorem sendPiece_nextSeq :
    lookupD (s.sendPiece ch b).group.nextSeq ch 0 = (lookupD s.group.nextSeq ch 0 + 1) % 65536 := by
  rcases sendPiece_cases s ch with ⟨haway, hqueued⟩ | h
  · rw [sendPiece_of_room b haway hqueued]
    exact lookupD_assign_same _ _ _ _
  · rw [sendPiece_of_full b h]
    exact lookupD_assign_same _ _ _ _

theorem sendPiece_away_le {k : Nat} (hk : s.away k ≤ 64) : (s.sendPiece ch b).away k ≤ 64 := by
  rcases sendPiece_cases s ch with ⟨haway, hqueued⟩ | h
  · rw [sendPiece_of_room b haway hqueued, State.away, List.filter_append, List.length_append]
    unfold State.away at haway hk
    by_cases hch : ch = k
    · subst hch
      rw [List.filter_cons_of_pos (by simp [State.nextPiece])]
      exact haway
    · rw [List.filter_cons_of_neg (by simp [State.nextPiece, hch])]
      exact hk
  · rw [sendPiece_of_full b h]
    exact hk

end

/-! ### Own pieces (R392) -/

section
variable {s : State} {p : Piece} {x : Piece × Nat × Nat} (hown : p.sender = s.group.set.deviceId) (hside : p.sender < 128)
include hown hside

theorem ringPieceReceive_own (intact : Bool) : exec (.ringPieceReceive p intact) s = .next (s.ownReturned p intact) := by
  show execRingPieceReceive p intact s = _
  rw [execRingPieceReceive, if_neg (Nat.not_le.mpr hside), if_pos hown]

variable (hx : s.group.flying.find? (fun x => decide (x.1.channel = p.channel) && decide (x.1.seq = p.seq)) = some x)
include hx

theorem ringPieceReceive_own_broken : exec (.ringPieceReceive p false) s = .next s := by
  rw [ringPieceReceive_own hown hside, State.ownReturned, hx]
  rfl

/-- After its first pass an own piece goes round once more. -/
theorem ringPieceReceive_own_first (hfirst : x.2.2 = 0) : ∃ t, exec (.ringPieceReceive p true) s = .next t ∧
    t.sent = s.sent ++ [.passed p] ∧ t.group.flying = updateFirst (fun y => decide (y = x)) (fun y => (y.1, y.2.1, 1)) s.group.flying := by
  rw [ringPieceReceive_own hown hside, State.ownReturned, hx]
  refine ⟨_, congrArg Host.Outcome.next ((if_neg (by decide)).trans (if_pos hfirst)), rfl, rfl⟩

/-- After its second pass it is removed. -/
theorem ringPieceReceive_own_second (hsecond : x.2.2 ≠ 0) : exec (.ringPieceReceive p true) s = .next (State.launchQueued
    { s with group := { s.group with flying := s.group.flying.filter (fun y => decide (y ≠ x)) } } p.channel) := by
  rw [ringPieceReceive_own hown hside, State.ownReturned, hx]
  exact congrArg Host.Outcome.next ((if_neg (by decide)).trans (if_neg hsecond))

omit hown hside in
theorem ringPieceResend_of_flying : exec (.ringPieceResend p.channel p.seq) s = .next { s with
    group := { s.group with flying := updateFirst (fun (x : Piece × Nat × Nat) => decide (x.1.channel = p.channel) && decide (x.1.seq = p.seq))
                                        (fun y => (y.1, s.now, 0)) s.group.flying }
    sent := s.sent ++ [.piece x.1] } := by
  show execRingPieceResend p.channel p.seq s = _
  simp only [execRingPieceResend, hx]

end

/-! ### Copies of other members' pieces (R392) -/

theorem serialCmp_succ (last : Nat) : serialCmp ((last + 1) % 65536) last 16 = .after := by
  have hd : ((last + 1) % 65536 % 65536 + 65536 - last % 65536) % 65536 = 1 := by omega
  simp only [serialCmp, Nat.reducePow, hd]
  rfl

/-- What a copy does, as a function of how its number compares with the last one acted on. -/
theorem takeCopy_of_synced {s : State} {p : Piece} (h : s.synced p.sender = true) : ∃ f : Serial → State,
    let last := lookupD s.group.acted (p.sender, p.channel) 65535
    let held := s.group.reorder.filter (fun x => decide (x.sender = p.sender) && decide (x.channel = p.channel))
    let duplicate : State := { s with group := { s.group with duplicates := s.group.duplicates + 1 } }
    let dropped : State := { s with group := { s.group with dropped := s.group.dropped + 1 } }
    s.takeCopy p = f (serialCmp p.seq last 16) ∧ f .equal = duplicate ∧ f .before = duplicate ∧ f .outside = dropped ∧
    f .after = (if p.seq = (last + 1) % 65536 then (s.actNumbered p).drainReorder p.sender p.channel 64
      else if held.any (fun x => decide (x.seq = p.seq)) then duplicate
      else if 64 ≤ held.length then dropped
      else { s with group := { s.group with reorder := s.group.reorder ++ [p] } }) := by
  obtain ⟨g, hg⟩ : ∃ g, g = State.takeCopy := ⟨_, rfl⟩
  rw [← hg]
  delta State.takeCopy at hg
  rw [hg]
  beta_reduce
  dsimp only
  rw [if_neg (by rw [h]; decide)]
  generalize serialCmp p.seq (lookupD s.group.acted (p.sender, p.channel) 65535) 16 = c
  refine ⟨fun c => match c with
    | .equal | .before => _
    | .outside => _
    | .after => _, ?_, rfl, rfl, rfl, rfl⟩
  cases c <;> rfl

section
variable {s : State} {p : Piece} (hsynced : s.synced p.sender = true)
include hsynced

theorem takeCopy_of_old (h : serialCmp p.seq (lookupD s.group.acted (p.sender, p.channel) 65535) 16 = .equal ∨
    serialCmp p.seq (lookupD s.group.acted (p.sender, p.channel) 65535) 16 = .before) :
    s.takeCopy p = { s with group := { s.group with duplicates := s.group.duplicates + 1 } } := by
  obtain ⟨f, hf, hequal, hbefore, -⟩ := takeCopy_of_synced hsynced
  rcases h with h | h
  · rw [hf, h, hequal]
  · rw [hf, h, hbefore]

theorem takeCopy_of_outside (h : serialCmp p.seq (lookupD s.group.acted (p.sender, p.channel) 65535) 16 = .outside) :
    s.takeCopy p = { s with group := { s.group with dropped := s.group.dropped + 1 } } := by
  obtain ⟨f, hf, -, -, houtside, -⟩ := takeCopy_of_synced hsynced
  rw [hf, h, houtside]

theorem takeCopy_of_next
    (h : p.seq = (lookupD s.group.acted (p.sender, p.channel) 65535 + 1) % 65536) :
    s.takeCopy p = (s.actNumbered p).drainReorder p.sender p.channel 64 := by
  obtain ⟨f, hf, -, -, -, hafter⟩ := takeCopy_of_synced hsynced
  rw [hf, show serialCmp p.seq _ 16 = .after from h ▸ serialCmp_succ _, hafter, if_pos h]

variable (h : serialCmp p.seq (lookupD s.group.acted (p.sender, p.channel) 65535) 16 = .after)
  (hgap : p.seq ≠ (lookupD s.group.acted (p.sender, p.channel) 65535 + 1) % 65536)
  (hnew : ∀ x ∈ s.group.reorder.filter (fun x => decide (x.sender = p.sender) && decide (x.channel = p.channel)), x.seq ≠ p.seq)
include h hgap hnew

/-- A later piece is held while fewer than 64 are. -/
theorem takeCopy_of_later : s.takeCopy p =
    if 64 ≤ (s.group.reorder.filter (fun x => decide (x.sender = p.sender) && decide (x.channel = p.channel))).length then
      { s with group := { s.group with dropped := s.group.dropped + 1 } }
    else { s with group := { s.group with reorder := s.group.reorder ++ [p] } } := by
  obtain ⟨f, hf, -, -, -, hafter⟩ := takeCopy_of_synced hsynced
  rw [hf, h, hafter, if_neg hgap, if_neg]
  rw [List.any_eq_true]
  rintro ⟨x, hx, hseq⟩
  exact hnew x hx (of_decide_eq_true hseq)

end

/-- A worker passes another member's piece on, and acts on an intact copy. -/
theorem ringPieceReceive_other {s : State} {p : Piece} (hside : p.sender < 128) (hother : p.sender ≠ s.group.set.deviceId)
    (hmanager : s.isManager = false) (hrelays : s.relays = false) :
    exec (.ringPieceReceive p true) s = .next (State.takeCopy { s with sent := s.sent ++ [.passed p] } p) ∧
      exec (.ringPieceReceive p false) s = .next { s with sent := s.sent ++ [.passed p] } := by
  obtain ⟨u, hu⟩ : ∃ u : State, u = { s with sent := s.sent ++ [.passed p] } := ⟨_, rfl⟩
  have hum : u.isManager = false := hu ▸ hmanager
  have hur : u.relays = false := hu ▸ hrelays
  show execRingPieceReceive p true s = _ ∧ execRingPieceReceive p false s = _
  simp only [execRingPieceReceive]
  rw [if_neg (Nat.not_le.mpr hside), if_neg hother, if_neg (Nat.not_le.mpr hside), if_neg hother, ← hu]
  refine ⟨?_, rfl⟩
  simp only [hum, State.relayUp, hur, Bool.not_true, Bool.false_eq_true, if_false, false_and]

/-- Settles O42. -/
theorem ringPiecesInOrder : Obligations.RingPiecesInOrder := by
  unfold Obligations.RingPiecesInOrder
  refine ⟨?send, ?own, ?copies, fun s p hside hother hmanager hrelays => ringPieceReceive_other hside hother hmanager hrelays⟩
  case send =>
    intro s ch b p away
    refine ⟨sendPiece_nextSeq s ch b, fun k hk => sendPiece_away_le s ch b hk, fun haway hqueued => ?_, fun h => ?_⟩
    · rw [sendPiece_of_room b haway hqueued]
      rfl
    · rw [sendPiece_of_full b h]
      exact ⟨rfl, rfl⟩
  case own =>
    intro s p x hown hside hx
    exact ⟨ringPieceReceive_own_first hown hside hx, ringPieceReceive_own_second hown hside hx,
      ringPieceReceive_own_broken hown hside hx, ringPieceResend_of_flying hx⟩
  case copies =>
    intro s p hsynced last held
    refine ⟨takeCopy_of_old hsynced, takeCopy_of_outside hsynced, fun _ => takeCopy_of_next hsynced, fun h hgap hnew => ?_⟩
    have hlater := takeCopy_of_later hsynced h hgap hnew
    exact ⟨fun hroom => hlater.trans (if_neg (Nat.not_le.mpr hroom)), fun hfull => hlater.trans (if_pos hfull)⟩

/-! ### What speaking leaves of the group (R391) -/

section
variable {s t : State} (h : OnlySpeaks s t)
include h

theorem OnlySpeaks.group : t.group = { s.group with nextSeq := t.group.nextSeq, flying := t.group.flying, queued := t.group.queued } :=
  (congrArg State.group (show t = s.voicedAs t from h)).trans rfl

end

/-! ### Silence and broken links (R503 to R506) -/

section
variable {s : State}

theorem memberSilence_of_member {d : Nat} (hm : s.isManager = true) (hd : d < 128) (hother : d ≠ s.group.set.deviceId)
    (hlive : liveStatus (s.memberState s.group.set.side d) = true) :
    exec (.memberSilenceTimeout d) s = .next (s.setLost s.group.set.side d) := by
  show execMemberSilenceTimeout d s = _
  simp only [execMemberSilenceTimeout, if_pos hd, Nat.mod_eq_of_lt hd]
  rw [if_pos ⟨hm, decide_eq_true hother, hlive⟩]

theorem memberSilence_of_worker (d : Nat) (hm : s.isManager = false) : exec (.memberSilenceTimeout d) s = .next s := by
  show execMemberSilenceTimeout d s = _
  simp only [execMemberSilenceTimeout, hm, Bool.false_eq_true, false_and, if_false]

/-- A worker outside a twin that has not heard its manager reports it and holds the Gauge. -/
theorem managerSilence_of_worker (hm : s.isManager = false) (hforming : s.group.forming = none) (hlost : s.group.managerLost = false)
    (htwin : s.group.set.twin = false) : ∃ t, exec .managerSilenceTimeout s = .next t ∧
      OnlySpeaks { s with group := { s.group with managerLost := true }, gauge := { s.gauge with hold := true } } t := by
  obtain ⟨u, hu⟩ : ∃ u : State, u = State.raise { s with group := { s.group with managerLost := true } } .managerLost s.group.manager :=
    ⟨_, rfl⟩
  have hspeaks : OnlySpeaks { s with group := { s.group with managerLost := true } } u := hu ▸ raise_speaks _ _ _ _
  have hexec : exec .managerSilenceTimeout s =
      .next (if u.gauge.hold then u else ({ u with gauge := { u.gauge with hold := true } } : State).raise .gaugeHold) := by
    show execManagerSilenceTimeout s = _
    simp only [execManagerSilenceTimeout, hforming, hm, hlost, htwin, hu]
    rfl
  refine ⟨_, hexec, ?_⟩
  have hset := hspeaks.withGauge { u.gauge with hold := true }
  rw [show s.gauge = u.gauge from hspeaks.gauge.symm]
  split
  next hold =>
    have hsame : ({ u.gauge with hold := true } : GaugeState) = u.gauge := by rw [← hold]
    rw [hsame] at hset ⊢
    exact hset
  next => exact hset.trans (raise_speaks _ _ _ _)

theorem managerSilence_of_reported (hm : s.isManager = false) (hlost : s.group.managerLost = true) :
    exec .managerSilenceTimeout s = .next s := by
  show execManagerSilenceTimeout s = _
  simp only [execManagerSilenceTimeout, hm, hlost]
  split <;> rfl

theorem managerSilence_of_manager (hm : s.isManager = true) (hforming : s.group.forming = none) (htwin : s.group.set.twin = true)
    (hsplit : s.group.split = false) (hacting : s.group.acting = false) : exec .managerSilenceTimeout s =
      .next (State.setLost (State.raise { s with group := { s.group with acting := true } } .managerLost s.group.manager)
        (1 - s.group.set.side) s.group.set.managerId) := by
  show execManagerSilenceTimeout s = _
  simp only [execManagerSilenceTimeout, hforming, hm, htwin, hsplit, hacting]
  rfl

theorem heartbeatSend_of_manager (hm : s.isManager = true) (hforming : s.group.forming = none) (hmany : 1 < s.ids.length)
    (hacting : s.group.acting = false) : exec .heartbeatSend s = .next (s.sendPiece 5 (.heartbeat s.ownHello)) := by
  have hnot : (s.sendPiece 5 (.heartbeat s.ownHello)).group.acting = false := by
    rw [(sendPiece_speaks s 5 (.heartbeat s.ownHello)).group]
    exact hacting
  show execHeartbeatSend s = _
  simp only [execHeartbeatSend, hforming, hm, if_neg (Nat.not_le.mpr hmany), hnot]
  rfl

theorem keepalives_of_worker (hm : s.isManager = false) :
    exec .heartbeatSend s = .next s ∧ exec .twinKeepaliveSend s = .next s := by
  show execHeartbeatSend s = _ ∧ execTwinKeepaliveSend s = _
  simp [execHeartbeatSend, execTwinKeepaliveSend, hm]

theorem twinKeepaliveSend_of_manager (hm : s.isManager = true) (htwin : s.group.set.twin = true) (hsplit : s.group.split = false) :
    exec .twinKeepaliveSend s = .next { s with sent := s.sent ++ [.twin (.heartbeat s.ownHello), .twin (.mode s.det.exact)] } :=
  congrArg Host.Outcome.next (if_pos ⟨hm, htwin, by rw [hsplit]; rfl⟩)

/-- A broken ring link folds the ring, and the timebase PLL leaves ring-in. -/
theorem ringLinkDown_folds (out : Bool) : ∃ t, exec (.ringLinkDown out) s = .next t ∧ OnlySpeaks { s with
    group := { s.group with ringOut := s.group.ringOut && !out, ringIn := s.group.ringIn && out, folded := decide (1 < s.ids.length) }
    power := { s.power with tbRing := false, tbChanges := s.power.tbChanges + s.power.tbRing.toNat } } t := by
  refine ⟨_, rfl, ?_⟩
  split
  · exact raise_speaks _ _ _ _
  · exact OnlySpeaks.refl _

end

/-! ### Settings and formation (R492, R497, R513) -/

theorem groupConfigCheck_eq_none_iff (s : State) (id side device manager twin expected form mgr lag : Nat) :
    groupConfigCheck id side device manager twin expected form mgr lag s = none ↔
      (1 ≤ id ∧ id ≤ 2 ^ 64 - 1) ∧ side ≤ 1 ∧ device ≤ 127 ∧ manager ≤ 127 ∧ twin ≤ 1 ∧
      (expected.testBit device = true ∧ expected.testBit manager = true) ∧ (1 ≤ form ∧ form ≤ 600) ∧ (10 ≤ mgr ∧ mgr ≤ 10000) ∧
      (1 ≤ lag ∧ lag ≤ 1024) ∧ (s.memberState s.group.set.side s.group.set.deviceId = .absent ∨
        s.memberState s.group.set.side s.group.set.deviceId = .forming) := by
  rw [groupConfigCheck, firstReject_eq_none]
  simp only [List.forall_mem_cons, outside_eq_false, decide_eq_false_iff_not, not_lt, Bool.not_eq_false', Bool.and_eq_true,
    Bool.and_eq_false_iff, not_not, List.not_mem_nil, false_implies, implies_true, and_true, ne_eq]

section
variable {s : State} {r : Req}

theorem groupConfig_of_checks_pass {id side device manager twin expected form mgr lag : Nat} (hform : FormOk s r 0x0440)
    (hcheck : groupConfigCheck id side device manager twin expected form mgr lag s = none) {g : GroupSettings}
    (hg : g = { groupId := id, side := side, deviceId := device, managerId := manager, twin := decide (twin = 1)
                expected := BitVec.ofNat 128 expected, formTimeout := form, mgrTimeout := mgr, twinLag := lag }) :
    exec (.groupConfig r id side device manager twin expected form mgr lag) s = .next (
      let u : State := { s with group := { s.group with next := some g } }
      if r.mb = 7 then u.answer r 0x0440 .ok
      else (u.answerInProgress r 0x0440 [.nor]).writeNorRecord .config (s.deviceCopy (groupBytes g)) (some (r, 0x0440))) := by
  show execGroupConfig r id side device manager twin expected form mgr lag s = _
  rw [execGroupConfig, hcheck, finish_ok hform, hg]

theorem groupForm_of_settings (hform : FormOk s r 0x0441) (hset : (s.group.next.getD s.group.set).groupId ≠ 0) :
    exec (.groupForm r) s = .next ((s.answerInProgress r 0x0441 []).startForming (some r)) :=
  congrArg Host.Outcome.next (finish_of_checks_pass hform (List.forall_mem_singleton.mpr (decide_eq_false hset)) _)

theorem groupForm_without_settings (hform : FormOk s r 0x0441) (hset : (s.group.next.getD s.group.set).groupId = 0) :
    exec (.groupForm r) s = .next (s.answer r 0x0441 .memberState) := by
  show execGroupForm r s = _
  rw [execGroupForm, firstReject_cons_of_fail (decide_eq_true hset), finish_reject hform]

theorem groupStatus_eq (hform : FormOk s r 0x0442) : ∃ l : List Nat,
    exec (.groupStatus r) s = .next (s.answer r 0x0442 .ok 0 (s.membership ++ sha256 s.membership) l) ∧
      l.head? = some s.group.manager :=
  ⟨_, congrArg Host.Outcome.next (finish_ok hform _), rfl⟩

section
variable {f : Formation} (hf : s.group.forming = some f)
include hf

theorem helloSend_of_forming : exec .helloSend s = .next (if f.step = .neighbours then
    { s with sent := s.sent ++ [.neighbour s.ownHello] } else s.sendPiece 5 (.hello s.ownHello)) := by
  show execHelloSend s = _
  simp only [execHelloSend, hf]

theorem formationRetry_of_none (h : f.failed = 0 ∨ f.timedOut = true) : exec .formationRetry s = .next s := by
  show execFormationRetry s = _
  simp only [execFormationRetry, hf]
  rw [if_pos h]

/-- A failed formation begins again. -/
theorem formationRetry_of_failed (hfailed : f.failed ≠ 0) (htime : f.timedOut = false) :
    ∃ u : State, exec .formationRetry s = .next u.advanceForming ∧ u.group.forming = some { start := f.start } ∧
      u.group.hellos = [] ∧ u.group.hops = [] ∧ u.sent = s.sent ++ [.neighbour s.ownHello] := by
  show ∃ u : State, execFormationRetry s = .next u.advanceForming ∧ _
  simp only [execFormationRetry, hf]
  rw [if_neg (by simp [hfailed, htime])]
  exact ⟨_, rfl, rfl, rfl, rfl, rfl⟩

theorem formTimeoutExpiry_of_late (h : ¬ (f.step = .neighbours ∨ f.step = .hellos)) :
    exec .formTimeoutExpiry s = .next (s.withForming (fun f => { f with timedOut := true })) := by
  show execFormTimeoutExpiry s = _
  simp only [execFormTimeoutExpiry, hf]
  rw [if_neg h]

theorem formTimeoutExpiry_of_early (h : f.step = .neighbours ∨ f.step = .hellos) : ∃ d, exec .formTimeoutExpiry s =
    .next ((s.withForming (fun f => { f with timedOut := true })).failForming .formTimeout d) := by
  show ∃ d, execFormTimeoutExpiry s = _
  simp only [execFormTimeoutExpiry, hf]
  rw [if_pos h]
  exact ⟨_, rfl⟩

end
end

/-- Settles O43. -/
theorem groupFormsAndWatches : Obligations.GroupFormsAndWatches := by
  unfold Obligations.GroupFormsAndWatches
  refine ⟨⟨fun s d => memberSilence_of_member, fun s d => memberSilence_of_worker d, ?silent, fun s => managerSilence_of_reported,
    fun s => managerSilence_of_manager, fun s => heartbeatSend_of_manager, fun s => keepalives_of_worker,
    fun s => twinKeepaliveSend_of_manager, ?down⟩, ?config, groupConfigCheck_eq_none_iff, ?form, fun s r => groupStatus_eq, ?forming⟩
  case silent =>
    intro s hm hforming hlost htwin
    obtain ⟨t, hexec, hspeaks⟩ := managerSilence_of_worker hm hforming hlost htwin
    refine ⟨t, hexec, ?_, ?_, hspeaks⟩
    · rw [hspeaks.group]
    · rw [hspeaks.gauge]
  case down =>
    intro s out
    obtain ⟨t, hexec, hspeaks⟩ := ringLinkDown_folds (s := s) out
    refine ⟨t, hexec, ?_⟩
    rw [hspeaks.group, hspeaks.power, hspeaks.mem]
    exact ⟨rfl, rfl, rfl, rfl, rfl, rfl⟩
  case config =>
    intro s r id side device manager twin expected form mgr lag hform hcheck g u
    have hexec := groupConfig_of_checks_pass hform hcheck (g := g) rfl
    exact ⟨fun h => hexec.trans (congrArg _ (if_pos h)), fun h => hexec.trans (congrArg _ (if_neg h))⟩
  case form =>
    intro s r hform
    exact ⟨groupForm_of_settings hform, groupForm_without_settings hform⟩
  case forming =>
    intro s f hf
    exact ⟨fun h => (helloSend_of_forming hf).trans (congrArg _ (if_pos h)),
      fun h => (helloSend_of_forming hf).trans (congrArg _ (if_neg h)), formationRetry_of_none hf, formationRetry_of_failed hf,
      fun hn hh => formTimeoutExpiry_of_late hf (not_or.mpr ⟨hn, hh⟩), formTimeoutExpiry_of_early hf⟩

/-! ### Distribution and quorums (R500, R501) -/

theorem leads_eq_false {s : State} (h : s.isManager = false) : s.leads = false := by rw [State.leads, h, Bool.false_and]

section
variable {s : State} (hm : s.isManager = false) (hrelays : s.relays = false)
include hm hrelays

/-- An item that a worker only stores: it is stored, and its digest goes to the manager. -/
theorem ackItem_of_worker {i : Item} (hcopy : s.ownCopy i = i) :
    s.ackItem i false = s.sendPiece 4 (.ack (itemSubject i) (itemDigest i) false) := by
  rw [State.ackItem, hcopy, if_pos (by rw [hm]; rfl), State.toManager, if_neg (by rw [hrelays]; decide)]

end

theorem recordNow_speaksBut (s : State) : ∃ det, OnlySpeaks { s with det := det } s.recordNow := by
  unfold State.recordNow State.issueRecord
  extract_lets r same all
  split
  · exact ⟨s.det, OnlySpeaks.refl s⟩
  · exact ⟨_, raise_speaks _ _ _ _⟩

theorem OnlySpeaks.relays {s t : State} (h : OnlySpeaks s t) : t.relays = s.relays :=
  (congrArg State.relays (show t = s.voicedAs t from h)).trans rfl

theorem storeProgram_roles (s : State) (h : Nat) (bs : Bytes) :
    (s.storeProgram h bs).isManager = s.isManager ∧ (s.storeProgram h bs).relays = s.relays := by
  obtain ⟨det, hspeaks⟩ := recordNow_speaksBut { s with ngayx := { s.ngayx with programs := assign s.ngayx.programs h bs } }
  exact ⟨hspeaks.isManager, hspeaks.relays⟩

/-- A worker stores a recipe, a plan or a program that its manager distributes and acknowledges its digest. -/
theorem distributionReceive_of_worker {s : State} {h : Nat} {bs : Bytes} {i : Item} (hm : s.isManager = false)
    (hrelays : s.relays = false) (hi : i ∈ [Item.recipe h bs, .plan h bs, .program h bs]) :
    exec (.distributionReceive i) s = .next ((s.storeItem i).sendPiece 4 (.ack (itemSubject i) (itemDigest i) false)) := by
  show execDistributionReceive i s = _
  simp only [List.mem_cons, List.not_mem_nil, or_false] at hi
  have hroles : (s.storeItem i).isManager = false ∧ (s.storeItem i).relays = false := by
    rcases hi with rfl | rfl | rfl
    · exact ⟨hm, hrelays⟩
    · exact ⟨hm, hrelays⟩
    · rw [State.storeItem, (storeProgram_roles s h bs).1, (storeProgram_roles s h bs).2]
      exact ⟨hm, hrelays⟩
  obtain ⟨hmu, hru⟩ := hroles
  rcases hi with rfl | rfl | rfl <;>
  · simp only [execDistributionReceive, leads_eq_false hm, hm, hrelays, hru, State.cannotTake, State.earlyFor, unacknowledged]
    exact congrArg Host.Outcome.next (ackItem_of_worker hmu hru rfl)

section
variable {s : State} {device subject : Nat} (hdevice : device < 128)
include hdevice

theorem quorumAckReceive_of_worker (b : Body) (hm : s.isManager = false) : exec (.quorumAckReceive device b) s =
    .next { s with group := { s.group with heard := assign s.group.heard device s.now } } := by
  obtain ⟨u, hu⟩ : ∃ u : State, u = { s with group := { s.group with heard := assign s.group.heard device s.now } } := ⟨_, rfl⟩
  have hmu : u.isManager = false := hu ▸ hm
  show execQuorumAckReceive device b s = _
  unfold execQuorumAckReceive
  dsimp only
  rw [if_pos hdevice, ← hu, if_pos (by rw [hmu]; rfl)]

theorem quorumAckReceive_of_manager (digest : Bytes) (early : Bool) (hm : s.isManager = true) :
    exec (.quorumAckReceive device (.ack subject digest early)) s = .next (State.takeMemberAck
      { s with group := { s.group with heard := assign s.group.heard device s.now } } device subject digest early) := by
  obtain ⟨u, hu⟩ : ∃ u : State, u = { s with group := { s.group with heard := assign s.group.heard device s.now } } := ⟨_, rfl⟩
  have hmu : u.isManager = true := hu ▸ hm
  show execQuorumAckReceive device (.ack subject digest early) s = _
  unfold execQuorumAckReceive
  dsimp only
  rw [if_pos hdevice, ← hu, if_neg (by rw [hmu]; decide)]

end

section
variable {s : State} {device subject : Nat} {digest : Bytes} {r : Req} {code result : Nat} {payload : Bytes} {values : List Nat}

/-- The last acknowledgement a command waits for ends it. -/
theorem takeMemberAck_last
    (hq : s.group.quorums = [⟨digest, subject, [device], .answer r code result payload values, false⟩]) :
    s.takeMemberAck device subject digest false =
      State.answer { s with group := { s.group with quorums := [] } } r code .ok result payload values := by
  simp [State.takeMemberAck, hq, updateFirst, State.settleQuorums, State.endQuorum, State.dropQuorum]

/-- An acknowledgement of another digest loses the member. -/
theorem takeMemberAck_differs {waiting : List Nat} {other : Bytes} (hdevice : device < 128) (hwaits : device ∈ waiting)
    (hother : other ≠ digest)
    (hq : s.group.quorums = [⟨digest, subject, waiting, .answer r code result payload values, false⟩]) :
    s.takeMemberAck device subject other false = s.setLost s.group.set.side device := by
  have hne : ¬ digest = other := Ne.symm hother
  simp [State.takeMemberAck, hq, hwaits, hne, State.differs, hdevice, Nat.mod_eq_of_lt hdevice]

theorem distribute_quorums {i : Item} {goal : QuorumGoal} (haudience : s.audience ≠ []) (hmb5 : r.mb ≠ 5) (hmb7 : r.mb ≠ 7) :
    (s.distribute r code i goal).group.quorums = s.group.quorums ++ [⟨itemDigest i, code, s.audience, goal, false⟩] := by
  rw [State.distribute, if_neg (by simp [hmb5, hmb7, haudience])]
  show (s.spread i).group.quorums ++ _ = _
  rw [(spread_speaks s i).group]

end

/-! ### Admission and service (R505, R507, R510) -/

section
variable {s : State} {r : Req} {d : Nat}

theorem deviceAdmit_of_checks_pass (hform : FormOk s r 0x0443) (hcheck : deviceAdmitCheck r d s = none)
    (hcatalogues : s.plan.catalogues = []) : ∃ (u : State) (j : Join), exec (.deviceAdmit r d) s = .next (u.admitNow j) ∧
      u.group.joins = s.group.joins ++ [j] ∧ j.device = d ∧ j.waiter = some r := by
  show ∃ (u : State) (j : Join), execDeviceAdmit r d s = .next (u.admitNow j) ∧ _
  rw [execDeviceAdmit, hcheck, finish_ok hform, hcatalogues]
  refine ⟨_, _, rfl, ?_, rfl, rfl⟩
  show (s.answerInProgress r 0x0443 [.device d]).group.joins ++ _ = _
  rw [(answerInProgress_speaks s r 0x0443 [.device d]).group]

theorem deviceAdmit_of_active (hform : FormOk s r 0x0443) (hm : MayManage s r) (hheld : (s.heldBusy (.device d)).1 = false)
    (hd : d ≤ 127) (hactive : s.memberState (s.admitSide d) d = .active) :
    exec (.deviceAdmit r d) s = .next (s.answer r 0x0443 .memberState) := by
  show execDeviceAdmit r d s = _
  rw [execDeviceAdmit, deviceAdmitCheck, firstReject_cons_of_pass ((notManager_fst s r).mpr hm), firstReject_cons_of_pass hheld,
    firstReject_cons_of_pass (by simp [hd]), firstReject_cons_of_fail (by simp [hactive]), finish_reject hform]

section
variable {action : Nat} (hform : FormOk s r 0x0444) (hcheck : deviceServiceCheck r d action s = none)
include hform hcheck

theorem deviceService_here (hmb : r.mb = 5) (hm : s.isManager = false) (hd : d = s.group.set.deviceId) :
    exec (.deviceService r d action) s = .next ((s.serveDevice action).answer r 0x0444 .ok) := by
  show execDeviceService r d action s = _
  rw [execDeviceService, hcheck, finish_ok hform, if_pos ⟨hmb, by rw [hm]; rfl⟩, if_pos hd]

theorem deviceService_of_manager (hmb : r.mb ≠ 5) : exec (.deviceService r d action) s = .next (
    if action = 0 then ((s.setMember s.group.set.side d .serviceLost).sendPiece 5 (.state d .serviceLost)).forward r 0x0444
      (natLe 2 d ++ natLe 1 action)
    else if action = 1 then s.forward r 0x0444 (natLe 2 d ++ natLe 1 action)
    else (s.setLost s.group.set.side d).forward r 0x0444 (natLe 2 d ++ natLe 1 action)) := by
  show execDeviceService r d action s = _
  rw [execDeviceService, hcheck, finish_ok hform, if_neg fun h => hmb h.1]

end

theorem OnlySpeaks.memberState {s t : State} (h : OnlySpeaks s t) (side d : Nat) : t.memberState side d = s.memberState side d :=
  (congrArg (fun u : State => u.memberState side d) (show t = s.voicedAs t from h)).trans rfl

theorem setMember_memberState (s : State) (d : Nat) (m : MemberStatus) :
    (s.setMember s.group.set.side d m).memberState s.group.set.side d = m := by
  rw [State.setMember, if_pos rfl, State.memberState, if_pos rfl]
  exact lookupD_assign_same _ _ _ _

/-! ### The manager role (R506) -/

theorem managerTakeover_of_checks_pass (hform : FormOk s r 0x0445) (hlost : s.group.managerLost = true)
    (htwin : s.group.set.twin = false) (hm : s.isManager = false) : ∃ u v : State, v = u.setLost s.group.set.side s.group.manager ∧
      u.group.manager = s.group.set.deviceId ∧ u.group.managerLost = false ∧ u.gauge.pubCommitted = s.gauge.committed ∧
      u.gauge.summaries = [] ∧ exec (.managerTakeover r) s = .next (v.writeNorRecord .config
        (s.deviceCopy (groupBytes { s.group.set with managerId := s.group.set.deviceId })) (some (r, 0x0445))) :=
  ⟨_, _, rfl, rfl, rfl, rfl, rfl, congrArg Host.Outcome.next
    (finish_of_checks_pass hform (List.forall_mem_singleton.mpr (by rw [hlost, htwin, hm]; rfl)) _)⟩

theorem replayItem_acting (s : State) (who : Nat) (i : Item) : (s.replayItem who i).group.acting = s.group.acting := by
  unfold State.replayItem
  dsimp only
  split
  · rw [(sendPiece_speaks s (itemChannel i) (.item i)).group]
  · rfl

theorem twinSay_acting (s : State) (b : Body) : (s.twinSay b).group.acting = s.group.acting := rfl

theorem replayTo_acting (s : State) (who : Nat) : (s.replayTo who).group.acting = s.group.acting :=
  foldl_keeps (g := fun s : State => s.group.acting) (fun s i => replayItem_acting s who i) _ s

section
variable (hform : FormOk s r 0x0446) (hacting : s.group.acting = true)
include hform hacting

theorem managerRestore_of_inactive (hstate : s.memberState (1 - s.group.set.side) s.group.set.managerId ≠ .active) :
    exec (.managerRestore r) s = .next (s.answer r 0x0446 .memberState) := by
  show execManagerRestore r s = _
  rw [execManagerRestore, firstReject_cons_of_pass (by simp [hacting]), firstReject_cons_of_fail (by simp [hstate]),
    finish_reject hform]

theorem managerRestore_of_active (hstate : s.memberState (1 - s.group.set.side) s.group.set.managerId = .active) :
    ∃ (t : State) (q : Quorum), exec (.managerRestore r) s = .next t ∧ t.group.quorums.getLast? = some q ∧
      q.awaiting = [128 + s.group.set.managerId] ∧ q.goal = .restore r ∧ t.group.acting = true := by
  obtain ⟨i, hi⟩ : ∃ i : Item, i = .command 0x0446 (sha256 []) := ⟨_, rfl⟩
  obtain ⟨s1, hs1⟩ : ∃ s1 : State, s1 = ((s.answerInProgress r 0x0446 []).replayTo (128 + s.group.set.managerId)).twinSay
    (.item i) := ⟨_, rfl⟩
  have hs1acting : s1.group.acting = true := by
    rw [hs1, twinSay_acting, replayTo_acting, (answerInProgress_speaks s r 0x0446 []).group, hacting]
  refine ⟨{ s1 with group := { s1.group with quorums := s1.group.quorums ++
    [⟨itemDigest i, 0x0446, [128 + s.group.set.managerId], .restore r, false⟩] } }, _, ?_,
    List.getLast?_concat, rfl, rfl, hs1acting⟩
  show execManagerRestore r s = _
  unfold execManagerRestore
  dsimp only
  rw [← hi, ← hs1, firstReject_cons_of_pass (by simp [hacting]), firstReject_cons_of_pass (by simp [hstate])]
  exact congrArg Host.Outcome.next (finish_ok hform _)

end
end

/-- Settles O44. -/
theorem groupServes : Obligations.GroupServes := by
  unfold Obligations.GroupServes
  refine ⟨⟨fun s h bs hm hrelays i hi => distributionReceive_of_worker hm hrelays hi, fun s h bs => lookup?_assign_same _ _ _,
    fun s r code i goal => distribute_quorums, ?last, ?differs, fun s device b hm hdevice => quorumAckReceive_of_worker hdevice b hm⟩,
    fun s r d => deviceAdmit_of_checks_pass, fun s r d => deviceAdmit_of_active, ?service,
    fun s r => managerTakeover_of_checks_pass, ?restore, ?proxy⟩
  case last =>
    intro s device subject digest r code result payload values hm hdevice q u hq
    exact (quorumAckReceive_of_manager hdevice digest false hm).trans (congrArg _ (takeMemberAck_last (s := u) hq))
  case differs =>
    intro s device subject digest other waiting r code result payload values hm hdevice hwaits hother hq
    exact (quorumAckReceive_of_manager hdevice other false hm).trans
      (congrArg _ (takeMemberAck_differs (s := { s with group := { s.group with heard := assign s.group.heard device s.now } })
        hdevice hwaits hother hq))
  case service =>
    intro s r d action hform hcheck params
    have hmanager := deviceService_of_manager hform hcheck
    refine ⟨deviceService_here hform hcheck, fun hmb ha => ?_, fun hmb ha => ?_, fun hmb ha => ?_⟩
    · exact (hmanager hmb).trans (congrArg _ ((if_neg (by omega)).trans (if_pos ha)))
    · exact (hmanager hmb).trans (congrArg _ ((if_neg (by omega)).trans (if_neg (by omega))))
    · refine ⟨_, (hmanager hmb).trans (congrArg _ (if_pos ha)), ?_⟩
      rw [(sendPiece_speaks _ _ _).memberState, setMember_memberState]
  case restore =>
    intro s r hform hacting
    exact ⟨managerRestore_of_inactive hform hacting, managerRestore_of_active hform hacting⟩
  case proxy =>
    intro s dest step last header payload q hq b hproxied
    show execProxyBatchReceive dest step last header payload s = _
    simp only [execProxyBatchReceive, hq]
    rw [if_neg (by rw [hproxied]; exact Bool.false_ne_true)]

end Sys2Proof.Machine
end

section
/-! Family `19_lockkeeper_and_mailboxes.md`: arriving messages, answers and MB7, the Lockkeeper's own commands and restarts. -/

namespace Sys2Proof.Machine

/-! ### The checks an arriving message meets (R517, R520 to R523) -/

theorem setBox_setBox (s : State) (i : Nat) (b c : Mailbox) : (s.setBox i b).setBox i c = s.setBox i c := by
  show ({ s with lock := { s.lock with boxes := (s.lock.boxes.set i b).set i c } } : State) = _
  rw [List.set_set]
  rfl

section
variable {b : Mailbox} {seq tag : Nat}

theorem seqVerdict_of_mem (sync : Bool) (h : (seq, tag) ∈ b.accepted) : seqVerdict b seq tag sync = .repeated :=
  if_pos (List.contains_iff_mem.mpr h)

section
variable (h : (seq, tag) ∉ b.accepted)
include h

theorem seqVerdict_of_sync : seqVerdict b seq tag true = .accepted := by
  rw [seqVerdict, if_neg (by simpa using h), if_pos rfl]

theorem seqVerdict_of_first (hlast : b.lastSeq = none) : seqVerdict b seq tag false = .bad 0xFFFFFFFF := by
  rw [seqVerdict, if_neg (by simpa using h), if_neg Bool.false_ne_true, hlast]

theorem seqVerdict_of_last {n : Nat} (hlast : b.lastSeq = some n) : seqVerdict b seq tag false =
    if seq = (n + 1) % 65536 then .accepted else .bad ((n + 1) % 65536) := by
  rw [seqVerdict, if_neg (by simpa using h), if_neg Bool.false_ne_true, hlast]
  simp only [Nat.reducePow]

end
end

section
variable {s : State} {mb : Nat} {bs : Bytes} (hlistens : s.listens mb = true) (hlength : 32 ≤ bs.length)
include hlistens hlength

theorem receive_of_badHeader (hbad : headerBad bs = true) :
    s.receive mb bs = s.refuseMessage (reqOf mb bs) (fieldAt bs 0 2) .badHeader 0 := by
  rw [State.receive, if_neg (by simp [hlistens, hlength]), if_pos hbad]

section
variable (hgood : headerBad bs = false)
include hgood

theorem receive_of_repeated (h : seqVerdict (s.box mb) (reqOf mb bs).seq (reqOf mb bs).tag (headerSync bs) = .repeated) :
    s.receive mb bs = s.answerRepeat mb (reqOf mb bs).seq (reqOf mb bs).tag := by
  rw [State.receive, if_neg (by simp [hlistens, hlength]), if_neg (by simp [hgood]), h]

theorem receive_of_badSequence {n : Nat}
    (h : seqVerdict (s.box mb) (reqOf mb bs).seq (reqOf mb bs).tag (headerSync bs) = .bad n) :
    s.receive mb bs = s.refuseMessage (reqOf mb bs) (fieldAt bs 0 2) .badSequence n := by
  rw [State.receive, if_neg (by simp [hlistens, hlength]), if_neg (by simp [hgood]), h]

theorem receive_of_accepted (h : seqVerdict (s.box mb) (reqOf mb bs).seq (reqOf mb bs).tag (headerSync bs) = .accepted) :
    s.receive mb bs = s.accept mb bs := by
  rw [State.receive, if_neg (by simp [hlistens, hlength]), if_neg (by simp [hgood]), h]

end
end

section
variable {s : State} {mb : Nat} {bs : Bytes}

theorem accept_of_failing {e : Reject} (h : s.frontCheck mb (fieldAt bs 0 2) (messagePayload bs) = some e) :
    s.accept mb bs = (s.setBox mb { s.box mb with
      lastSeq := some (reqOf mb bs).seq
      accepted := (((reqOf mb bs).seq, (reqOf mb bs).tag) :: (s.box mb).accepted).take 16 }).respond (reqOf mb bs) (fieldAt bs 0 2)
        e.status e.result [] [] := by
  simp only [State.accept, h]

theorem accept_of_passing (h : s.frontCheck mb (fieldAt bs 0 2) (messagePayload bs) = none) :
    s.accept mb bs = s.setBox mb { s.box mb with
      outstanding := (s.box mb).outstanding ++ [{ req := reqOf mb bs, command := fieldAt bs 0 2, payload := some (messagePayload bs),
                                                  arrived := s.now }]
      lastSeq := some (reqOf mb bs).seq
      accepted := (((reqOf mb bs).seq, (reqOf mb bs).tag) :: (s.box mb).accepted).take 16 } := by
  simp only [State.accept, h]
  exact setBox_setBox _ _ _ _

end

/-! ### The checks from COMMAND to BUSY (R523) -/

section
variable {s : State} {mb code : Nat} {payload : Bytes}

theorem frontCheck_of_unknown (h : layoutOf code payload = none) : s.frontCheck mb code payload = some ⟨.badCommand, 0⟩ := by
  simp only [State.frontCheck, h]

variable {l : Layout} (h : layoutOf code payload = some l)
include h

theorem frontCheck_of_known : s.frontCheck mb code payload = firstReject [
    (decide (s.nor.running ≠ .main) && !recoveryCommands.contains code, ⟨.recovery, 0⟩),
    (!s.permits mb code l, ⟨.notPermitted, 0⟩),
    (l.manager && decide (mb ≠ 5) && !s.leads, ⟨.notManager, s.group.manager⟩),
    (s.frontBusy mb code, ⟨.busy, 0⟩)] := by
  simp only [State.frontCheck, h]

theorem frontCheck_of_recovery (hrunning : s.nor.running ≠ .main) (hcode : code ∉ [0x0101, 0x0104, 0x0A01, 0x0A02, 0x0A03]) :
    s.frontCheck mb code payload = some ⟨.recovery, 0⟩ := by
  have hnot : recoveryCommands.contains code = false := by simpa [recoveryCommands] using hcode
  rw [frontCheck_of_known h, firstReject_cons_of_fail (by rw [hnot, decide_eq_true hrunning]; rfl)]

section
variable (hrunning : s.nor.running = .main)
include hrunning

theorem frontCheck_of_forbidden (hpermits : s.permits mb code l = false) :
    s.frontCheck mb code payload = some ⟨.notPermitted, 0⟩ := by
  rw [frontCheck_of_known h, firstReject_cons_of_pass (by simp [hrunning]), firstReject_cons_of_fail (by simp [hpermits])]

section
variable (hpermits : s.permits mb code l = true)
include hpermits

theorem frontCheck_of_notManager (hl : l.manager = true) (hmb : mb ≠ 5) (hleads : s.leads = false) :
    s.frontCheck mb code payload = some ⟨.notManager, s.group.manager⟩ := by
  rw [frontCheck_of_known h, firstReject_cons_of_pass (by simp [hrunning]), firstReject_cons_of_pass (by simp [hpermits]),
    firstReject_cons_of_fail (by simp [hl, hmb, hleads])]

theorem frontCheck_of_allowed (hallowed : l.manager = false ∨ mb = 5 ∨ s.leads = true) :
    s.frontCheck mb code payload = if s.frontBusy mb code then some ⟨.busy, 0⟩ else none := by
  rw [frontCheck_of_known h, firstReject_cons_of_pass (by simp [hrunning]), firstReject_cons_of_pass (by simp [hpermits]),
    firstReject_cons_of_pass (by rcases hallowed with h | h | h <;> simp [h]), firstReject_cons, firstReject_nil]

end
end
end

/-! ### Doorbells and datagrams (R517, R572) -/

section
variable {s : State} {mb : Nat} (hmb : mb < 4)
include hmb

theorem mbDoorbell_of_busy (hbusy : s.now < (s.box mb).busyUntil) : exec (.mbDoorbell mb) s = .next (s.hlError 5) := by
  show execMbDoorbell mb s = _
  rw [execMbDoorbell, if_neg (Nat.not_le.mpr hmb), if_pos hbusy]

theorem mbDoorbell_of_free (hfree : (s.box mb).busyUntil ≤ s.now) : ∃ n ≤ s.us 1, exec (.mbDoorbell mb) s = .next (State.receive
    (s.used.setBox mb { s.box mb with busyUntil := s.now + n }) mb (Memory.readBytes (s.box mb).window 0 4096)) := by
  refine ⟨s.free % (s.us 1 + 1), Nat.le_of_lt_succ (Nat.mod_lt _ (Nat.succ_pos _)), ?_⟩
  show execMbDoorbell mb s = _
  rw [execMbDoorbell, if_neg (Nat.not_le.mpr hmb), if_neg (Nat.not_lt.mpr hfree)]

end

section
variable {s : State} {source : Nat} (m : Bytes) (hon : s.power.maintOff = false)
include hon

theorem maintenanceDatagram_of_allowed (h : s.nor.maintenance.allows source = true) :
    exec (.maintenanceDatagram source m) s = .next (s.receive 4 m) := by
  show execMaintenanceDatagram source m s = _
  rw [execMaintenanceDatagram, if_neg (by simp [hon]), if_pos h]

theorem maintenanceDatagram_of_foreign (h : s.nor.maintenance.allows source = false) : exec (.maintenanceDatagram source m) s =
    .next { s with lock := { s.lock with mb4Dropped := s.lock.mb4Dropped + 1 } } := by
  show execMaintenanceDatagram source m s = _
  rw [execMaintenanceDatagram, if_neg (by simp [hon]), if_neg (by simp [h])]

end

/-- Settles O45. -/
theorem messagesMeetChecksInOrder : Obligations.MessagesMeetChecksInOrder := by
  unfold Obligations.MessagesMeetChecksInOrder
  refine ⟨?message, fun s mb code payload => frontCheck_of_unknown, ?known,
    fun s mb hmb => ⟨mbDoorbell_of_busy hmb, mbDoorbell_of_free hmb⟩,
    fun s source m hon => ⟨maintenanceDatagram_of_allowed m hon, maintenanceDatagram_of_foreign m hon⟩, fun s m => rfl⟩
  case message =>
    intro s mb bs hlistens hlength r code b seen
    refine ⟨receive_of_badHeader hlistens hlength,
      fun hgood hmem => receive_of_repeated hlistens hlength hgood (seqVerdict_of_mem _ hmem), fun hgood hnew => ⟨?_, ?_, ?_⟩⟩
    · intro hsync hfirst
      exact receive_of_badSequence hlistens hlength hgood (hsync ▸ seqVerdict_of_first hnew hfirst)
    · intro n hsync hlast hseq
      exact receive_of_badSequence hlistens hlength hgood (hsync ▸ (seqVerdict_of_last hnew hlast).trans (if_neg hseq))
    · intro hinOrder
      have haccepted : seqVerdict b r.seq r.tag (headerSync bs) = .accepted := by
        cases hsync : headerSync bs with
        | true => exact seqVerdict_of_sync hnew
        | false =>
          obtain ⟨n, hlast, hseq⟩ := hinOrder.resolve_left (by simp [hsync])
          exact (seqVerdict_of_last hnew hlast).trans (if_pos hseq)
      have hreceive := receive_of_accepted hlistens hlength hgood haccepted
      exact ⟨fun e he => hreceive.trans (accept_of_failing he), fun he => hreceive.trans (accept_of_passing he)⟩
  case known =>
    intro s mb code payload l hl
    exact ⟨frontCheck_of_recovery hl, frontCheck_of_forbidden hl,
      fun hrunning hpermits => ⟨frontCheck_of_notManager hl hrunning hpermits, frontCheck_of_allowed hl hrunning hpermits⟩⟩

/-! ### The responses a mailbox shows (R524, R572) -/

@[simp] theorem setBox_boxes_length (s : State) (i : Nat) (b : Mailbox) : (s.setBox i b).lock.boxes.length = s.lock.boxes.length :=
  List.length_set

theorem box_setBox_same {s : State} {i : Nat} (b : Mailbox) (h : i < s.lock.boxes.length) : (s.setBox i b).box i = b :=
  (box_setBox s i i b).trans (if_pos ⟨rfl, h⟩)

/-- A mailbox with a command outstanding is one of the device's. -/
theorem lt_boxes_of_outstanding {s : State} {r : Req} {o : Outstanding} (h : s.outstanding? r = some o) :
    r.mb < s.lock.boxes.length := by
  by_contra hmb
  have hbox : s.box r.mb = {} := by
    rw [State.box, List.getD_eq_getElem?_getD, List.getElem?_eq_none (by omega), Option.getD_none]
  simp [State.outstanding?, hbox] at h

theorem msix_lock (s : State) (v : Nat) : (s.msix v).lock = s.lock := by
  unfold State.msix
  split <;> rfl

theorem mb5Reply_lock (s : State) (code : Nat) (st : Status) (n : Nat) : (s.mb5Reply code st n).lock = s.lock := by
  unfold State.mb5Reply State.sendPiece
  dsimp only
  split
  · rfl
  · split <;> rfl

theorem mem_postResponse_responses {s : State} {i : Nat} (m : Message) (h : i < s.lock.boxes.length) :
    m ∈ ((s.postResponse i m).box i).responses := by
  have hposted (u : State) (hu : u.lock = (s.setBox i { s.box i with responses := (s.box i).responses ++ [m]
                                                                     respReady := (s.box i).respReady || decide (i < 4) }).lock) :
      m ∈ (u.box i).responses := by
    rw [State.box, hu, ← State.box, box_setBox_same _ h]
    exact List.mem_append_right _ (List.mem_singleton_self m)
  unfold State.postResponse
  dsimp only
  split
  · exact hposted _ (msix_lock _ _)
  · exact hposted _ rfl

theorem respond_inProgress_responses {s : State} {r : Req} (code : Nat) (hmb7 : r.mb ≠ 7) (h : r.mb < s.lock.boxes.length) :
    ∃ m ∈ ((s.respond r code .inProgress 0 [] []).box r.mb).responses, m.status = Status.inProgress.value ∧ m.tag = r.tag ∧
      m.seq = r.seq ∧ m.response = true := by
  unfold State.respond
  rw [if_neg hmb7]
  dsimp only
  rw [if_pos (Or.inr rfl)]
  refine ⟨s.signed { command := code, status := Status.inProgress.value, tag := r.tag, origin := r.mb, response := true,
                     seq := r.seq, result := 0, payload := [], values := [] }, ?_, rfl, rfl, rfl, rfl⟩
  have hposted (b : Mailbox) (m : Message) := mem_postResponse_responses (s := s.setBox r.mb b) m ((setBox_boxes_length s r.mb b).symm ▸ h)
  split
  · rw [State.box, mb5Reply_lock, ← State.box]
    exact hposted _ _
  · exact hposted _ _

section
variable {s : State} {r : Req} {o : Outstanding} (h : s.outstanding? r = some o)
include h

theorem answerTimeout_of_answered (hdone : o.inProgress = true) : exec (.answerTimeout r) s = .next s := by
  show execAnswerTimeout r s = _
  simp only [execAnswerTimeout, h, hdone, ↓reduceIte]

/-- What IN_PROGRESS leaves of the mailbox: the response is there, and the request is marked. -/
theorem answerTimeout_of_waiting (hwaits : o.inProgress = false) :
    exec (.answerTimeout r) s = .next (State.setBox (s.respond r o.command .inProgress 0 [] []) r.mb
      { (s.respond r o.command .inProgress 0 [] []).box r.mb with
        outstanding := updateFirst (fun x => decide (x.req = r)) (fun x => { x with inProgress := true })
          ((s.respond r o.command .inProgress 0 [] []).box r.mb).outstanding }) := by
  show execAnswerTimeout r s = _
  simp only [execAnswerTimeout, h]
  rw [if_neg (by simp [hwaits])]

end

/-! ### MB7 and its reserve (R528) -/

section
variable {s : State} {m : Message}

theorem mb7Push_of_room (hroom : s.lock.mb7.queue.length < 256) (hreserve : s.lock.mb7.reserve = []) (hlost : s.lock.mb7.lost = 0) :
    (s.mb7Push m).lock.mb7 = { s.lock.mb7 with queue := s.lock.mb7.queue ++ [m] } := by
  rw [State.mb7Push, if_pos ⟨hroom, by rw [hreserve]; rfl, hlost⟩]
  split
  · rw [msix_lock]
    rfl
  · rfl

section
variable (hfull : 256 ≤ s.lock.mb7.queue.length ∨ s.lock.mb7.reserve ≠ [] ∨ s.lock.mb7.lost ≠ 0)
include hfull

theorem mb7Push_of_full : s.mb7Push m = if m.event && !m.critical then
      s.setMb7 { s.lock.mb7 with lost := s.lock.mb7.lost + 1, lostTotal := s.lock.mb7.lostTotal + 1 }
    else s.setMb7 { s.lock.mb7 with reserve := s.lock.mb7.reserve ++ [m] } := by
  rw [State.mb7Push, if_neg]
  rintro ⟨hroom, hreserve, hlost⟩
  rcases hfull with h | h | h
  · omega
  · exact h (List.isEmpty_iff.mp hreserve)
  · exact h hlost

end

theorem mb7Push_queue_length (hq : s.lock.mb7.queue.length ≤ 256) : (s.mb7Push m).lock.mb7.queue.length ≤ 256 := by
  by_cases hfull : 256 ≤ s.lock.mb7.queue.length ∨ s.lock.mb7.reserve ≠ [] ∨ s.lock.mb7.lost ≠ 0
  · rw [mb7Push_of_full hfull]
    split <;> exact hq
  · simp only [not_or, not_le, not_not] at hfull
    obtain ⟨hroom, hreserve, hlost⟩ := hfull
    rw [mb7Push_of_room hroom hreserve hlost, List.length_append, List.length_singleton]
    exact hroom

/-- EVENTS_LOST goes before what waits in the reserve. -/
theorem mb7Refill_of_lost (hroom : s.lock.mb7.queue.length < 256) (hlost : s.lock.mb7.lost ≠ 0)
    (hmask : Event.eventsLost.value ∉ s.lock.mb7.mask) : ∃ m : Message, m.event = true ∧ m.command = 0xE027 ∧
      m.payload = natLe 8 s.lock.mb7.lost ∧ s.mb7Refill.lock.mb7.queue =
        s.lock.mb7.queue ++ [m] ++ s.lock.mb7.reserve.take (255 - s.lock.mb7.queue.length) ∧ s.mb7Refill.lock.mb7.lost = 0 := by
  refine ⟨s.signed { command := Event.eventsLost.value, event := true, seq := s.lock.mb7.seq, payload := natLe 8 s.lock.mb7.lost },
    rfl, rfl, rfl, ?_⟩
  have hplaces : 256 - (s.lock.mb7.queue.length + 1) = 255 - s.lock.mb7.queue.length := by omega
  unfold State.mb7Refill
  dsimp only
  rw [if_neg (Nat.not_le.mpr hroom), if_neg hlost, if_neg (by simpa using hmask)]
  dsimp only [State.setMb7]
  rw [List.length_append, List.length_singleton, hplaces]
  exact ⟨rfl, rfl⟩

end

theorem mb7Pop_of_cons {s : State} {m : Message} {rest : List Message} (h : s.lock.mb7.queue = m :: rest) :
    exec .mb7Pop s = .next (State.mb7Refill (s.setMb7 { s.lock.mb7 with queue := rest })) := by
  show execMb7Pop s = _
  rw [execMb7Pop, if_neg (by simp [h]), h]
  rfl

theorem mb7Pop_of_nil {s : State} (h : s.lock.mb7.queue = []) : exec .mb7Pop s = .next s := by
  show execMb7Pop s = _
  rw [execMb7Pop, if_pos (by rw [h]; rfl)]

theorem respReady_of_cons {s : State} {mb : Nat} {m : Message} {rest : List Message} (hmb : mb < 4)
    (h : (s.box mb).responses = m :: rest) : exec (.respReady mb) s =
      .next (if rest = [] then s.setBox mb { s.box mb with responses := rest, respReady := !rest.isEmpty }
        else (s.setBox mb { s.box mb with responses := rest, respReady := !rest.isEmpty }).msix (1 + mb)) := by
  show execRespReady mb s = _
  rw [execRespReady, if_neg (by simp [h, hmb]), h]
  simp only [List.drop_succ_cons, List.drop_zero, List.isEmpty_iff]

theorem raise_of_masked {s : State} {e : Event} (n : Nat) (p : Bytes) (hcritical : e.critical = false)
    (hmask : e.value ∈ s.lock.mb7.mask) : s.raise e n p = s.setMb7 { s.lock.mb7 with masked := s.lock.mb7.masked + 1 } := by
  rw [State.raise, if_pos (by simp [hcritical, hmask])]

/-- Settles O46. -/
theorem answersAndEventsQueue : Obligations.AnswersAndEventsQueue := by
  unfold Obligations.AnswersAndEventsQueue
  refine ⟨?timeout, fun s mb m rest => respReady_of_cons, fun s m rest => mb7Pop_of_cons, fun s => mb7Pop_of_nil,
    fun s => mb7Refill_of_lost, ?push, fun s e n p => raise_of_masked n p, ?busy⟩
  case timeout =>
    intro s r o h
    refine ⟨fun hwaits => ⟨_, answerTimeout_of_waiting h hwaits, ?_, ?_, fun hmb7 => ?_⟩, answerTimeout_of_answered h⟩
    all_goals have hmb := lt_boxes_of_outstanding ((respond_outstanding? s r o.command .inProgress 0 [] [] r).trans h)
    · exact (respond_speaks s r o.command .inProgress 0 [] []).trans (setBox_speaks _ _ _)
    · have hmarked := (respond_outstanding? s r o.command .inProgress 0 [] [] r).trans h
      unfold State.outstanding? at hmarked ⊢
      rw [box_setBox_same _ hmb, find?_updateFirst_same (p := fun x : Outstanding => decide (x.req = r))
        (f := fun x : Outstanding => { x with inProgress := true }) (fun x hx => hx),
        hmarked]
      rfl
    · obtain ⟨m, hm, hfields⟩ := respond_inProgress_responses (s := s) o.command hmb7 (lt_boxes_of_outstanding h)
      rw [box_setBox_same _ hmb]
      exact ⟨m, hm, hfields⟩
  case push =>
    intro s m q t
    refine ⟨mb7Push_of_room, fun hfull => ⟨fun hevent hcritical => ?_, fun hkept => ?_⟩, mb7Push_queue_length⟩
    · exact (mb7Push_of_full hfull).trans (if_pos (by rw [hevent, hcritical]; rfl))
    · exact (mb7Push_of_full hfull).trans (if_neg (by rcases hkept with h | h <;> simp [h]))
  case busy =>
    intro s mb hreserve
    simp [State.frontBusy, hreserve]

/-! ### What raising an event leaves (R528) -/

/-- Beyond MB7 and the host link's interrupts nothing differs. -/
def OnlyRaises (s t : State) : Prop :=
  t = { s with lock := { s.lock with mb7 := t.lock.mb7 }
               link := { s.link with msix := t.link.msix, pba := t.link.pba } }

theorem OnlyRaises.refl (s : State) : OnlyRaises s s := rfl

theorem OnlyRaises.trans {s t u : State} (h : OnlyRaises s t) (k : OnlyRaises t u) : OnlyRaises s u := by
  unfold OnlyRaises at *
  rw [k, h]

theorem setMb7_raises (s : State) (m : Mb7) : OnlyRaises s (s.setMb7 m) := rfl

theorem msix_raises (s : State) (v : Nat) : OnlyRaises s (s.msix v) := by
  unfold State.msix
  split <;> rfl

theorem mb7Push_raises (s : State) (m : Message) : OnlyRaises s (s.mb7Push m) := by
  unfold State.mb7Push
  dsimp only
  split
  · split
    · exact (setMb7_raises s _).trans (msix_raises _ _)
    · exact setMb7_raises s _
  · split <;> exact setMb7_raises s _

theorem raise_raises (s : State) (e : Event) (n : Nat) (p : Bytes) : OnlyRaises s (s.raise e n p) := by
  unfold State.raise
  dsimp only
  split
  · exact setMb7_raises s _
  · exact (setMb7_raises s _).trans (mb7Push_raises _ _)

theorem recordNow_raises (s : State) : ∃ det, OnlyRaises { s with det := det } s.recordNow := by
  unfold State.recordNow State.issueRecord
  extract_lets r same all
  split
  · exact ⟨s.det, OnlyRaises.refl s⟩
  · exact ⟨_, raise_raises _ _ _ _⟩

section
variable {s t : State} (h : OnlyRaises s t)
include h

theorem OnlyRaises.lock : t.lock = { s.lock with mb7 := t.lock.mb7 } :=
  (congrArg State.lock (show t = _ from h)).trans rfl

theorem OnlyRaises.gauge : t.gauge = s.gauge := (congrArg State.gauge (show t = _ from h)).trans rfl
theorem OnlyRaises.nor : t.nor = s.nor := (congrArg State.nor (show t = _ from h)).trans rfl
theorem OnlyRaises.mem : t.mem = s.mem := (congrArg State.mem (show t = _ from h)).trans rfl

end

/-! ### The system commands (R531) -/

section
variable {s : State} {r : Req}

theorem identityRead_eq (hform : FormOk s r 0x0101) : ∃ l : List Nat, l.length = 8 ∧
    l.take 7 = [s.fuse.clockBin, s.fuse.hostOption, s.fuse.stepping, s.fuse.es.toNat, s.fuse.serial, s.nor.fw.version,
      s.nor.fw.datapathRev] ∧ exec (.identityRead r) s = .next (s.answer r 0x0101 .ok 0 [] l) :=
  ⟨_, rfl, rfl, congrArg Host.Outcome.next (finish_ok hform _)⟩

theorem mailboxStatus_of_mb7 (hform : FormOk s r 0x0102) : exec (.mailboxStatus r 7) s = .next (s.answer r 0x0102 .ok 0 []
    [s.lock.mb7.queue.length, s.lock.mb7.reserve.length, s.lock.mb7.lostTotal]) :=
  congrArg Host.Outcome.next (finish_ok hform _)

theorem mailboxStatus_of_lt {mb n : Nat} (hform : FormOk s r 0x0102) (hmb : mb < 7) (hlast : (s.box mb).lastSeq = some n) :
    ∃ l : List Nat, exec (.mailboxStatus r mb) s = .next (s.answer r 0x0102 .ok 0 [] ((s.box mb).outstanding.length :: n :: l)) := by
  refine ⟨(s.box mb).rejections.flatMap (fun x => [x.1, x.2]), ?_⟩
  show execMailboxStatus r mb s = _
  unfold execMailboxStatus
  dsimp only
  rw [firstReject_cons_of_pass (by simp; omega), firstReject_nil, finish_ok hform, if_neg (by omega), hlast]
  rfl

theorem unitMapRead_eq (hform : FormOk s r 0x0103) :
    exec (.unitMapRead r) s = .next (s.answer r 0x0103 .ok 0 (s.units.bytes ++ sha256 s.units.bytes)) :=
  congrArg Host.Outcome.next (finish_ok hform _)

theorem echo_eq {bs : Bytes} (hform : FormOk s r 0x0104) (hlength : bs.length ≤ 4064) :
    exec (.echo r bs) s = .next (s.answer r 0x0104 .ok 0 bs) :=
  congrArg Host.Outcome.next (finish_of_checks_pass hform (List.forall_mem_singleton.mpr (by simpa using hlength)) _)

end

/-! ### The event mask (R528, R531) -/

/-- The codes a mask bitmap names, those of the critical events left out. -/
def maskedCodes (bitmap : Bytes) : List Nat :=
  (((List.range 1024).filter (fun k => decide (fieldAt bitmap (k / 8) 1 / 2 ^ (k % 8) % 2 = 1))).map (fun k => 0xE000 + k)).filter
    (fun c => !([0xE011, 0xE012, 0xE024, 0xE025, 0xE046, 0xE047] : List Nat).contains c)

theorem event_value_range (e : Event) : 0xE000 ≤ e.value ∧ e.value < 0xE000 + 1024 := by
  cases e <;> exact ⟨by decide, by decide⟩

theorem event_critical_iff (e : Event) :
    e.critical = ([0xE011, 0xE012, 0xE024, 0xE025, 0xE046, 0xE047] : List Nat).contains e.value := by
  cases e <;> rfl

theorem mem_maskedCodes_iff (bitmap : Bytes) (e : Event) : e.value ∈ maskedCodes bitmap ↔
    e.critical = false ∧ fieldAt bitmap ((e.value - 0xE000) / 8) 1 / 2 ^ ((e.value - 0xE000) % 8) % 2 = 1 := by
  obtain ⟨hlow, hhigh⟩ := event_value_range e
  rw [maskedCodes, List.mem_filter, ← event_critical_iff, Bool.not_eq_true', and_comm, and_congr_right_iff]
  intro _
  rw [List.mem_map]
  constructor
  · rintro ⟨k, hk, hvalue⟩
    have hindex : k = e.value - 0xE000 := by omega
    rw [hindex] at hk
    exact of_decide_eq_true (List.mem_filter.mp hk).2
  · intro hbit
    exact ⟨e.value - 0xE000, List.mem_filter.mpr ⟨List.mem_range.mpr (by omega), decide_eq_true hbit⟩, by omega⟩

theorem eventMaskSet_eq {s : State} {r : Req} {bs : Bytes} (hform : FormOk s r 0x0C04) (hlength : bs.length = 128) :
    exec (.eventMaskSet r bs) s =
      .next ((s.setMb7 { s.lock.mb7 with mask := maskedCodes bs }).answer r 0x0C04 .ok) :=
  congrArg Host.Outcome.next (finish_of_checks_pass hform (List.forall_mem_singleton.mpr (by simpa using hlength)) _)

/-! ### The watchdog and the SRAM (R515) -/

theorem lkWatchdogExpiry_first {s : State} (hheld : s.power.boot ≠ .held) (hreleased : s.power.boot ≠ .released)
    (h : (s.lock.restartByWatchdog && s.within s.lock.restartEnd (s.seconds 1)) = false) :
    exec .lkWatchdogExpiry s = .next ((s.raise .watchdog).mgmtRestart .watchdog) := by
  show execLkWatchdogExpiry s = _
  rw [execLkWatchdogExpiry, if_neg (not_or.mpr ⟨hheld, hreleased⟩), if_neg (by simp [h])]

theorem lkWatchdogExpiry_again {s : State} (hheld : s.power.boot ≠ .held) (hreleased : s.power.boot ≠ .released)
    (h : (s.lock.restartByWatchdog && s.within s.lock.restartEnd (s.seconds 1)) = true) : ∃ u : State,
    exec .lkWatchdogExpiry s = .next (u.resetEvent .watchdog .warm) ∧ u.mem = s.mem ∧ u.now = s.now := by
  have hraise := raise_speaks s .watchdog 0 []
  refine ⟨State.setNor (s.raise .watchdog) { (s.raise .watchdog).nor with
    endedProbation := (s.raise .watchdog).nor.endedProbation || (s.raise .watchdog).nor.probation.isSome }, ?_, hraise.mem,
    hraise.now⟩
  show execLkWatchdogExpiry s = _
  rw [execLkWatchdogExpiry, if_neg (not_or.mpr ⟨hheld, hreleased⟩), if_pos h]

/-! ### The management restart (R516, R557, R558) -/

section
variable {s : State} (c : RestartCause)

theorem mgmtRestart_of_idle (hidle : s.lock.restart = none) (hcapturing : s.capturing = false) :
    s.mgmtRestart c = s.beginRestart c := by
  rw [State.mgmtRestart, if_neg (by simp [hidle]), if_neg (by simp [hcapturing])]

theorem beginRestart_lock : (s.beginRestart c).lock =
    { s.lock with restart := some c, restartDue := none, handover := s.handoverList, arb := 0 } := by
  cases c <;> rfl

theorem beginRestart_nor : (s.beginRestart c).nor = { s.nor with session := none, restartScheduled := false
                                                                 restartCount := s.nor.restartCount + 1
                                                                 restartsCold := s.nor.restartsCold + 1 } := by
  cases c <;> rfl

theorem beginRestart_keeps : (s.beginRestart c).gauge = s.gauge ∧ (s.beginRestart c).plan = s.plan ∧
    (s.beginRestart c).mem = s.mem := by
  cases c <;> exact ⟨rfl, rfl, rfl⟩

end

/-- The state in which the firmware that boots takes over. -/
def State.afterRestart (s : State) (cause : RestartCause) : State :=
  { s with lock := { s.lock with restart := none, handover := [], restartEnd := some s.now
                                 restartByWatchdog := decide (cause = .watchdog) } }

/-- What the loader's check boots: the image in NOR, or the one retained. -/
def State.bootChecked (s : State) : Option Nat → State
  | none => s.bootNew
  | some k => s.bootRetained k

theorem mgmtRestartEnd_raises {s : State} {cause : RestartCause} (ok : Bool) (h : s.lock.restart = some cause) :
    ∃ (t : State) (det : DetState), exec (.mgmtRestartEnd ok) s = .next t ∧
      OnlyRaises { (s.bootChecked (s.restartCheck cause ok)).afterRestart cause with det := det } t := by
  obtain ⟨u, hu⟩ : ∃ u : State, u = (s.bootChecked (s.restartCheck cause ok)).afterRestart cause := ⟨_, rfl⟩
  obtain ⟨v, hv⟩ : ∃ v : State, v = State.raise (u.raise .fwChecked u.nor.lastCheck) .mgmtRestarted 0
    (natLe 8 (u.raise .fwChecked u.nor.lastCheck).nor.fw.version) := ⟨_, rfl⟩
  obtain ⟨w, hw⟩ : ∃ w : State, w = if cause = .residue then v.raise .criticalState else v := ⟨_, rfl⟩
  have huw : OnlyRaises u w := by
    have huv : OnlyRaises u v := hv ▸ (raise_raises u _ _ _).trans (raise_raises _ _ _ _)
    rw [hw]
    split
    · exact huv.trans (raise_raises _ _ _ _)
    · exact huv
  have hexec : exec (.mgmtRestartEnd ok) s = .next (if w.nor.fw = s.nor.fw then w else w.recordNow) := by
    show execMgmtRestartEnd ok s = _
    simp only [execMgmtRestartEnd, h]
    rw [hw, hv, hu]
    cases s.restartCheck cause ok <;> rfl
  obtain ⟨det, hdet⟩ := recordNow_raises w
  by_cases hsame : w.nor.fw = s.nor.fw
  · exact ⟨w, u.det, hexec.trans (congrArg _ (if_pos hsame)), hu ▸ huw⟩
  · refine ⟨w.recordNow, det, hexec.trans (congrArg _ (if_neg hsame)), hu ▸ OnlyRaises.trans ?_ hdet⟩
    rw [show w = _ from huw]
    rfl

theorem bootNew_keeps (s : State) : s.bootNew.lock = s.lock ∧ s.bootNew.now = s.now ∧ s.bootNew.gauge = s.gauge ∧
    s.bootNew.mem = s.mem := ⟨rfl, rfl, rfl, rfl⟩

theorem bootRetained_keeps (s : State) (k : Nat) : (s.bootRetained k).lock = s.lock ∧ (s.bootRetained k).now = s.now ∧
    (s.bootRetained k).gauge = s.gauge ∧ (s.bootRetained k).mem = s.mem := by
  unfold State.bootRetained
  dsimp only
  split
  · exact ⟨rfl, rfl, rfl, rfl⟩
  · split <;> simp only [State.queueNor, State.runImage, setNor_lock, setNor_now, setNor_gauge, setNor_mem, and_self]

theorem bootChecked_keeps (s : State) (check : Option Nat) : (s.bootChecked check).lock = s.lock ∧
    (s.bootChecked check).now = s.now ∧ (s.bootChecked check).gauge = s.gauge ∧ (s.bootChecked check).mem = s.mem := by
  cases check with
  | none => exact bootNew_keeps s
  | some k => exact bootRetained_keeps s k

theorem bootRetained_of_none {s : State} (k : Nat) (h : s.nor.retained = none) :
    (s.bootRetained k).nor.lastCheck = k ∧ (s.bootRetained k).nor.running = .recovery := by
  simp [State.bootRetained, State.setNor, h]

theorem bootRetained_of_some {s : State} (k : Nat) {bs : Bytes} (h : s.nor.retained = some bs) :
    (s.bootRetained k).nor.lastCheck = k ∧ (s.bootRetained k).nor.runningImage = bs ∧ (s.bootRetained k).nor.probation = none := by
  simp only [State.bootRetained, State.setNor, State.runImage, h]
  split <;> exact ⟨rfl, rfl, rfl⟩

/-- Settles O47. -/
theorem lockkeeperRuns : Obligations.LockkeeperRuns := by
  unfold Obligations.LockkeeperRuns
  refine ⟨fun s r => identityRead_eq, fun s r => mailboxStatus_of_mb7, fun s r mb n => mailboxStatus_of_lt,
    fun s r => unitMapRead_eq, fun s r bs => echo_eq, ?mask, ?watchdog, fun s => ⟨rfl, rfl, rfl⟩, ?restart, ?restartEnd, ?commit⟩
  case mask =>
    intro s r bs hform hlength
    obtain ⟨codes, hcodes⟩ : ∃ codes, codes = maskedCodes bs := ⟨_, rfl⟩
    have hexec := eventMaskSet_eq hform hlength
    have hmem := mem_maskedCodes_iff bs
    rw [← hcodes] at hexec hmem
    exact ⟨{ s.lock.mb7 with mask := codes }, hexec, rfl, hmem⟩
  case watchdog =>
    intro s hheld hreleased
    exact ⟨lkWatchdogExpiry_first hheld hreleased, lkWatchdogExpiry_again hheld hreleased⟩
  case restart =>
    intro s c hidle hcapturing
    obtain ⟨hgauge, hplan, hmem⟩ := beginRestart_keeps (s := s) c
    have hlock := beginRestart_lock (s := s) c
    have hnor := beginRestart_nor (s := s) c
    exact ⟨s.beginRestart c, mgmtRestart_of_idle c hidle hcapturing, by rw [hlock], by rw [hlock], by rw [hlock], by rw [hnor],
      by rw [hnor], hgauge, hplan, hmem⟩
  case restartEnd =>
    intro s cause ok h
    obtain ⟨t, det, hexec, hraises⟩ := mgmtRestartEnd_raises ok h
    obtain ⟨hlock, hnow, hgauge, hmem⟩ := bootChecked_keeps s (s.restartCheck cause ok)
    have hnor : t.nor = (s.bootChecked (s.restartCheck cause ok)).nor := hraises.nor
    refine ⟨t, hexec, ?_, ?_, ?_, ?_, ?_, hraises.gauge.trans hgauge, hraises.mem.trans hmem, fun hpass => ?_, fun k hfail => ?_⟩
    · rw [hraises.lock]; rfl
    · rw [hraises.lock]; rfl
    · rw [hraises.lock]; exact congrArg some hnow
    · rw [hraises.lock]; rfl
    · rw [hraises.lock]; exact (congrArg LockState.boxes hlock : _)
    · rw [hnor, hpass]
      exact ⟨rfl, rfl, rfl⟩
    · rw [hnor, hfail]
      cases hretained : s.nor.retained with
      | none =>
        obtain ⟨hcheck, hrunning⟩ := bootRetained_of_none k hretained
        exact ⟨hcheck, fun _ => hrunning, fun bs hbs => absurd hbs (by simp)⟩
      | some image =>
        obtain ⟨hcheck, hboot⟩ := bootRetained_of_some k hretained
        exact ⟨hcheck, fun hnone => absurd hnone (by simp), fun bs hbs => Option.some.inj hbs ▸ hboot⟩
  case commit =>
    intro s hscheduled
    show execFwRestartBegin s = _
    rw [execFwRestartBegin, if_pos hscheduled]

end Sys2Proof.Machine
end

section
/-! Family `20_settings_and_firmware.md`: the settings, calibration, owner key and certificates; NOR writes and firmware images. -/

namespace Sys2Proof.Machine

/-! ### The configuration and calibration (R535, R541 to R547) -/

section
variable {s : State} {r : Req}

theorem configRead_eq {copy offset n : Nat} (hform : FormOk s r 0x0201) (hcopy : copy ≤ 2) (hoffset : offset < 1048576)
    (hlow : 1 ≤ n) (hhigh : n ≤ 4064) : exec (.configRead r copy offset n) s = .next (s.answer r 0x0201 .ok 0
      (((if copy = 0 then s.activeCopy else if copy = 1 then s.nor.config.a else s.nor.config.b).drop offset).take n)) := by
  refine congrArg Host.Outcome.next (finish_of_checks_pass hform (fun p hp => ?_) _)
  simp only [List.mem_cons, List.not_mem_nil, or_false] at hp
  rcases hp with rfl | rfl | rfl
  · simpa using hcopy
  · simpa using hoffset
  · exact (outside_eq_false ..).mpr ⟨hlow, hhigh⟩

section
variable {image : Bytes} (hform : FormOk s r 0x0202) (hlength : image.length = fieldAt image 12 4 + (if configSigned image then 64 else 0))
include hform hlength

theorem configWrite_of_valid (hfault : s.configFault image = none) : exec (.configWrite r image) s =
    .next ((s.answerInProgress r 0x0202 []).writeNorRecord .config image (some (r, 0x0202))) := by
  show execConfigWrite r image s = _
  rw [execConfigWrite, firstReject_cons_of_pass (decide_eq_false (not_not.mpr hlength)), hfault,
    firstReject_cons_of_pass rfl, firstReject_nil, finish_ok hform]

theorem configWrite_of_fault {o : Nat} (hfault : s.configFault image = some o) :
    exec (.configWrite r image) s = .next (s.answer r 0x0202 .configInvalid o) := by
  show execConfigWrite r image s = _
  rw [execConfigWrite, firstReject_cons_of_pass (decide_eq_false (not_not.mpr hlength)), hfault,
    firstReject_cons_of_fail rfl, finish_reject hform, Option.getD_some]

end

theorem calRead_eq {layer f : Nat} {range : Int × Int} (hform : FormOk s r 0x0210) (hlayer : layer ≤ 1)
    (hrange : calRange f = some range) : exec (.calRead r layer f) s = .next (s.answer r 0x0210 .ok 0 []
      [wrapTo 16 (if layer = 0 then lookupD s.fuse.cal f 0 else lookupD s.userLayer f 0), wrapTo 16 range.1, wrapTo 16 range.2]) := by
  show execCalRead r layer f s = _
  rw [execCalRead, hrange, firstReject_cons_of_pass (by simpa using hlayer), firstReject_cons_of_pass rfl, firstReject_nil,
    finish_ok hform, Option.getD_some]

theorem calWrite_eq {f : Nat} {range : Int × Int} (offset : Int) (hform : FormOk s r 0x0211) (hrange : calRange f = some range) :
    exec (.calWrite r f offset) s = .next ((s.answerInProgress r 0x0211 []).writeNorRecord .ucal
      (ucalBytes (s.nextSeqOf .ucal) (putCal f (clampTo range offset) s.userLayer)) (some (r, 0x0211))
      (wrapTo 16 (clampTo range offset) + if clampTo range offset = offset then 0 else 2 ^ 32)) := by
  show execCalWrite r f offset s = _
  rw [execCalWrite, hrange, firstReject_cons_of_pass rfl, firstReject_nil, finish_ok hform, Option.getD_some]

end

/-! ### The selection of a half (R535) -/

section
variable {s : State} {k : RecordKind} {p : Paired}

theorem selectOf_of_neither (ha : s.halfValid k p.a = false) (hb : s.halfValid k p.b = false) :
    s.selectOf k p = (none, false) := by
  rw [State.selectOf, ha, hb]

theorem selectOf_of_a (ha : s.halfValid k p.a = true) (hb : s.halfValid k p.b = false) :
    s.selectOf k p = (some .a, false) := by
  rw [State.selectOf, ha, hb]

theorem selectOf_of_b (ha : s.halfValid k p.a = false) (hb : s.halfValid k p.b = true) :
    s.selectOf k p = (some .b, false) := by
  rw [State.selectOf, ha, hb]

theorem selectOf_of_both (ha : s.halfValid k p.a = true) (hb : s.halfValid k p.b = true) : s.selectOf k p =
    if serialCmp (halfSeq p.b) (halfSeq p.a) 32 = .after then (some .b, false)
    else if serialCmp (halfSeq p.b) (halfSeq p.a) 32 = .before then (some .a, false) else (some .a, true) := by
  rw [State.selectOf, ha, hb]
  generalize serialCmp (halfSeq p.b) (halfSeq p.a) 32 = order
  cases order <;> rfl

end

/-! ### The owner key, the attestation and the certificates (R550 to R553) -/

section
variable {s : State} {r : Req}

theorem ownerEnrol_eq {record : Bytes} (hform : FormOk s r 0x0901) (hlength : record.length = 136) (hkey : s.nor.ownerKey = none)
    (huid : fieldAt record 0 8 = s.fuse.uid) : exec (.ownerEnrol r record) s = .next (
      if Config.onCurve (sliceAt record 8 64) = false then s.answer r 0x0901 .badParam 8
      else if Config.ecdsaVerify (sliceAt record 8 64) (sha256 (record.take 72)) (sliceAt record 72 64) = false then
        s.answer r 0x0901 .sigInvalid
      else (s.answerInProgress r 0x0901 []).writeNorRecord .owner (ownerBytes 1 (s.nextSeqOf .owner) s.fuse.uid (sliceAt record 8 64))
        (some (r, 0x0901))) := by
  show execOwnerEnrol r record s = _
  rw [execOwnerEnrol, firstReject_cons_of_pass (by simp [hlength]), firstReject_cons_of_pass (by rw [hkey]; rfl),
    firstReject_cons_of_pass (by simp [huid])]
  cases Config.onCurve (sliceAt record 8 64) with
  | false => exact congrArg Host.Outcome.next (finish_reject hform _ _)
  | true =>
    cases Config.ecdsaVerify (sliceAt record 8 64) (sha256 (record.take 72)) (sliceAt record 72 64) with
    | false => exact congrArg Host.Outcome.next (finish_reject hform _ _)
    | true => exact congrArg Host.Outcome.next (finish_ok hform _)

theorem ownerRevoke_eq {bs key : Bytes} (hform : FormOk s r 0x0902) (hlength : bs.length = 80)
    (hmagic : bs.take 4 = [0x4F, 0x52, 0x45, 0x56]) (hkey : s.nor.ownerKey = some key) (hseq : fieldAt bs 4 4 = s.nor.ownerSeq)
    (huid : fieldAt bs 8 8 = s.fuse.uid) : exec (.ownerRevoke r bs) s = .next (
      if Config.ecdsaVerify key (sha256 (bs.take 16)) (sliceAt bs 16 64) = false then s.answer r 0x0902 .sigInvalid
      else (s.answerInProgress r 0x0902 []).writeNorRecord .owner (ownerBytes 0 (s.nextSeqOf .owner) s.fuse.uid key)
        (some (r, 0x0902))) := by
  show execOwnerRevoke r bs s = _
  rw [execOwnerRevoke, hkey, firstReject_cons_of_pass (by simp [hlength]), firstReject_cons_of_pass (by simp [hmagic]),
    firstReject_cons_of_pass rfl, firstReject_cons_of_pass (by simp [hseq]), firstReject_cons_of_pass (by simp [huid]),
    Option.getD_some]
  cases Config.ecdsaVerify key (sha256 (bs.take 16)) (sliceAt bs 16 64) with
  | false => exact congrArg Host.Outcome.next (finish_reject hform _ _)
  | true => exact congrArg Host.Outcome.next (finish_ok hform _)

theorem attest_eq {nonce : Bytes} (hform : FormOk s r 0x0903) (hlength : nonce.length = 32) : exec (.attest r nonce) s =
    .next (s.used.answer r 0x0903 .ok 0 (s.attestation nonce ++ s.identitySign (s.attestation nonce))) :=
  congrArg Host.Outcome.next (finish_of_checks_pass hform (List.forall_mem_singleton.mpr (by simpa using hlength)) _)

theorem certRead_of_lt {i : Nat} (hform : FormOk s r 0x0904) (hi : i < 3) : exec (.certRead r i) s =
    .next (s.answer r 0x0904 .ok 0 (if i = 0 then s.fuse.cert else Config.imageCert s.nor.runningImage i)) := by
  show execCertRead r i s = _
  rw [execCertRead, firstReject_cons_of_pass (by simp; omega), firstReject_cons_of_pass (by simp; omega), firstReject_nil,
    finish_ok hform]

theorem certRead_of_last (hform : FormOk s r 0x0904) : exec (.certRead r 3) s = .next (s.answer r 0x0904 .notFound) :=
  congrArg Host.Outcome.next (finish_reject hform _ _)

end

/-- The fields of an attestation report before the nonce. -/
def State.attestHead (s : State) : Bytes :=
  [0x41, 0x54, 0x53, 0x54] ++ natLe 2 1
    ++ natLe 2 (s.nor.ownerKey.isSome.toNat + 2 * s.debugOpen.toNat + 4 * s.fuse.es.toNat + 8 * s.nor.probation.isSome.toNat)
    ++ natLe 8 s.fuse.uid ++ natLe 8 s.nor.fw.version ++ natLe 4 s.nor.fw.datapathRev ++ natLe 4 s.fuse.securityMin

theorem attestHead_length (s : State) : s.attestHead.length = 32 := by
  simp [State.attestHead]

theorem attestation_eq (s : State) (nonce : Bytes) : ∃ tail, s.attestation nonce = s.attestHead ++ (nonce ++ tail) := by
  unfold State.attestation State.attestHead
  simp only [List.append_assoc]
  exact ⟨_, rfl⟩

theorem attestation_magic (s : State) (nonce : Bytes) : (s.attestation nonce).take 4 = [0x41, 0x54, 0x53, 0x54] := by
  obtain ⟨tail, h⟩ := attestation_eq s nonce
  rw [h, List.take_append_of_le_length (by rw [attestHead_length]; omega)]
  rfl

theorem attestation_nonce (s : State) {nonce : Bytes} (hlength : nonce.length = 32) :
    sliceAt (s.attestation nonce) 32 32 = nonce := by
  obtain ⟨tail, h⟩ := attestation_eq s nonce
  have hfield : ((s.attestation nonce).drop 32).take 32 = nonce := by
    rw [h, List.drop_left' (attestHead_length s), List.take_left' hlength]
  rw [sliceAt, hfield, hlength]
  exact List.append_nil _

/-- Settles O48. -/
theorem settingsCommandsRun : Obligations.SettingsCommandsRun := by
  unfold Obligations.SettingsCommandsRun
  refine ⟨fun s r copy offset n => configRead_eq, fun s r image hform hlength => ⟨configWrite_of_valid hform hlength,
    fun o => configWrite_of_fault hform hlength⟩, fun s r layer f range => calRead_eq, fun s r f range offset => calWrite_eq offset,
    fun s r record => ownerEnrol_eq, fun s r bs key => ownerRevoke_eq, ?attest, ?cert, ?select⟩
  case attest =>
    intro s r nonce hform hlength
    exact ⟨_, attest_eq hform hlength, rfl, attestation_magic s nonce, attestation_nonce s hlength⟩
  case cert =>
    intro s r i hform
    exact ⟨certRead_of_lt hform, fun hi => hi ▸ certRead_of_last hform⟩
  case select =>
    intro s k p
    exact ⟨selectOf_of_neither, selectOf_of_a, selectOf_of_b, selectOf_of_both⟩

/-! ### NOR writes (R536, R548, R558) -/

section
variable {s : State} {rest : List NorWrite}

section
variable {k : RecordKind} {h : Half} {bs : Bytes} {r : Req} {code result : Nat}
  (hwrites : s.nor.writes = { job := .record k h bs, waiter := some (r, code), result := result } :: rest)
include hwrites

theorem norWriteComplete_of_record (pass : Bool) : exec (.norWriteComplete pass) s = .next (
    if pass then (State.recordWritten (State.setPaired (s.setNor { s.nor with writes := rest }) k
        ((State.paired (s.setNor { s.nor with writes := rest }) k).put h bs)) k bs).answer r code .ok result
    else State.answer (State.setPaired (s.setNor { s.nor with writes := rest }) k
        ((State.paired (s.setNor { s.nor with writes := rest }) k).put h [])) r code .configInvalid) := by
  show execNorWriteComplete pass s = _
  simp only [execNorWriteComplete, hwrites]
  cases pass <;> rfl

end

section
variable {bs : Bytes} {r : Req} {code : Nat} (hwrites : s.nor.writes = { job := .image bs, waiter := some (r, code) } :: rest)
include hwrites

theorem norWriteComplete_of_image (hrunning : s.nor.running ≠ .recovery) : exec (.norWriteComplete true) s =
    .next (State.answer (s.setNor { s.nor with writes := rest, image := bs, pendingVersion := some (fwInfoOf bs).version
                                               restartScheduled := true }) r code .ok) := by
  show execNorWriteComplete true s = _
  simp only [execNorWriteComplete, hwrites, ↓reduceIte]
  unfold State.imageWritten
  dsimp only [State.setNor]
  rw [if_neg hrunning]
  rfl

theorem norWriteComplete_of_badImage : exec (.norWriteComplete false) s =
    .next (State.answer (s.setNor { s.nor with writes := rest, image := [] }) r code .fwImageInvalid) := by
  show execNorWriteComplete false s = _
  simp only [execNorWriteComplete, hwrites]
  rfl

end

section
variable {bs : Bytes} (hwrites : s.nor.writes = { job := .writeBack bs } :: rest)
include hwrites

theorem fwWriteBackDone_of_pass : exec (.fwWriteBackDone true) s =
    .next (s.setNor { s.nor with writes := rest, image := bs, writeBack := .done }) := by
  show execFwWriteBackDone true s = _
  simp only [execFwWriteBackDone, hwrites]
  rfl

theorem fwWriteBackDone_of_fail : exec (.fwWriteBackDone false) s =
    .next (State.configLog (s.setNor { s.nor with writes := rest, image := [], writeBack := .failed }) 82 4 []) := by
  show execFwWriteBackDone false s = _
  simp only [execFwWriteBackDone, hwrites]
  rfl

end

theorem retireRecordWrite_of_due {t : Nat} (hdue : s.nor.retireDue = some t) : ∃ bs : Bytes, (∃ head : Bytes, head.length = 32 ∧
      bs = head ++ sha256 (head ++ s.units.bytes) ++ s.units.bytes) ∧
    exec .retireRecordWrite s = .next (State.writeNorRecord (s.setNor { s.nor with retireDue := none }) .retire bs none) := by
  obtain ⟨head, hhead⟩ : ∃ head : Bytes, head = [0x52, 0x45, 0x54, 0x52] ++ natLe 2 1 ++ natLe 2 0 ++ natLe 4 (s.nextSeqOf .retire)
    ++ natLe 20 0 := ⟨_, rfl⟩
  refine ⟨head ++ sha256 (head ++ s.units.bytes) ++ s.units.bytes, ⟨head, by simp [hhead], rfl⟩, ?_⟩
  show execRetireRecordWrite s = _
  rw [execRetireRecordWrite, ← hhead, if_neg (by simp [hdue])]

end

/-! ### Download sessions (R556, R557) -/

section
variable {s : State} {r : Req} {offset : Nat} {data : Bytes} (hform : FormOk s r 0x0A01)
  (hend : offset + data.length ≤ 229376)
include hform hend

theorem fwImageWrite_first (hsession : s.nor.session = none) (hoffset : offset = 0) (hpending : s.nor.pendingVersion = none)
    (hprobation : s.nor.probation = none) (hback : s.nor.writeBack ≠ .running) : exec (.fwImageWrite r 0 data) s =
    .next (State.answer (s.setNor { s.nor with session := some ⟨.mailbox r.mb, data, s.now⟩ }) r 0x0A01 .ok) := by
  have hbarred : s.sessionBarred = false := by simp [State.sessionBarred, hpending, hprobation, hback]
  have hcheck : s.sessionFault (.mailbox r.mb) 0 data.length = none := by
    rw [hoffset] at hend
    simp only [State.sessionFault, hsession, hbarred]
    rw [firstReject_cons_of_pass (by simpa using hend)]
    rfl
  show execFwImageWrite r 0 data s = _
  rw [execFwImageWrite, hcheck, finish_ok hform]
  simp [State.sessionWrite, hsession]

variable {x : FwSession} (hsession : s.nor.session = some x)
include hsession

theorem fwImageWrite_next (horigin : x.origin = .mailbox r.mb) (hoffset : offset = x.bytes.length) :
    exec (.fwImageWrite r offset data) s =
      .next (State.answer (s.setNor { s.nor with session := some ⟨.mailbox r.mb, x.bytes ++ data, s.now⟩ }) r 0x0A01 .ok) := by
  have hcheck : s.sessionFault (.mailbox r.mb) offset data.length = none := by
    simp only [State.sessionFault, hsession]
    rw [firstReject_cons_of_pass (by simpa using hend), firstReject_cons_of_pass (by simp [horigin]), firstReject_cons_of_pass rfl,
      firstReject_cons_of_pass rfl, firstReject_cons_of_pass (by simp [hoffset]), firstReject_nil]
  show execFwImageWrite r offset data s = _
  rw [execFwImageWrite, hcheck, finish_ok hform]
  have hrest : x.bytes.drop (x.bytes.length + data.length) = [] := List.drop_of_length_le (Nat.le_add_right _ _)
  simp [State.sessionWrite, hsession, hoffset, hrest]

theorem fwImageWrite_of_foreign (horigin : x.origin ≠ .mailbox r.mb) :
    exec (.fwImageWrite r offset data) s = .next (s.answer r 0x0A01 .fwBusy) := by
  have hcheck : s.sessionFault (.mailbox r.mb) offset data.length = some ⟨.fwBusy, 0⟩ := by
    simp only [State.sessionFault, hsession]
    rw [firstReject_cons_of_pass (by simpa using hend), firstReject_cons_of_fail (by simp [horigin])]
  show execFwImageWrite r offset data s = _
  rw [execFwImageWrite, hcheck, finish_reject hform]

end

section
variable {s : State} {r : Req} {x : FwSession} (hform : FormOk s r 0x0A02) (hsession : s.nor.session = some x)
  (horigin : x.origin = .mailbox r.mb)
include hform hsession horigin

theorem fwImageCommit_of_discard :
    exec (.fwImageCommit r 1) s = .next (State.answer (s.setNor { s.nor with session := none }) r 0x0A02 .ok) := by
  show execFwImageCommit r 1 s = _
  simp only [execFwImageCommit, hsession, horigin, ne_eq, not_true_eq_false, ↓reduceIte]
  exact congrArg Host.Outcome.next (finish_ok hform _)

omit hform in
theorem commitFault_eq_screen : s.commitFault (.mailbox r.mb) = s.screen x.bytes := by
  simp only [State.commitFault, hsession, horigin, ne_eq, not_true_eq_false, ↓reduceIte]

theorem fwImageCommit_of_passing (hrunning : s.nor.running ≠ .download) (hscreen : s.screen x.bytes = none) :
    exec (.fwImageCommit r 0) s = .next (State.queueNor
      (State.setNor (s.answerInProgress r 0x0A02 []) { s.nor with session := none })
      { job := .image x.bytes, waiter := some (r, 0x0A02) }) := by
  have hnor := (answerInProgress_speaks s r 0x0A02 []).nor
  show execFwImageCommit r 0 s = _
  unfold execFwImageCommit
  dsimp only
  rw [if_neg (by omega), if_neg (by omega), commitFault_eq_screen hsession horigin, hscreen, finish_ok hform, if_neg (by omega),
    if_neg hrunning, State.commitSession, hnor, hsession]

theorem fwImageCommit_of_failing {e : Reject} (hscreen : s.screen x.bytes = some e) :
    exec (.fwImageCommit r 0) s = .next (s.answer r 0x0A02 e.status e.result) := by
  show execFwImageCommit r 0 s = _
  unfold execFwImageCommit
  dsimp only
  rw [if_neg (by omega), if_neg (by omega), commitFault_eq_screen hsession horigin, hscreen, finish_reject hform]

end

/-! ### The screen of an image (R555, R557) -/

section
variable {s : State} {bs : Bytes}

theorem screen_of_imageFault {st : Status} {n : Nat} (h : s.imageFault bs = some (st, n)) : s.screen bs = some ⟨st, 0⟩ := by
  simp only [State.screen, h]

theorem screen_of_badMagic (h : bs.take 4 ≠ [0x4C, 0x4B, 0x46, 0x57]) : s.screen bs = some ⟨.fwImageInvalid, 0⟩ := by
  refine screen_of_imageFault (n := 2) ?_
  rw [State.imageFault, if_pos]
  rw [decide_eq_false h]
  rfl

/-- An image below the security floor fails at the latest by its version. -/
theorem screen_of_rollback (h : fieldAt bs 24 1 < s.fuse.securityMin) : ∃ e, s.screen bs = some e := by
  have hfault : ∃ f : Status × Nat, s.imageFault bs = some f := by
    unfold State.imageFault
    rw [if_pos h]
    dsimp only
    split
    · exact ⟨_, rfl⟩
    · split <;> exact ⟨_, rfl⟩
  obtain ⟨⟨st, n⟩, hf⟩ := hfault
  exact ⟨_, screen_of_imageFault hf⟩

end

/-! ### The status and the end of a probation (R559, R560, R563) -/

theorem fwStatus_eq (s : State) : ∃ kind origin got tail, s.fwStatus =
    (natLe 2 1 ++ natLe 1 kind ++ natLe 1 origin ++ natLe 4 got) ++ (natLe 1 s.nor.lastCheck ++ tail) := by
  unfold State.fwStatus
  dsimp only
  simp only [List.append_assoc]
  exact ⟨_, _, _, _, rfl⟩

theorem fwStatus_length (s : State) : s.fwStatus.length = 64 := by
  unfold State.fwStatus
  dsimp only
  simp only [List.length_append, length_natLe]

theorem fwStatus_lastCheck (s : State) : fieldAt s.fwStatus 8 1 = s.nor.lastCheck % 256 := by
  obtain ⟨kind, origin, got, tail, h⟩ := fwStatus_eq s
  rw [h, fieldAt, List.drop_left' (by simp), List.take_left' (length_natLe ..), leNat_natLe, pow_one]

theorem probationEnd_of_probation {s : State} {t : Nat} (h : s.nor.probation = some t) : exec .probationEnd s = .next { s with
    nor := { s.nor with probation := none, retained := some s.nor.runningImage }
    fuse := { s.fuse with securityMin := max s.fuse.securityMin s.nor.fw.securityVersion } } := by
  show execProbationEnd s = _
  rw [execProbationEnd, if_neg (by simp [h])]
  rfl

/-- Settles O49. -/
theorem imagesAndRecordsAreWritten : Obligations.ImagesAndRecordsAreWritten := by
  unfold Obligations.ImagesAndRecordsAreWritten
  refine ⟨fun s k h bs r code result rest hwrites => ⟨norWriteComplete_of_record hwrites true, norWriteComplete_of_record hwrites false⟩,
    fun s bs r code rest hwrites => ⟨norWriteComplete_of_image hwrites, norWriteComplete_of_badImage hwrites⟩,
    fun s bs rest hwrites => ⟨fwWriteBackDone_of_pass hwrites, fwWriteBackDone_of_fail hwrites⟩,
    fun s t => retireRecordWrite_of_due, ?write, ?commit, fun s bs => ⟨screen_of_badMagic, screen_of_rollback⟩,
    fun s r hform => ⟨s.fwStatus, fwStatus_length s, congrArg Host.Outcome.next (finish_ok hform _), fwStatus_lastCheck s⟩,
    fun s => rfl, fun s t => probationEnd_of_probation⟩
  case write =>
    intro s r offset data hform hend
    exact ⟨fwImageWrite_first hform hend, fun x => fwImageWrite_next hform hend, fun x => fwImageWrite_of_foreign hform hend⟩
  case commit =>
    intro s r x hform hsession horigin
    exact ⟨fwImageCommit_of_discard hform hsession horigin,
      fun hrunning hscreen => ⟨_, fwImageCommit_of_passing hform hsession horigin hrunning hscreen, rfl⟩,
      fun e => fwImageCommit_of_failing hform hsession horigin⟩

end Sys2Proof.Machine
end

section
/-! Family `21_host_link_and_memory.md`: the host's registers and window, errors of the memory and the modules of the link. -/

namespace Sys2Proof.Machine

/-! ### Errors of the link (R568) -/

theorem hlError_speaks (s : State) (bit : Nat) :
    OnlySpeaks { s with link := { s.link with error := s.link.error ||| BitVec.twoPow 32 bit } } (s.hlError bit) :=
  msix_speaks _ _

section
variable {s t : State} (h : OnlySpeaks s t)
include h

theorem OnlySpeaks.linkError : t.link.error = s.link.error :=
  (congrArg (fun u : State => u.link.error) (show t = s.voicedAs t from h)).trans rfl
theorem OnlySpeaks.modules : t.link.modules = s.link.modules :=
  (congrArg (fun u : State => u.link.modules) (show t = s.voicedAs t from h)).trans rfl
theorem OnlySpeaks.windowFaults : t.link.windowFaults = s.link.windowFaults :=
  (congrArg (fun u : State => u.link.windowFaults) (show t = s.voicedAs t from h)).trans rfl

end

@[simp] theorem hlError_mem (s : State) (bit : Nat) : (s.hlError bit).mem = s.mem := (hlError_speaks s bit).mem

theorem hlError_getLsbD {s : State} {bit : Nat} (h : bit < 32) : (s.hlError bit).link.error.getLsbD bit = true := by
  rw [(hlError_speaks s bit).linkError]
  simp [h]

/-! ### Accesses to the host window (R575, R576) -/

/-- Where an access to the window lands. -/
def State.windowAddress (s : State) (a : Nat) : Nat := windowBase + (a - s.link.hdmBase)

/-- An access beyond the decoder range: it is counted and sets WINDOW_FAULT. -/
def State.beyondWindow (s : State) : State :=
  State.hlError { s with link := { s.link with windowFaults := s.link.windowFaults + 1 } } 2

theorem beyondWindow_keeps (s : State) : s.beyondWindow.mem = s.mem ∧
    s.beyondWindow.link.windowFaults = s.link.windowFaults + 1 ∧ s.beyondWindow.link.error.getLsbD 2 = true :=
  ⟨hlError_mem _ _, (hlError_speaks _ _).windowFaults, hlError_getLsbD (by decide)⟩

section
variable {s : State} {a n : Nat}

section
variable (hbase : s.link.hdmBase ≤ a)
include hbase

theorem hostRead_of_inside (hend : a + n ≤ s.link.hdmBase + windowSize) : exec (.hostMemAccess a n none) s =
    .next { s with link := { s.link with hostRead := s.mem.readBytes (s.windowAddress a) n } } := by
  show execHostMemAccess a n none s = _
  simp only [execHostMemAccess, hbase, hend, decide_true, Bool.and_self, ↓reduceIte]
  rfl

theorem hostWrite_of_inside {bs : Bytes} (hend : a + bs.length ≤ s.link.hdmBase + windowSize) :
    exec (.hostMemAccess a n (some bs)) s = .next { s with mem := s.mem.writeBytes (s.windowAddress a) bs } := by
  show execHostMemAccess a n (some bs) s = _
  simp only [execHostMemAccess, hbase, hend, decide_true, Bool.and_self, ↓reduceIte]
  rfl

end

theorem outsideWindow_eq_false (hout : a < s.link.hdmBase ∨ s.link.hdmBase + windowSize < a + n) :
    (decide (s.link.hdmBase ≤ a) && decide (a + n ≤ s.link.hdmBase + windowSize)) = false := by
  rw [Bool.and_eq_false_iff, decide_eq_false_iff_not, decide_eq_false_iff_not]
  omega

theorem hostRead_of_beyond (hout : a < s.link.hdmBase ∨ s.link.hdmBase + windowSize < a + n) :
    exec (.hostMemAccess a n none) s =
      .next { s.beyondWindow with link := { s.beyondWindow.link with hostRead := List.replicate n 0 } } := by
  show execHostMemAccess a n none s = _
  simp only [execHostMemAccess, outsideWindow_eq_false hout]
  rfl

theorem hostWrite_of_beyond {bs : Bytes} (hout : a < s.link.hdmBase ∨ s.link.hdmBase + windowSize < a + bs.length) :
    exec (.hostMemAccess a n (some bs)) s = .next s.beyondWindow := by
  show execHostMemAccess a n (some bs) s = _
  simp only [execHostMemAccess, outsideWindow_eq_false hout]
  rfl

/-- A write inside the decoder range stays inside the window. -/
theorem read_hostWrite_outside {bs : Bytes} (hbase : s.link.hdmBase ≤ a) (hend : a + bs.length ≤ s.link.hdmBase + windowSize)
    {x : Nat} (hx : x < windowBase ∨ windowBase + windowSize ≤ x) :
    (s.mem.writeBytes (s.windowAddress a) bs).read x = s.mem.read x :=
  Memory.read_writeBytes_other _ _ (by unfold State.windowAddress; omega)

end

theorem readBytes_congr {m k : Memory} {a n : Nat} (h : ∀ x, a ≤ x → x < a + n → m.read x = k.read x) :
    m.readBytes a n = k.readBytes a n := by
  induction n generalizing a with
  | zero => rfl
  | succ n ih =>
    show m.read a :: m.readBytes (a + 1) n = k.read a :: k.readBytes (a + 1) n
    rw [h a (Nat.le_refl a) (by omega), ih fun x hlow hhigh => h x (by omega) (by omega)]

/-- Settles O51. -/
theorem hostReachesOnlyTheWindow : Obligations.HostReachesOnlyTheWindow := by
  unfold Obligations.HostReachesOnlyTheWindow
  refine ⟨fun s a n data hn => ?access, fun s u a n hlink hwindow => ?read⟩
  case access =>
    obtain ⟨hmem, hfaults, herror⟩ := beyondWindow_keeps s
    by_cases hinside : s.link.hdmBase ≤ a ∧ a + n ≤ s.link.hdmBase + windowSize
    · obtain ⟨hbase, hend⟩ := hinside
      cases data with
      | none =>
        exact ⟨_, hostRead_of_inside hbase hend, fun x _ => rfl, fun _ => rfl, fun hout => absurd hout (by omega),
          fun _ _ => ⟨rfl, rfl⟩⟩
      | some bs =>
        obtain rfl := hn bs rfl
        exact ⟨_, hostWrite_of_inside hbase hend, fun x => read_hostWrite_outside hbase hend, fun h => absurd h (by simp),
          fun hout => absurd hout (by omega), fun _ _ => ⟨rfl, rfl⟩⟩
    · have hout : a < s.link.hdmBase ∨ s.link.hdmBase + windowSize < a + n := by omega
      cases data with
      | none =>
        exact ⟨_, hostRead_of_beyond hout, fun x _ => congrArg (·.read x) hmem, fun _ => hmem,
          fun _ => ⟨hmem, hfaults, herror, fun _ => rfl⟩, fun hbase hend => absurd ⟨hbase, hend⟩ hinside⟩
      | some bs =>
        obtain rfl := hn bs rfl
        exact ⟨_, hostWrite_of_beyond hout, fun x _ => congrArg (·.read x) hmem, fun h => absurd h (by simp),
          fun _ => ⟨hmem, hfaults, herror, fun h => absurd h (by simp)⟩, fun hbase hend => absurd ⟨hbase, hend⟩ hinside⟩
  case read =>
    by_cases hinside : s.link.hdmBase ≤ a ∧ a + n ≤ s.link.hdmBase + windowSize
    · obtain ⟨hbase, hend⟩ := hinside
      refine ⟨_, _, hostRead_of_inside hbase hend, hostRead_of_inside (hlink ▸ hbase) (hlink ▸ hend), ?_⟩
      show s.mem.readBytes (s.windowAddress a) n = u.mem.readBytes (u.windowAddress a) n
      rw [State.windowAddress, State.windowAddress, hlink]
      exact readBytes_congr fun x hlow hhigh => (hwindow x (by omega) (by omega)).symm
    · have hout : a < s.link.hdmBase ∨ s.link.hdmBase + windowSize < a + n := by omega
      exact ⟨_, _, hostRead_of_beyond hout, hostRead_of_beyond (hlink ▸ hout), rfl⟩

/-! ### The ALLOC blocks (R85, R89, R571) -/

section
variable {s : State} {h value : Nat} (hblock : h < 15)
include hblock

theorem allocReq_of_pool (hdone : (s.allocBlock h).done = true) (hpool : value ≤ 63) : exec (.allocReq h value) s =
    .next (s.setAllocBlock h { s.allocBlock h with done := false, waitingPool := some value }) := by
  show execAllocReq h value s = _
  rw [execAllocReq, if_neg (Nat.not_le.mpr hblock), if_neg (by simp [hdone]), if_neg (Nat.not_lt.mpr hpool)]

theorem allocReq_of_badPool (hdone : (s.allocBlock h).done = true) (hpool : 63 < value) :
    exec (.allocReq h value) s = .next (s.setAllocBlock h { s.allocBlock h with status := 3, pointer := 0 }) := by
  show execAllocReq h value s = _
  rw [execAllocReq, if_neg (Nat.not_le.mpr hblock), if_neg (by simp [hdone]), if_pos hpool]
  rfl

theorem allocReq_of_busy (hdone : (s.allocBlock h).done = false) : exec (.allocReq h value) s =
    .next { s with link := { s.link with allocIgnored := s.link.allocIgnored + 1 } } := by
  show execAllocReq h value s = _
  rw [execAllocReq, if_neg (Nat.not_le.mpr hblock), if_pos (by rw [hdone]; rfl)]
  rfl

theorem returnReg_of_ready (hdone : (s.allocBlock h).returnDone = true) : exec (.returnReg h value) s =
    .next ((s.returnBuffer (240 + h) value).1.setAllocBlock h { (s.returnBuffer (240 + h) value).1.allocBlock h with
      returnStatus := (s.returnBuffer (240 + h) value).2, returnDone := true }) := by
  show execReturnReg h value s = _
  unfold execReturnReg
  generalize s.returnBuffer (240 + h) value = returned
  obtain ⟨t, reason⟩ := returned
  dsimp only
  rw [if_neg (Nat.not_le.mpr hblock), if_neg (by simp [hdone])]

end

/-! ### Register writes (R568) -/

section
variable {s : State} {o value : Nat}

theorem registerWrite_of_size2 : exec (.registerWrite o 2 value) s = .next (s.hlError 3) := rfl

theorem write4_of_reserved (h : 0xA000 ≤ o) (v : Nat) : s.write4 o v = none := by
  unfold State.write4
  dsimp only
  by_cases halign : o % 4 ≠ 0
  · rw [if_pos halign]
  · rw [if_neg halign, if_neg (by omega), if_neg (by omega), if_neg (by omega), if_neg (by omega), if_neg (by omega),
      if_neg (by omega), if_neg (by omega), if_neg (by omega), if_neg (by omega), if_neg (by omega)]

theorem registerWrite_of_reserved (h : 0xA000 ≤ o) : exec (.registerWrite o 4 value) s = .next (s.hlError 3) := by
  show execRegisterWrite o 4 value s = _
  unfold execRegisterWrite
  dsimp only
  rw [if_pos rfl, write4_of_reserved h]

section
variable (hvalue : value < 2 ^ 32)
include hvalue

theorem registerWrite_of_size4 {out : Out} (h : s.write4 o value = some out) : exec (.registerWrite o 4 value) s = out := by
  show execRegisterWrite o 4 value s = _
  unfold execRegisterWrite
  dsimp only
  rw [if_pos rfl, Nat.mod_eq_of_lt hvalue, h]

theorem registerWrite_error : exec (.registerWrite 0xC 4 value) s =
    .next { s with link := { s.link with error := s.link.error &&& ~~~(BitVec.ofNat 32 value) } } :=
  registerWrite_of_size4 hvalue rfl

theorem registerWrite_reset : exec (.registerWrite 0x20 4 value) s =
    if value = 0xC01D then .next (s.resetEvent .hostLink .cold) else if value = 0x3A3A then .next (s.resetEvent .hostLink .warm)
    else .next { s with link := { s.link with resetIgnored := s.link.resetIgnored + 1 } } :=
  registerWrite_of_size4 hvalue rfl

theorem registerWrite_window {mb place : Nat} (hmb : mb < 4) (hplace : place < 4096) (halign : place % 4 = 0) :
    exec (.registerWrite (0x1000 + 0x2000 * mb + place) 4 value) s =
      .next (s.setBox mb { s.box mb with window := putBytes (s.box mb).window place (natLe 4 value) }) := by
  refine registerWrite_of_size4 hvalue ?_
  have hbox : (0x1000 + 0x2000 * mb + place - 0x1000) / 0x2000 = mb := by omega
  have hoffset : (0x1000 + 0x2000 * mb + place - 0x1000) % 0x2000 = place := by omega
  unfold State.write4
  dsimp only
  rw [hbox, hoffset, if_neg (by omega), if_neg (by omega), if_neg (by omega), if_neg (by omega), if_neg (by omega),
    if_neg (by omega), if_neg (by omega), if_neg (by omega), if_neg (by omega), if_pos (by omega), if_pos (by omega)]
  rfl

end
end

/-! ### Errors of the memory (R579 to R582) -/

section
variable {s : State} {a : Nat}

theorem lpddr6Ue_of_absent (h : s.installed ≤ a) (u : MemReader) : exec (.lpddr6Ue a u) s = .fault (.noSuchAddress a) :=
  if_pos h

theorem lpddr6Ue_of_installed (u : MemReader) (h : a < s.installed) : exec (.lpddr6Ue a u) s =
    .next (((s.count (.memory (s.memChannel a) 1)).logEntry .memory 0 (s.memChannel a) [a, readerCode u]).ueFor u) :=
  if_neg (Nat.not_le.mpr h)

theorem memChannel_mem (h : s.enabledChannels ≠ []) : s.memChannel a ∈ s.enabledChannels := by
  have hlt : a / 256 % s.enabledChannels.length < s.enabledChannels.length := Nat.mod_lt _ (List.length_pos_iff.mpr h)
  unfold State.memChannel
  dsimp only
  rw [List.getD_eq_getElem _ _ hlt]
  exact List.getElem_mem hlt

theorem memChannel_of_all (h : s.units.lpddr6Off = 0#48) : s.memChannel a = a / 256 % 48 := by
  have hall : s.enabledChannels = List.range 48 := by
    unfold State.enabledChannels
    rw [h]
    exact List.filter_eq_self.mpr fun c _ => by simp
  unfold State.memChannel
  dsimp only
  rw [hall, List.length_range, List.getD_eq_getElem _ _ (by rw [List.length_range]; exact Nat.mod_lt _ (by decide)), List.getElem_range]

theorem nodeRunEnd_ueFor (s : State) (c : Nat) : exec (.nodeRunEnd c .hwError) s = .next (s.ueFor (.crucible c)) ∨
    ∀ t, exec (.nodeRunEnd c .hwError) s ≠ .next t := by
  show _ = Host.Outcome.next (settled s (exec (.nodeRunEnd c .hwError) s)) ∨ _
  cases exec (.nodeRunEnd c .hwError) s with
  | next t => exact .inl rfl
  | fault f => exact .inr fun t h => by cases h
  | refused m => exact .inr fun t h => by cases h

end

theorem count_counter_other (s : State) {c k : Counter} (n : Nat) (h : k ≠ c) : (s.count c n).counter k = s.counter k := by
  unfold State.counter
  rw [lookupD_eq_getD, lookupD_eq_getD]
  exact congrArg (fun o : Option Nat => o.getD 0) (lookup?_assign_other h _)

theorem lpddr6PatrolScrub_eq (s : State) {c : Nat} (lines n : Nat) (hc : c < 48) : exec (.lpddr6PatrolScrub c lines n) s =
    .next { s.count (.memory c 0) n with tel := { (s.count (.memory c 0) n).tel with
      patrolled := assign s.tel.patrolled c (lookupD s.tel.patrolled c 0 + lines) } } :=
  congrArg Host.Outcome.next (if_neg (Nat.not_le.mpr hc))

/-! ### The modules of the host link (R566, R569, R570) -/

/-- The mask of a list of modules. -/
theorem moduleMask_getLsbD (l : List Nat) (m : BitVec 4) {i : Nat} (hi : i < 4) :
    (l.foldl (fun m k => if k < 4 then m ||| BitVec.twoPow 4 k else m) m).getLsbD i = (m.getLsbD i || decide (i ∈ l)) := by
  induction l generalizing m with
  | nil => simp
  | cons k l ih =>
    rw [List.foldl_cons, ih]
    by_cases hk : k < 4
    · rw [if_pos hk, BitVec.getLsbD_or, BitVec.getLsbD_twoPow, Bool.or_assoc]
      simp only [List.mem_cons, Bool.decide_or, hk, decide_true, Bool.true_and, eq_comm]
    · rw [if_neg hk]
      have hne : i ≠ k := by omega
      simp only [List.mem_cons, hne, false_or]

theorem lockPlls_last (s : State) : (s.lockPlls [10]).power.locks.getLsbD 9 = true := by
  show (s.power.locks ||| BitVec.twoPow 10 9).getLsbD 9 = true
  rw [BitVec.getLsbD_or]
  simp

theorem ucieLinkTrained_of_on {s : State} (l : List Nat) (hidle : s.power.ucieIdle = false) : exec (.ucieLinkTrained l) s =
    .next { s.lockPlls [10] with link := { s.link with
      modules := l.foldl (fun m k => if k < 4 then m ||| BitVec.twoPow 4 k else m) 0#4 } } :=
  congrArg Host.Outcome.next (if_neg (by rw [hidle]; decide))

theorem loseModules_speaks (s : State) (keep : BitVec 4) : OnlySpeaks { s with link := { s.link with
    modules := s.link.modules &&& keep, error := s.link.error ||| BitVec.twoPow 32 1 } } (s.loseModules keep) :=
  hlError_speaks _ _

/-- Settles O50. -/
theorem hostLinkRuns : Obligations.HostLinkRuns := by
  unfold Obligations.HostLinkRuns
  refine ⟨⟨fun s h pool => allocReq_of_pool, fun s h value => allocReq_of_badPool, fun s h value => allocReq_of_busy,
    fun s h value => returnReg_of_ready, ?registers, fun s mb place value hmb hplace halign hvalue =>
      registerWrite_window hvalue hmb hplace halign, fun s o value => ⟨registerWrite_of_size2, registerWrite_of_reserved⟩,
    ?inside, fun s a bs hout => ⟨hostWrite_of_beyond hout, hostRead_of_beyond hout⟩⟩,
    fun s a habsent u => lpddr6Ue_of_absent habsent u, fun s a u => lpddr6Ue_of_installed u, ?readers,
    fun s a hsome => ⟨memChannel_mem hsome, memChannel_of_all⟩, ?scrub, ?trained, ?lost⟩
  case registers =>
    intro s value hvalue
    have hreset := registerWrite_reset (s := s) hvalue
    exact ⟨registerWrite_error hvalue, fun h => hreset.trans (if_pos h),
      fun h => hreset.trans ((if_neg (by omega)).trans (if_pos h)),
      fun hcold hwarm => hreset.trans ((if_neg hcold).trans (if_neg hwarm))⟩
  case inside =>
    intro s a bs hbase hend d
    exact ⟨hostWrite_of_inside hbase hend, hostRead_of_inside hbase hend, fun hwf => ⟨Memory.writeBytes_wf d bs hwf,
      Memory.readBytes_writeBytes d bs hwf, fun x => Memory.read_writeBytes_other s.mem bs⟩⟩
  case readers =>
    exact fun s => ⟨rfl, fun n hn => if_neg (Nat.not_le.mpr hn), fun n => rfl, rfl, nodeRunEnd_ueFor s, fun q => rfl, fun p => rfl,
      fun n => ⟨_, rfl, rfl⟩⟩
  case scrub =>
    intro s c lines n hc
    exact ⟨_, lpddr6PatrolScrub_eq s lines n hc, count_counter_same _ _ _, fun k hk => count_counter_other s n hk,
      lookupD_assign_same _ _ _ _, rfl, rfl⟩
  case trained =>
    intro s l hidle
    refine ⟨_, ucieLinkTrained_of_on l hidle, fun m hm => ?_, lockPlls_last s, rfl⟩
    show (l.foldl _ 0#4).getLsbD m = true ↔ _
    rw [moduleMask_getLsbD l 0#4 hm]
    simp
  case lost =>
    intro s m hm
    have hspeaks := loseModules_speaks s (~~~(BitVec.twoPow 4 m))
    refine ⟨_, congrArg Host.Outcome.next (if_neg (Nat.not_le.mpr hm)), ?_, fun k hk hne => ?_, hlError_getLsbD (by decide), ?_⟩
    · rw [hspeaks.modules]
      simp [hm]
    · rw [hspeaks.modules]
      simp [hk, hne]
    · rw [hspeaks.modules, hspeaks.linkError]
      exact hspeaks

end Sys2Proof.Machine
end

section
/-! Family `22_reset_power_clocks.md`: what reset leaves and clears, which reset becomes cold, the boot's rows, block resets and
power domains. -/

namespace Sys2Proof.Machine

/-- Settles O58: every field is the value the state's default gives. -/
theorem resetLeaves : Obligations.ResetLeaves := by
  unfold Obligations.ResetLeaves
  have hboxes : ∀ b ∈ State.reset.lock.boxes, b.outstanding = [] ∧ b.lastSeq = none ∧ b.cache = [] ∧ b.accepted = [] := by
    intro b hb
    obtain rfl := List.eq_of_mem_replicate (show b ∈ List.replicate 7 {} from hb)
    exact ⟨rfl, rfl, rfl, rfl⟩
  have hlogs : LogsBounded State.reset := by decide
  have hdomains : ∀ d < 30, (State.reset.domain d).status = .off := by decide
  exact ⟨rfl, rfl, hlogs, rfl, rfl, rfl, rfl, rfl, rfl, rfl, rfl, rfl, rfl, rfl, hdomains, rfl, rfl, rfl, rfl, rfl, rfl, rfl, rfl, hboxes,
    rfl, rfl, rfl, rfl, rfl, rfl, rfl, rfl, rfl⟩

/-! ### What a reset event clears and keeps (R585) -/

/-- Beyond the Reservoir nothing differs. -/
def OnlyMedia (s t : State) : Prop := t = s.setMedia t.media

theorem OnlyMedia.refl (s : State) : OnlyMedia s s := rfl

theorem OnlyMedia.trans {s t u : State} (h : OnlyMedia s t) (k : OnlyMedia t u) : OnlyMedia s u := by
  unfold OnlyMedia at *
  rw [k, h]
  rfl

section
variable {s t : State} (h : OnlyMedia s t)
include h

theorem OnlyMedia.fuse : t.fuse = s.fuse := (congrArg State.fuse (show t = s.setMedia _ from h)).trans rfl
theorem OnlyMedia.now : t.now = s.now := (congrArg State.now (show t = s.setMedia _ from h)).trans rfl
theorem OnlyMedia.pending : t.pending = s.pending := (congrArg State.pending (show t = s.setMedia _ from h)).trans rfl

end

theorem foldl_onlyMedia {α : Type} {f : State → α → State} (hf : ∀ s a, OnlyMedia s (f s a)) (l : List α) (s : State) :
    OnlyMedia s (l.foldl f s) := by
  induction l generalizing s with
  | nil => exact OnlyMedia.refl s
  | cons a l ih => exact (hf s a).trans (ih _)

theorem loseStaged_onlyMedia (s : State) : OnlyMedia s s.loseStaged := by
  unfold State.loseStaged
  extract_lets durable lost u back v
  have hback (s : State) (w : Staged) : OnlyMedia s (back s w) := by
    dsimp only [back]
    split
    · exact OnlyMedia.refl s
    · split
      · exact OnlyMedia.refl s
      · split
        · split <;> rfl
        · rfl
  exact ((foldl_onlyMedia (f := fun s w => s.settle w) (fun _ _ => rfl) _ s).trans (foldl_onlyMedia hback _ _)).trans rfl

section
variable (s : State) (e : ResetCause) (supply : Bool)

/-- The state whose fields a reset goes by: at a cold one the staged writes that are not durable are lost. -/
theorem cleared_onlyMedia : OnlyMedia s (if decide (e.scope = .cold) then s.loseStaged else s) := by
  split
  · exact loseStaged_onlyMedia s
  · exact OnlyMedia.refl s

theorem cleared_power : (s.cleared e supply).power = s.power.afterReset e s.now supply := by
  have h := cleared_onlyMedia s e
  unfold OnlyMedia at h
  unfold State.cleared
  dsimp only
  rw [h]
  rfl

theorem cleared_fuse : (s.cleared e supply).fuse = s.fuse :=
  (cleared_onlyMedia s e).fuse

theorem cleared_units : (s.cleared e supply).units = s.fuse.unitMap :=
  congrArg Fuses.unitMap (cleared_onlyMedia s e).fuse

theorem cleared_now : (s.cleared e supply).now = s.now :=
  (cleared_onlyMedia s e).now

theorem cleared_pending : (s.cleared e supply).pending = s.pending :=
  (cleared_onlyMedia s e).pending

theorem cleared_nor : (s.cleared e supply).nor = { s.nor.afterReset with
    lastCheck := if decide (e.scope = .cold) then 0 else s.nor.lastCheck
    restartsCold := if decide (e.scope = .cold) then 0 else s.nor.restartsCold } := by
  have h := cleared_onlyMedia s e
  unfold OnlyMedia at h
  unfold State.cleared
  dsimp only
  rw [h]
  rfl

theorem cleared_tel : (s.cleared e supply).tel = s.tel.afterReset (decide (e.scope = .cold)) := by
  have h := cleared_onlyMedia s e
  unfold OnlyMedia at h
  unfold State.cleared
  dsimp only
  rw [h]
  rfl

theorem cleared_mem : (s.cleared e supply).mem = if e.scope = .cold then [] else s.mem := by
  unfold State.cleared
  cases e.scope <;> rfl

end

theorem norAfterReset_keeps {n : NorState} (h : n.writes = []) : n.afterReset.image = n.image ∧ n.afterReset.config = n.config ∧
    n.afterReset.ucal = n.ucal ∧ n.afterReset.owner = n.owner ∧ n.afterReset.retire = n.retire := by
  simp only [NorState.afterReset, h]
  exact ⟨trivial, trivial, trivial, trivial, trivial⟩

/-! ### Sticky logs after an entry (R610) -/

theorem mem_updateFirst {α : Type} {p : α → Bool} {f : α → α} {l : List α} {x : α} (h : x ∈ updateFirst p f l) :
    x ∈ l ∨ ∃ y ∈ l, p y = true ∧ x = f y := by
  induction l with
  | nil => exact absurd h (by simp [updateFirst])
  | cons y l ih =>
    unfold updateFirst at h
    split at h
    · rename_i hy
      rcases List.mem_cons.mp h with rfl | h
      · exact .inr ⟨y, List.mem_cons_self .., hy, rfl⟩
      · exact .inl (List.mem_cons_of_mem _ h)
    · rcases List.mem_cons.mp h with rfl | h
      · exact .inl (List.mem_cons_self ..)
      · rcases ih h with h | ⟨z, hz, hp, rfl⟩
        · exact .inl (List.mem_cons_of_mem _ h)
        · exact .inr ⟨z, List.mem_cons_of_mem _ hz, hp, rfl⟩

/-- A log is the old one, or the one the entry went into. -/
theorem mem_logEntry_logs {s : State} {i : LogId} {code subject : Nat} {detail : List Nat} {l : Log}
    (h : l ∈ (s.logEntry i code subject detail).tel.logs) : l ∈ s.tel.logs ∨ ∃ k ∈ s.tel.logs, k.id = i ∧ ∃ e, l = k.push e := by
  rcases mem_updateFirst h with h | ⟨k, hk, hid, rfl⟩
  · exact .inl h
  · exact .inr ⟨k, hk, of_decide_eq_true hid, _, rfl⟩

theorem logEntry_log_other (s : State) {i j : LogId} (code subject : Nat) (detail : List Nat) (h : j ≠ i) :
    (s.logEntry i code subject detail).log j = s.log j := by
  unfold State.log State.logEntry
  dsimp only
  rw [find?_updateFirst_other]
  intro l hl
  have hid : l.id = i := of_decide_eq_true hl
  exact ⟨decide_eq_false fun hj => h (hj.symm.trans hid), decide_eq_false fun hj => h (Eq.trans hj.symm hid)⟩

/-! ### Entering a reset (R586, R588, R589) -/

section
variable (s : State) (e : ResetCause) (supply : Bool)

/-- The cause under which a reset goes on. -/
def State.causeOf (s : State) (e : ResetCause) : ResetCause :=
  if s.resetting && !(decide (e.scope = .cold) && decide (s.power.cause.scope = .warm)) then s.power.cause else e

theorem causeOf_idle (h : s.resetting = false) : s.causeOf e = e := by
  rw [State.causeOf, if_neg (by simp [h])]

theorem enterReset_eq : s.enterReset e supply =
    (s.cleared (s.causeOf e) supply).historyLine e.source.value e.scope.value e.original e.detail := rfl

theorem enterReset_power : (s.enterReset e supply).power = s.power.afterReset (s.causeOf e) s.now supply :=
  cleared_power s (s.causeOf e) supply

theorem enterReset_mem : (s.enterReset e supply).mem = if (s.causeOf e).scope = .cold then [] else s.mem :=
  cleared_mem s (s.causeOf e) supply

theorem enterReset_nor : (s.enterReset e supply).nor = (s.cleared (s.causeOf e) supply).nor := rfl

theorem enterReset_logs_cold (h : (s.causeOf e).scope = .cold) (l : Log) (hl : l ∈ (s.enterReset e supply).tel.logs)
    (hmedia : l.id ≠ .media) (hhistory : l.id ≠ .resetHistory) : l.entries = [] := by
  rcases mem_logEntry_logs (s := s.cleared (s.causeOf e) supply) hl with hl | ⟨k, hk, hid, x, rfl⟩
  · rw [cleared_tel, h] at hl
    obtain ⟨k, hk, rfl⟩ := List.mem_map.mp hl
    by_cases hkm : k.id = .media
    · rw [if_pos hkm] at hmedia
      exact absurd hkm hmedia
    · rw [if_neg hkm]
  · exact absurd hid hhistory

theorem enterReset_log_warm (h : (s.causeOf e).scope = .warm) {i : LogId} (hi : i ≠ .resetHistory) :
    (s.enterReset e supply).log i = s.log i := by
  refine (logEntry_log_other (s.cleared (s.causeOf e) supply) _ _ _ hi).trans ?_
  unfold State.log
  rw [cleared_tel, h]
  rfl

end

/-- What a reset event adds to the reset it enters is a report due and log lines. -/
theorem resetEvent_cause_mem (s : State) (src : Source) (scope : Scope) (n unit : Nat) :
    let escalates := decide (scope = .warm) && src.mayEscalate && s.within s.power.warmEnd (s.seconds 1)
    let e : ResetCause := if escalates then ⟨.escalated, .cold, src.value, 0⟩ else ⟨src, scope, 0, n⟩
    (s.resetEvent src scope n unit).power.cause = (s.enterReset e (decide (src = .powerOn))).power.cause ∧
      (s.resetEvent src scope n unit).mem = (s.enterReset e (decide (src = .powerOn))).mem := by
  intro escalates e
  unfold State.resetEvent
  dsimp only
  split
  · split <;> exact ⟨rfl, rfl⟩
  · split <;> exact ⟨rfl, rfl⟩

section
variable {s : State} {src : Source} (n unit : Nat) (hidle : s.resetting = false)
include hidle

theorem resetEvent_of_escalating (hsrc : src.mayEscalate = true) (hclose : s.within s.power.warmEnd (s.seconds 1) = true) :
    (s.resetEvent src .warm n unit).power.cause = ⟨.escalated, .cold, src.value, 0⟩ ∧ (s.resetEvent src .warm n unit).mem = [] := by
  have h := resetEvent_cause_mem s src .warm n unit
  simp only [hsrc, hclose, decide_true, Bool.and_self, ↓reduceIte] at h
  rw [h.1, h.2, enterReset_power, enterReset_mem, causeOf_idle s _ hidle]
  exact ⟨rfl, rfl⟩

theorem resetEvent_of_warm (h : (src.mayEscalate && s.within s.power.warmEnd (s.seconds 1)) = false) :
    (s.resetEvent src .warm n unit).power.cause = ⟨src, .warm, 0, n⟩ ∧ (s.resetEvent src .warm n unit).mem = s.mem := by
  have hevent := resetEvent_cause_mem s src .warm n unit
  simp only [decide_true, Bool.true_and, h, Bool.false_eq_true, ↓reduceIte] at hevent
  rw [hevent.1, hevent.2, enterReset_power, enterReset_mem, causeOf_idle s _ hidle]
  exact ⟨rfl, rfl⟩

theorem resetEvent_of_cold : (s.resetEvent src .cold n unit).power.cause = ⟨src, .cold, 0, n⟩ := by
  have hevent := resetEvent_cause_mem s src .cold n unit
  rw [hevent.1, enterReset_power, causeOf_idle s _ hidle]
  rfl

end

theorem mayEscalate_iff (src : Source) : src.mayEscalate = true ↔ src.value ∈ [3, 7, 8, 9, 10] := by
  cases src <;> decide

theorem within_iff (s : State) (last : Option Nat) (gap : Nat) :
    s.within last gap = true ↔ ∃ t, last = some t ∧ s.now < t + gap := by
  cases last <;> simp [State.within]

/-! ### The power domains beside the rest of the state (R601 to R604) -/

/-- Of reset, power and clocks only the domains differ, and the memory is as it was. -/
def KeepsPower (s t : State) : Prop := t.power = { s.power with domains := t.power.domains } ∧ t.mem = s.mem

theorem KeepsPower.refl (s : State) : KeepsPower s s := ⟨rfl, rfl⟩

theorem KeepsPower.of_eq {s t : State} (hpower : t.power = s.power) (hmem : t.mem = s.mem) : KeepsPower s t :=
  ⟨by rw [hpower], hmem⟩

theorem KeepsPower.trans {s t u : State} (h : KeepsPower s t) (k : KeepsPower t u) : KeepsPower s u := by
  obtain ⟨hpower, hmem⟩ := h
  obtain ⟨kpower, kmem⟩ := k
  refine ⟨?_, kmem.trans hmem⟩
  rw [kpower, hpower]

theorem foldl_keepsPower {α : Type} {f : State → α → State} (hf : ∀ s a, KeepsPower s (f s a)) (l : List α) (s : State) :
    KeepsPower s (l.foldl f s) := by
  induction l generalizing s with
  | nil => exact KeepsPower.refl s
  | cons a l ih => exact (hf s a).trans (ih _)

theorem setDomain_keepsPower (s : State) (d : Nat) (x : Domain) : KeepsPower s (s.setDomain d x) := ⟨rfl, rfl⟩

theorem OnlySpeaks.keepsPower {s t : State} (h : OnlySpeaks s t) : KeepsPower s t := KeepsPower.of_eq h.power h.mem

theorem enterDomain_keepsPower (s : State) (d : Nat) (st : DomainStatus) : KeepsPower s (s.enterDomain d st) :=
  (setDomain_keepsPower s d _).trans (raise_speaks _ _ _ _).keepsPower

theorem powerUp_keepsPower (s : State) (d : Nat) : KeepsPower s (s.powerUp d) := by
  unfold State.powerUp
  dsimp only
  split
  · exact setDomain_keepsPower s d _
  · exact setDomain_keepsPower s d _
  · exact setDomain_keepsPower s d _
  all_goals exact KeepsPower.refl s

theorem enrol_keepsPower (s : State) (found : List FoundDie) : KeepsPower s (s.enrol found) := by
  have hlogged (u : State) (l : List FoundDie) :
      KeepsPower u (l.foldl (fun s f => s.used.logEntry .media 0 f.channel [f.target, s.free % 2 ^ 32]) u) :=
    foldl_keepsPower (f := fun (s : State) (f : FoundDie) => s.used.logEntry .media 0 f.channel [f.target, s.free % 2 ^ 32])
      (fun _ _ => ⟨rfl, rfl⟩) l u
  have hstart (m : MediaState) (l : List FoundDie) := KeepsPower.trans (t := s.setMedia m) ⟨rfl, rfl⟩ (hlogged _ l)
  unfold State.enrol
  dsimp only
  split
  · exact hstart _ _
  · exact (hstart _ _).trans ⟨rfl, rfl⟩

/-! ### Step 7 of a boot (R582, R587, R595) -/

/-- Reset, power and clocks once the memory is up. -/
def PowerState.memoryUp (p : PowerState) : PowerState :=
  { p with boot := .memory, lpddrResetLow := false, ckeLow := false, selfRefresh := false, nandCeHigh := false
           locks := [8, 9].foldl (fun l p => l ||| BitVec.twoPow 10 (p - 1)) p.locks }

theorem memoryUp_keeps (s : State) (found : List FoundDie) :
    ∃ ds, (s.memoryUp found).power = { s.power.memoryUp with domains := ds } ∧ (s.memoryUp found).mem = s.mem := by
  obtain ⟨u, hu⟩ : ∃ u : State, u = s.setPower s.power.memoryUp := ⟨_, rfl⟩
  have h : KeepsPower u (s.memoryUp found) := by
    refine (enrol_keepsPower u found).trans ((foldl_keepsPower (f := fun s d => s.enterDomain d .on)
      (fun s d => enterDomain_keepsPower s d .on) [0, 1, 2, 3, 7, 26, 27] _).trans ?_)
    rw [hu]
    refine foldl_keepsPower (f := fun s d => if s.domainPowered d then s.powerUp d else s) (fun s d => ?_) [28, 29] _
    split
    · exact powerUp_keepsPower s d
    · exact KeepsPower.refl s
  obtain ⟨hpower, hmem⟩ := h
  rw [hu] at hpower hmem
  exact ⟨_, hpower, hmem⟩

section
variable {s : State} {failed : List Nat} (found : List FoundDie) (hboot : s.power.boot = .booted) (hmain : s.nor.running = .main)
include hboot hmain

theorem resetting_of_booted : s.resetting = true := by
  rw [State.resetting, hboot, hmain]
  decide

theorem lpddr6TrainingDone_of_escalating (hwarm : s.power.cause.scope = .warm)
    (hbad : ∃ c ∈ failed, c < 48 ∧ s.units.lpddr6Off.getLsbD c = false) : exec (.lpddr6TrainingDone failed found) s =
      .next (s.enterReset ⟨.escalated, .cold, s.power.cause.source.value, 0⟩ false) := by
  obtain ⟨c, hc, hlt, hon⟩ := hbad
  have hsome : (failed.filter (fun c => decide (c < 48) && !s.units.lpddr6Off.getLsbD c)).isEmpty = false := by
    rw [List.isEmpty_eq_false_iff]
    exact List.ne_nil_of_mem (List.mem_filter.mpr ⟨hc, by rw [hon, decide_eq_true hlt]; rfl⟩)
  show execLpddr6TrainingDone failed found s = _
  rw [execLpddr6TrainingDone, if_neg (by simp [hboot, hmain]), if_pos (by rw [hwarm, hsome]; rfl)]

/-- With no channel failed the memory is up, or too many channels were already out. -/
theorem lpddr6TrainingDone_of_passing (hgood : ∀ c ∈ failed, c < 48 → s.units.lpddr6Off.getLsbD c = true) :
    exec (.lpddr6TrainingDone failed found) s = .next (if 13 < channelsOff s.units.lpddr6Off then
      (s.setNor { s.nor with running := .recovery }).takeAddress else s.memoryUp found) := by
  have hnone : failed.filter (fun c => decide (c < 48) && !s.units.lpddr6Off.getLsbD c) = [] := by
    rw [List.filter_eq_nil_iff]
    intro c hc
    by_cases hlt : c < 48
    · simp [hgood c hc hlt]
    · simp [hlt]
  have htrained : s.trainedCold [] = s := if_pos rfl
  show execLpddr6TrainingDone failed found s = _
  rw [execLpddr6TrainingDone, if_neg (by simp [hboot, hmain]), hnone, if_neg (by simp), htrained]

end

/-- Settles O53. -/
theorem warmResetEscalates : Obligations.WarmResetEscalates := by
  unfold Obligations.WarmResetEscalates
  refine ⟨?event, ?training⟩
  case event =>
    intro s src n unit hidle close c
    refine ⟨fun hsrc hclose => ?_, fun hother => ?_⟩
    · exact resetEvent_of_escalating n unit hidle ((mayEscalate_iff src).mpr hsrc) ((within_iff ..).mpr hclose)
    · refine resetEvent_of_warm n unit hidle ?_
      rw [Bool.and_eq_false_iff, ← Bool.not_eq_true, ← Bool.not_eq_true, mayEscalate_iff, within_iff]
      exact hother
  case training =>
    intro s failed found hboot hmain hwarm
    by_cases hbad : ∃ c ∈ failed, c < 48 ∧ s.units.lpddr6Off.getLsbD c = false
    · refine ⟨_, lpddr6TrainingDone_of_escalating found hboot hmain hwarm hbad, fun _ => ?_, fun hgood => ?_⟩
      · have hcause : s.causeOf ⟨.escalated, .cold, s.power.cause.source.value, 0⟩ =
            ⟨.escalated, .cold, s.power.cause.source.value, 0⟩ := by
          rw [State.causeOf, hwarm, if_neg (by simp)]
        rw [enterReset_power, enterReset_mem, hcause]
        exact ⟨rfl, rfl, rfl⟩
      · obtain ⟨c, hc, hlt, hon⟩ := hbad
        exact absurd (hgood c hc hlt) (by simp [hon])
    · have hgood : ∀ c ∈ failed, c < 48 → s.units.lpddr6Off.getLsbD c = true := fun c hc hlt => by
        by_contra hon
        exact hbad ⟨c, hc, hlt, by simpa using hon⟩
      refine ⟨_, lpddr6TrainingDone_of_passing found hboot hmain hgood, fun h => absurd h hbad, fun _ => ?_⟩
      split
      · exact ⟨rfl, rfl⟩
      · obtain ⟨ds, hpower, hmem⟩ := memoryUp_keeps s found
        rw [hpower]
        exact ⟨rfl, hmem⟩

/-! ### The rows that begin a reset (R586, R592, R594) -/

theorem sysRstN_of_fall {s : State} (h : s.power.sysRstLow = false) : exec (.sysRstN true) s =
    .next (State.resetEvent (s.setPower { s.power with sysRstLow := true }) .sysRstN .cold) := by
  show execSysRstN true s = _
  rw [execSysRstN, if_pos (by simp [h])]

section
variable {s : State} {pll : Nat} (hlow : 1 ≤ pll) (hhigh : pll ≤ 10) (hlocked : s.power.locks.getLsbD (pll - 1) = true)
include hlow hhigh hlocked

theorem pllLockLoss_eq : exec (.pllLockLoss pll) s = .next (
    if pll = 3 then s.setPower { s.power with tbRing := false, tbChanges := s.power.tbChanges + 1 }
    else if 4 ≤ pll ∧ pll ≤ 7 then
      (s.setPower { s.power with locks := s.power.locks &&& ~~~(BitVec.twoPow 10 (pll - 1)) }).serdesLost (pll - 4)
    else if pll = 10 then
      { s.setPower { s.power with locks := s.power.locks &&& ~~~(BitVec.twoPow 10 (pll - 1)) } with link := { s.link with modules := 0#4 } }
    else (s.setPower { s.power with locks := s.power.locks &&& ~~~(BitVec.twoPow 10 (pll - 1)) }).resetEvent .clockLock .warm pll) := by
  have hinside : outside pll 1 10 = false := (outside_eq_false ..).mpr ⟨hlow, hhigh⟩
  show execPllLockLoss pll s = _
  rw [execPllLockLoss, if_neg (by simp only [hinside, hlocked, Bool.not_true, Bool.false_eq_true, or_self, not_false_eq_true])]
  rfl

end

section
variable {s : State} {r : Req} {target : Nat} (hform : FormOk s r 0x0B01)
include hform

theorem reset_cold : exec (.reset r 0 target) s = .next ((s.answer r 0x0B01 .ok).resetEvent .mailbox .cold) :=
  congrArg Host.Outcome.next (finish_ok hform _)

theorem reset_warm : exec (.reset r 1 target) s = .next ((s.answer r 0x0B01 .ok).resetEvent .mailbox .warm) :=
  congrArg Host.Outcome.next (finish_ok hform _)

theorem reset_management : exec (.reset r 2 target) s = .next ((s.answer r 0x0B01 .ok).mgmtRestart .command) :=
  congrArg Host.Outcome.next (finish_ok hform _)

section
variable (hheld : s.isHeld (.unit target) = false)
include hheld

theorem reset_block (hthere : s.targetThere target = true) : exec (.reset r 3 target) s = .next (s.beginBlock r target) := by
  have hdomain : (s.targetDomain target).isNone = false := by
    cases h : s.targetDomain target with
    | none => simp [State.targetThere, h] at hthere
    | some d => rfl
  show execReset r 3 target s = _
  rw [execReset, firstReject_cons_of_pass (by rw [hheld]; rfl), firstReject_cons_of_pass rfl, firstReject_cons_of_pass rfl,
    firstReject_cons_of_pass (by rw [hdomain]; rfl), firstReject_cons_of_pass (by rw [hthere]; rfl), firstReject_cons_of_pass rfl,
    firstReject_nil, finish_ok hform]
  rfl

theorem reset_block_of_noDomain (hdomain : s.targetDomain target = none) :
    exec (.reset r 3 target) s = .next (s.answer r 0x0B01 .badParam 2) := by
  show execReset r 3 target s = _
  rw [execReset, firstReject_cons_of_pass (by rw [hheld]; rfl), firstReject_cons_of_pass rfl, firstReject_cons_of_pass rfl,
    firstReject_cons_of_fail (by rw [hdomain]; rfl), finish_reject hform]
  rfl

end

theorem reset_pair (hheld : s.isHeld (.storageQp target) = false) (htarget : target ≤ 255) (hpair : (s.qp? target).isSome = true) :
    exec (.reset r 4 target) s = .next ((s.historyLine 4 4 0 0).resetPairFor r 0x0B01 target) := by
  show execReset r 4 target s = _
  rw [execReset, firstReject_cons_of_pass rfl, firstReject_cons_of_pass (by rw [hheld]; rfl), firstReject_cons_of_pass rfl,
    firstReject_cons_of_pass (by simp; omega), firstReject_cons_of_pass rfl,
    firstReject_cons_of_pass (by rw [← Option.not_isSome, hpair]; rfl), firstReject_nil, finish_ok hform]
  rfl

end

/-- Settles O52. -/
theorem resetsClear : Obligations.ResetsClear := by
  unfold Obligations.ResetsClear
  refine ⟨?idle, ?during, ?event, ?rows, ?pll, fun s r target hform => ⟨reset_cold hform, reset_warm hform, reset_management hform,
    reset_block hform, reset_block_of_noDomain hform, reset_pair hform⟩⟩
  case idle =>
    intro s e supply hidle
    have hcause := causeOf_idle s e hidle
    have hpower := enterReset_power s e supply
    have hmem := enterReset_mem s e supply
    rw [hcause] at hpower hmem
    refine ⟨_, rfl, ?_⟩
    rw [hpower]
    refine ⟨rfl, rfl, rfl, rfl, rfl, rfl, rfl, rfl, rfl, rfl, rfl, rfl, rfl, rfl, rfl, rfl, rfl, rfl, ?_,
      cleared_fuse s _ supply, cleared_units s _ supply, cleared_now s _ supply, cleared_pending s _ supply, ?_, fun hwrites => ?_,
      fun hcold => ?_, fun hwarm => ?_⟩
    · exact congrArg TelemetryState.counters (cleared_tel s (s.causeOf e) supply)
    · cases hscope : e.scope with
      | cold => exact .inr rfl
      | warm =>
        refine .inl ?_
        rw [enterReset_eq, hcause]
        simp only [State.cleared, hscope]
        rfl
    · rw [enterReset_nor, cleared_nor]
      exact norAfterReset_keeps hwrites
    · refine ⟨hmem.trans (if_pos hcold), ?_, ?_, ?_, enterReset_logs_cold s e supply (hcause.symm ▸ hcold)⟩
      · rw [enterReset_eq, hcause]
        simp only [State.cleared, hcold]
        rfl
      · exact if_pos (decide_eq_true hcold)
      · exact decide_eq_true hcold
    · have hnot : e.scope ≠ .cold := by rw [hwarm]; decide
      refine ⟨hmem.trans (if_neg hnot), ?_, ?_, fun i hi => enterReset_log_warm s e supply (hcause.symm ▸ hwarm) hi⟩
      · show (!decide (e.scope = .cold)) = true
        rw [hwarm]
        rfl
      · exact if_neg (by simpa using hnot)
  case during =>
    intro s e supply hresetting
    rw [enterReset_power]
    refine ⟨fun hnarrow => ?_, fun hcold hwarm => ?_⟩
    · show s.causeOf e = _
      cases hscope : e.scope with
      | cold => rw [State.causeOf, hresetting, hnarrow hscope, if_pos (by simp)]
      | warm => rw [State.causeOf, hresetting, hscope, if_pos (by simp)]
    · show s.causeOf e = _
      rw [State.causeOf, hcold, hwarm, if_neg (by simp)]
  case event =>
    intro s src n unit hidle
    refine ⟨fun hsrc hclose => ?_, fun hfar => ?_, resetEvent_of_cold n unit hidle⟩
    · have hescalates : src.mayEscalate = true := by
        simp only [List.mem_cons, List.not_mem_nil, or_false] at hsrc
        rcases hsrc with rfl | rfl | rfl | rfl | rfl <;> rfl
      exact (resetEvent_of_escalating n unit hidle hescalates hclose).1
    · exact (resetEvent_of_warm n unit hidle (by rw [hfar, Bool.and_false])).1
  case rows =>
    exact fun s pool => ⟨rfl, rfl, rfl, rfl, rfl, sysRstN_of_fall, rfl⟩
  case pll =>
    intro s pll hlow hhigh hlocked lost
    have h := pllLockLoss_eq hlow hhigh hlocked
    refine ⟨fun hclock => ?_, fun h3 => h.trans (congrArg _ (if_pos h3)), fun hserdes => ?_, fun h10 => ?_⟩
    · simp only [List.mem_cons, List.not_mem_nil, or_false] at hclock
      exact h.trans (congrArg _ ((if_neg (by omega)).trans ((if_neg (by omega)).trans (if_neg (by omega)))))
    · simp only [List.mem_cons, List.not_mem_nil, or_false] at hserdes
      exact h.trans (congrArg _ ((if_neg (by omega)).trans (if_pos (by omega))))
    · exact h.trans (congrArg _ ((if_neg (by omega)).trans ((if_neg (by omega)).trans (if_pos h10))))

/-! ### Steps 2 to 4 of a boot (R590, R593, R595) -/

theorem latchStraps_power (s : State) (src clk : BitVec 2) : (s.latchStraps src clk).power =
    { s.power with bootSrc := src, clkMode := clk, clkFault := decide (clk = 3#2), strapsDue := false } := by
  unfold State.latchStraps
  dsimp only
  split <;> rfl

theorem resetRelease_of_held {s : State} (src clk : BitVec 2) (hboot : s.power.boot = .held) (hpin : s.power.sysRstLow = false)
    (htrip : s.power.tripDue = none) : exec (.resetRelease src clk) s = .next (if s.power.strapsDue then
      (s.setPower { s.power with boot := .released }).latchStraps src clk else s.setPower { s.power with boot := .released }) := by
  have hcooled : s.cooled = true := by rw [State.cooled, htrip]; rfl
  show execResetRelease src clk s = _
  rw [execResetRelease, if_neg (by simp [hboot, hpin, hcooled])]

/-- What the loader's records leave of the rest: power, fuses, memory, and what the NOR says of the image. -/
def KeepsImage (s t : State) : Prop := t.power = s.power ∧ t.fuse = s.fuse ∧ t.mem = s.mem ∧ t.nor.readable = s.nor.readable ∧
  t.nor.bootCount = s.nor.bootCount ∧ t.nor.running = s.nor.running

theorem KeepsImage.refl (s : State) : KeepsImage s s := ⟨rfl, rfl, rfl, rfl, rfl, rfl⟩

theorem KeepsImage.trans {s t u : State} (h : KeepsImage s t) (k : KeepsImage t u) : KeepsImage s u := by
  obtain ⟨hpower, hfuse, hmem, hreadable, hcount, hrunning⟩ := h
  obtain ⟨kpower, kfuse, kmem, kreadable, kcount, krunning⟩ := k
  exact ⟨kpower.trans hpower, kfuse.trans hfuse, kmem.trans hmem, kreadable.trans hreadable, kcount.trans hcount,
    krunning.trans hrunning⟩

theorem setPaired_keepsImage (s : State) (k : RecordKind) (p : Paired) : KeepsImage s (s.setPaired k p) := by
  cases k <;> exact ⟨rfl, rfl, rfl, rfl, rfl, rfl⟩

theorem selectAtBoot_keepsImage (s : State) (k : RecordKind) : KeepsImage s (s.selectAtBoot k) := by
  unfold State.selectAtBoot
  dsimp only
  split
  · exact (setPaired_keepsImage s k _).trans ⟨rfl, rfl, rfl, rfl, rfl, rfl⟩
  · exact setPaired_keepsImage s k _

theorem bootOwner_keepsImage (s : State) : KeepsImage s s.bootOwner := by
  unfold State.bootOwner
  split <;> exact ⟨rfl, rfl, rfl, rfl, rfl, rfl⟩

theorem applyMap_keepsImage (s : State) : KeepsImage s s.applyMap := ⟨rfl, rfl, rfl, rfl, rfl, rfl⟩

theorem bootMap_keepsImage (s : State) : KeepsImage s s.bootMap := by
  unfold State.bootMap
  refine KeepsImage.trans ?_ (applyMap_keepsImage _)
  split
  · exact KeepsImage.refl s
  · dsimp only
    split <;> exact ⟨rfl, rfl, rfl, rfl, rfl, rfl⟩

theorem setCal_keepsImage (s : State) (cal : List (Nat × Int)) :
    KeepsImage s (s.setNor { s.nor with calApplied := cal }) := ⟨rfl, rfl, rfl, rfl, rfl, rfl⟩

theorem bootRecords_keepsImage (s : State) (readable : Bool) : KeepsImage s (s.bootRecords readable) := by
  unfold State.bootRecords
  dsimp only
  split
  · refine KeepsImage.trans (KeepsImage.trans ?_ (bootOwner_keepsImage _)) (bootMap_keepsImage _)
    exact ⟨rfl, rfl, rfl, rfl, rfl, rfl⟩
  · refine KeepsImage.trans (KeepsImage.trans ?_ (setCal_keepsImage _ _)) (bootMap_keepsImage _)
    exact (((selectAtBoot_keepsImage s .owner).trans (bootOwner_keepsImage _)).trans (selectAtBoot_keepsImage _ .config)).trans
      ((selectAtBoot_keepsImage _ .ucal).trans (selectAtBoot_keepsImage _ .retire))

/-- Choosing what to boot changes the NOR's account of it only. -/
theorem bootImage_keeps (s : State) (readable : Bool) : (s.bootImage readable).power = s.power ∧
    (s.bootImage readable).fuse = s.fuse ∧ (s.bootImage readable).mem = s.mem ∧
    (s.bootImage readable).nor.readable = s.nor.readable ∧ (s.bootImage readable).nor.bootCount = s.nor.bootCount := by
  unfold State.bootImage
  dsimp only
  split
  · exact ⟨rfl, rfl, rfl, rfl, rfl⟩
  · split
    · exact ⟨rfl, rfl, rfl, rfl, rfl⟩
    · split <;> exact ⟨rfl, rfl, rfl, rfl, rfl⟩

theorem bootImage_of_download {s : State} (readable : Bool) (h : s.power.bootSrc.getLsbD 1 = true) :
    (s.bootImage readable).nor.running = .download := by
  have hsrc : 2 ≤ s.power.bootSrc.toNat := by
    have hbit : s.power.bootSrc.toNat.testBit 1 = true := h
    exact Nat.ge_two_pow_of_testBit hbit
  rw [State.bootImage, if_pos hsrc]
  rfl

theorem bootImage_of_unreadable {s : State} (h : s.power.bootSrc.getLsbD 1 = false) :
    (s.bootImage false).nor.running = .recovery := by
  have hsrc : ¬ 2 ≤ s.power.bootSrc.toNat := by
    have hbit : s.power.bootSrc.toNat.testBit 1 = false := h
    have hlt := s.power.bootSrc.isLt
    rw [Nat.testBit_eq_decide_div_mod_eq, decide_eq_false_iff_not] at hbit
    omega
  rw [State.bootImage, if_neg hsrc]
  rfl

theorem burnSeed_keeps (s : State) : s.burnSeed.power = s.power ∧ s.burnSeed.nor = s.nor ∧ s.burnSeed.mem = s.mem ∧
    s.burnSeed.fuse.seed.isSome = true := by
  unfold State.burnSeed
  split
  · exact ⟨rfl, rfl, rfl, ‹_›⟩
  · exact ⟨rfl, rfl, rfl, rfl⟩

theorem lockPlls_first (s : State) : ∀ p ∈ [0, 1, 2], (s.lockPlls [1, 2, 3]).power.locks.getLsbD p = true := by
  show ∀ p ∈ [0, 1, 2], (((s.power.locks ||| BitVec.twoPow 10 0) ||| BitVec.twoPow 10 1) ||| BitVec.twoPow 10 2).getLsbD p = true
  simp

/-- The state the loader starts in. -/
def State.loaderStarts (s : State) (readable : Bool) : State :=
  let u := (s.lockPlls [1, 2, 3]).burnSeed
  let v := u.setPower { u.power with boot := .mgmt, norCsHigh := false }
  v.setNor { v.nor with readable := readable, bootCount := v.nor.bootCount + 1 }

theorem mgmtRegionRelease_of_released {s : State} (readable : Bool) (hboot : s.power.boot = .released) :
    exec (.mgmtRegionRelease readable) s = .next (((s.loaderStarts readable).bootImage readable).bootRecords readable) := by
  show execMgmtRegionRelease readable s = _
  rw [execMgmtRegionRelease, if_neg (not_not.mpr hboot)]
  rfl

theorem loaderStarts_power (s : State) (readable : Bool) : (s.loaderStarts readable).power =
    { (s.lockPlls [1, 2, 3]).power with boot := .mgmt, norCsHigh := false } := by
  show ({ (s.lockPlls [1, 2, 3]).burnSeed.power with boot := .mgmt, norCsHigh := false } : PowerState) = _
  rw [(burnSeed_keeps _).1]

theorem loaderStarts_keeps (s : State) (readable : Bool) : (s.loaderStarts readable).mem = s.mem ∧
    (s.loaderStarts readable).fuse.seed.isSome = true ∧ (s.loaderStarts readable).nor.bootCount = s.nor.bootCount + 1 := by
  obtain ⟨_, hnor, hmem, hseed⟩ := burnSeed_keeps (s.lockPlls [1, 2, 3])
  refine ⟨hmem, hseed, ?_⟩
  show (s.lockPlls [1, 2, 3]).burnSeed.nor.bootCount + 1 = _
  rw [hnor]
  rfl

theorem rstOutNRelease_of_mgmt {s : State} (hboot : s.power.boot = .mgmt) : ∃ t, exec .rstOutNRelease s = .next t ∧
    t.power.boot = .booted ∧ t.power.rstOut = false ∧ t.power.ucieIdle = false ∧ t.mem = s.mem ∧ t.nor.running = s.nor.running := by
  refine ⟨_, congrArg Host.Outcome.next (if_neg (not_not.mpr hboot)), ?_⟩
  split <;> exact ⟨rfl, rfl, rfl, rfl, rfl⟩

/-! ### Step 9: journal recovery and the late domains (R113, R595, R596) -/

section
variable {s : State} {d e : Nat}

theorem domain_setDomain_same (x : Domain) (h : d < s.power.domains.length) : (s.setDomain d x).domain d = x := by
  show (s.power.domains.set d x).getD d {} = x
  rw [List.getD_eq_getElem _ _ (by simpa using h), List.getElem_set_self]

theorem domain_setDomain_other (x : Domain) (h : e ≠ d) : (s.setDomain d x).domain e = s.domain e := by
  show (s.power.domains.set d x).getD e {} = s.power.domains.getD e {}
  rw [List.getD_eq_getElem?_getD, List.getElem?_set_ne (Ne.symm h), ← List.getD_eq_getElem?_getD]

theorem powerUp_domains_length (s : State) (d : Nat) : (s.powerUp d).power.domains.length = s.power.domains.length := by
  have hset (x : Domain) : (s.setDomain d x).power.domains.length = s.power.domains.length := List.length_set
  unfold State.powerUp
  dsimp only
  split
  · exact hset _
  · exact hset _
  · exact hset _
  all_goals rfl

theorem powerUp_of_off (h : d < s.power.domains.length) (hoff : (s.domain d).status = .off) :
    ((s.powerUp d).domain d).status = .poweringOn := by
  unfold State.powerUp
  simp only [hoff]
  rw [domain_setDomain_same _ h]

theorem powerUp_domain_other (h : e ≠ d) : (s.powerUp d).domain e = s.domain e := by
  unfold State.powerUp
  dsimp only
  split
  · exact domain_setDomain_other _ h
  · exact domain_setDomain_other _ h
  · exact domain_setDomain_other _ h
  all_goals rfl

/-- A domain that powers up goes on doing so. -/
theorem powerUp_of_poweringOn (h : (s.domain e).status = .poweringOn) : ((s.powerUp d).domain e).status = .poweringOn := by
  by_cases hed : e = d
  · subst hed
    simp only [State.powerUp, h]
  · rw [powerUp_domain_other hed, h]

theorem foldl_powerUp_of_poweringOn (l : List Nat) (h : (s.domain e).status = .poweringOn) :
    ((l.foldl (fun s d => s.powerUp d) s).domain e).status = .poweringOn := by
  induction l generalizing s with
  | nil => exact h
  | cons d l ih => exact ih (powerUp_of_poweringOn h)

theorem foldl_powerUp_of_off {l : List Nat} (he : e ∈ l) (h : e < s.power.domains.length) (hoff : (s.domain e).status = .off) :
    ((l.foldl (fun s d => s.powerUp d) s).domain e).status = .poweringOn := by
  induction l generalizing s with
  | nil => exact absurd he List.not_mem_nil
  | cons d l ih =>
    by_cases hed : e = d
    · subst hed
      exact foldl_powerUp_of_poweringOn l (powerUp_of_off h hoff)
    · exact ih (s := s.powerUp d) ((List.mem_cons.mp he).resolve_left hed) ((powerUp_domains_length s d).symm ▸ h)
        ((congrArg Domain.status (powerUp_domain_other hed)).trans hoff)

end

/-- Reset, power and clocks, and the memory, are as they were. -/
def SamePower (s t : State) : Prop := t.power = s.power ∧ t.mem = s.mem

theorem SamePower.trans {s t u : State} (h : SamePower s t) (k : SamePower t u) : SamePower s u :=
  ⟨k.1.trans h.1, k.2.trans h.2⟩

theorem OnlyMedia.samePower {s t : State} (h : OnlyMedia s t) : SamePower s t :=
  ⟨(congrArg State.power (show t = s.setMedia _ from h)).trans rfl, (congrArg State.mem (show t = s.setMedia _ from h)).trans rfl⟩

theorem foldl_samePower {α : Type} {f : State → α → State} (hf : ∀ s a, SamePower s (f s a)) (l : List α) (s : State) :
    SamePower s (l.foldl f s) := by
  induction l generalizing s with
  | nil => exact ⟨rfl, rfl⟩
  | cons a l ih => exact (hf s a).trans (ih _)

theorem recoverJournal_onlyMedia (s : State) : OnlyMedia s s.recoverJournal :=
  OnlyMedia.trans (t := s.setMedia _) rfl (foldl_onlyMedia (f := fun s (r : Relocation) => s.eraseLater r.dst) (fun _ _ => rfl) _ _)

theorem placeConv_samePower (s : State) (lba n : Nat) : SamePower s (s.placeConv lba n) := by
  unfold State.placeConv
  extract_lets fresh drop media u v
  have hv : SamePower s v := by
    dsimp only [v]
    split
    · exact ⟨rfl, rfl⟩
    · split <;> exact ⟨rfl, rfl⟩
  split
  · exact hv
  · exact hv.trans ⟨rfl, rfl⟩

theorem replayStaged_samePower (s : State) (w : Staged) : SamePower s (s.replayStaged w) := by
  unfold State.replayStaged
  extract_lets n u v
  have hu : SamePower s u := by
    dsimp only [u]
    split
    · exact placeConv_samePower s w.lba n
    · exact ⟨rfl, rfl⟩
  split
  · exact hu.trans ⟨rfl, rfl⟩
  · exact ⟨rfl, rfl⟩

/-- The state in which the late domains power up. -/
def State.journalReplayed (s : State) : State :=
  let u := if s.power.cause.scope = .cold then s.recoverJournal.health (fun h => { h with recoveries := h.recoveries + 1 })
    else s.media.staged.foldl (fun s w => s.replayStaged w) s.recoverJournal
  u.setPower { u.power with nandWp := false, boot := .media }

theorem journalReplayed_keeps (s : State) : s.journalReplayed.power = { s.power with nandWp := false, boot := .media } ∧
    s.journalReplayed.mem = s.mem := by
  have hjournal := (recoverJournal_onlyMedia s).samePower
  have hreplayed : SamePower s (if s.power.cause.scope = .cold then s.recoverJournal.health (fun h => { h with recoveries := h.recoveries + 1 })
      else s.media.staged.foldl (fun s w => s.replayStaged w) s.recoverJournal) := by
    split
    · exact hjournal.trans ⟨rfl, rfl⟩
    · exact hjournal.trans (foldl_samePower replayStaged_samePower _ _)
  obtain ⟨hpower, hmem⟩ := hreplayed
  refine ⟨?_, hmem⟩
  show ({ (_ : PowerState) with nandWp := false, boot := .media } : PowerState) = _
  rw [hpower]

theorem lateDomain_lt {s : State} {d : Nat} (h : s.lateDomain d = true) : d < 30 := by
  have h28 : d < 28 := by
    simp only [State.lateDomain, Bool.and_eq_true, decide_eq_true_eq] at h
    exact h.1.1.2
  omega

theorem journalRecoveryDone_of_memory {s : State} (hboot : s.power.boot = .memory) (h28 : (s.domain 28).status.stable = true)
    (h29 : (s.domain 29).status.stable = true) : ∃ t, exec .journalRecoveryDone s = .next t ∧ t.power.boot = .media ∧
      t.power.nandWp = false ∧ t.mem = s.mem ∧
      ∀ d, s.lateDomain d = true → (s.domain d).status = .off → d < s.power.domains.length → (t.domain d).status = .poweringOn := by
  obtain ⟨hpower, hmem⟩ := journalReplayed_keeps s
  have hdomain (d : Nat) : s.journalReplayed.domain d = s.domain d := by rw [State.domain, hpower]; rfl
  obtain ⟨kpower, kmem⟩ := foldl_keepsPower (f := fun s d => State.powerUp s d) powerUp_keepsPower
    ((List.range 30).filter (fun d => s.lateDomain d)) s.journalReplayed
  refine ⟨((List.range 30).filter (fun d => s.lateDomain d)).foldl (fun s d => s.powerUp d) s.journalReplayed, ?_, ?_, ?_,
    kmem.trans hmem, fun d hlate hoff hlt => ?_⟩
  · show execJournalRecoveryDone s = _
    rw [execJournalRecoveryDone, if_neg (by simp [hboot, h28, h29])]
    rfl
  · rw [kpower, hpower]
  · rw [kpower, hpower]
  · refine foldl_powerUp_of_off (List.mem_filter.mpr ⟨List.mem_range.mpr (lateDomain_lt hlate), hlate⟩) ?_ ?_
    · rw [hpower]
      exact hlt
    · rw [hdomain, hoff]

/-! ### The end of a boot (R595) -/

theorem configApply_of_media {s : State} (hboot : s.power.boot = .media) (hrest : s.domainsRest = true) :
    ∃ u v : State, u.power.boot = .running ∧ u.link.ready = true ∧
      exec .configApply s = .next ((u.recordNow.queueCause).reportReset.startForming none) ∧ u = v.ready ∧ v.power.maintOff = false := by
  obtain ⟨w, hw⟩ : ∃ w : State, w = State.applyCopy (if s.configConflict then s.raise .configConflict else s) := ⟨_, rfl⟩
  refine ⟨w.takeAddress.ready, w.takeAddress, rfl, rfl, ?_, rfl, rfl⟩
  show execConfigApply s = _
  rw [execConfigApply, if_neg (by simp [hboot, hrest]), ← hw]

/-! ### Block resets and self-tests (R600) -/

section
variable {s : State} {target : Nat}

section
variable (hheld : s.blockHeld target = true)
include hheld

theorem blockResetRelease_of_tested (htested : 0x100 ≤ target ∧ target ≠ 0x500 ∧ target ≠ 0x501) : exec (.blockResetRelease target) s =
    .next { s with power := { s.power with
      blocks := updateFirst (fun b => decide (b.target = target)) (fun b => { b with testing := true }) s.power.blocks } } := by
  obtain ⟨hlow, hfirst, hsecond⟩ := htested
  have htests : selfTests target = true := by simp [selfTests, hlow, hfirst, hsecond]
  show execBlockResetRelease target s = _
  rw [execBlockResetRelease, if_neg (by simp [hheld]), if_pos htests]

theorem blockResetRelease_of_port (hport : target < 0x40) : exec (.blockResetRelease target) s =
    .next (((s.portPllLocked (22 + target / 16)).unitBack target).endBlock target .ok) := by
  have htests : selfTests target = false := by
    have hlow : ¬ 0x100 ≤ target := by omega
    simp [selfTests, hlow]
  show execBlockResetRelease target s = _
  rw [execBlockResetRelease, if_neg (by simp [hheld]), if_neg (by simp [htests]), if_pos hport]

end

section
variable (hunit : target < 0x600) (htesting : s.power.blocks.any (fun b => decide (b.target = target) && b.testing) = true)
include hunit htesting

omit htesting in
theorem targetUnits_of_unit : s.targetUnits target = [target] := if_neg (Nat.not_le.mpr hunit)

theorem selfTestDone_of_pass : exec (.selfTestDone target true) s = .next ((s.unitBack target).endBlock target .ok) := by
  have hnot : decide (0x600 ≤ target) = false := decide_eq_false (Nat.not_le.mpr hunit)
  show execSelfTestDone target true s = _
  simp only [execSelfTestDone, hnot, htesting, targetUnits_of_unit hunit, Bool.false_and, Bool.not_true, Bool.false_eq_true,
    ↓reduceIte, List.foldl_cons, List.foldl_nil]

theorem selfTestDone_of_fail : exec (.selfTestDone target false) s =
    .next ((s.used.retireUnit target).endBlock target ((s.used.retireUnit target).failedStatus target)) := by
  have hnot : decide (0x600 ≤ target) = false := decide_eq_false (Nat.not_le.mpr hunit)
  have hbad : ([target] : List Nat)[s.free % 1]? = some target := by simp [Nat.mod_one]
  show execSelfTestDone target false s = _
  simp only [execSelfTestDone, hnot, htesting, targetUnits_of_unit hunit, List.length_singleton, hbad, Bool.false_and,
    Bool.not_true, Bool.false_eq_true, ↓reduceIte, ne_eq, not_true_eq_false, decide_false, List.filter_cons, List.filter_nil,
    List.foldl_nil]

end

theorem selfTestDone_of_rising {d : Nat} (hstatus : (s.domain d).status = .poweringOn ∨ (s.domain d).status = .pendingOff)
    (hgood : (s.domain d).good = true) : exec (.selfTestDone (0x600 + d) true) s = .next (s.domainOn d) := by
  have hindex : 0x600 + d - 0x600 = d := Nat.add_sub_cancel_left ..
  have hrising : (decide ((s.domain d).status = .poweringOn) || decide ((s.domain d).status = .pendingOff)) = true := by
    rw [Bool.or_eq_true, decide_eq_true_eq, decide_eq_true_eq]
    exact hstatus
  have hlow : decide (0x600 ≤ 0x600 + d) = true := decide_eq_true (Nat.le_add_right ..)
  show execSelfTestDone (0x600 + d) true s = _
  simp only [execSelfTestDone, hindex, hgood, hrising, hlow, Bool.and_self, ↓reduceIte]

end

/-! ### Requests on a domain (R604 to R606) -/

section
variable {s : State} {r : Req} {d action : Nat} (hform : FormOk s r 0x0B02) (hd : d ≤ 29) (hfixed : fixedDomain d = false)
  (hspare : s.domainSpare d = false)
include hform hd hfixed hspare

theorem domainSet_on : exec (.domainSet r d 1) s = .next ((s.answerInProgress r 0x0B02 []).askDomain d true r) := by
  show execDomainSet r d 1 s = _
  rw [execDomainSet, firstReject_cons_of_pass (by simp [hd, hfixed, hspare]), firstReject_cons_of_pass rfl, firstReject_cons_of_pass rfl,
    firstReject_nil, finish_ok hform]
  rfl

theorem domainSet_off_of_barred (hbarred : s.offBarred d = true) : exec (.domainSet r d 0) s = .next (s.answer r 0x0B02 .inUse) := by
  show execDomainSet r d 0 s = _
  rw [execDomainSet, firstReject_cons_of_pass (by simp [hd, hfixed, hspare]), firstReject_cons_of_pass rfl,
    firstReject_cons_of_fail (by rw [hbarred]; rfl), finish_reject hform]

theorem domainSet_off (hfree : s.offBarred d = false) :
    exec (.domainSet r d 0) s = .next ((s.answerInProgress r 0x0B02 []).askDomain d false r) := by
  show execDomainSet r d 0 s = _
  rw [execDomainSet, firstReject_cons_of_pass (by simp [hd, hfixed, hspare]), firstReject_cons_of_pass rfl,
    firstReject_cons_of_pass (by rw [hfree]; rfl), firstReject_nil, finish_ok hform]
  rfl

end

/-- The state of a sequence once a request asks for one end: it turns where the request asks for the other (R606). -/
def DomainStatus.turned : DomainStatus → Bool → DomainStatus
  | .poweringOff, true => .pendingOn
  | .pendingOff, true => .poweringOn
  | .poweringOn, false => .pendingOff
  | .pendingOn, false => .poweringOff
  | st, _ => st

/-- In a sequence a request waits for its end. -/
theorem askDomain_domain {s : State} {d : Nat} (r : Req) (on : Bool) (hd : d < s.power.domains.length)
    (hbusy : (s.domain d).status.stable = false) : (s.askDomain d on r).domain d =
      { s.domain d with waiting := (s.domain d).waiting ++ [r], status := (s.domain d).status.turned on } := by
  have hone (x : Domain) : (s.setDomain d x).domain d = x := domain_setDomain_same x hd
  have htwo (x y : Domain) : ((s.setDomain d x).setDomain d y).domain d = y :=
    domain_setDomain_same y (by simpa [State.setDomain] using hd)
  cases hstatus : (s.domain d).status with
  | off => rw [hstatus] at hbusy; exact absurd hbusy (by decide)
  | on => rw [hstatus] at hbusy; exact absurd hbusy (by decide)
  | failed => rw [hstatus] at hbusy; exact absurd hbusy (by decide)
  | poweringOn => cases on <;> simp [State.askDomain, DomainStatus.turned, hstatus, hone, htwo]
  | poweringOff => cases on <;> simp [State.askDomain, DomainStatus.turned, hstatus, hone, htwo]
  | pendingOn => cases on <;> simp [State.askDomain, DomainStatus.turned, hstatus, hone, htwo]
  | pendingOff => cases on <;> simp [State.askDomain, DomainStatus.turned, hstatus, hone, htwo]

theorem askDomain_turned {s : State} {d : Nat} (r : Req) (on : Bool) (hd : d < s.power.domains.length) {st : DomainStatus}
    (hst : st.stable = false) (hstatus : (s.domain d).status = st) : ((s.askDomain d on r).domain d).status = st.turned on := by
  rw [askDomain_domain r on hd (hstatus ▸ hst), hstatus]

theorem endDomainSets_of_one {s : State} {d : Nat} {r : Req} (h : (s.domain d).waiting = [r]) : s.endDomainSets d =
    State.answer (s.setDomain d { s.domain d with waiting := [] }) r 0x0B02 .ok (s.domain d).status.value := by
  simp only [State.endDomainSets, h, List.foldl_cons, List.foldl_nil]

/-! ### The rows of a domain's sequence (R604) -/

section
variable {s : State} {d : Nat}

theorem domainDrainDone_of_draining (h : (s.domain d).phase = .draining) :
    exec (.domainDrainDone d) s = .next (s.setDomain d { s.domain d with phase := .switching }) :=
  congrArg Host.Outcome.next (if_pos h)

theorem domainPowerGood_of_rise (h : (s.domain d).status = .poweringOn ∨ (s.domain d).status = .pendingOff) :
    exec (.domainPowerGood d true) s = .next (State.portPllLocked (s.setDomain d { s.domain d with good := true }) d) :=
  congrArg Host.Outcome.next (if_pos h)

theorem domainPowerUpTimeout_of_rising (h : (s.domain d).status = .poweringOn ∨ (s.domain d).status = .pendingOff) :
    exec (.domainPowerUpTimeout d) s = .next (s.domainFailed d) :=
  congrArg Host.Outcome.next (if_pos h)

section
variable (hphase : (s.domain d).phase = .switching)
include hphase

theorem domainPowerGood_of_fall : exec (.domainPowerGood d false) s = .next (
    if (s.domain d).status = .pendingOn then (s.enterDomain d .off).powerUp d
    else if (s.domain d).status = .poweringOff then (s.enterDomain d .off).endDomainSets d else s) :=
  congrArg Host.Outcome.next (if_neg (not_not.mpr hphase))

theorem domainPowerGood_of_queued (h : (s.domain d).status = .pendingOn) :
    exec (.domainPowerGood d false) s = .next ((s.enterDomain d .off).powerUp d) :=
  (domainPowerGood_of_fall hphase).trans (congrArg _ (if_pos h))

theorem domainPowerGood_of_off (h : (s.domain d).status = .poweringOff) :
    exec (.domainPowerGood d false) s = .next ((s.enterDomain d .off).endDomainSets d) :=
  (domainPowerGood_of_fall hphase).trans (congrArg _ ((if_neg (by rw [h]; decide)).trans (if_pos h)))

end
end

/-- Settles O54. -/
theorem bootAndDomainsRun : Obligations.BootAndDomainsRun := by
  unfold Obligations.BootAndDomainsRun
  refine ⟨⟨?released, ?mgmt, fun s => rstOutNRelease_of_mgmt, ?memory, fun s failed found hboot hmain =>
      lpddr6TrainingDone_of_escalating found hboot hmain, fun s => journalRecoveryDone_of_memory, fun s => configApply_of_media, ?turn⟩,
    ?block, fun s target hunit htesting => ⟨selfTestDone_of_pass hunit htesting, selfTestDone_of_fail hunit htesting⟩,
    fun s d _ => selfTestDone_of_rising, ?domainSet, ?ask, fun s d => domainDrainDone_of_draining,
    fun s d h => ⟨domainPowerGood_of_rise h, domainPowerUpTimeout_of_rising h⟩,
    fun s d hphase => ⟨domainPowerGood_of_queued hphase, domainPowerGood_of_off hphase⟩, fun s d r _ => endDomainSets_of_one⟩
  case released =>
    intro s src clk hboot hpin htrip
    refine ⟨_, resetRelease_of_held src clk hboot hpin htrip, ?_⟩
    cases hdue : s.power.strapsDue with
    | true =>
      rw [if_pos rfl, latchStraps_power]
      exact ⟨rfl, rfl, fun _ => ⟨rfl, rfl, rfl⟩, fun h => absurd h (by decide)⟩
    | false =>
      rw [if_neg (by decide)]
      exact ⟨rfl, hdue, fun h => absurd h (by decide), fun _ => ⟨rfl, rfl⟩⟩
  case mgmt =>
    intro s readable hboot
    obtain ⟨hmem, hseed, hcount⟩ := loaderStarts_keeps s readable
    obtain ⟨kpower, kfuse, kmem, kreadable, kcount⟩ := bootImage_keeps (s.loaderStarts readable) readable
    obtain ⟨rpower, rfuse, rmem, rreadable, rcount, rrunning⟩ := bootRecords_keepsImage ((s.loaderStarts readable).bootImage readable) readable
    have hpower := (rpower.trans kpower).trans (loaderStarts_power s readable)
    refine ⟨_, mgmtRegionRelease_of_released readable hboot, ?_, ?_, rreadable.trans kreadable, ?_, ?_, ?_,
      (rmem.trans kmem).trans hmem, fun hsrc => ?_, fun hsrc hunreadable => ?_⟩
    · rw [hpower]
    · rw [hpower]
    · exact (rcount.trans kcount).trans hcount
    · rw [rfuse, kfuse, hseed]
    · rw [hpower]
      exact lockPlls_first s
    · refine rrunning.trans (bootImage_of_download readable ?_)
      rw [loaderStarts_power]
      exact hsrc
    · subst hunreadable
      refine rrunning.trans (bootImage_of_unreadable ?_)
      rw [loaderStarts_power]
      exact hsrc
  case memory =>
    intro s found hboot hmain hchannels
    obtain ⟨ds, hpower, hmem⟩ := memoryUp_keeps s found
    refine ⟨s.memoryUp found, (lpddr6TrainingDone_of_passing found hboot hmain (fun c hc => absurd hc List.not_mem_nil)).trans
      (congrArg _ (if_neg (Nat.not_lt.mpr hchannels))), ?_⟩
    rw [hpower]
    exact ⟨rfl, rfl, rfl, rfl, hmem⟩
  case turn =>
    intro s
    exact ⟨fun h a b => congrArg Host.Outcome.next (if_pos (.inl h)), fun h a => congrArg Host.Outcome.next (if_pos h),
      fun h => congrArg Host.Outcome.next (if_pos h), fun h a b => congrArg Host.Outcome.next (if_pos (.inl h)),
      fun h => congrArg Host.Outcome.next (if_pos (.inl h)), fun h => congrArg Host.Outcome.next (if_pos (.inl h))⟩
  case block =>
    intro s target hheld
    exact ⟨fun htested => ⟨_, blockResetRelease_of_tested hheld htested, rfl, rfl⟩, blockResetRelease_of_port hheld⟩
  case domainSet =>
    intro s r d action hform hd hfixed hspare _
    exact ⟨fun h => h ▸ domainSet_on hform hd hfixed hspare, fun h hbarred => h ▸ domainSet_off_of_barred hform hd hfixed hspare hbarred,
      fun h hfree => h ▸ domainSet_off hform hd hfixed hspare hfree⟩
  case ask =>
    intro s r d hd
    refine ⟨askDomain_turned r true hd rfl, askDomain_turned r false hd rfl, askDomain_turned r false hd rfl,
      askDomain_turned r true hd rfl, fun hbusy on => ?_⟩
    rw [askDomain_domain r on hd hbusy]

end Sys2Proof.Machine
end

section
/-! Family `23_errors_and_telemetry.md`: sticky logs, counters, the telemetry stream, sensors, the throttle and die-to-die links. -/

namespace Sys2Proof.Machine

/-! ### Sticky logs (R610, R611) -/

section
variable (l : Log) (e : LogEntry)

@[simp] theorem push_id : (l.push e).id = l.id := rfl

theorem push_of_room (h : l.entries.length < l.id.capacity) :
    (l.push e).entries = l.entries ++ [e] ∧ (l.push e).overflow = l.overflow := by
  unfold Log.push
  simp only [Nat.not_le.mpr h, decide_false, Bool.false_eq_true, ↓reduceIte, and_self]

theorem push_of_full (h : l.id.capacity ≤ l.entries.length) : (l.push e).overflow = l.overflow + 1 ∧
    (l.id ≠ .critical → (l.push e).entries = l.entries.drop 1 ++ [e]) ∧
    ∀ first rest, l.id = .critical → l.entries = first :: rest → (l.push e).entries = first :: (rest.drop 1 ++ [e]) := by
  unfold Log.push
  simp only [h, decide_true, ↓reduceIte, true_and]
  refine ⟨fun hid => ?_, fun first rest hid hentries => ?_⟩
  · split
    · exact absurd ‹l.id = .critical› hid
    · rfl
  · simp only [hid, hentries, List.cons_append]

theorem push_length_le (h : l.entries.length ≤ l.id.capacity) : (l.push e).entries.length ≤ l.id.capacity := by
  by_cases hroom : l.entries.length < l.id.capacity
  · rw [(push_of_room l e hroom).1, List.length_append, List.length_singleton]
    exact hroom
  · obtain ⟨_, hother, hcritical⟩ := push_of_full l e (Nat.not_lt.mp hroom)
    by_cases hid : l.id = .critical
    · have hcapacity : l.id.capacity = 64 := by rw [hid]; rfl
      cases hentries : l.entries with
      | nil =>
        rw [hentries] at hroom
        simp [hcapacity] at hroom
      | cons first rest =>
        rw [hentries, List.length_cons] at h hroom
        rw [hcritical first rest hid hentries, List.length_cons, List.length_append, List.length_drop, List.length_singleton]
        omega
    · have hcapacity : 1 ≤ l.id.capacity := by cases l.id <;> decide
      rw [hother hid, List.length_append, List.length_drop, List.length_singleton]
      omega

end

theorem logEntry_bounded {s : State} (i : LogId) (code subject : Nat) (detail : List Nat) (h : LogsBounded s) :
    LogsBounded (s.logEntry i code subject detail) := by
  intro l hl
  rcases mem_logEntry_logs hl with hl | ⟨k, hk, _, e, rfl⟩
  · exact h l hl
  · exact push_length_le k e (h k hk)

theorem clearLog_log (s : State) (i : LogId) : (s.clearLog i).log i = { id := i } := by
  unfold State.log State.clearLog
  dsimp only [State.setTel]
  rw [find?_updateFirst_same (p := fun l : Log => decide (l.id = i)) (f := fun l : Log => { id := l.id }) (fun l hl => hl)]
  cases h : s.tel.logs.find? (fun l => decide (l.id = i)) with
  | none => rfl
  | some l =>
    have hid : l.id = i := by simpa using List.find?_some h
    simp [hid]

section
variable {s : State} {r : Req}

theorem logRead_eq {log offset n : Nat} {i : LogId} (hform : FormOk s r 0x0C01) (hlog : logOf log = some i) (hlow : 1 ≤ n)
    (hhigh : n ≤ 4064) : exec (.logRead r log offset n) s = .next (s.answer r 0x0C01 .ok 0 (((s.log i).bytes.drop offset).take n)) := by
  show execLogRead r log offset n s = _
  rw [execLogRead, hlog, firstReject_cons_of_pass rfl, firstReject_cons_of_pass ((outside_eq_false ..).mpr ⟨hlow, hhigh⟩),
    firstReject_nil, finish_ok hform]
  rfl

theorem logClear_eq {log : Nat} {i : LogId} (hform : FormOk s r 0x0C06) (hlog : logOf log = some i) (hbusy : s.logBusy r log = false) :
    exec (.logClear r log) s = .next ((s.clearLog i).answer r 0x0C06 .ok) := by
  show execLogClear r log s = _
  rw [execLogClear, hlog, firstReject_cons_of_pass rfl, firstReject_cons_of_pass hbusy, firstReject_nil, finish_ok hform]
  rfl

/-! ### Counters, telemetry and sensors (R612 to R617, R625) -/

theorem counterRead_eq {block first n size : Nat} (hform : FormOk s r 0x0C02) (hsize : blockSize block = some size)
    (hend : first + n ≤ size) (hlow : 1 ≤ n) (hhigh : n ≤ 500) : exec (.counterRead r block first n) s =
      .next (s.answer r 0x0C02 .ok 0 ((List.range' first n).flatMap (fun i => natLe 8 (s.counterAt block i)))) := by
  show execCounterRead r block first n s = _
  rw [execCounterRead, hsize, firstReject_cons_of_pass rfl, firstReject_cons_of_pass (by simpa using hend),
    firstReject_cons_of_pass ((outside_eq_false ..).mpr ⟨hlow, hhigh⟩), firstReject_nil, finish_ok hform]

section
variable {on ms address slots : Nat} (hform : FormOk s r 0x0C03) (hon : on ≤ 1) (hlow : 1 ≤ ms) (hhigh : ms ≤ 10000)
include hform hon hlow hhigh

theorem telemetrySet_ring (halign : address % 4096 = 0) (hwindow : inWindow address (slots * 4096) = true) (hfew : 2 ≤ slots)
    (hmany : slots ≤ 1024) : exec (.telemetrySet r on ms 0 address slots) s = .next (State.answer (s.setTel
      { s.tel with on := decide (on = 1), interval := ms, dest := some (.ring address slots), seq := 0 }) r 0x0C03 .ok) := by
  have hslots : outside slots 2 1024 = false := (outside_eq_false ..).mpr ⟨hfew, hmany⟩
  show execTelemetrySet r on ms 0 address slots s = _
  rw [execTelemetrySet, firstReject_cons_of_pass (by simpa using hon),
    firstReject_cons_of_pass ((outside_eq_false ..).mpr ⟨hlow, hhigh⟩), firstReject_cons_of_pass rfl, Nat.min_eq_left hmany,
    firstReject_cons_of_pass (by simp [halign, hwindow]), firstReject_cons_of_pass (by rw [hslots, Bool.and_false]), firstReject_nil,
    finish_ok hform]
  rfl

theorem telemetrySet_port : exec (.telemetrySet r on ms 1 address slots) s = .next (State.answer (s.setTel
    { s.tel with on := decide (on = 1), interval := ms, dest := some (.port address slots), seq := 0 }) r 0x0C03 .ok) := by
  show execTelemetrySet r on ms 1 address slots s = _
  rw [execTelemetrySet, firstReject_cons_of_pass (by simpa using hon),
    firstReject_cons_of_pass ((outside_eq_false ..).mpr ⟨hlow, hhigh⟩), firstReject_cons_of_pass rfl, firstReject_cons_of_pass rfl,
    firstReject_cons_of_pass rfl, firstReject_nil, finish_ok hform]
  rfl

end

theorem throttleSet_of_inside {limit : Nat} (hform : FormOk s r 0x0B04) (hlow : 300 ≤ limit) (hhigh : limit ≤ 1080) :
    exec (.throttleSet r limit) s = .next (State.answer (s.setTel { s.tel with limit := limit }) r 0x0B04 .ok) :=
  congrArg Host.Outcome.next
    (finish_of_checks_pass hform (List.forall_mem_singleton.mpr ((outside_eq_false ..).mpr ⟨hlow, hhigh⟩)) _)

theorem powerRead_eq (hform : FormOk s r 0x0B03) : ∃ l : List Nat, l.length = 8 ∧
    exec (.powerRead r) s = .next (s.used.answer r 0x0B03 .ok 0 [] (s.tel.domainPower ++ [s.tel.packagePower] ++ l)) :=
  ⟨(List.range 8).map (fun i => s.sensorValue (16 + i)), by rw [List.length_map, List.length_range],
    congrArg Host.Outcome.next (finish_ok hform _)⟩

theorem sensorRead_one {i : Nat} {v : Int} (hform : FormOk s r 0x0C05) (hi : i < 16) (hmedian : s.tempMedian i = some v) :
    exec (.sensorRead r i) s = .next (s.used.answer r 0x0C05 .ok 0 [] [wrapTo 16 v]) := by
  have hvalue : s.sensorValue i = wrapTo 16 v := by rw [State.sensorValue, if_pos hi, hmedian, Option.getD_some]
  show execSensorRead r i s = _
  rw [execSensorRead, if_neg (by omega), firstReject_cons_of_pass (by simp; omega), firstReject_nil, finish_ok hform, List.map_singleton,
    hvalue]

theorem sensorRead_all (hform : FormOk s r 0x0C05) : ∃ l : List Nat, l.length = 24 ∧
    exec (.sensorRead r 0xFFFF) s = .next (s.used.answer r 0x0C05 .ok 0 [] l) :=
  ⟨(List.range 24).map s.sensorValue, by rw [List.length_map, List.length_range], congrArg Host.Outcome.next (finish_ok hform _)⟩

end

section
variable {s : State} (hon : s.tel.on = true)
include hon

theorem telemetryEmit_ring {slots base : Nat} (hidle : s.lock.restart = none) (hdest : s.tel.dest = some (.ring base slots)) :
    exec .telemetryEmit s = .next (State.memWrite (s.setTel { s.tel with seq := (s.tel.seq + 1) % 2 ^ 32 })
      (base + s.tel.seq % slots * 4096) s.telemetryRecord) := by
  show execTelemetryEmit s = _
  rw [execTelemetryEmit, if_neg (by simp [hon]), if_neg (by simp [hidle]), hdest]

theorem telemetryEmit_of_restart (hrestart : s.lock.restart ≠ none) :
    exec .telemetryEmit s = .next (s.setTel { s.tel with seq := (s.tel.seq + 1) % 2 ^ 32 }) := by
  show execTelemetryEmit s = _
  rw [execTelemetryEmit, if_neg (by simp [hon]), if_pos (Option.isSome_iff_ne_none.mpr hrestart)]

end

theorem insertAsc_nil (x : Int) : insertAsc x [] = [x] := rfl

theorem insertAsc_cons (x y : Int) (ys : List Int) : insertAsc x (y :: ys) = if x ≤ y then x :: y :: ys else y :: insertAsc x ys := rfl

/-- The median of the last three readings, by their order. -/
theorem medianOf_three (a b c : Int) (rest : List Int) : medianOf (a :: b :: c :: rest) = some (max (min a b) (min (max a b) c)) := by
  have hthree : medianOf (a :: b :: c :: rest) = (insertAsc a (insertAsc b [c]))[1]? := by
    rw [medianOf, if_pos (by simp)]
    rfl
  rw [hthree, insertAsc_cons b c, insertAsc_nil]
  split
  · rw [insertAsc_cons, insertAsc_cons, insertAsc_nil]
    split
    · exact congrArg some (by omega)
    · split <;> exact congrArg some (by omega)
  · rw [insertAsc_cons, insertAsc_cons, insertAsc_nil]
    split
    · exact congrArg some (by omega)
    · split <;> exact congrArg some (by omega)

/-! ### The throttle (R617, R618) -/

theorem setDuty_tel (s : State) (d : Nat) : (s.setDuty d).tel.duty = d ∧ (s.setDuty d).tel.cool = s.tel.cool := by
  unfold State.setDuty
  dsimp only
  split
  · exact ⟨rfl, rfl⟩
  · split
    · rw [(raise_speaks _ _ _ _).tel]
      exact ⟨rfl, rfl⟩
    · exact ⟨rfl, rfl⟩

section
variable {s : State}

theorem throttle_of_hot (hhot : s.hot = true) : s.throttle.tel.cool = 0 ∧
    s.throttle.tel.duty = if s.tel.duty ≤ 2 then s.tel.duty else s.tel.duty - 1 := by
  rw [State.throttle, if_pos hhot]
  dsimp only [State.setTel]
  by_cases hduty : s.tel.duty ≤ 2
  · rw [if_pos hduty, if_pos hduty]
    exact ⟨rfl, rfl⟩
  · rw [if_neg hduty, if_neg hduty, (setDuty_tel _ _).1, (setDuty_tel _ _).2]
    exact ⟨rfl, rfl⟩

section
variable (hhot : s.hot = false)
include hhot

theorem throttle_of_cooling (hcool : s.coolNow = true) (hfew : s.tel.cool < 9) :
    s.throttle = s.setTel { s.tel with cool := s.tel.cool + 1 } := by
  rw [State.throttle, if_neg (by simp [hhot]), if_pos hcool]
  exact if_pos (by omega)

theorem throttle_of_cooled (hcool : s.coolNow = true) (hmany : 9 ≤ s.tel.cool) :
    s.throttle.tel.duty = min 8 (s.tel.duty + 1) ∧ s.throttle.tel.cool = 0 := by
  have h : s.throttle = (s.setTel { s.tel with cool := 0 }).setDuty (min 8 (s.tel.duty + 1)) := by
    rw [State.throttle, if_neg (by simp [hhot]), if_pos hcool]
    exact if_neg (by omega)
  rw [h]
  exact setDuty_tel _ _

theorem throttle_of_neither (hcool : s.coolNow = false) : s.throttle = s.setTel { s.tel with cool := 0 } := by
  rw [State.throttle, if_neg (by simp [hhot]), if_neg (by simp [hcool])]

end

theorem throttle_duty_bounds (hlow : 2 ≤ s.tel.duty) (hhigh : s.tel.duty ≤ 8) :
    2 ≤ s.throttle.tel.duty ∧ s.throttle.tel.duty ≤ 8 := by
  cases hhot : s.hot with
  | true =>
    rw [(throttle_of_hot hhot).2]
    split <;> omega
  | false =>
    cases hcool : s.coolNow with
    | false =>
      rw [throttle_of_neither hhot hcool]
      exact ⟨hlow, hhigh⟩
    | true =>
      by_cases hfew : s.tel.cool < 9
      · rw [throttle_of_cooling hhot hcool hfew]
        exact ⟨hlow, hhigh⟩
      · rw [(throttle_of_cooled hhot hcool (Nat.not_lt.mp hfew)).1]
        omega

end

/-! ### The thermal trip (R586, R616, R619) -/

theorem throttleEval_of_no_trip {s : State} {power : Nat} {domains : List Nat} {low : Bool}
    (h : State.tripSensor (s.setTel { s.tel with packagePower := power, domainPower := domains, throttleLow := low }) = none) :
    exec (.throttleEval power domains low) s =
      .next (State.throttle (s.setTel { s.tel with packagePower := power, domainPower := domains, throttleLow := low })) :=
  congrArg Host.Outcome.next (if_neg (by rw [h]; decide))

theorem tripIfHot_of_none {s : State} (h : s.tripSensor = none) : s.tripIfHot = s := by
  simp only [State.tripIfHot, h]

theorem tripIfHot_of_some {s : State} {i : Nat} (h : s.tripSensor = some i) (hboot : s.power.boot ≠ .held) :
    s.tripIfHot = s.resetEvent .thermalTrip .cold i := by
  simp only [State.tripIfHot, h]
  exact if_neg (by simp [hboot])

theorem tripSensor_of_some {s : State} {i : Nat} (h : s.tripSensor = some i) : i < 16 ∧ 1150 ≤ (s.tempMedian i).getD 0 ∧
    ∀ j, j < i → (s.tempMedian j).getD 0 < 1150 := by
  obtain ⟨htrip, hi, hbefore⟩ := List.find?_range_eq_some.mp h
  refine ⟨List.mem_range.mp hi, of_decide_eq_true htrip, fun j hj => ?_⟩
  simpa using hbefore j hj

/-! ### Die-to-die links (R609) -/

section
variable {s : State} {link : Nat}

theorem d2dReplayFail_of_idle (hlink : link < 9) (hidle : link ∉ s.tel.retraining) : ∃ t, exec (.d2dReplayFail link) s = .next t ∧
    t.tel.retraining = s.tel.retraining ++ [link] ∧ t.counter (.link link 1) = satAdd (s.counter (.link link 1)) 16 ∧
    t.counter (.link link 2) = satAdd (s.counter (.link link 2)) 1 ∧ t.gauge = s.gauge ∧ t.mem = s.mem := by
  have hnot : ¬ (9 ≤ link ∨ s.tel.retraining.contains link = true) := by
    rw [List.contains_iff_mem]
    exact not_or.mpr ⟨Nat.not_le.mpr hlink, hidle⟩
  refine ⟨_, congrArg Host.Outcome.next (if_neg hnot), rfl, ?_, ?_, rfl, rfl⟩
  · exact (count_counter_other _ 1 (by simp)).trans (count_counter_same s (.link link 1) 16)
  · refine (count_counter_same (s.count (.link link 1) 16) (.link link 2) 1).trans ?_
    rw [count_counter_other s 16 (by simp)]

section
variable (hwaits : link ∈ s.tel.retraining)
include hwaits

theorem d2dRetrainTimeout_eq : exec (.d2dRetrainTimeout link) s = .next (
    if link = 8 then ((s.retrained link).linkLine link 2).loseModules 0#4
    else (linkDomains link).foldl (fun s d => s.domainFailed d) ((s.retrained link).linkLine link 2)) :=
  congrArg Host.Outcome.next (if_neg (by simp [hwaits]))

end
end

theorem linkDomains_of_port {l : Nat} (hlow : 2 ≤ l) (hhigh : l ≤ 5) : linkDomains l = [20 + l] := by
  rw [linkDomains, if_neg (by omega), if_neg (by omega), if_pos hhigh]

theorem two_le_filter_length {p : Int → Bool} {a b c : Int}
    (h : (p a = true ∧ p b = true) ∨ (p a = true ∧ p c = true) ∨ (p b = true ∧ p c = true)) : 2 ≤ ([a, b, c].filter p).length := by
  rcases h with ⟨h₁, h₂⟩ | ⟨h₁, h₂⟩ | ⟨h₁, h₂⟩
  · simp [List.filter_cons, h₁, h₂]
  · cases hb : p b <;> simp [h₁, h₂, hb]
  · cases ha : p a <;> simp [h₁, h₂, ha]

/-- Settles O55. -/
theorem logsAndTelemetryRun : Obligations.LogsAndTelemetryRun := by
  unfold Obligations.LogsAndTelemetryRun
  refine ⟨⟨fun s i code subject detail => logEntry_bounded i code subject detail, fun l e => ⟨rfl, push_of_room l e, push_of_full l e⟩,
    fun s c n => ⟨count_counter_same s c n, fun k => count_counter_other s n, rfl⟩, fun s r log offset n i => logRead_eq,
    fun s r log i hform hlog hbusy => ⟨logClear_eq hform hlog hbusy, clearLog_log s i⟩, fun s r block first n size => counterRead_eq,
    fun s r on ms address slots hform hon hlow hhigh =>
      ⟨telemetrySet_ring hform hon hlow hhigh, telemetrySet_port hform hon hlow hhigh⟩,
    fun s r limit => throttleSet_of_inside, fun s r => powerRead_eq, fun s r i v => sensorRead_one, fun s r => sensorRead_all,
    fun s slots base hon => telemetryEmit_ring hon, fun s => telemetryEmit_of_restart⟩, ?median, ?throttle,
    fun s h => throttle_duty_bounds h.1 h.2, ?sample, fun s i => tripSensor_of_some, fun s link => d2dReplayFail_of_idle,
    fun s link => rfl, ?timeout, ?host, rfl, rfl, fun l => linkDomains_of_port, rfl, rfl⟩
  case median =>
    intro a b c rest
    refine ⟨_, medianOf_three a b c rest, by omega, ⟨by omega, by omega⟩, ?_, ?_⟩
    · refine two_le_filter_length ?_
      simp only [decide_eq_true_eq]
      omega
    · refine two_le_filter_length ?_
      simp only [decide_eq_true_eq]
      omega
  case throttle =>
    intro s power domains low u htrip
    have hexec := throttleEval_of_no_trip htrip
    refine ⟨fun hhot hduty => ?_, fun hhot hduty => ?_, fun hhot hcool hfew => ?_, fun hhot hcool hmany => ?_, fun hhot hcool => ?_⟩
    · obtain ⟨hzero, hstep⟩ := throttle_of_hot hhot
      exact ⟨_, hexec, hstep.trans (if_neg (Nat.not_le.mpr hduty)), hzero⟩
    · obtain ⟨hzero, hstep⟩ := throttle_of_hot hhot
      exact ⟨_, hexec, hstep.trans (if_pos hduty), hzero⟩
    · exact hexec.trans (congrArg _ (throttle_of_cooling hhot hcool hfew))
    · exact ⟨_, hexec, throttle_of_cooled hhot hcool hmany⟩
    · exact hexec.trans (congrArg _ (throttle_of_neither hhot hcool))
  case sample =>
    intro s temps rails read u
    exact ⟨fun h => congrArg Host.Outcome.next (tripIfHot_of_none h),
      fun i h hboot => congrArg Host.Outcome.next (tripIfHot_of_some h hboot)⟩
  case timeout =>
    exact fun s link hwaits hlink => (d2dRetrainTimeout_eq hwaits).trans (congrArg _ (if_neg (by omega)))
  case host =>
    exact fun s hwaits => (d2dRetrainTimeout_eq hwaits).trans (congrArg _ (if_pos rfl))

end Sys2Proof.Machine
end

section
/-! Every step keeps the LPDDR6 image in canonical form (R583): frame rules of the operations on the state, preservation rules
of those that write memory, and the same of every row. -/

namespace Sys2Proof.Machine

/-! ### Operations on the state that leave memory as it was

One frame rule for each, in the order in which they call one another. -/

@[simp] theorem ite_mem (c : Prop) [Decidable c] (a b : State) : (if c then a else b).mem = if c then a.mem else b.mem := by
  split <;> rfl

@[simp] theorem foldl_mem {α : Type} {f : State → α → State} (h : ∀ s a, (f s a).mem = s.mem) (l : List α)
    (s : State) : (l.foldl f s).mem = s.mem :=
  foldl_keeps (g := State.mem) h l s

section
variable (s : State)

@[simp] theorem msix_mem (v : Nat) : (s.msix v).mem = s.mem := by simp [State.msix]

@[simp] theorem dropOutstanding_mem (r : Req) : (s.dropOutstanding r).mem = s.mem := rfl

@[simp] theorem sendPiece_mem (ch : Nat) (body : Body) : (s.sendPiece ch body).mem = s.mem := by simp [State.sendPiece]

@[simp] theorem mb5Reply_mem (code : Nat) (st : Status) (result : Nat) : (s.mb5Reply code st result).mem = s.mem := by
  simp [State.mb5Reply]

@[simp] theorem mb7Push_mem (m : Message) : (s.mb7Push m).mem = s.mem := by simp [State.mb7Push]

@[simp] theorem postResponse_mem (i : Nat) (m : Message) : (s.postResponse i m).mem = s.mem := by simp [State.postResponse]

@[simp] theorem noteEntry_mem (st : Status) (result : Nat) : (s.noteEntry st result).mem = s.mem := rfl

@[simp] theorem complete_mem (r : Req) (code : Nat) (st : Status) (result : Nat) (payload : Bytes) (values : List Nat) :
    (s.complete r code st result payload values).mem = s.mem := by
  simp [State.complete]

@[simp] theorem countRejection_mem (i : Nat) (st : Status) : (s.countRejection i st).mem = s.mem := rfl

@[simp] theorem respond_mem (r : Req) (code : Nat) (st : Status) (result : Nat) (payload : Bytes) (values : List Nat) :
    (s.respond r code st result payload values).mem = s.mem := by
  simp [State.respond]

@[simp] theorem answer_mem (r : Req) (code : Nat) (st : Status) (result : Nat) (payload : Bytes) (values : List Nat) :
    (s.answer r code st result payload values).mem = s.mem := by
  unfold State.answer
  split <;> simp

@[simp] theorem finish_mem (r : Req) (code : Nat) (check : Option Reject) {effect : State} (h : effect.mem = s.mem) :
    (s.finish r code check effect).mem = s.mem := by
  unfold State.finish
  split
  · simp
  · exact h

@[simp] theorem spread_mem (i : Item) : (s.spread i).mem = s.mem := by simp [State.spread]

@[simp] theorem distribute_mem (r : Req) (code : Nat) (i : Item) (goal : QuorumGoal) (result : Nat) (payload : Bytes)
    (values : List Nat) : (s.distribute r code i goal result payload values).mem = s.mem := by
  simp [State.distribute]

@[simp] theorem forward_mem (r : Req) (code : Nat) (params : Bytes) (result : Nat) (payload : Bytes) (values : List Nat) :
    (s.forward r code params result payload values).mem = s.mem := by
  simp [State.forward]

@[simp] theorem addPair_mem (p : QueuePair) : (s.addPair p).mem = s.mem := rfl

@[simp] theorem shareGrant_mem (launch : Nat) (g : Memory) : (s.shareGrant launch g).mem = s.mem := by simp [State.shareGrant]

@[simp] theorem setSlot_mem (n i : Nat) (x : Slot) : (s.setSlot n i x).mem = s.mem := rfl

@[simp] theorem giveEngine_mem (n e : Nat) : (s.giveEngine n e).mem = s.mem := by
  unfold State.giveEngine
  dsimp only
  split <;> simp

@[simp] theorem freeSlot_mem (n i : Nat) : (s.freeSlot n i).mem = s.mem := by
  unfold State.freeSlot
  dsimp only
  split <;> simp

@[simp] theorem raise_mem (e : Event) (subject : Nat) (payload : Bytes) : (s.raise e subject payload).mem = s.mem := by
  simp [State.raise]

@[simp] theorem refuseReturn_mem (q pointer reason : Nat) : (s.refuseReturn q pointer reason).mem = s.mem := by
  unfold State.refuseReturn
  dsimp only
  repeat' split
  all_goals simp

@[simp] theorem freeBuffer_mem (n i : Nat) : (s.freeBuffer n i).mem = s.mem := by
  unfold State.freeBuffer
  split <;> simp

@[simp] theorem returnBuffer_mem (q pointer : Nat) : (s.returnBuffer q pointer).1.mem = s.mem := by
  unfold State.returnBuffer
  dsimp only
  split <;> simp

theorem returnBuffer_mem_of {s : State} {q p : Nat} {u : State} {reason : Nat} (h : s.returnBuffer q p = (u, reason)) :
    u.mem = s.mem := by
  simpa [h] using returnBuffer_mem s q p

@[simp] theorem dropBuffers_mem (q : Nat) (l : List Nat) : (s.dropBuffers q l).mem = s.mem := by simp [State.dropBuffers]

@[simp] theorem evictSlots_mem (id : Nat) : (s.evictSlots id).mem = s.mem := by simp [State.evictSlots]

@[simp] theorem evictStreams_mem (id : Nat) : (s.evictStreams id).mem = s.mem := rfl

@[simp] theorem evictKernels_mem (id : Nat) : (s.evictKernels id).mem = s.mem := by simp [State.evictKernels]

@[simp] theorem evictAnvil_mem (id : Nat) : (s.evictAnvil id).mem = s.mem := rfl

@[simp] theorem evict_mem (id : Nat) : (s.evict id).mem = s.mem := by simp [State.evict]

@[simp] theorem removeSample_mem (id : Nat) : (s.removeSample id).mem = s.mem := rfl

@[simp] theorem dropSynth_mem (reason : Nat) : (s.dropSynth reason).mem = s.mem := by
  unfold State.dropSynth
  dsimp only
  split <;> simp

@[simp] theorem dropSynthSample_mem (x : Sample) (reason : Nat) : (s.dropSynthSample x reason).mem = s.mem := by
  unfold State.dropSynthSample
  repeat' split
  all_goals simp

@[simp] theorem screened_mem (x : Sample) : (s.screened x).mem = s.mem := rfl

@[simp] theorem post_mem (i : Nat) (w : Work) : (s.post i w).mem = s.mem := by
  unfold State.post
  split <;> simp

@[simp] theorem register_mem (g : Region) : (s.register g).mem = s.mem := rfl

@[simp] theorem poolRegion_mem (p : Pool) : (s.poolRegion p).1.mem = s.mem := by
  unfold State.poolRegion
  repeat' split
  all_goals simp

@[simp] theorem askPiece_mem (f : Fetch) : (s.askPiece f).mem = s.mem := by
  unfold State.askPiece
  split <;> simp

@[simp] theorem allocFailed_mem (n q : Nat) (st : Status) : (s.allocFailed n q st).mem = s.mem := by
  unfold State.allocFailed
  split <;> simp

@[simp] theorem allocate_mem (n q : Nat) : (s.allocate n q).1.mem = s.mem := by
  unfold State.allocate
  repeat' split
  all_goals simp

@[simp] theorem allocateNow_mem (n q : Nat) : (s.allocateNow n q).1.mem = s.mem := by
  unfold State.allocateNow
  split <;> simp

theorem allocateNow_mem_of {s : State} {n q : Nat} {u : State} {a : Alloc} (h : s.allocateNow n q = (u, a)) : u.mem = s.mem := by
  simpa [h] using allocateNow_mem s n q

@[simp] theorem takeMany_mem (pool q : Nat) (x : Nat) : (s.takeMany pool q x).1.mem = s.mem := by
  induction x generalizing s with
  | zero => rfl
  | succ k ih =>
    unfold State.takeMany
    split
    next u p h => exact (ih u).trans (allocateNow_mem_of h)
    next u o h => exact allocateNow_mem_of h

@[simp] theorem takeBuffers_mem (q n : Nat) : (s.takeBuffers q n).1.mem = s.mem := by
  unfold State.takeBuffers
  dsimp only
  repeat' split
  all_goals simp

theorem takeBuffers_mem_of {s : State} {q n : Nat} {u : State} {l : Option (List Nat)} (h : s.takeBuffers q n = (u, l)) :
    u.mem = s.mem := by
  simpa [h] using takeBuffers_mem s q n

@[simp] theorem beginFetch_mem (qp sample record : Nat) (kind : FetchKind) :
    (s.beginFetch qp sample record kind).1.mem = s.mem := by
  unfold State.beginFetch
  dsimp only
  split
  · rfl
  · split
    next h => simp [takeBuffers_mem_of h]
    next h => exact takeBuffers_mem_of h

@[simp] theorem issueRead_mem (x : Sample) : (s.issueRead x).mem = s.mem := by
  unfold State.issueRead
  dsimp only
  repeat' split
  all_goals simp

@[simp] theorem writeReport_mem (e : Report) : (s.writeReport e).mem = s.mem := by simp [State.writeReport]

@[simp] theorem noteReport_mem (x : Sample) (e : Report) : (s.noteReport x e).mem = s.mem := by simp [State.noteReport]

@[simp] theorem vacate_mem (x : Sample) : (s.vacate x).mem = s.mem := by simp [State.vacate]

@[simp] theorem rejectSample_mem (x : Sample) (reason nameId detail : Nat) :
    (s.rejectSample x reason nameId detail).mem = s.mem := by
  simp [State.rejectSample]

@[simp] theorem screenReject_mem (x : Sample) (reason nameId : Nat) : (s.screenReject x reason nameId).mem = s.mem := by
  simp [State.screenReject]

@[simp] theorem startKernel_mem (x : Sample) (f : FilterSection) (k : Nat) : (s.startKernel x f k).mem = s.mem := by
  unfold State.startKernel
  split <;> simp

@[simp] theorem writerTake_mem (x : Sample) : (s.writerTake x).mem = s.mem := by
  unfold State.writerTake
  dsimp only
  repeat' split
  · simp
  · simp
  next h => simp [takeBuffers_mem_of h]
  next h => simp [takeBuffers_mem_of h]

@[simp] theorem screenKeep_mem (x : Sample) : (s.screenKeep x).mem = s.mem := by simp [State.screenKeep]

@[simp] theorem kernelsFrom_mem (x : Sample) (f : FilterSection) (k : Nat) : (s.kernelsFrom x f k).mem = s.mem := by
  simp [State.kernelsFrom]

@[simp] theorem kernelEnded_mem (c : NgCtx) : (s.kernelEnded c).mem = s.mem := by
  unfold State.kernelEnded
  dsimp only
  repeat' split
  all_goals simp

@[simp] theorem issued_mem (c : NgCtx) : (s.issued c).mem = s.mem := by
  unfold State.issued
  split <;> simp

@[simp] theorem issue_mem (ctx op : Nat) (w : Fields) (f : Bytes → NgCtx → NgCtx) : (s.issue ctx op w f).mem = s.mem := by
  unfold State.issue
  split <;> simp

@[simp] theorem eraseLater_mem (n : Nat) : (s.eraseLater n).mem = s.mem := rfl

@[simp] theorem settle_mem (w : Staged) : (s.settle w).mem = s.mem := rfl

@[simp] theorem loseStaged_mem : s.loseStaged.mem = s.mem :=
  (loseStaged_onlyMedia s).samePower.2

@[simp] theorem historyLine_mem (source scope original detail : Nat) :
    (s.historyLine source scope original detail).mem = s.mem := rfl

@[simp] theorem alarm_mem (d : Nat) : (s.alarm d).mem = s.mem := by
  unfold State.alarm
  split <;> simp

@[simp] theorem creditBatches_mem (port accepted : Nat) : (s.creditBatches port accepted).mem = s.mem := by
  simp [State.creditBatches]

@[simp] theorem setRing_mem (g : Ring) : (s.setRing g).mem = s.mem := rfl

@[simp] theorem mapChanged_mem : s.mapChanged.mem = s.mem := rfl

@[simp] theorem trainedCold_mem (failed : List Nat) : (s.trainedCold failed).mem = s.mem := by simp [State.trainedCold]

@[simp] theorem lockPlls_mem (plls : List Nat) : (s.lockPlls plls).mem = s.mem := by simp [State.lockPlls]

@[simp] theorem enrol_mem (found : List FoundDie) : (s.enrol found).mem = s.mem := by
  unfold State.enrol
  extract_lets good spares one dies off mask media u v
  have hv : v.mem = s.mem := foldl_mem (fun s f => by simp) _ u
  split
  · exact hv
  · exact (mapChanged_mem _).trans hv

@[simp] theorem enterDomain_mem (d : Nat) (st : DomainStatus) : (s.enterDomain d st).mem = s.mem := by simp [State.enterDomain]

@[simp] theorem powerUp_mem (d : Nat) : (s.powerUp d).mem = s.mem := by
  unfold State.powerUp
  dsimp only
  split <;> simp

@[simp] theorem memoryUp_mem (found : List FoundDie) : (s.memoryUp found).mem = s.mem := by simp [State.memoryUp]

@[simp] theorem takeAddress_mem : s.takeAddress.mem = s.mem := by simp [State.takeAddress]

@[simp] theorem anvilState_mem (u : UnitState) : (s.anvilState u).mem = s.mem := by simp [State.anvilState]

@[simp] theorem riffleState_mem (n : Nat) (u : UnitState) : (s.riffleState n u).mem = s.mem := rfl

@[simp] theorem applyCal_mem (layer : List (Nat × Int)) (which : Nat → Bool) : (s.applyCal layer which).mem = s.mem := rfl

@[simp] theorem plateState_mem (n : Nat) (u : UnitState) : (s.plateState n u).mem = s.mem := rfl

@[simp] theorem unitBack_mem (t : Nat) : (s.unitBack t).mem = s.mem := by simp [State.unitBack]

@[simp] theorem endBlock_mem (t : Nat) (st : Status) : (s.endBlock t st).mem = s.mem := by
  unfold State.endBlock
  dsimp only
  split <;> simp

@[simp] theorem portPllLocked_mem (d : Nat) : (s.portPllLocked d).mem = s.mem := by simp [State.portPllLocked]

@[simp] theorem armCkpt_mem (step : Nat) (p : CkptParams) : (s.armCkpt step p).mem = s.mem := rfl

@[simp] theorem armEvent_mem (e : ArmedEvent) : (s.armEvent e).mem = s.mem := by
  unfold State.armEvent
  split <;> simp

@[simp] theorem armAndSpread_mem (r : Req) (e : ArmedEvent) : (s.armAndSpread r e).mem = s.mem := by simp [State.armAndSpread]

@[simp] theorem stamp_mem (ingress egress queue : Nat) (f : QFrame) : (s.stamp ingress egress queue f).mem = s.mem := by
  simp [State.stamp]

@[simp] theorem retryWaiting_mem (x : List (Nat × Nat × Nat × QFrame)) : (s.retryWaiting x).mem = s.mem := by
  induction x generalizing s with
  | nil => rfl
  | cons a rest ih =>
    unfold State.retryWaiting
    dsimp only
    repeat' split
    all_goals simp [ih]

@[simp] theorem retryAll_mem : s.retryAll.mem = s.mem := by simp [State.retryAll]

@[simp] theorem leave_mem (id : Nat) : (s.leave id).mem = s.mem := by
  unfold State.leave
  split <;> simp

@[simp] theorem drop_mem (port reason : Nat) : (s.drop port reason).mem = s.mem := rfl

@[simp] theorem flushPort_mem (port : Nat) : (s.flushPort port).mem = s.mem := by
  unfold State.flushPort
  dsimp only
  rw [foldl_mem (fun s f => by simp), foldl_mem (fun s _ => by simp)]
  split <;> simp

@[simp] theorem putFirmwareQp_mem (q : Qp) : (s.putFirmwareQp q).mem = s.mem := by
  unfold State.putFirmwareQp
  dsimp only
  split
  · rfl
  · cases h : State.placeContext _ _ with
    | none => rfl
    | some u => exact (placeContext_keeps h).2

@[simp] theorem connectLink_mem (p : Port) : (s.connectLink p).mem = s.mem := by
  unfold State.connectLink
  split <;> simp

@[simp] theorem dropAssembling_mem (q : Qp) : (s.dropAssembling q).mem = s.mem := by
  unfold State.dropAssembling
  split <;> simp

@[simp] theorem quiet_mem (q : Qp) (st : QpState) (cause : Nat) : (s.quiet q st cause).mem = s.mem := by simp [State.quiet]

@[simp] theorem replyFetch_mem (qp tag offset maxLength va rkey : Nat) (x : Except Nat Bytes) :
    (s.replyFetch qp tag offset maxLength va rkey x).mem = s.mem := by
  unfold State.replyFetch
  split <;> simp

@[simp] theorem dropFetch_mem (f : Fetch) : (s.dropFetch f).mem = s.mem := rfl

@[simp] theorem failFetch_mem (f : Fetch) (reason : Nat) : (s.failFetch f reason).mem = s.mem := by
  unfold State.failFetch
  dsimp only
  repeat' split
  all_goals simp

@[simp] theorem fetchPairFailed_mem (qp : Nat) : (s.fetchPairFailed qp).mem = s.mem := by
  unfold State.fetchPairFailed
  refine foldl_mem (fun s f => ?_) _ _
  repeat' split
  all_goals simp

@[simp] theorem resetLink_mem (k : PortKind) (index : Nat) : (s.resetLink k index).mem = s.mem := by
  unfold State.resetLink
  refine foldl_mem (fun s i => ?_) _ _
  dsimp only
  repeat' split
  all_goals simp

@[simp] theorem checkSplit_mem : s.checkSplit.mem = s.mem := by
  unfold State.checkSplit
  dsimp only
  repeat' split
  all_goals simp

@[simp] theorem dropSources_mem (c : Chunk) : (s.dropSources c).mem = s.mem := by simp [State.dropSources]

@[simp] theorem dropLaunch_mem (id : Nat) : (s.dropLaunch id).mem = s.mem := rfl

@[simp] theorem unbind_mem (id : Nat) : (s.unbind id).mem = s.mem := rfl

@[simp] theorem releaseGrant_mem (id : Nat) : (s.releaseGrant id).mem = s.mem := by
  unfold State.releaseGrant
  split <;> simp

@[simp] theorem collPost_mem (id : Nat) (qp : Option Nat) (w : Work) : (s.collPost id qp w).mem = s.mem := by
  unfold State.collPost
  dsimp only
  repeat' split
  all_goals simp

@[simp] theorem writeTo_mem (l : Launch) (port va : Nat) (bs : Bytes) : (s.writeTo l port va bs).mem = s.mem := by
  simp [State.writeTo]

@[simp] theorem writeResult_mem (l : Launch) (n from_ : Nat) (p : Part) (port : Nat) :
    (s.writeResult l n from_ p port).mem = s.mem := by
  unfold State.writeResult
  dsimp only
  repeat' split
  all_goals simp

@[simp] theorem writeRecord_mem (l : Launch) (result : Nat) (ran : Bool) (port : Nat) :
    (s.writeRecord l result ran port).mem = s.mem := by
  simp [State.writeRecord]

@[simp] theorem countResult_mem (channel result : Nat) : (s.countResult channel result).mem = s.mem := by
  simp [State.countResult]

@[simp] theorem report_mem (l : Launch) : (s.report l).mem = s.mem := by simp [State.report]

@[simp] theorem deliver_mem (id n from_ : Nat) (p : Part) : (s.deliver id n from_ p).mem = s.mem := by
  unfold State.deliver
  dsimp only
  repeat' split
  all_goals simp

@[simp] theorem abortRunning_mem (l : Launch) : (s.abortRunning l).mem = s.mem := by simp [State.abortRunning]

@[simp] theorem endUnrun_mem (id result : Nat) : (s.endUnrun id result).mem = s.mem := by
  unfold State.endUnrun
  dsimp only
  repeat' split
  all_goals simp

@[simp] theorem abortLaunch_mem (id : Nat) : (s.abortLaunch id).mem = s.mem := by
  unfold State.abortLaunch
  repeat' split
  all_goals simp

@[simp] theorem collLinkLost_mem (side device : Nat) : (s.collLinkLost side device).mem = s.mem := by simp [State.collLinkLost]

@[simp] theorem followRing_mem : s.followRing.mem = s.mem := rfl

@[simp] theorem ringUp_mem (k : PortKind) : (s.ringUp k).mem = s.mem := by simp [State.ringUp]

@[simp] theorem linkChanged_mem (p : Port) (up : Bool) : (s.linkChanged p up).mem = s.mem := by
  unfold State.linkChanged
  dsimp only
  repeat' split
  all_goals simp

@[simp] theorem setLink_mem (p : Port) (up : Bool) : (s.setLink p up).mem = s.mem := by simp [State.setLink]

@[simp] theorem refuseMessage_mem (r : Req) (code : Nat) (st : Status) (result : Nat) :
    (s.refuseMessage r code st result).mem = s.mem := by
  simp [State.refuseMessage]

@[simp] theorem answerRepeat_mem (mb seq tag : Nat) : (s.answerRepeat mb seq tag).mem = s.mem := by
  unfold State.answerRepeat
  dsimp only
  split <;> simp

@[simp] theorem accept_mem (mb : Nat) (bs : Bytes) : (s.accept mb bs).mem = s.mem := by
  unfold State.accept
  dsimp only
  split <;> simp

@[simp] theorem receive_mem (mb : Nat) (bs : Bytes) : (s.receive mb bs).mem = s.mem := by
  unfold State.receive
  dsimp only
  repeat' split
  all_goals simp

@[simp] theorem issueRecord_mem (fromStep : Nat) : (s.issueRecord fromStep).mem = s.mem := by simp [State.issueRecord]

@[simp] theorem recordNow_mem : s.recordNow.mem = s.mem := by simp [State.recordNow]

@[simp] theorem mapDiffers_mem : s.mapDiffers.mem = s.mem := by simp [State.mapDiffers]

@[simp] theorem unitEvent_mem (e : Event) (logical site : Nat) : (s.unitEvent e logical site).mem = s.mem := by
  simp [State.unitEvent]

@[simp] theorem retirePlate_mem (n : Nat) : (s.retirePlate n).mem = s.mem := by simp [State.retirePlate]

@[simp] theorem redoSample_mem (x : Sample) : (s.redoSample x).mem = s.mem := by simp [State.redoSample]

@[simp] theorem returnAllOf_mem (q : Nat) : (s.returnAllOf q).mem = s.mem := rfl

@[simp] theorem emptyPlate_mem (n : Nat) : (s.emptyPlate n).mem = s.mem := by simp [State.emptyPlate]

@[simp] theorem blockReset_mem (target : Nat) (waiter : Option Req) : (s.blockReset target waiter).mem = s.mem := by
  simp [State.blockReset]

@[simp] theorem plateFault_mem (n : Nat) : (s.plateFault n).mem = s.mem := by simp [State.plateFault]

@[simp] theorem endCommand_mem (q slot : Nat) (e : SqEntry) (st : Status) (result info : Nat) :
    (s.endCommand q slot e st result info).mem = s.mem := by
  unfold State.endCommand
  split <;> simp

@[simp] theorem resetPair_mem (p : QueuePair) : (s.resetPair p).mem = s.mem := rfl

@[simp] theorem dropPair_mem (q : Nat) : (s.dropPair q).mem = s.mem := rfl

@[simp] theorem queueFrame_mem (port queue : Nat) (f : QFrame) : (s.queueFrame port queue f).mem = s.mem := by
  unfold State.queueFrame
  split <;> simp

@[simp] theorem retryResidue_mem (port : Nat) (x : List Residue) : (s.retryResidue port x).mem = s.mem := by
  induction x generalizing s with
  | nil => rfl
  | cons a rest ih =>
    unfold State.retryResidue
    dsimp only
    repeat' split
    all_goals simp [ih]

@[simp] theorem queueNor_mem (w : NorWrite) : (s.queueNor w).mem = s.mem := rfl

@[simp] theorem writeNorRecord_mem (k : RecordKind) (bs : Bytes) (waiter : Option (Req × Nat)) (result : Nat) :
    (s.writeNorRecord k bs waiter result).mem = s.mem := rfl

@[simp] theorem markInProgress_mem (r : Req) : (s.markInProgress r).mem = s.mem := rfl

@[simp] theorem answerInProgress_mem (r : Req) (code : Nat) (held : List Held) :
    (s.answerInProgress r code held).mem = s.mem := by
  unfold State.answerInProgress
  dsimp only
  rw [foldl_mem (fun s h => hold_mem s h r)]
  repeat' split
  all_goals simp

@[simp] theorem storeProgram_mem (h : Nat) (image : Bytes) : (s.storeProgram h image).mem = s.mem := by
  simp [State.storeProgram]

@[simp] theorem answerLong_mem (r : Req) (code : Nat) (st : Status) (result : Nat) (payload : Bytes) (values : List Nat) :
    (s.answerLong r code st result payload values).mem = s.mem := by
  simp [State.answerLong]

@[simp] theorem admin_mem (q : Nat) (e : SqEntry) {f : State → Nat → State} (h : ∀ u k, (f u k).mem = u.mem) :
    (s.admin q e f).mem = s.mem := by
  unfold State.admin
  split
  · rfl
  · simp [h]

@[simp] theorem setFeature_mem (f v : Nat) : (s.setFeature f v).mem = s.mem := by simp [State.setFeature]

@[simp] theorem dropFetches_mem : s.dropFetches.mem = s.mem := by simp [State.dropFetches]

@[simp] theorem dropSamples_mem : s.dropSamples.mem = s.mem := by simp [State.dropSamples]

@[simp] theorem dropQueue_mem (q : DestQueue) : (s.dropQueue q).mem = s.mem := by simp [State.dropQueue]

@[simp] theorem endPreparation_mem : s.endPreparation.mem = s.mem := by simp [State.endPreparation]

@[simp] theorem stopPlan_mem : s.stopPlan.mem = s.mem := by simp [State.stopPlan]

@[simp] theorem commitSession_mem (waiter : Option (Req × Nat)) (storage : Option (Nat × Nat)) :
    (s.commitSession waiter storage).mem = s.mem := by
  unfold State.commitSession
  split <;> simp

@[simp] theorem runImage_mem (bs : Bytes) : (s.runImage bs).mem = s.mem := rfl

@[simp] theorem health_mem (f : MediaCounters → MediaCounters) : (s.health f).mem = s.mem := rfl

@[simp] theorem loseZone_mem (z : Nat) : (s.loseZone z).mem = s.mem := by simp [State.loseZone]

@[simp] theorem format_mem (convSize spare : Nat) : (s.format convSize spare).mem = s.mem := by simp [State.format]

@[simp] theorem armWeir_mem (target : Gauge) (a : WeirActions) : (s.armWeir target a).mem = s.mem := rfl

@[simp] theorem startRun_mem (l : Launch) (c : Chunk) (r : ActiveRun) (id : Nat) : (s.startRun l c r id).mem = s.mem := by
  simp [State.startRun]

@[simp] theorem readSources_mem (id n rank : Nat) (x : List Nat) : (s.readSources id n rank x).mem = s.mem := by
  induction x generalizing s with
  | nil => rfl
  | cons p ps ih =>
    unfold State.readSources
    dsimp only
    split
    · split
      · simp [ih]
      · split
        next h => simp [ih, takeBuffers_mem_of h]
        next h => simp [ih, takeBuffers_mem_of h]
    · rfl

@[simp] theorem readAll_mem (id : Nat) : (s.readAll id).mem = s.mem := by
  unfold State.readAll
  split <;> simp

@[simp] theorem startChunk_mem (l : Launch) (n : Nat) : (s.startChunk l n).mem = s.mem := by simp [State.startChunk]

@[simp] theorem startChunks_mem (id : Nat) (x : Nat) : (s.startChunks id x).mem = s.mem := by
  induction x generalizing s with
  | zero => rfl
  | succ fuel ih =>
    unfold State.startChunks
    dsimp only
    split
    · rfl
    · split <;> simp [ih]

@[simp] theorem final_mem (l : Launch) (c : Chunk) (p : Part) : (s.final l c p).mem = s.mem := by simp [State.final]

@[simp] theorem sendPart_mem (id side device n : Nat) (p : Part) : (s.sendPart id side device n p).mem = s.mem := by
  simp [State.sendPart]

@[simp] theorem passOn_mem (l : Launch) (c : Chunk) (side device : Nat) (p : Part) :
    (s.passOn l c side device p).mem = s.mem := by
  simp [State.passOn]

@[simp] theorem settleChunk_mem (id n rank : Nat) (x : Nat) : (s.settleChunk id n rank x).mem = s.mem := by
  induction x generalizing s with
  | zero => rfl
  | succ fuel ih =>
    unfold State.settleChunk
    dsimp only
    repeat' split
    all_goals simp [ih]

@[simp] theorem progress_mem (id : Nat) : (s.progress id).mem = s.mem := by
  unfold State.progress
  dsimp only
  repeat' split
  all_goals simp

@[simp] theorem emptyRiffle_mem (n : Nat) : (s.emptyRiffle n).mem = s.mem := by simp [State.emptyRiffle]

@[simp] theorem retireRiffle_mem (n : Nat) : (s.retireRiffle n).mem = s.mem := by
  unfold State.retireRiffle
  dsimp only
  repeat' split
  all_goals simp

@[simp] theorem riffleFault_mem (n : Nat) : (s.riffleFault n).mem = s.mem := by simp [State.riffleFault]

@[simp] theorem spreadCompared_mem (i : Item) : (s.spreadCompared i).mem = s.mem := by simp [State.spreadCompared]

@[simp] theorem firstWeir_mem (r : Req) (g : Gauge) : (s.firstWeir r g).mem = s.mem := by simp [State.firstWeir]

@[simp] theorem resumeSample_mem (p : Plan) (recipe d : Nat) (c : Nat × Nat × Nat) :
    (s.resumeSample p recipe d c).mem = s.mem := by
  simp [State.resumeSample]

@[simp] theorem runPlan_mem (h : Nat) (p : Plan) (recipe step : Nat) : (s.runPlan h p recipe step).mem = s.mem := rfl

@[simp] theorem rearm_mem (e : Nat × Nat × Bytes) : (s.rearm e).mem = s.mem := by simp [State.rearm]

@[simp] theorem seedAll_mem (g : Gauge) : (s.seedAll g).mem = s.mem := rfl

@[simp] theorem startJob_mem (g : Gauge) : (s.startJob g).mem = s.mem := rfl

@[simp] theorem dropQuorum_mem (q : Quorum) : (s.dropQuorum q).mem = s.mem := rfl

@[simp] theorem reserveLaunch_mem (l : Launch) : (s.reserveLaunch l).mem = s.mem := by
  unfold State.reserveLaunch
  dsimp only
  repeat' split
  all_goals simp

@[simp] theorem sendVotes_mem (l : Launch) (outcome : Nat) : (s.sendVotes l outcome).mem = s.mem := by simp [State.sendVotes]

@[simp] theorem takePartial_mem (id : Nat) (d : CollData) : (s.takePartial id d).mem = s.mem := by
  unfold State.takePartial
  split <;> simp

end

section
variable (s : State)

@[simp] theorem multicast_mem (l : Launch) (n : Nat) (p : Part) (across : Bool) : (s.multicast l n p across).mem = s.mem := by
  simp [State.multicast]

@[simp] theorem takeResult_mem (id : Nat) (d : CollData) : (s.takeResult id d).mem = s.mem := by
  unfold State.takeResult
  dsimp only
  repeat' split
  all_goals simp

@[simp] theorem runLaunch_mem (id : Nat) : (s.runLaunch id).mem = s.mem := by
  unfold State.runLaunch
  dsimp only
  repeat' split
  all_goals simp

@[simp] theorem decideLaunch_mem (id : Nat) : (s.decideLaunch id).mem = s.mem := by
  unfold State.decideLaunch
  dsimp only
  repeat' split
  all_goals simp

@[simp] theorem takeVote_mem (v : Bytes) : (s.takeVote v).mem = s.mem := by
  unfold State.takeVote
  split <;> simp

@[simp] theorem castVote_mem (id outcome : Nat) : (s.castVote id outcome).mem = s.mem := by
  unfold State.castVote
  split <;> simp

@[simp] theorem checkLaunch_mem (id : Nat) : (s.checkLaunch id).mem = s.mem := by
  unfold State.checkLaunch
  split <;> simp

@[simp] theorem releaseHolds_mem : s.releaseHolds.mem = s.mem := by simp [State.releaseHolds]

@[simp] theorem cancelEvent_mem (handle : Nat) : (s.cancelEvent handle).mem = s.mem := by
  unfold State.cancelEvent
  repeat' split
  all_goals simp

@[simp] theorem withdraw_mem (handle : Nat) : (s.withdraw handle).mem = s.mem := by simp [State.withdraw]

@[simp] theorem twinSay_mem (b : Body) : (s.twinSay b).mem = s.mem := rfl

@[simp] theorem withForming_mem (f : Formation → Formation) : (s.withForming f).mem = s.mem := rfl

@[simp] theorem failForming_mem (st : Status) (result : Nat) : (s.failForming st result).mem = s.mem := by
  unfold State.failForming
  repeat' split
  all_goals simp

@[simp] theorem resetNumbers_mem : s.resetNumbers.mem = s.mem := rfl

@[simp] theorem formedHere_mem : s.formedHere.mem = s.mem := by
  unfold State.formedHere
  repeat' split
  all_goals simp

@[simp] theorem announceFormed_mem : s.announceFormed.mem = s.mem := by simp [State.announceFormed]

@[simp] theorem formTwin_mem : s.formTwin.mem = s.mem := by
  unfold State.formTwin
  repeat' split
  all_goals simp

@[simp] theorem connectAll_mem : s.connectAll.mem = s.mem := by simp [State.connectAll]

@[simp] theorem afterRecord_mem : s.afterRecord.mem = s.mem := by simp [State.afterRecord]

@[simp] theorem storeCatalogue_mem (c : Catalogue) : (s.storeCatalogue c).mem = s.mem := rfl

@[simp] theorem finishCatalogue_mem (r : Req) (dataset : Nat) : (s.finishCatalogue r dataset).mem = s.mem := by
  unfold State.finishCatalogue
  dsimp only
  split <;> simp

@[simp] theorem takeRanges_mem (device dataset total : Nat) (l : List (Nat × Nat)) :
    (s.takeRanges device dataset total l).mem = s.mem := by
  unfold State.takeRanges
  split <;> simp

@[simp] theorem beginRestart_mem (c : RestartCause) : (s.beginRestart c).mem = s.mem := by
  unfold State.beginRestart
  split <;> simp

@[simp] theorem startDue_mem : s.startDue.mem = s.mem := by
  unfold State.startDue
  split <;> simp

@[simp] theorem ckptPhase_mem (p : CkptPhase) : (s.ckptPhase p).mem = s.mem := by simp [State.ckptPhase]

@[simp] theorem failCkpt_mem : s.failCkpt.mem = s.mem := by
  unfold State.failCkpt
  split <;> simp

@[simp] theorem setMember_mem (side d : Nat) (m : MemberStatus) : (s.setMember side d m).mem = s.mem := by
  simp [State.setMember]

@[simp] theorem loseMember_mem (side d : Nat) : (s.loseMember side d).mem = s.mem := by simp [State.loseMember]

@[simp] theorem linkLine_mem (link code : Nat) : (s.linkLine link code).mem = s.mem := rfl

@[simp] theorem mgmtRestart_mem (c : RestartCause) : (s.mgmtRestart c).mem = s.mem := by simp [State.mgmtRestart]

@[simp] theorem emptyStage_mem (n : Nat) : (s.emptyStage n).mem = s.mem := by simp [State.emptyStage]

@[simp] theorem discardRuns_mem (crucible : Nat) : (s.discardRuns crucible).mem = s.mem := by simp [State.discardRuns]

@[simp] theorem resetUnit_mem (t : Nat) : (s.resetUnit t).mem = s.mem := by simp [State.resetUnit]

@[simp] theorem beginBlock_mem (r : Req) (t : Nat) : (s.beginBlock r t).mem = s.mem := by simp [State.beginBlock]

@[simp] theorem formHellos_mem : s.formHellos.mem = s.mem := by
  unfold State.formHellos
  dsimp only
  repeat' split
  all_goals simp

@[simp] theorem align_mem : s.align.mem = s.mem := rfl

@[simp] theorem circulateRecord_mem : s.circulateRecord.mem = s.mem := by simp [State.circulateRecord]

@[simp] theorem formDelays_mem : s.formDelays.mem = s.mem := by simp [State.formDelays]

@[simp] theorem formNeighbours_mem : s.formNeighbours.mem = s.mem := by simp [State.formNeighbours]

@[simp] theorem advanceForming_mem : s.advanceForming.mem = s.mem := by simp [State.advanceForming]

@[simp] theorem addGateList_mem (handle : Nat) (bs : Bytes) : (s.addGateList handle bs).mem = s.mem := rfl

@[simp] theorem anvilFault_mem : s.anvilFault.mem = s.mem := by simp [State.anvilFault]

@[simp] theorem deregister_mem (index : Nat) : (s.deregister index).mem = s.mem := rfl

@[simp] theorem dropRing_mem (port : Nat) : (s.dropRing port).mem = s.mem := by
  unfold State.dropRing
  split <;> simp

@[simp] theorem requeuePort_mem (port : Nat) : (s.requeuePort port).mem = s.mem := by simp [State.requeuePort]

@[simp] theorem applyStageSize_mem : s.applyStageSize.mem = s.mem := by
  unfold State.applyStageSize
  split <;> simp

@[simp] theorem addUnits_mem (n u : Nat) : (s.addUnits n u).mem = s.mem := rfl

@[simp] theorem handOff_mem (pointer holder receiver : Nat) : (s.handOff pointer holder receiver).mem = s.mem := by
  unfold State.handOff
  split <;> simp

@[simp] theorem handOffAll_mem (l : List Nat) (holder receiver : Nat) : (s.handOffAll l holder receiver).mem = s.mem := by
  simp [State.handOffAll]

@[simp] theorem freeStreamAt_mem (n i : Nat) : (s.freeStreamAt n i).mem = s.mem := rfl

@[simp] theorem settleSample_mem (x : Sample) : (s.settleSample x).mem = s.mem := by simp [State.settleSample]

@[simp] theorem finishCkpt_mem : s.finishCkpt.mem = s.mem := by
  unfold State.finishCkpt
  split <;> simp

@[simp] theorem ckptComplete_mem : s.ckptComplete.mem = s.mem := by
  unfold State.ckptComplete
  split <;> simp

@[simp] theorem takeCkptAck_mem (device crc length : Nat) : (s.takeCkptAck device crc length).mem = s.mem := by
  simp [State.takeCkptAck]

@[simp] theorem stage_mem (lba : Nat) (data : Bytes) (source : Option (Nat × Nat × Nat × Nat × Nat)) (through : Bool) :
    (s.stage lba data source through).mem = s.mem := rfl

@[simp] theorem acceptFrame_mem (x : GaugeSource) (d mark : Nat) : (s.acceptFrame x d mark).mem = s.mem := by
  simp [State.acceptFrame]

@[simp] theorem rejectFrame_mem (x : GaugeSource) (reason : Nat) : (s.rejectFrame x reason).mem = s.mem := by
  simp [State.rejectFrame]

@[simp] theorem takeGaugeFrame_mem (port : Nat) (payload : Bytes) : (s.takeGaugeFrame port payload).mem = s.mem := by
  unfold State.takeGaugeFrame
  dsimp only
  repeat' split
  all_goals simp

@[simp] theorem store_mem (plane ingress copies length : Nat) : (s.store plane ingress copies length).mem = s.mem := rfl

@[simp] theorem admitUnicast_mem (ingress : Nat) (p : Port) (queue : Nat) (colour : Colour) (dei : Bool) (f : Frame)
    (channel : Option Nat) : (s.admitUnicast ingress p queue colour dei f channel).mem = s.mem := by
  simp [State.admitUnicast]

@[simp] theorem admitMulticast_mem (ingress cls : Nat) (colour : Colour) (dei : Bool) (f : Frame) (bitmap : BitVec 256) :
    (s.admitMulticast ingress cls colour dei f bitmap).mem = s.mem := by
  unfold State.admitMulticast
  extract_lets c plane targets down up queueOf ready unready full q u v keep copies marks stored queued
  have hu : u.mem = s.mem := foldl_mem (fun s p => drop_mem s _ _) _ s
  have hv : v.mem = s.mem := by
    dsimp only [v]
    split
    · exact (foldl_mem (fun s p => drop_mem s _ _) _ u).trans hu
    · exact hu
  split
  · exact hv
  · split
    · exact (foldl_mem (fun s p => drop_mem s _ _) _ v).trans hv
    · have hqueued : queued.mem = s.mem := by
        refine (foldl_mem (fun s m => ?_) _ stored).trans hv
        rw [queueFrame_mem]
        split
        · rw [count_mem]
        · rfl
      split <;> exact hqueued

@[simp] theorem police_mem (port cls : Nat) (bytes : Nat) (pre : Colour) : (s.police port cls bytes pre).2.2.mem = s.mem := by
  unfold State.police
  split <;> simp

@[simp] theorem forwardFrame_mem (p : Port) (f : Frame) : (s.forwardFrame p f).mem = s.mem := by
  unfold State.forwardFrame
  dsimp only
  repeat' split
  all_goals simp

@[simp] theorem takeSummary_mem (device : Nat) (lo hi : Gauge) : (s.takeSummary device lo hi).mem = s.mem := by
  unfold State.takeSummary
  dsimp only
  split <;> simp

@[simp] theorem hostAlloc_mem (q : Nat) (st pointer : Nat) : (s.hostAlloc q st pointer).mem = s.mem := by simp [State.hostAlloc]

@[simp] theorem afterAlloc_mem (n q : Nat) (x : Alloc) : (s.afterAlloc n q x).mem = s.mem := by
  unfold State.afterAlloc
  split <;> simp

@[simp] theorem ignoreAlloc_mem : s.ignoreAlloc.mem = s.mem := rfl

@[simp] theorem beginCopy_mem (b d : Superblock) (cause : RelocCause) : (s.beginCopy b d cause).mem = s.mem := by
  simp [State.beginCopy]

@[simp] theorem startRelocation_mem (n : Nat) (cause : RelocCause) : (s.startRelocation n cause).mem = s.mem := by
  unfold State.startRelocation
  repeat' split
  all_goals simp

@[simp] theorem abandonRelocation_mem (src : Nat) : (s.abandonRelocation src).mem = s.mem := by
  unfold State.abandonRelocation
  split <;> simp

@[simp] theorem finishZone_mem (z : Nat) : (s.finishZone z).mem = s.mem := by
  unfold State.finishZone
  dsimp only
  repeat' split
  all_goals simp

@[simp] theorem advanceZone_mem (z n : Nat) : (s.advanceZone z n).mem = s.mem := by
  unfold State.advanceZone
  dsimp only
  repeat' split
  all_goals simp

@[simp] theorem appendIngot_mem (dataset z : Nat) (b : BuildingIngot) : (s.appendIngot dataset z b).mem = s.mem := by
  simp [State.appendIngot]

@[simp] theorem closeIngot_mem : s.closeIngot.mem = s.mem := by
  unfold State.closeIngot
  dsimp only
  repeat' split
  all_goals simp

@[simp] theorem serveSynthFlushes_mem (done : Nat) (x : List (Req × Option Nat)) :
    (s.serveSynthFlushes done x).mem = s.mem := by
  induction x generalizing s with
  | nil => rfl
  | cons a rest ih =>
    obtain ⟨r, k⟩ := a
    cases k with
    | none => exact ih _
    | some k =>
      simp only [State.serveSynthFlushes]
      split
      · rw [ih, complete_mem]
      · exact ih _

@[simp] theorem synthDurable_mem : s.synthDurable.mem = s.mem := by simp [State.synthDurable]

@[simp] theorem startForming_mem (waiter : Option Req) : (s.startForming waiter).mem = s.mem := by simp [State.startForming]

@[simp] theorem holdWrite_mem (q slot : Nat) (e : SqEntry) : (s.holdWrite q slot e).mem = s.mem := by simp [State.holdWrite]

@[simp] theorem collPortFailed_mem (port : Nat) : (s.collPortFailed port).mem = s.mem := by
  unfold State.collPortFailed
  refine foldl_mem (fun s l => ?_) _ _
  dsimp only
  split <;> simp

@[simp] theorem feedPairFailed_mem (qp : Nat) : (s.feedPairFailed qp).mem = s.mem := by simp [State.feedPairFailed]

@[simp] theorem usersFail_mem (q : Qp) : (s.usersFail q).mem = s.mem := by
  unfold State.usersFail
  repeat' split
  all_goals simp

@[simp] theorem failQp_mem (i cause : Nat) : (s.failQp i cause).mem = s.mem := by
  unfold State.failQp
  split <;> simp

@[simp] theorem moved_mem (m : Move) (q : Qp) (a : QpAttr) : (s.moved m q a).mem = s.mem := by
  unfold State.moved
  dsimp only
  repeat' split
  all_goals simp

@[simp] theorem serveRefill_mem (n : Nat) (x : List (Nat × Nat)) : (s.serveRefill n x).mem = s.mem := by
  induction x generalizing s with
  | nil => rfl
  | cons a rest ih =>
    unfold State.serveRefill
    dsimp only
    split <;> simp [ih]

@[simp] theorem checkTwinLag_mem : s.checkTwinLag.mem = s.mem := by
  unfold State.checkTwinLag
  split <;> simp

@[simp] theorem publishHere_mem : s.publishHere.mem = s.mem := by
  unfold State.publishHere
  split <;> simp

@[simp] theorem publishFar_mem : s.publishFar.mem = s.mem := by
  unfold State.publishFar
  split <;> simp

@[simp] theorem consume_mem (m : Inbound) : (s.consume m).mem = s.mem := by
  unfold State.consume
  split <;> simp

@[simp] theorem checkService_mem : s.checkService.mem = s.mem := by
  unfold State.checkService
  split <;> simp

@[simp] theorem failQuorum_mem (q : Quorum) (st : Status) (result : Nat) : (s.failQuorum q st result).mem = s.mem := by
  unfold State.failQuorum
  split <;> simp

@[simp] theorem replayItem_mem (who : Nat) (i : Item) : (s.replayItem who i).mem = s.mem := by simp [State.replayItem]

@[simp] theorem replayTo_mem (who : Nat) : (s.replayTo who).mem = s.mem := by simp [State.replayTo]

@[simp] theorem admitNow_mem (j : Join) : (s.admitNow j).mem = s.mem := by simp [State.admitNow]

@[simp] theorem takeJoinRanges_mem (device dataset total : Nat) (l : List (Nat × Nat)) :
    (s.takeJoinRanges device dataset total l).mem = s.mem := by
  unfold State.takeJoinRanges
  split
  · rfl
  · extract_lets want same group u k put v
    split
    · split
      · exact answer_mem u ..
      · rfl
    · split
      · exact admitNow_mem v k
      · rfl

@[simp] theorem takeHeartbeat_mem (h : Hello) : (s.takeHeartbeat h).mem = s.mem := by simp [State.takeHeartbeat]

@[simp] theorem putDestQ_mem (q : DestQueue) : (s.putDestQ q).mem = s.mem := by simp [State.putDestQ]

@[simp] theorem freeEntry_mem (x : Sample) : (s.freeEntry x).mem = s.mem := by simp [State.freeEntry]

@[simp] theorem abandonDest_mem (q : DestQueue) : (s.abandonDest q).mem = s.mem := by simp [State.abandonDest]

@[simp] theorem stopDest_mem (q : DestQueue) : (s.stopDest q).mem = s.mem := by simp [State.stopDest]

@[simp] theorem handOverDest_mem (d : Nat) : (s.handOverDest d).mem = s.mem := by
  unfold State.handOverDest
  split <;> simp

@[simp] theorem handOverAll_mem : s.handOverAll.mem = s.mem := by
  unfold State.handOverAll
  split <;> simp

@[simp] theorem takeState_mem (sender d : Nat) (st : MemberStatus) : (s.takeState sender d st).mem = s.mem := by
  unfold State.takeState
  repeat' split
  all_goals simp

@[simp] theorem takeHop_mem (d : Nat) (x : Int × Int) : (s.takeHop d x).mem = s.mem := by simp [State.takeHop]

@[simp] theorem takeNeighbour_mem (h : Hello) : (s.takeNeighbour h).mem = s.mem := by simp [State.takeNeighbour]

@[simp] theorem keepHello_mem (h : Hello) : (s.keepHello h).mem = s.mem := rfl

@[simp] theorem takeHello_mem (h : Hello) : (s.takeHello h).mem = s.mem := by simp [State.takeHello]

@[simp] theorem reportRanges_mem (dataset : Nat) : (s.reportRanges dataset).mem = s.mem := by
  unfold State.reportRanges
  split <;> simp

@[simp] theorem launchQueued_mem (ch : Nat) : (s.launchQueued ch).mem = s.mem := by
  unfold State.launchQueued
  dsimp only
  split <;> simp

@[simp] theorem ownReturned_mem (p : Piece) (intact : Bool) : (s.ownReturned p intact).mem = s.mem := by
  unfold State.ownReturned
  dsimp only
  split <;> simp

@[simp] theorem relayUp_mem (p : Piece) : (s.relayUp p).mem = s.mem := by simp [State.relayUp]

@[simp] theorem takeStream_mem (n i : Nat) (u : StreamUse) : (s.takeStream n i u).mem = s.mem := rfl

@[simp] theorem gateTakeover_mem (handle origin : Nat) : (s.gateTakeover handle origin).mem = s.mem := by
  unfold State.gateTakeover
  split <;> simp

@[simp] theorem openWeir_mem (w : Weir) (lateness : Nat) : (s.openWeir w lateness).mem = s.mem := by
  unfold State.openWeir
  dsimp only
  repeat' split
  all_goals simp

@[simp] theorem retireCrucible_mem (n : Nat) : (s.retireCrucible n).mem = s.mem := by simp [State.retireCrucible]

@[simp] theorem retireUnit_mem (t : Nat) : (s.retireUnit t).mem = s.mem := by simp [State.retireUnit]

@[simp] theorem endDomainSets_mem (d : Nat) : (s.endDomainSets d).mem = s.mem := by simp [State.endDomainSets]

@[simp] theorem unitAbsent_mem (t : Nat) : (s.unitAbsent t).mem = s.mem := by simp [State.unitAbsent]

@[simp] theorem domainFailed_mem (d : Nat) : (s.domainFailed d).mem = s.mem := by simp [State.domainFailed]

@[simp] theorem retrained_mem (link : Nat) : (s.retrained link).mem = s.mem := rfl

@[simp] theorem loseModules_mem (keep : BitVec 4) : (s.loseModules keep).mem = s.mem := by
  unfold State.loseModules
  rw [hlError_mem]

@[simp] theorem configLog_mem (code subject : Nat) (detail : List Nat) : (s.configLog code subject detail).mem = s.mem := rfl

@[simp] theorem latchStraps_mem (bootSrc clkMode : BitVec 2) : (s.latchStraps bootSrc clkMode).mem = s.mem := by
  simp [State.latchStraps]

@[simp] theorem powerDown_mem (d : Nat) : (s.powerDown d).mem = s.mem := by simp [State.powerDown]

@[simp] theorem domainOn_mem (d : Nat) : (s.domainOn d).mem = s.mem := by simp [State.domainOn]

@[simp] theorem dropCtx_mem (ctx : Nat) : (s.dropCtx ctx).mem = s.mem := rfl

@[simp] theorem countRun_mem (site : Nat) (second : Bool) : (s.countRun site second).mem = s.mem := by simp [State.countRun]

@[simp] theorem putRun_mem (l : Launch) (c : Chunk) (r : ActiveRun) : (s.putRun l c r).mem = s.mem := rfl

@[simp] theorem rerun_mem (l : Launch) (c : Chunk) (r : ActiveRun) (x : NgCtx) : (s.rerun l c r x).mem = s.mem := by
  simp [State.rerun]

@[simp] theorem commitRun_mem (l : Launch) (c : Chunk) (r : ActiveRun) (x : NgCtx) : (s.commitRun l c r x).mem = s.mem := by
  simp [State.commitRun]

@[simp] theorem touch_mem (i : Nat) : (s.touch i).mem = s.mem := rfl

@[simp] theorem fetchContext_mem (i : Nat) : (s.fetchContext i).mem = s.mem := by
  unfold State.fetchContext
  dsimp only
  split
  · rfl
  · split
    · split <;> rfl
    · split
      · split <;> rfl
      next h => exact (placeContext_keeps h).2

@[simp] theorem originate_mem (internal origin cls port length : Nat) (channel : Option Nat) :
    (s.originate internal origin cls port length channel).mem = s.mem := by
  unfold State.originate
  split <;> simp

@[simp] theorem sendOne_mem (q : Qp) : (s.sendOne q).mem = s.mem := by
  unfold State.sendOne
  repeat' split
  all_goals simp

@[simp] theorem rdmaDrop_mem (port reason : Nat) : (s.rdmaDrop port reason).mem = s.mem := rfl

@[simp] theorem missBuffer_mem (port i : Nat) (p : RdmaPacket) : (s.missBuffer port i p).mem = s.mem := by
  simp [State.missBuffer]

@[simp] theorem feedAcked_mem (port index : Nat) : (s.feedAcked port index).mem = s.mem := by
  unfold State.feedAcked
  split <;> simp

@[simp] theorem collAcked_mem (id : Nat) : (s.collAcked id).mem = s.mem := by
  unfold State.collAcked
  split <;> simp

@[simp] theorem userDone_mem (u : WrUser) : (s.userDone u).mem = s.mem := by
  unfold State.userDone
  split <;> simp

end

section
variable (s : State)

@[simp] theorem progressed_mem (i : Nat) (done : List SentPacket) (sample : Bool) :
    (s.progressed i done sample).mem = s.mem := by
  unfold State.progressed
  split <;> simp

@[simp] theorem ackUpTo_mem (i psn : Nat) (sample : Bool) : (s.ackUpTo i psn sample).mem = s.mem := by
  unfold State.ackUpTo
  split <;> simp

@[simp] theorem resendFrom_mem (i psn : Nat) : (s.resendFrom i psn).mem = s.mem := by
  unfold State.resendFrom
  split <;> simp

@[simp] theorem takeRnr_mem (i code psn : Nat) : (s.takeRnr i code psn).mem = s.mem := by
  unfold State.takeRnr
  dsimp only
  generalize psn + 2 ^ 24 - 1 = last
  repeat' split
  all_goals simp

@[simp] theorem takeAck_mem (q : Qp) (p : RdmaPacket) : (s.takeAck q p).mem = s.mem := by
  unfold State.takeAck
  dsimp only
  generalize p.psn + 2 ^ 24 - 1 = last
  repeat' split
  all_goals simp

@[simp] theorem sourceRead_mem (id port n : Nat) (bs : Bytes) : (s.sourceRead id port n bs).mem = s.mem := by
  unfold State.sourceRead
  dsimp only
  repeat' split
  all_goals simp

@[simp] theorem takeReadResponse_mem (q : Qp) (p : RdmaPacket) : (s.takeReadResponse q p).mem = s.mem := by
  unfold State.takeReadResponse
  dsimp only
  split
  · rfl
  · generalize SentPacket.psn _ + 2 ^ 24 - 1 = last
    repeat' split
    all_goals simp

@[simp] theorem sendNak_mem (q : Qp) (aeth code psn : Nat) : (s.sendNak q aeth code psn).mem = s.mem := by simp [State.sendNak]

@[simp] theorem deliverInbound_mem (m : Inbound) : (s.deliverInbound m).mem = s.mem := by simp [State.deliverInbound]

@[simp] theorem takeImmediate_mem (q : Qp) (port imm : Nat) : (s.takeImmediate q port imm).mem = s.mem := by
  simp [State.takeImmediate]

@[simp] theorem sendAck_mem (i : Nat) : (s.sendAck i).mem = s.mem := by
  unfold State.sendAck
  split
  · rfl
  · rw [emit_mem, setRqp_mem]

@[simp] theorem executed_mem (i span : Nat) (ackNow : Bool) : (s.executed i span ackNow).mem = s.mem := by
  unfold State.executed
  split <;> simp

@[simp] theorem refuse_mem (q : Qp) (p : RdmaPacket) (code cause : Nat) : (s.refuse q p code cause).mem = s.mem := by
  simp [State.refuse]

@[simp] theorem settleAck_mem (i : Nat) : (s.settleAck i).mem = s.mem := by
  unfold State.settleAck
  split <;> simp

@[simp] theorem answerAtomic_mem (q : Qp) (psn value : Nat) : (s.answerAtomic q psn value).mem = s.mem := by
  simp [State.answerAtomic]

@[simp] theorem answerRead_mem (q : Qp) (p : RdmaPacket) : (s.answerRead q p).mem = s.mem := by
  unfold State.answerRead
  split <;> simp

@[simp] theorem takeDuplicate_mem (q : Qp) (p : RdmaPacket) : (s.takeDuplicate q p).mem = s.mem := by
  unfold State.takeDuplicate
  dsimp only
  repeat' split
  all_goals simp

@[simp] theorem markCnp_mem (q : Qp) (p : RdmaPacket) : (s.markCnp q p).mem = s.mem := by simp [State.markCnp]

@[simp] theorem reportReset_mem : s.reportReset.mem = s.mem := by
  unfold State.reportReset
  split <;> simp

@[simp] theorem queueCause_mem : s.queueCause.mem = s.mem := by simp [State.queueCause]

@[simp] theorem ready_mem : s.ready.mem = s.mem := by simp [State.ready]

@[simp] theorem adoptCopy_mem : s.adoptCopy.mem = s.mem := by
  unfold State.adoptCopy
  split <;> simp

@[simp] theorem resetPortBlocks_mem : s.resetPortBlocks.mem = s.mem := by simp [State.resetPortBlocks]

@[simp] theorem newSources_mem : s.newSources.mem = s.mem := by
  unfold State.newSources
  exact foldl_mem (fun s p => setSource_mem s _) _ _

@[simp] theorem putPorts_mem (block : Nat) (es : List PortEntry) : (s.putPorts block es).mem = s.mem := by simp [State.putPorts]

@[simp] theorem defaultPorts_mem : s.defaultPorts.mem = s.mem := by simp [State.defaultPorts]

@[simp] theorem skipEntry_mem (e : CfgEntry) (st : Status) : (s.skipEntry e st).mem = s.mem := rfl

@[simp] theorem createPool_mem (p : Pool) : (s.createPool p).mem = s.mem := rfl

@[simp] theorem putQuotas_mem (pool first : Nat) (quotas : List Nat) : (s.putQuotas pool first quotas).mem = s.mem := by
  unfold State.putQuotas
  split <;> simp

@[simp] theorem commitRelocation_mem (src dst : Nat) : (s.commitRelocation src dst).mem = s.mem := by
  unfold State.commitRelocation
  split <;> simp

@[simp] theorem applyJournal_mem (x : JournalOp) : (s.applyJournal x).mem = s.mem := by
  unfold State.applyJournal
  split <;> simp

@[simp] theorem commitJournal_mem : s.commitJournal.mem = s.mem := by
  unfold State.commitJournal
  split <;> simp

@[simp] theorem reserve_mem (x : Sample) : (s.reserve x).1.mem = s.mem := by
  unfold State.reserve
  split <;> simp

@[simp] theorem placeInSlot_mem (x : Sample) (n i name : Nat) : (s.placeInSlot x n i name).mem = s.mem := by
  simp [State.placeInSlot]

@[simp] theorem jobCounted_mem (queue mode pairs : Nat) : (s.jobCounted queue mode pairs).mem = s.mem := rfl

@[simp] theorem usedFor_mem (t : Tensor) : (s.usedFor t).mem = s.mem := by simp [State.usedFor]

@[simp] theorem embedField_mem (x : Sample) (p : PField) (o : Nat) (m : Embedding) (rounding queue : Nat) (t : Tensor) :
    (s.embedField x p o m rounding queue t).1.mem = s.mem := by
  unfold State.embedField
  dsimp only
  split
  next h => exact takeBuffers_mem_of h
  next h => split <;> simp [takeBuffers_mem_of h]

@[simp] theorem featureRow_mem (id : Nat) : (s.featureRow id).mem = s.mem := by
  unfold State.featureRow
  dsimp only
  repeat' split
  all_goals simp

@[simp] theorem endJob_mem (queue : Nat) (x : AnvilWork) : (s.endJob queue x).1.mem = s.mem := by
  unfold State.endJob
  dsimp only
  repeat' split
  all_goals simp

theorem endJob_mem_of {s : State} {queue : Nat} {w : AnvilWork} {u : State} {b : Bool} (h : s.endJob queue w = (u, b)) :
    u.mem = s.mem := by
  simpa [h] using endJob_mem s queue w

@[simp] theorem rejectInSlot_mem (n i : Nat) (x : Sample) (reason detail : Nat) :
    (s.rejectInSlot n i x reason detail).mem = s.mem := by
  simp [State.rejectInSlot]

@[simp] theorem screenScored_mem (f : FilterSection) (x : Sample) : (s.screenScored f x).mem = s.mem := by
  unfold State.screenScored
  split <;> simp

@[simp] theorem screenFirst_mem (f : FilterSection) (x : Sample) : (s.screenFirst f x).mem = s.mem := by
  unfold State.screenFirst
  dsimp only
  repeat' split
  all_goals simp

theorem pickFrame_mem {s : State} {port queue : Nat} {frames : List QFrame} {f : QFrame} {u : State}
    (h : s.pickFrame port queue frames = some (f, u)) : u.mem = s.mem := by
  unfold State.pickFrame at h
  dsimp only at h
  split at h
  · cases h
  · split at h
    · cases h
      rfl
    · split at h
      · cases h
        rfl
      · cases h
        rfl

@[simp] theorem startFrame_mem (p : Port) (i : Nat) (ds : List (Nat × Nat)) (prio : Nat) :
    (s.startFrame p i ds prio).mem = s.mem := by
  unfold State.startFrame
  split
  · rfl
  next h => simp [pickFrame_mem h]

@[simp] theorem releaseStamped_mem (x : Stamped) : (s.releaseStamped x).mem = s.mem := by simp [State.releaseStamped]

@[simp] theorem releaseRun_mem (ingress egress : Nat) (x : Nat) : (s.releaseRun ingress egress x).mem = s.mem := by
  induction x generalizing s with
  | zero => rfl
  | succ n ih =>
    unfold State.releaseRun
    dsimp only
    split <;> simp [ih]

@[simp] theorem skipGap_mem (egress : Nat) : (s.skipGap egress).mem = s.mem := by
  unfold State.skipGap
  dsimp only
  repeat' split
  all_goals simp

@[simp] theorem resequence_mem (x : Stamped) : (s.resequence x).mem = s.mem := by
  unfold State.resequence
  dsimp only
  split <;> simp

@[simp] theorem issuePosition_mem (step d k : Nat) : (s.issuePosition step d k).mem = s.mem := by
  unfold State.issuePosition
  split <;> simp

@[simp] theorem issueDest_mem (p : Plan) (step d : Nat) : (s.issueDest p step d).mem = s.mem := by simp [State.issueDest]

@[simp] theorem sessionWrite_mem (origin : FwOrigin) (offset : Nat) (data : Bytes) :
    (s.sessionWrite origin offset data).mem = s.mem := by
  simp [State.sessionWrite]

@[simp] theorem submitTile_mem (stage : Nat) : (s.submitTile stage).mem = s.mem := by
  unfold State.submitTile
  dsimp only
  split
  · rfl
  · rw [foldl_mem (fun s i => ?_)]
    · simp
    · split <;> simp

@[simp] theorem toManager_mem (ch : Nat) (b : Body) : (s.toManager ch b).mem = s.mem := by simp [State.toManager]

@[simp] theorem applyRecord_mem (bs : Bytes) : (s.applyRecord bs).mem = s.mem := by simp [State.applyRecord]

@[simp] theorem prepareFrom_mem (dest : Dest) (step : Nat) (carry : List (Nat × Nat × Nat)) :
    (s.prepareFrom dest step carry).mem = s.mem := by
  unfold State.prepareFrom
  split <;> simp

@[simp] theorem takeProxy_mem (dest : Dest) (step : Nat) (carry : List (Nat × Nat × Nat)) :
    (s.takeProxy dest step carry).mem = s.mem := by
  simp [State.takeProxy]

@[simp] theorem giveBack_mem (dest : Dest) : (s.giveBack dest).mem = s.mem := by
  unfold State.giveBack
  repeat' split
  all_goals simp

@[simp] theorem takeBack_mem (dest : Dest) (step : Nat) (carry : List (Nat × Nat × Nat)) :
    (s.takeBack dest step carry).mem = s.mem := by
  simp [State.takeBack]

@[simp] theorem takeProxyItem_mem (back : Bool) (dest : Dest) (step : Nat) (carry : List (Nat × Nat × Nat)) :
    (s.takeProxyItem back dest step carry).mem = s.mem := by
  simp [State.takeProxyItem]

@[simp] theorem storeItem_mem (i : Item) : (s.storeItem i).mem = s.mem := by
  unfold State.storeItem
  repeat' split
  all_goals simp

@[simp] theorem ackItem_mem (i : Item) (early : Bool) : (s.ackItem i early).mem = s.mem := by simp [State.ackItem]

@[simp] theorem reportRelease_mem (x : Sample) (packs : Bool) : (s.reportRelease x packs).mem = s.mem := by
  simp [State.reportRelease]

@[simp] theorem releaseHead_mem (q : DestQueue) (x : Sample) (window : List (Nat × Bytes)) :
    (s.releaseHead q x window).mem = s.mem := by
  unfold State.releaseHead
  dsimp only
  repeat' split
  all_goals simp

@[simp] theorem clearSuspensions_mem (c t : Nat) : (s.clearSuspensions c t).mem = s.mem := rfl

@[simp] theorem retireSuperblock_mem (n : Nat) : (s.retireSuperblock n).mem = s.mem := by
  unfold State.retireSuperblock
  repeat' split
  all_goals simp

@[simp] theorem setDie_mem (d : NandDie) : (s.setDie d).mem = s.mem := rfl

@[simp] theorem retireBlock_mem (c t superblock block : Nat) : (s.retireBlock c t superblock block).mem = s.mem := by
  unfold State.retireBlock
  dsimp only
  split <;> simp

@[simp] theorem erased_mem (n : Nat) : (s.erased n).mem = s.mem := by
  unfold State.erased
  dsimp only
  repeat' split
  all_goals simp

@[simp] theorem queueRefresh_mem (superblock : Nat) : (s.queueRefresh superblock).mem = s.mem := by
  unfold State.queueRefresh
  split <;> simp

@[simp] theorem countRead_mem (superblock block : Nat) : (s.countRead superblock block).mem = s.mem := by
  unfold State.countRead
  split <;> simp

@[simp] theorem readEnded_mem (c t lba superblock block step : Nat) :
    (s.readEnded c t lba superblock block step).mem = s.mem := by
  unfold State.readEnded
  dsimp only
  repeat' split
  all_goals simp

@[simp] theorem journalAdd_mem (op : JournalOp) : (s.journalAdd op).mem = s.mem := rfl

@[simp] theorem opPassed_mem (c t : Nat) : (s.opPassed c t).mem = s.mem := by
  unfold State.opPassed
  split <;> simp

@[simp] theorem checkChannel_mem (c : Nat) : (s.checkChannel c).mem = s.mem := by simp [State.checkChannel]

@[simp] theorem failDie_mem (d : NandDie) : (s.failDie d).mem = s.mem := by simp [State.failDie]

@[simp] theorem opFailed_mem (c t : Nat) : (s.opFailed c t).mem = s.mem := by
  unfold State.opFailed
  split <;> simp

@[simp] theorem programEnded_mem (c t superblock block : Nat) (last pass : Bool) :
    (s.programEnded c t superblock block last pass).mem = s.mem := by
  unfold State.programEnded
  dsimp only
  repeat' split
  all_goals simp

@[simp] theorem checkStops_mem : s.checkStops.mem = s.mem := rfl

@[simp] theorem nandEnded_mem (c t : Nat) (op : NandOp) (pass : Bool) : (s.nandEnded c t op pass).mem = s.mem := by
  unfold State.nandEnded
  split <;> simp

@[simp] theorem takeOwner_mem (bs : Bytes) : (s.takeOwner bs).mem = s.mem := by simp [State.takeOwner]

@[simp] theorem recordWritten_mem (k : RecordKind) (bs : Bytes) : (s.recordWritten k bs).mem = s.mem := by
  unfold State.recordWritten
  split <;> simp

@[simp] theorem imageWritten_mem (bs : Bytes) : (s.imageWritten bs).mem = s.mem := by
  unfold State.imageWritten
  dsimp only
  split <;> simp

@[simp] theorem setPaired_mem (k : RecordKind) (p : Paired) : (s.setPaired k p).mem = s.mem := by
  unfold State.setPaired
  split <;> simp

@[simp] theorem destroyPool_mem (n : Nat) : (s.destroyPool n).mem = s.mem := rfl

@[simp] theorem postBatch_mem (g : Ring) (b : Batch) : (s.postBatch g b).mem = s.mem := by simp [State.postBatch]

@[simp] theorem postProxy_mem (q : DestQueue) (b : Batch) : (s.postProxy q b).mem = s.mem := by
  unfold State.postProxy
  split <;> simp

@[simp] theorem mb7Refill_mem : s.mb7Refill.mem = s.mem := by simp [State.mb7Refill]

@[simp] theorem formLaunch_mem (c : Channel) (port : Nat) (b : Bytes) : (s.formLaunch c port b).mem = s.mem := by
  simp [State.formLaunch]

@[simp] theorem joinLaunch_mem (l : Launch) (port : Nat) (b : Bytes) : (s.joinLaunch l port b).mem = s.mem := by
  unfold State.joinLaunch
  dsimp only
  split <;> simp

@[simp] theorem setDuty_mem (d : Nat) : (s.setDuty d).mem = s.mem := by simp [State.setDuty]

@[simp] theorem throttle_mem : s.throttle.mem = s.mem := by
  unfold State.throttle
  dsimp only
  repeat' split
  all_goals simp

@[simp] theorem recoverJournal_mem : s.recoverJournal.mem = s.mem :=
  (recoverJournal_onlyMedia s).samePower.2

@[simp] theorem placeConv_mem (lba n : Nat) : (s.placeConv lba n).mem = s.mem := by
  unfold State.placeConv
  dsimp only
  repeat' split
  all_goals simp

@[simp] theorem replayStaged_mem (w : Staged) : (s.replayStaged w).mem = s.mem :=
  (replayStaged_samePower s w).2

@[simp] theorem abandonLate_mem (dest step : Nat) : (s.abandonLate dest step).mem = s.mem := by simp [State.abandonLate]

@[simp] theorem packDrop_mem (x : Sample) (reason : Nat) : (s.packDrop x reason).mem = s.mem := by simp [State.packDrop]

@[simp] theorem closePacked_mem (q : DestQueue) (b : OpenBatch) (p : PackSection) : (s.closePacked q b p).mem = s.mem := by
  unfold State.closePacked
  dsimp only
  split
  next h => exact takeBuffers_mem_of h
  next h => simp [takeBuffers_mem_of h]

@[simp] theorem doorbellFault_mem (p : QueuePair) (value : Nat) : (s.doorbellFault p value).mem = s.mem := by
  simp [State.doorbellFault]

@[simp] theorem settlePosition_mem (dest step : Nat) : (s.settlePosition dest step).mem = s.mem := by
  unfold State.settlePosition
  split <;> simp

@[simp] theorem raiseSlow_mem (x : Sample) : (s.raiseSlow x).mem = s.mem := by simp [State.raiseSlow]

@[simp] theorem fireCkpt_mem (step : Nat) : (s.fireCkpt step).mem = s.mem := by
  unfold State.fireCkpt
  split <;> simp

@[simp] theorem decideWeir_mem : s.decideWeir.mem = s.mem := by
  unfold State.decideWeir
  split <;> simp

@[simp] theorem setEpoch_mem (e : Nat) : (s.setEpoch e).mem = s.mem := by simp [State.setEpoch]

@[simp] theorem newSegment_mem (e : ArmedEvent) : (s.newSegment e).mem = s.mem := by
  unfold State.newSegment
  split <;> simp

@[simp] theorem newRecipe_mem (e : ArmedEvent) : (s.newRecipe e).mem = s.mem := by simp [State.newRecipe]

@[simp] theorem advanceEpochs_mem (step : Nat) : (s.advanceEpochs step).mem = s.mem := by
  unfold State.advanceEpochs
  split <;> simp

@[simp] theorem fireEvent_mem (e : ArmedEvent) : (s.fireEvent e).mem = s.mem := by
  unfold State.fireEvent
  split <;> simp

@[simp] theorem evalGates_mem : s.evalGates.mem = s.mem := rfl

@[simp] theorem becomeActive_mem (j : Join) : (s.becomeActive j).mem = s.mem := by simp [State.becomeActive]

@[simp] theorem reachJoins_mem : s.reachJoins.mem = s.mem := by
  unfold State.reachJoins
  refine foldl_mem (fun s j => ?_) _ _
  dsimp only
  repeat' split
  all_goals simp

@[simp] theorem takePublication_mem (c l : Gauge) (f : Nat) : (s.takePublication c l f).mem = s.mem := by
  simp [State.takePublication]

@[simp] theorem takePeerPublication_mem (c l : Gauge) (f : Nat) : (s.takePeerPublication c l f).mem = s.mem := by
  simp [State.takePeerPublication]

@[simp] theorem tableWrite_mem (o : Nat) (bs : Bytes) : (s.tableWrite o bs).mem = s.mem := by simp [State.tableWrite]

@[simp] theorem releaseLaunch_mem (l : Launch) : (s.releaseLaunch l).mem = s.mem := by simp [State.releaseLaunch]

@[simp] theorem clearLog_mem (i : LogId) : (s.clearLog i).mem = s.mem := rfl

@[simp] theorem slotDone_mem (n i : Nat) (x : Sample) : (s.slotDone n i x).mem = s.mem := by simp [State.slotDone]

@[simp] theorem endFetch_mem (f : Fetch) (bs : Bytes) : (s.endFetch f bs).mem = s.mem := by
  unfold State.endFetch
  dsimp only
  repeat' split
  all_goals simp

@[simp] theorem serdesLost_mem (die : Nat) : (s.serdesLost die).mem = s.mem := by simp [State.serdesLost]

@[simp] theorem serveDevice_mem (action : Nat) : (s.serveDevice action).mem = s.mem := by
  unfold State.serveDevice
  split
  · simp
  · split
    · exact foldl_mem (fun s x => twinSay_mem s _) _ _
    · rfl

@[simp] theorem bootNew_mem : s.bootNew.mem = s.mem := by simp [State.bootNew]

@[simp] theorem bootRetained_mem (k : Nat) : (s.bootRetained k).mem = s.mem := by
  unfold State.bootRetained
  dsimp only
  split <;> simp

@[simp] theorem clearBlocks_mem (lba n : Nat) : (s.clearBlocks lba n).mem = s.mem := rfl

@[simp] theorem resetZone_mem (z : Nat) : (s.resetZone z).mem = s.mem := by
  unfold State.resetZone
  dsimp only
  split <;> simp

@[simp] theorem programSlc_mem : s.programSlc.mem = s.mem := by
  unfold State.programSlc
  repeat' split
  all_goals simp

@[simp] theorem burnSeed_mem : s.burnSeed.mem = s.mem := by simp [State.burnSeed]

@[simp] theorem applyMap_mem : s.applyMap.mem = s.mem := by simp [State.applyMap]

@[simp] theorem bootMap_mem : s.bootMap.mem = s.mem := by
  unfold State.bootMap
  split <;> simp

@[simp] theorem selectAtBoot_mem (k : RecordKind) : (s.selectAtBoot k).mem = s.mem := by simp [State.selectAtBoot]

@[simp] theorem bootOwner_mem : s.bootOwner.mem = s.mem := by
  unfold State.bootOwner
  split <;> simp

@[simp] theorem bootRecords_mem (readable : Bool) : (s.bootRecords readable).mem = s.mem := by simp [State.bootRecords]

@[simp] theorem bootImage_mem (readable : Bool) : (s.bootImage readable).mem = s.mem := by
  unfold State.bootImage
  repeat' split
  all_goals simp

@[simp] theorem dropContext_mem (i : Nat) : (s.dropContext i).mem = s.mem := rfl

@[simp] theorem recordBuffers_mem (x : Sample) : (s.recordBuffers x).1.mem = s.mem := by
  unfold State.recordBuffers
  dsimp only
  split
  · split
    next h => exact takeBuffers_mem_of h
    next h => exact takeBuffers_mem_of h
  · rfl

theorem recordBuffers_mem_of {s : State} {x : Sample} {u : State} {y : Option Sample} (h : s.recordBuffers x = (u, y)) :
    u.mem = s.mem := by
  simpa [h] using recordBuffers_mem s x

@[simp] theorem beginStep_mem (p : Plan) (step : Nat) : (s.beginStep p step).mem = s.mem := by
  unfold State.beginStep
  dsimp only
  rw [foldl_mem (fun s d => ?_)]
  · simp
  · repeat' split
    all_goals simp

@[simp] theorem askDomain_mem (d : Nat) (on : Bool) (r : Req) : (s.askDomain d on r).mem = s.mem := by
  unfold State.askDomain
  dsimp only
  repeat' split
  all_goals simp

@[simp] theorem suspendFor_mem (c t : Nat) : (s.suspendFor c t).mem = s.mem := rfl

end

/-! ### The state an outcome leaves -/

@[simp] theorem settled_next (s t : State) : settled s (.next t) = t := rfl

@[simp] theorem settled_fault (s : State) (f : Fault) : settled s (.fault f) = s := rfl

@[simp] theorem settled_refused (s : State) (r : Refusal) : settled s (.refused r) = s := rfl

@[simp] theorem settled_ite (s : State) (c : Prop) [Decidable c] (a b : Out) :
    settled s (if c then a else b) = if c then settled s a else settled s b :=
  apply_ite (settled s) c a b

/-! ### Rows that leave memory as it was -/

section
variable (s : State)

@[simp] theorem execRespReady_mem (mailbox : Nat) : (settled s (execRespReady mailbox s)).mem = s.mem := by simp [execRespReady]

@[simp] theorem execQueueAdminSetup_mem (r : Req) (depth sqBase cqBase : Nat) :
    (settled s (execQueueAdminSetup r depth sqBase cqBase s)).mem = s.mem := by
  simp [execQueueAdminSetup]

@[simp] theorem execCollectiveStatus_mem (r : Req) (channel : Nat) :
    (settled s (execCollectiveStatus r channel s)).mem = s.mem := by
  simp [execCollectiveStatus]

@[simp] theorem execVdot_mem (ctx : Nat) (w : Fields) : (settled s (execVdot ctx w s)).mem = s.mem := by simp [execVdot]

@[simp] theorem execBrend_mem (ctx : Nat) (w : Fields) : (settled s (execBrend ctx w s)).mem = s.mem := by simp [execBrend]

@[simp] theorem execSsub_mem (ctx : Nat) (w : Fields) : (settled s (execSsub ctx w s)).mem = s.mem := by simp [execSsub]

@[simp] theorem execSget_mem (ctx : Nat) (w : Fields) : (settled s (execSget ctx w s)).mem = s.mem := by simp [execSget]

@[simp] theorem execCreditRead_mem (port : Nat) : (settled s (execCreditRead port s)).mem = s.mem := by
  unfold execCreditRead
  dsimp only
  split
  · rfl
  · split
    · rfl
    · split
      · rw [settled_next]
        split
        · rw [raise_mem, foldl_mem (fun s d => count_mem s ..), setRing_mem]
        · rw [foldl_mem (fun s d => count_mem s ..), setRing_mem]
      · simp

@[simp] theorem execPlanRead_mem (r : Req) : (settled s (execPlanRead r s)).mem = s.mem := by
  unfold execPlanRead
  split <;> simp

@[simp] theorem execMediaHealth_mem (r : Req) : (settled s (execMediaHealth r s)).mem = s.mem := by simp [execMediaHealth]

@[simp] theorem execVneg_mem (ctx : Nat) (w : Fields) : (settled s (execVneg ctx w s)).mem = s.mem := by simp [execVneg]

@[simp] theorem execBlockResetRelease_mem (target : Nat) : (settled s (execBlockResetRelease target s)).mem = s.mem := by
  simp [execBlockResetRelease]

@[simp] theorem execEventArm_mem (r : Req) (kind mark step item ckptKind ckptFlags ckptDest ckptAddr : Nat) :
    (settled s (execEventArm r kind mark step item ckptKind ckptFlags ckptDest ckptAddr s)).mem = s.mem := by
  simp [execEventArm]

@[simp] theorem execBufferHandoff_mem (pointer holder receiver : Nat) :
    (settled s (execBufferHandoff pointer holder receiver s)).mem = s.mem := by
  unfold execBufferHandoff
  split <;> simp

@[simp] theorem execGaugeTimeoutExpiry_mem : (settled s (execGaugeTimeoutExpiry s)).mem = s.mem := by
  simp [execGaugeTimeoutExpiry]

@[simp] theorem execPortLinkChange_mem (port : Nat) (up : Bool) : (settled s (execPortLinkChange port up s)).mem = s.mem := by
  unfold execPortLinkChange
  split <;> simp

@[simp] theorem execSput_mem (ctx : Nat) (w : Fields) : (settled s (execSput ctx w s)).mem = s.mem := by simp [execSput]

@[simp] theorem execVfma_mem (ctx : Nat) (w : Fields) : (settled s (execVfma ctx w s)).mem = s.mem := by simp [execVfma]

@[simp] theorem execTelemetrySet_mem (r : Req) (on interval destination place extent : Nat) :
    (settled s (execTelemetrySet r on interval destination place extent s)).mem = s.mem := by
  simp [execTelemetrySet]

@[simp] theorem execGaugeRead_mem (r : Req) (port : Nat) : (settled s (execGaugeRead r port s)).mem = s.mem := by
  simp [execGaugeRead]

@[simp] theorem execSsum_mem (ctx : Nat) (w : Fields) : (settled s (execSsum ctx w s)).mem = s.mem := by simp [execSsum]

@[simp] theorem execMaintenanceDatagram_mem (source : Nat) (message : Bytes) :
    (settled s (execMaintenanceDatagram source message s)).mem = s.mem := by
  simp [execMaintenanceDatagram]

@[simp] theorem execRiffleStatus_mem (r : Req) (riffle : Nat) : (settled s (execRiffleStatus r riffle s)).mem = s.mem := by
  simp [execRiffleStatus]

@[simp] theorem execVldc_mem (ctx : Nat) (w : Fields) : (settled s (execVldc ctx w s)).mem = s.mem := by simp [execVldc]

@[simp] theorem execMrRegister_mem (r : Req) (index address length vaBase domain access : Nat) :
    (settled s (execMrRegister r index address length vaBase domain access s)).mem = s.mem := by
  simp [execMrRegister]

@[simp] theorem execVstc_mem (ctx : Nat) (w : Fields) : (settled s (execVstc ctx w s)).mem = s.mem := by simp [execVstc]

@[simp] theorem execEndpointSet_mem (r : Req) (first : Nat) (entries : List Endpoint) :
    (settled s (execEndpointSet r first entries s)).mem = s.mem := by
  simp [execEndpointSet]

@[simp] theorem execDrawplateStallTimeout_mem (plate stream : Nat) :
    (settled s (execDrawplateStallTimeout plate stream s)).mem = s.mem := by
  simp [execDrawplateStallTimeout]

@[simp] theorem execPlanQuery_mem (r : Req) (plan mode a b c : Nat) :
    (settled s (execPlanQuery r plan mode a b c s)).mem = s.mem := by
  unfold execPlanQuery
  repeat' split
  all_goals simp

@[simp] theorem execAnvilStatus_mem (r : Req) : (settled s (execAnvilStatus r s)).mem = s.mem := by simp [execAnvilStatus]

@[simp] theorem execVmul_mem (ctx : Nat) (w : Fields) : (settled s (execVmul ctx w s)).mem = s.mem := by simp [execVmul]

@[simp] theorem execVgaths_mem (ctx : Nat) (w : Fields) : (settled s (execVgaths ctx w s)).mem = s.mem := by simp [execVgaths]

@[simp] theorem execResidueRetry_mem (port : Nat) : (settled s (execResidueRetry port s)).mem = s.mem := by
  simp [execResidueRetry]

@[simp] theorem execMboxDataScan_mem (message : Bytes) : (settled s (execMboxDataScan message s)).mem = s.mem := by
  simp [execMboxDataScan]

@[simp] theorem execLoop_mem (ctx : Nat) (w : Fields) : (settled s (execLoop ctx w s)).mem = s.mem := by simp [execLoop]

@[simp] theorem execConfigWrite_mem (r : Req) (image : Bytes) : (settled s (execConfigWrite r image s)).mem = s.mem := by
  simp [execConfigWrite]

@[simp] theorem execProgramLoad_mem (r : Req) (program source address length : Nat) :
    (settled s (execProgramLoad r program source address length s)).mem = s.mem := by
  unfold execProgramLoad
  repeat' split
  all_goals simp

@[simp] theorem execBrz_mem (ctx : Nat) (w : Fields) : (settled s (execBrz ctx w s)).mem = s.mem := by simp [execBrz]

@[simp] theorem execVqnt_mem (ctx : Nat) (w : Fields) : (settled s (execVqnt ctx w s)).mem = s.mem := by simp [execVqnt]

@[simp] theorem execPoolRead_mem (r : Req) (pool : Nat) : (settled s (execPoolRead r pool s)).mem = s.mem := by
  unfold execPoolRead
  split <;> simp

@[simp] theorem execTreePlanSet_mem (r : Req) (policy : Nat) : (settled s (execTreePlanSet r policy s)).mem = s.mem := by
  simp [execTreePlanSet]

@[simp] theorem execRdmaAddrSet_mem (r : Req) (mac : Nat) (gids : List Nat) :
    (settled s (execRdmaAddrSet r mac gids s)).mem = s.mem := by
  simp [execRdmaAddrSet]

@[simp] theorem execVmin_mem (ctx : Nat) (w : Fields) : (settled s (execVmin ctx w s)).mem = s.mem := by simp [execVmin]

@[simp] theorem execChannelConfig_mem (r : Req) (channel weight timeout : Nat) (spec : Bytes) :
    (settled s (execChannelConfig r channel weight timeout spec s)).mem = s.mem := by
  simp [execChannelConfig]

@[simp] theorem execPlanStop_mem (r : Req) : (settled s (execPlanStop r s)).mem = s.mem := by simp [execPlanStop]

@[simp] theorem execFwImageCommit_mem (r : Req) (action : Nat) : (settled s (execFwImageCommit r action s)).mem = s.mem := by
  simp [execFwImageCommit]

@[simp] theorem execShaperSet_mem (r : Req) (port queue rate burst overhead : Nat) :
    (settled s (execShaperSet r port queue rate burst overhead s)).mem = s.mem := by
  unfold execShaperSet
  dsimp only
  split <;> simp

@[simp] theorem execVcmp_mem (ctx : Nat) (w : Fields) : (settled s (execVcmp ctx w s)).mem = s.mem := by simp [execVcmp]

@[simp] theorem execRecipeDrop_mem (r : Req) (recipe : Nat) : (settled s (execRecipeDrop r recipe s)).mem = s.mem := by
  simp [execRecipeDrop]

@[simp] theorem execMediaFormat_mem (r : Req) (convSize spareReserve : Nat) :
    (settled s (execMediaFormat r convSize spareReserve s)).mem = s.mem := by
  simp [execMediaFormat]

@[simp] theorem execRingPieceResend_mem (channel seq : Nat) : (settled s (execRingPieceResend channel seq s)).mem = s.mem := by
  unfold execRingPieceResend
  dsimp only
  split <;> simp

@[simp] theorem execWeirArm_mem (r : Req) (mark actions step gateList : Nat) :
    (settled s (execWeirArm r mark actions step gateList s)).mem = s.mem := by
  simp [execWeirArm]

@[simp] theorem execRetireRecordWrite_mem : (settled s (execRetireRecordWrite s)).mem = s.mem := by simp [execRetireRecordWrite]

@[simp] theorem execNodeRun_mem (launch chunk rank level node : Nat) :
    (settled s (execNodeRun launch chunk rank level node s)).mem = s.mem := by
  unfold execNodeRun
  dsimp only
  repeat' split
  all_goals simp

@[simp] theorem execPcnt_mem (ctx : Nat) (w : Fields) : (settled s (execPcnt ctx w s)).mem = s.mem := by simp [execPcnt]

@[simp] theorem execRiffleEccError_mem (riffle : Nat) : (settled s (execRiffleEccError riffle s)).mem = s.mem := by
  simp [execRiffleEccError]

@[simp] theorem execFeedQueueSet_mem (r : Req) (dest depth low : Nat) :
    (settled s (execFeedQueueSet r dest depth low s)).mem = s.mem := by
  simp [execFeedQueueSet]

@[simp] theorem execDieRebuildComplete_mem (stripeSet : Nat) :
    (settled s (execDieRebuildComplete stripeSet s)).mem = s.mem := by
  simp [execDieRebuildComplete]

@[simp] theorem execBrnz_mem (ctx : Nat) (w : Fields) : (settled s (execBrnz ctx w s)).mem = s.mem := by simp [execBrnz]

@[simp] theorem execPoolCacheSpill_mem (pool : Nat) : (settled s (execPoolCacheSpill pool s)).mem = s.mem := by
  unfold execPoolCacheSpill
  split <;> simp

@[simp] theorem execJobSeed_mem (r : Req) (seed : Bytes) : (settled s (execJobSeed r seed s)).mem = s.mem := by
  simp [execJobSeed]

@[simp] theorem execD2dReplayFail_mem (link : Nat) : (settled s (execD2dReplayFail link s)).mem = s.mem := by
  simp [execD2dReplayFail]

@[simp] theorem execPand_mem (ctx : Nat) (w : Fields) : (settled s (execPand ctx w s)).mem = s.mem := by simp [execPand]

@[simp] theorem execDetRecordSign_mem (r : Req) (nonce : Bytes) : (settled s (execDetRecordSign r nonce s)).mem = s.mem := by
  simp [execDetRecordSign]

@[simp] theorem execClassMapSet_mem (r : Req) (port : Nat) (tables : ClassMap) :
    (settled s (execClassMapSet r port tables s)).mem = s.mem := by
  unfold execClassMapSet
  split <;> simp

@[simp] theorem execFormationRetry_mem : (settled s (execFormationRetry s)).mem = s.mem := by
  unfold execFormationRetry
  split <;> simp

@[simp] theorem execProxyBatchReceive_mem (dest step : Nat) (last : Bool) (header payload : Bytes) :
    (settled s (execProxyBatchReceive dest step last header payload s)).mem = s.mem := by
  unfold execProxyBatchReceive
  split <;> simp

@[simp] theorem execGateListLoad_mem (r : Req) (handle : Nat) (list : Bytes) :
    (settled s (execGateListLoad r handle list s)).mem = s.mem := by
  simp [execGateListLoad]

@[simp] theorem execSor_mem (ctx : Nat) (w : Fields) : (settled s (execSor ctx w s)).mem = s.mem := by simp [execSor]

@[simp] theorem execAnvilTileTimeout_mem : (settled s (execAnvilTileTimeout s)).mem = s.mem := by simp [execAnvilTileTimeout]

@[simp] theorem execPnot_mem (ctx : Nat) (w : Fields) : (settled s (execPnot ctx w s)).mem = s.mem := by simp [execPnot]

@[simp] theorem execMediaPolicySet_mem (r : Req) (policy : PolicyParams) :
    (settled s (execMediaPolicySet r policy s)).mem = s.mem := by
  simp [execMediaPolicySet]

@[simp] theorem execVmax_mem (ctx : Nat) (w : Fields) : (settled s (execVmax ctx w s)).mem = s.mem := by simp [execVmax]

@[simp] theorem execKernelBoundReached_mem (ctx : Nat) : (settled s (execKernelBoundReached ctx s)).mem = s.mem := by
  unfold execKernelBoundReached
  repeat' split
  all_goals simp

@[simp] theorem execAnswerTimeout_mem (r : Req) : (settled s (execAnswerTimeout r s)).mem = s.mem := by
  unfold execAnswerTimeout
  split <;> simp

@[simp] theorem execEngineYield_mem (riffle slot : Nat) : (settled s (execEngineYield riffle slot s)).mem = s.mem := by
  unfold execEngineYield
  dsimp only
  repeat' split
  all_goals simp

@[simp] theorem execVcomp_mem (ctx : Nat) (w : Fields) : (settled s (execVcomp ctx w s)).mem = s.mem := by simp [execVcomp]

@[simp] theorem execDetokDone_mem (plate stream : Nat) : (settled s (execDetokDone plate stream s)).mem = s.mem := by
  unfold execDetokDone
  dsimp only
  repeat' split
  · simp
  · simp
  next h => exact takeBuffers_mem_of h
  · simp [takeBuffers_mem_of ‹s.takeBuffers _ _ = _›]
  · simp [takeBuffers_mem_of ‹s.takeBuffers _ _ = _›]
  · rfl
  · rfl

@[simp] theorem execPlanStart_mem (r : Req) (plan recipe : Nat) : (settled s (execPlanStart r plan recipe s)).mem = s.mem := by
  unfold execPlanStart
  split <;> simp

@[simp] theorem execBrany_mem (ctx : Nat) (w : Fields) : (settled s (execBrany ctx w s)).mem = s.mem := by simp [execBrany]

@[simp] theorem execGaugeConfig_mem (r : Req) (jobTag maxJump timeout horizon lead : Nat) :
    (settled s (execGaugeConfig r jobTag maxJump timeout horizon lead s)).mem = s.mem := by
  simp [execGaugeConfig]

@[simp] theorem execFrameReceive_mem (port : Nat) (frame : Frame) :
    (settled s (execFrameReceive port frame s)).mem = s.mem := by
  unfold execFrameReceive
  dsimp only
  repeat' split
  all_goals simp

@[simp] theorem execEcho_mem (r : Req) (data : Bytes) : (settled s (execEcho r data s)).mem = s.mem := by simp [execEcho]

@[simp] theorem execDeviceSummarySend_mem : (settled s (execDeviceSummarySend s)).mem = s.mem := by
  unfold execDeviceSummarySend
  split <;> simp

@[simp] theorem execPoolAllocate_mem (pool : Nat) (ready : List Nat) :
    (settled s (execPoolAllocate pool ready s)).mem = s.mem := by
  unfold execPoolAllocate
  dsimp only
  repeat' split
  all_goals simp

@[simp] theorem execEventCancel_mem (r : Req) (handle : Nat) : (settled s (execEventCancel r handle s)).mem = s.mem := by
  simp [execEventCancel]

@[simp] theorem execAllocReq_mem (block value : Nat) : (settled s (execAllocReq block value s)).mem = s.mem := by
  simp [execAllocReq]

@[simp] theorem execLaunchTimeoutExpiry_mem (launch : Nat) : (settled s (execLaunchTimeoutExpiry launch s)).mem = s.mem := by
  unfold execLaunchTimeoutExpiry
  split <;> simp

@[simp] theorem execIdentityRead_mem (r : Req) : (settled s (execIdentityRead r s)).mem = s.mem := by simp [execIdentityRead]

@[simp] theorem execSlcFold_mem (superblock : Nat) : (settled s (execSlcFold superblock s)).mem = s.mem := by
  unfold execSlcFold
  split <;> simp

@[simp] theorem execGroupStatus_mem (r : Req) : (settled s (execGroupStatus r s)).mem = s.mem := by simp [execGroupStatus]

@[simp] theorem execIngotClose_mem : (settled s (execIngotClose s)).mem = s.mem := by simp [execIngotClose]

@[simp] theorem execVmerge_mem (ctx : Nat) (w : Fields) : (settled s (execVmerge ctx w s)).mem = s.mem := by simp [execVmerge]

@[simp] theorem execRstOutNRelease_mem : (settled s (execRstOutNRelease s)).mem = s.mem := by simp [execRstOutNRelease]

@[simp] theorem execWeirStatus_mem (r : Req) : (settled s (execWeirStatus r s)).mem = s.mem := by
  unfold execWeirStatus
  split <;> simp

@[simp] theorem execHalt_mem (ctx : Nat) (w : Fields) : (settled s (execHalt ctx w s)).mem = s.mem := by simp [execHalt]

@[simp] theorem execSynthFlush_mem (r : Req) : (settled s (execSynthFlush r s)).mem = s.mem := by simp [execSynthFlush]

@[simp] theorem execGroupForm_mem (r : Req) : (settled s (execGroupForm r s)).mem = s.mem := by simp [execGroupForm]

@[simp] theorem execVzero_mem (ctx : Nat) (w : Fields) : (settled s (execVzero ctx w s)).mem = s.mem := by simp [execVzero]

@[simp] theorem execDatasetLoad_mem (r : Req) (source address length : Nat) :
    (settled s (execDatasetLoad r source address length s)).mem = s.mem := by
  unfold execDatasetLoad
  repeat' split
  all_goals simp

@[simp] theorem execRecipeLoad_mem (r : Req) (source address length : Nat) :
    (settled s (execRecipeLoad r source address length s)).mem = s.mem := by
  unfold execRecipeLoad
  repeat' split
  all_goals simp

@[simp] theorem execUnitMapRead_mem (r : Req) : (settled s (execUnitMapRead r s)).mem = s.mem := by simp [execUnitMapRead]

@[simp] theorem execHelloSend_mem : (settled s (execHelloSend s)).mem = s.mem := by
  unfold execHelloSend
  split <;> simp

@[simp] theorem execQpModify_mem (r : Req) (index : Nat) (attributes : Bytes) :
    (settled s (execQpModify r index attributes s)).mem = s.mem := by
  unfold execQpModify
  split <;> simp

@[simp] theorem execPoolCacheRefill_mem (pool : Nat) : (settled s (execPoolCacheRefill pool s)).mem = s.mem := by
  unfold execPoolCacheRefill
  split <;> simp

@[simp] theorem execCcProfileSet_mem (r : Req) (profile target ai beta cwndMin cwndMax cwndInit cnpEnable : Nat) :
    (settled s (execCcProfileSet r profile target ai beta cwndMin cwndMax cwndInit cnpEnable s)).mem = s.mem := by
  simp [execCcProfileSet]

@[simp] theorem execSampleReportRead_mem (r : Req) (first count : Nat) :
    (settled s (execSampleReportRead r first count s)).mem = s.mem := by
  simp [execSampleReportRead]

@[simp] theorem execGaugePublish_mem : (settled s (execGaugePublish s)).mem = s.mem := by simp [execGaugePublish]

@[simp] theorem execMediaPolicyGet_mem (r : Req) : (settled s (execMediaPolicyGet r s)).mem = s.mem := by
  simp [execMediaPolicyGet]

@[simp] theorem execVoteReceive_mem (qp : Nat) : (settled s (execVoteReceive qp s)).mem = s.mem := by
  unfold execVoteReceive
  split <;> simp

end

section
variable (s : State)

@[simp] theorem execVsub_mem (ctx : Nat) (w : Fields) : (settled s (execVsub ctx w s)).mem = s.mem := by simp [execVsub]

@[simp] theorem execSshr_mem (ctx : Nat) (w : Fields) : (settled s (execSshr ctx w s)).mem = s.mem := by simp [execSshr]

@[simp] theorem execVbcast_mem (ctx : Nat) (w : Fields) : (settled s (execVbcast ctx w s)).mem = s.mem := by simp [execVbcast]

@[simp] theorem execCalRead_mem (r : Req) (layer field : Nat) : (settled s (execCalRead r layer field s)).mem = s.mem := by
  simp [execCalRead]

@[simp] theorem execTextStreamAssign_mem (sample name : Nat) :
    (settled s (execTextStreamAssign sample name s)).mem = s.mem := by
  unfold execTextStreamAssign
  repeat' split
  all_goals simp

@[simp] theorem execWearLevelStart_mem : (settled s (execWearLevelStart s)).mem = s.mem := by
  unfold execWearLevelStart
  dsimp only
  repeat' split
  all_goals simp

@[simp] theorem execVcvt_mem (ctx : Nat) (w : Fields) : (settled s (execVcvt ctx w s)).mem = s.mem := by simp [execVcvt]

@[simp] theorem execSadd_mem (ctx : Nat) (w : Fields) : (settled s (execSadd ctx w s)).mem = s.mem := by simp [execSadd]

@[simp] theorem execWeirOpenTime_mem : (settled s (execWeirOpenTime s)).mem = s.mem := by
  unfold execWeirOpenTime
  repeat' split
  all_goals simp

@[simp] theorem execD2dRetrainTimeout_mem (link : Nat) : (settled s (execD2dRetrainTimeout link s)).mem = s.mem := by
  simp [execD2dRetrainTimeout]

@[simp] theorem execResidualDrop_mem (r : Req) (store : Nat) : (settled s (execResidualDrop r store s)).mem = s.mem := by
  simp [execResidualDrop]

@[simp] theorem execManagerRestore_mem (r : Req) : (settled s (execManagerRestore r s)).mem = s.mem := by
  simp [execManagerRestore]

@[simp] theorem execResetRelease_mem (bootSrc clkMode : BitVec 2) :
    (settled s (execResetRelease bootSrc clkMode s)).mem = s.mem := by
  simp [execResetRelease]

@[simp] theorem execSelfTestDone_mem (target : Nat) (pass : Bool) :
    (settled s (execSelfTestDone target pass s)).mem = s.mem := by
  unfold execSelfTestDone
  dsimp only
  repeat' split
  all_goals simp

@[simp] theorem execGateListDrop_mem (r : Req) (handle : Nat) : (settled s (execGateListDrop r handle s)).mem = s.mem := by
  simp [execGateListDrop]

@[simp] theorem execNodeRunEnd_mem (ctx : Nat) (fate : NodeEnd) : (settled s (execNodeRunEnd ctx fate s)).mem = s.mem := by
  unfold execNodeRunEnd
  repeat' split
  all_goals simp

@[simp] theorem execVhsum_mem (ctx : Nat) (w : Fields) : (settled s (execVhsum ctx w s)).mem = s.mem := by simp [execVhsum]

@[simp] theorem execGroupConfig_mem (r : Req) (groupId side deviceId managerId twin expected formTimeout mgrTimeout twinLag
    : Nat) :
    (settled s (execGroupConfig r groupId side deviceId managerId twin expected formTimeout mgrTimeout twinLag s)).mem = s.mem := by
  simp [execGroupConfig]

@[simp] theorem execRdmaPacketSend_mem (qp : Nat) : (settled s (execRdmaPacketSend qp s)).mem = s.mem := by
  unfold execRdmaPacketSend
  split <;> simp

@[simp] theorem execPowerRead_mem (r : Req) : (settled s (execPowerRead r s)).mem = s.mem := by simp [execPowerRead]

@[simp] theorem execSmovi_mem (ctx : Nat) (w : Fields) : (settled s (execSmovi ctx w s)).mem = s.mem := by simp [execSmovi]

@[simp] theorem execGaugeSourceCtrl_mem (r : Req) (port action mark step : Nat) :
    (settled s (execGaugeSourceCtrl r port action mark step s)).mem = s.mem := by
  simp [execGaugeSourceCtrl]

@[simp] theorem execFilterStatus_mem (r : Req) (stage : Nat) : (settled s (execFilterStatus r stage s)).mem = s.mem := by
  simp [execFilterStatus]

@[simp] theorem execQpQuery_mem (r : Req) (index : Nat) : (settled s (execQpQuery r index s)).mem = s.mem := by
  unfold execQpQuery
  split <;> simp

@[simp] theorem execPoolCreate_mem (r : Req) (pool space bufSize count base ringBase heldBase : Nat) :
    (settled s (execPoolCreate r pool space bufSize count base ringBase heldBase s)).mem = s.mem := by
  simp [execPoolCreate]

@[simp] theorem execPoolQuotaSet_mem (r : Req) (pool first : Nat) (quotas : List Nat) :
    (settled s (execPoolQuotaSet r pool first quotas s)).mem = s.mem := by
  simp [execPoolQuotaSet]

@[simp] theorem execThrottleSet_mem (r : Req) (limit : Nat) : (settled s (execThrottleSet r limit s)).mem = s.mem := by
  simp [execThrottleSet]

@[simp] theorem execPolicerSet_mem (r : Req) (policer : Nat) (params : PolicerParams) :
    (settled s (execPolicerSet r policer params s)).mem = s.mem := by
  simp [execPolicerSet]

@[simp] theorem execPortConfig_mem (r : Req) (block : Nat) (entries : List PortEntry) :
    (settled s (execPortConfig r block entries s)).mem = s.mem := by
  simp [execPortConfig]

@[simp] theorem execMcastGroupSet_mem (r : Req) (group : Nat) (bitmap : BitVec 256) :
    (settled s (execMcastGroupSet r group bitmap s)).mem = s.mem := by
  simp [execMcastGroupSet]

@[simp] theorem execRdmaStoreSet_mem (r : Req) (store address : Nat) :
    (settled s (execRdmaStoreSet r store address s)).mem = s.mem := by
  simp [execRdmaStoreSet]

@[simp] theorem execQueueConfig_mem (r : Req) (port queue : Nat) (params : QueueParams) :
    (settled s (execQueueConfig r port queue params s)).mem = s.mem := by
  simp [execQueueConfig]

@[simp] theorem execEventMaskSet_mem (r : Req) (bitmap : Bytes) : (settled s (execEventMaskSet r bitmap s)).mem = s.mem := by
  simp [execEventMaskSet]

@[simp] theorem entryCommand_mem (code : Nat) (bs : Bytes) : (settled s (s.entryCommand code bs)).mem = s.mem := by
  unfold State.entryCommand
  dsimp only
  split
  all_goals simp

@[simp] theorem executeEntry_mem (code : Nat) (bs : Bytes) : (s.executeEntry code bs).mem = s.mem := by
  unfold State.executeEntry
  dsimp only
  rw [entryCommand_mem]

@[simp] theorem applyEntry_mem (e : CfgEntry) : (s.applyEntry e).mem = s.mem := by
  unfold State.applyEntry
  dsimp only
  repeat' split
  all_goals simp

@[simp] theorem applyCopy_mem : s.applyCopy.mem = s.mem := by simp [State.applyCopy]

@[simp] theorem execConfigApply_mem : (settled s (execConfigApply s)).mem = s.mem := by simp [execConfigApply]

@[simp] theorem execVadd_mem (ctx : Nat) (w : Fields) : (settled s (execVadd ctx w s)).mem = s.mem := by simp [execVadd]

@[simp] theorem execJournalCommit_mem : (settled s (execJournalCommit s)).mem = s.mem := by simp [execJournalCommit]

@[simp] theorem execLogRead_mem (r : Req) (log offset length : Nat) :
    (settled s (execLogRead r log offset length s)).mem = s.mem := by
  simp [execLogRead]

@[simp] theorem execStset_mem (ctx : Nat) (w : Fields) : (settled s (execStset ctx w s)).mem = s.mem := by simp [execStset]

@[simp] theorem execSwitchStatus_mem (r : Req) : (settled s (execSwitchStatus r s)).mem = s.mem := by simp [execSwitchStatus]

@[simp] theorem execSampleDispatch_mem (sample : Nat) : (settled s (execSampleDispatch sample s)).mem = s.mem := by
  unfold execSampleDispatch
  dsimp only
  repeat' split
  all_goals simp

@[simp] theorem execDrawplateStatus_mem (r : Req) (plate : Nat) : (settled s (execDrawplateStatus r plate s)).mem = s.mem := by
  simp [execDrawplateStatus]

@[simp] theorem execSaddi_mem (ctx : Nat) (w : Fields) : (settled s (execSaddi ctx w s)).mem = s.mem := by simp [execSaddi]

@[simp] theorem execEmitp_mem (ctx : Nat) (w : Fields) : (settled s (execEmitp ctx w s)).mem = s.mem := by simp [execEmitp]

@[simp] theorem execGaugeFrame_mem (port : Nat) (payload : Bytes) :
    (settled s (execGaugeFrame port payload s)).mem = s.mem := by
  simp [execGaugeFrame]

@[simp] theorem execChannelProgramSet_mem (r : Req) (channel program : Nat) :
    (settled s (execChannelProgramSet r channel program s)).mem = s.mem := by
  simp [execChannelProgramSet]

@[simp] theorem execVsel_mem (ctx : Nat) (w : Fields) : (settled s (execVsel ctx w s)).mem = s.mem := by simp [execVsel]

@[simp] theorem execSmul_mem (ctx : Nat) (w : Fields) : (settled s (execSmul ctx w s)).mem = s.mem := by simp [execSmul]

@[simp] theorem execScmp_mem (ctx : Nat) (w : Fields) : (settled s (execScmp ctx w s)).mem = s.mem := by simp [execScmp]

@[simp] theorem execAnvilJobComplete_mem (queue : Nat) : (settled s (execAnvilJobComplete queue s)).mem = s.mem := by
  unfold execAnvilJobComplete
  dsimp only
  split
  · split
    next h => simp [endJob_mem_of h]
    next h => exact endJob_mem_of h
  · rfl

@[simp] theorem execRingLinkDown_mem (out : Bool) : (settled s (execRingLinkDown out s)).mem = s.mem := by
  simp [execRingLinkDown]

@[simp] theorem execProgramRead_mem (r : Req) (program : Nat) : (settled s (execProgramRead r program s)).mem = s.mem := by
  simp [execProgramRead]

@[simp] theorem execBudgetExceeded_mem (riffle slot : Nat) : (settled s (execBudgetExceeded riffle slot s)).mem = s.mem := by
  unfold execBudgetExceeded
  repeat' split
  all_goals simp

@[simp] theorem execSand_mem (ctx : Nat) (w : Fields) : (settled s (execSand ctx w s)).mem = s.mem := by simp [execSand]

@[simp] theorem execSampleScreen_mem (sample : Nat) : (settled s (execSampleScreen sample s)).mem = s.mem := by
  unfold execSampleScreen
  repeat' split
  all_goals simp

@[simp] theorem execTwinKeepaliveSend_mem : (settled s (execTwinKeepaliveSend s)).mem = s.mem := by simp [execTwinKeepaliveSend]

@[simp] theorem execWeirOpen_mem (tOpen : Nat) : (settled s (execWeirOpen tOpen s)).mem = s.mem := by
  unfold execWeirOpen
  split <;> simp

@[simp] theorem execMbDoorbell_mem (mailbox : Nat) : (settled s (execMbDoorbell mailbox s)).mem = s.mem := by
  simp [execMbDoorbell]

@[simp] theorem execCounterRead_mem (r : Req) (block first count : Nat) :
    (settled s (execCounterRead r block first count s)).mem = s.mem := by
  simp [execCounterRead]

@[simp] theorem execBufferReturn_mem (requester pointer : Nat) :
    (settled s (execBufferReturn requester pointer s)).mem = s.mem := by
  simp [execBufferReturn]

@[simp] theorem execRelocationStart_mem (superblock : Nat) : (settled s (execRelocationStart superblock s)).mem = s.mem := by
  unfold execRelocationStart
  split <;> simp

@[simp] theorem execEgressSelect_mem (port : Nat) : (settled s (execEgressSelect port s)).mem = s.mem := by
  unfold execEgressSelect
  repeat' split
  all_goals simp

@[simp] theorem execSsra_mem (ctx : Nat) (w : Fields) : (settled s (execSsra ctx w s)).mem = s.mem := by simp [execSsra]

@[simp] theorem execReseqArrival_mem (ingress egress number : Nat) (eccError : Bool) :
    (settled s (execReseqArrival ingress egress number eccError s)).mem = s.mem := by
  unfold execReseqArrival
  split <;> simp

@[simp] theorem execAckTimer_mem (qp : Nat) : (settled s (execAckTimer qp s)).mem = s.mem := by
  unfold execAckTimer
  split <;> simp

@[simp] theorem execBatchStart_mem (dest : Nat) : (settled s (execBatchStart dest s)).mem = s.mem := by
  unfold execBatchStart
  repeat' split
  all_goals simp

@[simp] theorem execPor_mem (ctx : Nat) (w : Fields) : (settled s (execPor ctx w s)).mem = s.mem := by simp [execPor]

@[simp] theorem execUcieModuleLost_mem (module : Nat) : (settled s (execUcieModuleLost module s)).mem = s.mem := by
  simp [execUcieModuleLost]

@[simp] theorem execVabs_mem (ctx : Nat) (w : Fields) : (settled s (execVabs ctx w s)).mem = s.mem := by simp [execVabs]

@[simp] theorem execRnrTimerExpiry_mem (qp : Nat) : (settled s (execRnrTimerExpiry qp s)).mem = s.mem := by
  unfold execRnrTimerExpiry
  split <;> simp

@[simp] theorem execVgathc_mem (ctx : Nat) (w : Fields) : (settled s (execVgathc ctx w s)).mem = s.mem := by simp [execVgathc]

@[simp] theorem execDeviceAdmit_mem (r : Req) (device : Nat) : (settled s (execDeviceAdmit r device s)).mem = s.mem := by
  simp [execDeviceAdmit]

@[simp] theorem execChannelRead_mem (r : Req) (channel : Nat) : (settled s (execChannelRead r channel s)).mem = s.mem := by
  simp [execChannelRead]

@[simp] theorem execDetModeSet_mem (r : Req) (mode : Nat) : (settled s (execDetModeSet r mode s)).mem = s.mem := by
  simp [execDetModeSet]

@[simp] theorem execFwImageWrite_mem (r : Req) (offset : Nat) (data : Bytes) :
    (settled s (execFwImageWrite r offset data s)).mem = s.mem := by
  simp [execFwImageWrite]

@[simp] theorem execVocabDrop_mem (r : Req) (vocab : Nat) : (settled s (execVocabDrop r vocab s)).mem = s.mem := by
  simp [execVocabDrop]

@[simp] theorem execAnvilRowTileSubmit_mem (stage : Nat) : (settled s (execAnvilRowTileSubmit stage s)).mem = s.mem := by
  simp [execAnvilRowTileSubmit]

@[simp] theorem execDomainPowerGood_mem (domain : Nat) (good : Bool) :
    (settled s (execDomainPowerGood domain good s)).mem = s.mem := by
  simp [execDomainPowerGood]

@[simp] theorem execDistributionReceive_mem (i : Item) : (settled s (execDistributionReceive i s)).mem = s.mem := by
  unfold execDistributionReceive
  repeat' split
  all_goals simp

@[simp] theorem execViota_mem (ctx : Nat) (w : Fields) : (settled s (execViota ctx w s)).mem = s.mem := by simp [execViota]

@[simp] theorem execAnvilEccError_mem : (settled s (execAnvilEccError s)).mem = s.mem := by simp [execAnvilEccError]

@[simp] theorem execReseqRelease_mem (dest : Nat) : (settled s (execReseqRelease dest s)).mem = s.mem := by
  unfold execReseqRelease
  repeat' split
  all_goals simp

@[simp] theorem execFwStatusRead_mem (r : Req) : (settled s (execFwStatusRead r s)).mem = s.mem := by simp [execFwStatusRead]

@[simp] theorem execSlotHeaderCheck_mem (riffle slot : Nat) : (settled s (execSlotHeaderCheck riffle slot s)).mem = s.mem := by
  unfold execSlotHeaderCheck
  repeat' split
  all_goals simp

@[simp] theorem execAnvilRowTileTimeout_mem (stage : Nat) : (settled s (execAnvilRowTileTimeout stage s)).mem = s.mem := by
  simp [execAnvilRowTileTimeout]

@[simp] theorem execPxor_mem (ctx : Nat) (w : Fields) : (settled s (execPxor ctx w s)).mem = s.mem := by simp [execPxor]

@[simp] theorem execDrawplateEccError_mem (plate : Nat) : (settled s (execDrawplateEccError plate s)).mem = s.mem := by
  simp [execDrawplateEccError]

@[simp] theorem execLpddr6PatrolScrub_mem (channel lines corrected : Nat) :
    (settled s (execLpddr6PatrolScrub channel lines corrected s)).mem = s.mem := by
  simp [execLpddr6PatrolScrub]

@[simp] theorem execSxor_mem (ctx : Nat) (w : Fields) : (settled s (execSxor ctx w s)).mem = s.mem := by simp [execSxor]

@[simp] theorem execDomainDrainDone_mem (domain : Nat) : (settled s (execDomainDrainDone domain s)).mem = s.mem := by
  simp [execDomainDrainDone]

@[simp] theorem execPoolDestroy_mem (r : Req) (pool : Nat) : (settled s (execPoolDestroy r pool s)).mem = s.mem := by
  simp [execPoolDestroy]

@[simp] theorem execMailboxStatus_mem (r : Req) (mailbox : Nat) : (settled s (execMailboxStatus r mailbox s)).mem = s.mem := by
  simp [execMailboxStatus]

@[simp] theorem execBr_mem (ctx : Nat) (w : Fields) : (settled s (execBr ctx w s)).mem = s.mem := by simp [execBr]

@[simp] theorem execDupSetDrop_mem (r : Req) (set : Nat) : (settled s (execDupSetDrop r set s)).mem = s.mem := by
  simp [execDupSetDrop]

@[simp] theorem execCatalogueBuild_mem (r : Req) (dataset : Nat) :
    (settled s (execCatalogueBuild r dataset s)).mem = s.mem := by
  simp [execCatalogueBuild]

@[simp] theorem execSynthConfig_mem (r : Req) (pool dataset nextRecord firstZone lastZone records bytes : Nat) :
    (settled s (execSynthConfig r pool dataset nextRecord firstZone lastZone records bytes s)).mem = s.mem := by
  simp [execSynthConfig]

@[simp] theorem execFeedSlotWrite_mem (dest : Nat) : (settled s (execFeedSlotWrite dest s)).mem = s.mem := by
  unfold execFeedSlotWrite
  repeat' split
  all_goals simp

@[simp] theorem execCheckpointAckReceive_mem (device crc length : Nat) :
    (settled s (execCheckpointAckReceive device crc length s)).mem = s.mem := by
  simp [execCheckpointAckReceive]

@[simp] theorem execDupSetLoad_mem (r : Req) (source address length : Nat) :
    (settled s (execDupSetLoad r source address length s)).mem = s.mem := by
  unfold execDupSetLoad
  repeat' split
  all_goals simp

@[simp] theorem execCollPortSet_mem (r : Req) (port qp : Nat) : (settled s (execCollPortSet r port qp s)).mem = s.mem := by
  simp [execCollPortSet]

@[simp] theorem execTextEncodeDone_mem (plate stream : Nat) : (settled s (execTextEncodeDone plate stream s)).mem = s.mem := by
  unfold execTextEncodeDone
  dsimp only
  repeat' split
  · simp
  · simp
  next h => exact takeBuffers_mem_of h
  next h => simp [takeBuffers_mem_of h]
  · rfl
  · rfl

@[simp] theorem execReseqHoldTimeout_mem (egress : Nat) : (settled s (execReseqHoldTimeout egress s)).mem = s.mem := by
  simp [execReseqHoldTimeout]

@[simp] theorem execScrc_mem (ctx : Nat) (w : Fields) : (settled s (execScrc ctx w s)).mem = s.mem := by simp [execScrc]

@[simp] theorem execFeedStatus_mem (r : Req) (dest : Nat) : (settled s (execFeedStatus r dest s)).mem = s.mem := by
  simp [execFeedStatus]

@[simp] theorem execAuditPass_mem (ownerless corrupt : List (Nat × Nat)) :
    (settled s (execAuditPass ownerless corrupt s)).mem = s.mem := by
  simp [execAuditPass]

@[simp] theorem execMb7Pop_mem : (settled s (execMb7Pop s)).mem = s.mem := by simp [execMb7Pop]

@[simp] theorem execPortStatus_mem (r : Req) (port : Nat) : (settled s (execPortStatus r port s)).mem = s.mem := by
  simp [execPortStatus]

end

section
variable (s : State)

@[simp] theorem execLaunchDescriptor_mem (qp : Nat) : (settled s (execLaunchDescriptor qp s)).mem = s.mem := by
  unfold execLaunchDescriptor
  dsimp only
  repeat' split
  all_goals simp

@[simp] theorem execHeartbeatSend_mem : (settled s (execHeartbeatSend s)).mem = s.mem := by simp [execHeartbeatSend]

@[simp] theorem execOwnerRevoke_mem (r : Req) (revocation : Bytes) :
    (settled s (execOwnerRevoke r revocation s)).mem = s.mem := by
  simp [execOwnerRevoke]

@[simp] theorem execProgramDrop_mem (r : Req) (program : Nat) : (settled s (execProgramDrop r program s)).mem = s.mem := by
  simp [execProgramDrop]

@[simp] theorem execSynthStreamAssign_mem : (settled s (execSynthStreamAssign s)).mem = s.mem := by
  unfold execSynthStreamAssign
  dsimp only
  repeat' split
  all_goals simp

@[simp] theorem execSlotAlloc_mem (riffle slot : Nat) : (settled s (execSlotAlloc riffle slot s)).mem = s.mem := by
  unfold execSlotAlloc
  dsimp only
  split
  · rfl
  · split
    next h => exact takeBuffers_mem_of h
    next h => simp [takeBuffers_mem_of h]

@[simp] theorem execFwSessionIdleTimeout_mem : (settled s (execFwSessionIdleTimeout s)).mem = s.mem := by
  simp [execFwSessionIdleTimeout]

@[simp] theorem execVrand_mem (ctx : Nat) (w : Fields) : (settled s (execVrand ctx w s)).mem = s.mem := by simp [execVrand]

@[simp] theorem execConfigRead_mem (r : Req) (copy offset length : Nat) :
    (settled s (execConfigRead r copy offset length s)).mem = s.mem := by
  simp [execConfigRead]

@[simp] theorem execPartialReceive_mem (data : CollData) : (settled s (execPartialReceive data s)).mem = s.mem := by
  unfold execPartialReceive
  split <;> simp

@[simp] theorem execJournalRecoveryDone_mem : (settled s (execJournalRecoveryDone s)).mem = s.mem := by
  simp [execJournalRecoveryDone]

@[simp] theorem execBatchClose_mem (dest : Nat) : (settled s (execBatchClose dest s)).mem = s.mem := by
  unfold execBatchClose
  repeat' split
  all_goals simp

@[simp] theorem execSensorRead_mem (r : Req) (index : Nat) : (settled s (execSensorRead r index s)).mem = s.mem := by
  simp [execSensorRead]

@[simp] theorem execSqTail_mem (qp value : Nat) : (settled s (execSqTail qp value s)).mem = s.mem := by
  unfold execSqTail
  split <;> simp

@[simp] theorem execSampleWatchdogExpiry_mem (sample : Nat) : (settled s (execSampleWatchdogExpiry sample s)).mem = s.mem := by
  unfold execSampleWatchdogExpiry
  split <;> simp

@[simp] theorem execVdqnt_mem (ctx : Nat) (w : Fields) : (settled s (execVdqnt ctx w s)).mem = s.mem := by simp [execVdqnt]

@[simp] theorem execResultReceive_mem (data : CollData) : (settled s (execResultReceive data s)).mem = s.mem := by
  unfold execResultReceive
  split <;> simp

@[simp] theorem execGaugePublicationReceive_mem (twin : Bool) (committed leading : Gauge) (fence : Nat) :
    (settled s (execGaugePublicationReceive twin committed leading fence s)).mem = s.mem := by
  simp [execGaugePublicationReceive]

@[simp] theorem execMrDeregister_mem (r : Req) (index : Nat) : (settled s (execMrDeregister r index s)).mem = s.mem := by
  simp [execMrDeregister]

@[simp] theorem execCqHead_mem (qp value : Nat) : (settled s (execCqHead qp value s)).mem = s.mem := by
  unfold execCqHead
  split <;> simp

@[simp] theorem execReturnReg_mem (block value : Nat) : (settled s (execReturnReg block value s)).mem = s.mem := by
  unfold execReturnReg
  rw [settled_next]
  split
  · simp
  · split <;> simp

@[simp] theorem execFwRestartBegin_mem : (settled s (execFwRestartBegin s)).mem = s.mem := by simp [execFwRestartBegin]

@[simp] theorem execLaunchRelease_mem (launch : Nat) : (settled s (execLaunchRelease launch s)).mem = s.mem := by
  unfold execLaunchRelease
  split <;> simp

@[simp] theorem execOwnerEnrol_mem (r : Req) (record : Bytes) : (settled s (execOwnerEnrol r record s)).mem = s.mem := by
  simp [execOwnerEnrol]

@[simp] theorem execInsnBoundReached_mem (ctx : Nat) : (settled s (execInsnBoundReached ctx s)).mem = s.mem := by
  unfold execInsnBoundReached
  repeat' split
  all_goals simp

@[simp] theorem execSynthStatus_mem (r : Req) : (settled s (execSynthStatus r s)).mem = s.mem := by simp [execSynthStatus]

@[simp] theorem execDetRecordRead_mem (r : Req) (step : Nat) : (settled s (execDetRecordRead r step s)).mem = s.mem := by
  simp [execDetRecordRead]

@[simp] theorem execDecodeFieldEnd_mem (riffle slot : Nat) : (settled s (execDecodeFieldEnd riffle slot s)).mem = s.mem := by
  unfold execDecodeFieldEnd
  dsimp only
  repeat' split
  all_goals simp

@[simp] theorem execProbationEnd_mem : (settled s (execProbationEnd s)).mem = s.mem := by simp [execProbationEnd]

@[simp] theorem execLogClear_mem (r : Req) (log : Nat) : (settled s (execLogClear r log s)).mem = s.mem := by
  unfold execLogClear
  refine finish_mem s _ _ _ ?_
  rw [answer_mem]
  cases logOf log <;> simp

@[simp] theorem execBrnone_mem (ctx : Nat) (w : Fields) : (settled s (execBrnone ctx w s)).mem = s.mem := by simp [execBrnone]

@[simp] theorem execGcStart_mem : (settled s (execGcStart s)).mem = s.mem := by
  unfold execGcStart
  dsimp only
  repeat' split
  all_goals simp

@[simp] theorem execCalWrite_mem (r : Req) (field : Nat) (offset : Int) :
    (settled s (execCalWrite r field offset s)).mem = s.mem := by
  simp [execCalWrite]

@[simp] theorem execAttest_mem (r : Req) (nonce : Bytes) : (settled s (execAttest r nonce s)).mem = s.mem := by
  simp [execAttest]

@[simp] theorem execFormTimeoutExpiry_mem : (settled s (execFormTimeoutExpiry s)).mem = s.mem := by
  unfold execFormTimeoutExpiry
  split <;> simp

@[simp] theorem execTransformDone_mem (riffle slot : Nat) : (settled s (execTransformDone riffle slot s)).mem = s.mem := by
  unfold execTransformDone
  dsimp only
  repeat' split
  all_goals simp

@[simp] theorem execFeedRingClear_mem (r : Req) (port : Nat) : (settled s (execFeedRingClear r port s)).mem = s.mem := by
  simp [execFeedRingClear]

@[simp] theorem execPeerFetchReply_mem (qp : Nat) : (settled s (execPeerFetchReply qp s)).mem = s.mem := by
  unfold execPeerFetchReply
  dsimp only
  repeat' split
  all_goals simp

@[simp] theorem execPlanDrop_mem (r : Req) (plan : Nat) : (settled s (execPlanDrop r plan s)).mem = s.mem := by
  simp [execPlanDrop]

@[simp] theorem execAckTimeout_mem (qp : Nat) : (settled s (execAckTimeout qp s)).mem = s.mem := by
  unfold execAckTimeout
  repeat' split
  all_goals simp

@[simp] theorem execMgmtRestartEnd_mem (crcOk : Bool) : (settled s (execMgmtRestartEnd crcOk s)).mem = s.mem := by
  unfold execMgmtRestartEnd
  repeat' split
  all_goals simp

@[simp] theorem execUcieLinkTrained_mem (modules : List Nat) : (settled s (execUcieLinkTrained modules s)).mem = s.mem := by
  simp [execUcieLinkTrained]

@[simp] theorem execCheckpointRead_mem (r : Req) : (settled s (execCheckpointRead r s)).mem = s.mem := by
  unfold execCheckpointRead
  split <;> simp

@[simp] theorem execCoalTimeExpiry_mem (vector : Nat) : (settled s (execCoalTimeExpiry vector s)).mem = s.mem := by
  simp [execCoalTimeExpiry]

@[simp] theorem execVst_mem (ctx : Nat) (w : Fields) : (settled s (execVst ctx w s)).mem = s.mem := by simp [execVst]

@[simp] theorem execSshl_mem (ctx : Nat) (w : Fields) : (settled s (execSshl ctx w s)).mem = s.mem := by simp [execSshl]

@[simp] theorem execPfirst_mem (ctx : Nat) (w : Fields) : (settled s (execPfirst ctx w s)).mem = s.mem := by simp [execPfirst]

@[simp] theorem execVmov_mem (ctx : Nat) (w : Fields) : (settled s (execVmov ctx w s)).mem = s.mem := by simp [execVmov]

@[simp] theorem execVocabLoad_mem (r : Req) (source address length : Nat) :
    (settled s (execVocabLoad r source address length s)).mem = s.mem := by
  unfold execVocabLoad
  repeat' split
  all_goals simp

@[simp] theorem execRiffleStallTimeout_mem (riffle slot : Nat) :
    (settled s (execRiffleStallTimeout riffle slot s)).mem = s.mem := by
  simp [execRiffleStallTimeout]

@[simp] theorem execTimebaseCorrectionSend_mem : (settled s (execTimebaseCorrectionSend s)).mem = s.mem := by
  simp [execTimebaseCorrectionSend]

@[simp] theorem execD2dRetrainDone_mem (link : Nat) : (settled s (execD2dRetrainDone link s)).mem = s.mem := by
  simp [execD2dRetrainDone]

@[simp] theorem execVld_mem (ctx : Nat) (w : Fields) : (settled s (execVld ctx w s)).mem = s.mem := by simp [execVld]

@[simp] theorem execFormatTableRead_mem (r : Req) : (settled s (execFormatTableRead r s)).mem = s.mem := by
  simp [execFormatTableRead]

@[simp] theorem execDatasetRead_mem (r : Req) (dataset : Nat) : (settled s (execDatasetRead r dataset s)).mem = s.mem := by
  unfold execDatasetRead
  split <;> simp

@[simp] theorem execStageProgram_mem : (settled s (execStageProgram s)).mem = s.mem := by
  unfold execStageProgram
  split <;> simp

@[simp] theorem execMgmtRegionRelease_mem (norReadable : Bool) :
    (settled s (execMgmtRegionRelease norReadable s)).mem = s.mem := by
  simp [execMgmtRegionRelease]

@[simp] theorem execSlui_mem (ctx : Nat) (w : Fields) : (settled s (execSlui ctx w s)).mem = s.mem := by simp [execSlui]

@[simp] theorem execFwWriteBackDone_mem (pass : Bool) : (settled s (execFwWriteBackDone pass s)).mem = s.mem := by
  unfold execFwWriteBackDone
  repeat' split
  all_goals simp

@[simp] theorem execCertRead_mem (r : Req) (index : Nat) : (settled s (execCertRead r index s)).mem = s.mem := by
  simp [execCertRead]

@[simp] theorem execQpDestroy_mem (r : Req) (index : Nat) : (settled s (execQpDestroy r index s)).mem = s.mem := by
  simp [execQpDestroy]

@[simp] theorem execReadCountRefresh_mem (superblock block : Nat) :
    (settled s (execReadCountRefresh superblock block s)).mem = s.mem := by
  unfold execReadCountRefresh
  split <;> simp

@[simp] theorem execQpCreate_mem (r : Req) (index service pool domain pin : Nat) :
    (settled s (execQpCreate r index service pool domain pin s)).mem = s.mem := by
  unfold execQpCreate
  extract_lets q rdma s1 s2
  have hs2 : s2.mem = s.mem := (pinned_keeps (s := s1) { qp := index } pin).2
  exact finish_mem s _ _ _ ((answer_mem s2 ..).trans hs2)

@[simp] theorem execDomainPowerUpTimeout_mem (domain : Nat) : (settled s (execDomainPowerUpTimeout domain s)).mem = s.mem := by
  simp [execDomainPowerUpTimeout]

@[simp] theorem execRdmaStatus_mem (r : Req) (block : Nat) : (settled s (execRdmaStatus r block s)).mem = s.mem := by
  simp [execRdmaStatus]

@[simp] theorem execTimebaseCorrectionReceive_mem (count : Nat) :
    (settled s (execTimebaseCorrectionReceive count s)).mem = s.mem := by
  simp [execTimebaseCorrectionReceive]

@[simp] theorem execRecordArrival_mem (sample : Nat) : (settled s (execRecordArrival sample s)).mem = s.mem := by
  unfold execRecordArrival
  repeat' split
  · rfl
  · simp
  · simp
  next h => exact recordBuffers_mem_of h
  · simp [recordBuffers_mem_of ‹s.recordBuffers _ = _›]
  · simp [recordBuffers_mem_of ‹s.recordBuffers _ = _›]
  · rfl

@[simp] theorem execStepPrepare_mem : (settled s (execStepPrepare s)).mem = s.mem := by
  unfold execStepPrepare
  dsimp only
  split <;> simp

@[simp] theorem execVsort_mem (ctx : Nat) (w : Fields) : (settled s (execVsort ctx w s)).mem = s.mem := by simp [execVsort]

@[simp] theorem execDomainSet_mem (r : Req) (domain action : Nat) :
    (settled s (execDomainSet r domain action s)).mem = s.mem := by
  simp [execDomainSet]

@[simp] theorem execJournalSnapshot_mem : (settled s (execJournalSnapshot s)).mem = s.mem := by simp [execJournalSnapshot]

@[simp] theorem execDatasetUnload_mem (r : Req) (dataset : Nat) : (settled s (execDatasetUnload r dataset s)).mem = s.mem := by
  simp [execDatasetUnload]

@[simp] theorem execSummaryReceive_mem (device : Nat) (lo hi : Gauge) :
    (settled s (execSummaryReceive device lo hi s)).mem = s.mem := by
  simp [execSummaryReceive]

@[simp] theorem execPeerFetchRequest_mem (qp : Nat) : (settled s (execPeerFetchRequest qp s)).mem = s.mem := by
  unfold execPeerFetchRequest
  split <;> simp

@[simp] theorem execVcrc_mem (ctx : Nat) (w : Fields) : (settled s (execVcrc ctx w s)).mem = s.mem := by simp [execVcrc]

@[simp] theorem execPlanLoad_mem (r : Req) (source address length : Nat) :
    (settled s (execPlanLoad r source address length s)).mem = s.mem := by
  unfold execPlanLoad
  repeat' split
  all_goals simp

end

/-! ### Operations that write the memory keep its form -/

@[simp] theorem wf_ite (c : Prop) [Decidable c] (a b : Memory) : (if c then a else b).wf = if c then a.wf else b.wf :=
  apply_ite Memory.wf c a b

theorem foldl_wf {α : Type} {f : State → α → State} (hf : ∀ s a, s.mem.wf = true → (f s a).mem.wf = true)
    (l : List α) {s : State} (h : s.mem.wf = true) : (l.foldl f s).mem.wf = true :=
  List.foldlRecOn l f h fun u hu a _ => hf u a hu

section
variable {s : State} (h : s.mem.wf = true)
include h

@[simp] theorem memWrite_wf (a : Nat) (bs : Bytes) : (s.memWrite a bs).mem.wf = true := by
  unfold State.memWrite
  dsimp only
  split <;> exact Memory.writeBytes_wf a bs h

@[simp] theorem createStore_wf (x elems base : Nat) : (s.createStore x elems base).mem.wf = true :=
  Memory.clear_wf base (2 * elems) h

@[simp] theorem enterReset_wf (e : ResetCause) (supply : Bool) : (s.enterReset e supply).mem.wf = true := by
  rw [enterReset_mem]
  split
  · rfl
  · exact h

@[simp] theorem resetEvent_wf (src : Source) (scope : Scope) (detail unit : Nat) :
    (s.resetEvent src scope detail unit).mem.wf = true := by
  unfold State.resetEvent
  dsimp only
  repeat' split
  all_goals simp [h]

@[simp] theorem tripIfHot_wf : s.tripIfHot.mem.wf = true := by
  unfold State.tripIfHot
  split
  · split
    · exact h
    · simp [h]
  · exact h

/-! Storage commands. -/

@[simp] theorem giveLog_wf (e : SqEntry) (log : Bytes) : (s.giveLog e log).mem.wf = true :=
  memWrite_wf h _ _

@[simp] theorem serveLogs_wf (q : Nat) (l : List (Nat × SqEntry)) : (s.serveLogs q l).mem.wf = true := by
  induction l generalizing s with
  | nil => exact h
  | cons a rest ih => exact ih (by simp [h])

@[simp] theorem pairDrained_wf (q : Nat) : (s.pairDrained q).mem.wf = true := by
  unfold State.pairDrained
  dsimp only
  repeat' split
  all_goals simp [h]

@[simp] theorem endStorage_wf (q slot : Nat) (e : SqEntry) (st : Status) (result info : Nat) :
    (s.endStorage q slot e st result info).mem.wf = true := by
  simp [State.endStorage, h]

@[simp] theorem endBad_wf (q slot : Nat) (e : SqEntry) (l : List (Bool × StorageFault)) {effect : State}
    (heffect : effect.mem.wf = true) : (s.endBad q slot e l effect).mem.wf = true := by
  unfold State.endBad
  split
  · simp [h]
  · exact heffect

theorem finish_wf (r : Req) (code : Nat) (check : Option Reject) {effect : State} (heffect : effect.mem.wf = true) :
    (s.finish r code check effect).mem.wf = true := by
  unfold State.finish
  split
  · simp [h]
  · exact heffect

theorem admin_wf (q : Nat) (e : SqEntry) {f : State → Nat → State} (hf : ∀ u k, u.mem.wf = true → (f u k).mem.wf = true) :
    (s.admin q e f).mem.wf = true := by
  unfold State.admin
  split
  · exact h
  · exact hf _ _ (by simp [h])

@[simp] theorem readBlocks_wf (q slot : Nat) (e : SqEntry) : (s.readBlocks q slot e).mem.wf = true := by
  unfold State.readBlocks
  split <;> simp [h, Memory.writeBytes_wf]

@[simp] theorem startReset_wf (p : QueuePair) (w : ResetWaiter) : (s.startReset p w).mem.wf = true := by
  simp [State.startReset, h]

@[simp] theorem resetPairFor_wf (r : Req) (code q : Nat) : (s.resetPairFor r code q).mem.wf = true := by
  unfold State.resetPairFor
  split <;> simp [h]

@[simp] theorem resetBy_wf (q slot : Nat) (e : SqEntry) (delete : Bool) : (s.resetBy q slot e delete).mem.wf = true := by
  unfold State.resetBy
  refine endBad_wf h _ _ _ _ ?_
  split <;> simp [h]

@[simp] theorem settleAll_wf (l : List Staged) : (s.settleAll l).mem.wf = true := by
  induction l generalizing s with
  | nil => exact h
  | cons w rest ih =>
    unfold State.settleAll
    dsimp only
    split
    · exact h
    · refine ih ?_
      repeat' split
      all_goals simp [h]

@[simp] theorem acceptWrite_wf (q slot : Nat) (e : SqEntry) (lba result : Nat) :
    (s.acceptWrite q slot e lba result).mem.wf = true := by
  simp [State.acceptWrite, h]

@[simp] theorem writeBlocks_wf (q slot : Nat) (e : SqEntry) : (s.writeBlocks q slot e).mem.wf = true := by
  unfold State.writeBlocks
  dsimp only
  repeat' split
  all_goals simp [h]

@[simp] theorem retryWrites_wf (l : List (Nat × Nat × SqEntry)) : (s.retryWrites l).mem.wf = true := by
  induction l generalizing s with
  | nil => exact h
  | cons a rest ih => exact ih (writeBlocks_wf h ..)

@[simp] theorem retryWaitingWrites_wf : s.retryWaitingWrites.mem.wf = true :=
  retryWrites_wf (s := s.setMedia { s.media with waitingWrites := [] }) h _

@[simp] theorem afterNand_wf (c t : Nat) : (s.afterNand c t).mem.wf = true := by
  simp [State.afterNand, h]

@[simp] theorem serveFlushes_wf (l : List (Nat × Nat × Nat × List Nat)) : (s.serveFlushes l).mem.wf = true := by
  induction l generalizing s with
  | nil => exact h
  | cons a rest ih =>
    unfold State.serveFlushes
    dsimp only
    split
    · exact ih h
    · exact ih (endStorage_wf h ..)

@[simp] theorem takeWrite_wf (q : Nat) (e : SqEntry) : (s.takeWrite q e).mem.wf = true := by
  unfold State.takeWrite
  repeat' split
  all_goals simp [h]

@[simp] theorem fetchOne_wf (p : QueuePair) : (s.fetchOne p).mem.wf = true := by
  unfold State.fetchOne
  dsimp only
  split <;> simp [h]

@[simp] theorem fetchUpTo_wf (q n : Nat) : (s.fetchUpTo q n).mem.wf = true := by
  induction n generalizing s with
  | zero => exact h
  | succ n ih =>
    unfold State.fetchUpTo
    split
    · exact h
    · split
      · exact ih (fetchOne_wf h _)
      · exact h

@[simp] theorem norAnswer_wf (w : NorWrite) (st : Status) : (s.norAnswer w st).mem.wf = true := by
  unfold State.norAnswer
  dsimp only
  repeat' split
  all_goals simp [h]

/-! Feed rings, residual stores and checkpoints. -/

@[simp] theorem registerRing_wf (port qp baseVa rkey slots slotBytes tag index : Nat) :
    (s.registerRing port qp baseVa rkey slots slotBytes tag index).mem.wf = true := by
  unfold State.registerRing
  dsimp only
  rw [requeuePort_mem, setPipe_mem, register_mem]
  exact memWrite_wf (s := s.used) h _ _

@[simp] theorem writeResiduals_wf (l : Launch) (n : Nat) (p : Part) : (s.writeResiduals l n p).mem.wf = true := by
  unfold State.writeResiduals
  dsimp only
  split <;> simp [h, Memory.writeBytes_wf]

@[simp] theorem recreateStore_wf (b e : Bytes) : (s.recreateStore b e).mem.wf = true := by
  unfold State.recreateStore
  dsimp only
  split <;> simp [h, Memory.writeBytes_wf]

@[simp] theorem resumeHere_wf (b : Bytes) : (s.resumeHere b).mem.wf = true := by
  unfold State.resumeHere
  extract_lets p step g x recipe window first plan t u gauge v w y z
  have hw : w.mem.wf = true := by
    rw [show w.mem = v.mem from foldl_mem (fun s e => rearm_mem s e) _ v, show v.mem = u.mem from rfl, runPlan_mem, startJob_mem]
    exact h
  have hy : y.mem.wf = true := by
    dsimp only [y]
    split
    · exact foldl_wf (fun _ e hu => recreateStore_wf hu b e) _ hw
    · exact hw
  rw [issueRecord_mem, foldl_mem (fun s q => foldl_mem (fun s c => resumeSample_mem s ..) _ _)]
  exact hy

theorem placeImage_wf {toMedia : Bool} {address : Nat} {bs : Bytes} {u : State}
    (hu : s.placeImage toMedia address bs = some u) : u.mem.wf = true := by
  unfold State.placeImage at hu
  dsimp only at hu
  split at hu
  · split at hu
    · cases hu
    · cases hu
      simp [h]
  · split at hu
    · cases hu
      simp [h, Memory.writeBytes_wf]
    · cases hu

/-! Remote memory. -/

@[simp] theorem takeRdmaWrite_wf (q : Qp) (port : Nat) (p : RdmaPacket) : (s.takeRdmaWrite q port p).mem.wf = true := by
  unfold State.takeRdmaWrite
  dsimp only
  repeat' split
  all_goals simp [h, Memory.writeBytes_wf]

@[simp] theorem fillBuffer_wf (pointer offset : Nat) (bs : Bytes) : (s.fillBuffer pointer offset bs).mem.wf = true := by
  unfold State.fillBuffer
  split <;> simp [h, Memory.writeBytes_wf]

@[simp] theorem openSend_wf (q : Qp) (port : Nat) (p : RdmaPacket) : (s.openSend q port p).mem.wf = true := by
  unfold State.openSend
  dsimp only
  split
  next u ptr halloc =>
    have hu : u.mem.wf = true := by rw [allocateNow_mem_of halloc]; exact h
    repeat' split
    all_goals simp [hu]
  next halloc => simp [allocateNow_mem_of halloc, h]

@[simp] theorem continueSend_wf (q : Qp) (port : Nat) (p : RdmaPacket) : (s.continueSend q port p).mem.wf = true := by
  unfold State.continueSend
  dsimp only
  repeat' split
  all_goals simp [h]

@[simp] theorem takeSend_wf (q : Qp) (port : Nat) (p : RdmaPacket) : (s.takeSend q port p).mem.wf = true := by
  unfold State.takeSend
  repeat' split
  all_goals simp [h]

@[simp] theorem takeAtomic_wf (q : Qp) (p : RdmaPacket) : (s.takeAtomic q p).mem.wf = true := by
  unfold State.takeAtomic
  dsimp only
  repeat' split
  all_goals simp [h, Memory.writeBytes_wf]

@[simp] theorem execute_wf (q : Qp) (port : Nat) (p : RdmaPacket) : (s.execute q port p).mem.wf = true := by
  unfold State.execute
  repeat' split
  all_goals simp [h]

@[simp] theorem respondTo_wf (q : Qp) (port : Nat) (p : RdmaPacket) : (s.respondTo q port p).mem.wf = true := by
  obtain ⟨f, hf, hequal, hafter, hbefore, houtside⟩ := respondTo_eq s q port p
  rw [hf]
  cases serialCmp p.psn q.expected 24 with
  | equal => simp [hequal, h]
  | after => simp [hafter, h]
  | before => simp [hbefore, h]
  | outside => simp [houtside, h]

@[simp] theorem takePacket_wf (port : Nat) (p : RdmaPacket) : (s.takePacket port p).mem.wf = true := by
  unfold State.takePacket
  dsimp only
  repeat' split
  all_goals simp [h]

/-! The group. -/

@[simp] theorem endQuorum_wf (q : Quorum) : (s.endQuorum q).mem.wf = true := by
  unfold State.endQuorum
  dsimp only
  repeat' split
  all_goals simp [h]

@[simp] theorem settleQuorums_wf : s.settleQuorums.mem.wf = true :=
  foldl_wf (fun _ q hu => endQuorum_wf hu q) _ h

@[simp] theorem awaitNot_wf (who : Nat) : (s.awaitNot who).mem.wf = true := by
  unfold State.awaitNot
  extract_lets drop group u
  have hu : u.mem.wf = true := by simp [u, h]
  split
  · split
    · simp [hu]
    · exact hu
  · exact hu

@[simp] theorem setLost_wf (side d : Nat) : (s.setLost side d).mem.wf = true := by
  unfold State.setLost
  extract_lets own u v w
  have hu : u.mem.wf = true := by simp [u, h]
  have hv : v.mem.wf = true := by
    dsimp only [v]
    repeat' split
    all_goals simp [hu]
  have hw : w.mem.wf = true := by
    dsimp only [w]
    split <;> simp [hv]
  split
  · exact hu
  · simp [hw]

@[simp] theorem takeMb5_wf (device code status result : Nat) : (s.takeMb5 device code status result).mem.wf = true := by
  unfold State.takeMb5
  dsimp only
  repeat' split
  all_goals simp [h]

@[simp] theorem actPiece_wf (p : Piece) : (s.actPiece p).mem.wf = true := by
  unfold State.actPiece
  dsimp only
  repeat' split
  all_goals simp [h]

@[simp] theorem actNumbered_wf (p : Piece) : (s.actNumbered p).mem.wf = true := by
  simp [State.actNumbered, h]

@[simp] theorem drainReorder_wf (sender ch n : Nat) : (s.drainReorder sender ch n).mem.wf = true := by
  induction n generalizing s with
  | zero => exact h
  | succ n ih =>
    unfold State.drainReorder
    dsimp only
    split
    · exact h
    · exact ih (by simp [h])

@[simp] theorem takeCopy_wf (p : Piece) : (s.takeCopy p).mem.wf = true := by
  unfold State.takeCopy
  split
  · simp [h]
  · dsimp only
    split
    · exact h
    · exact h
    · exact h
    · split
      · simp [h]
      · repeat' split
        all_goals exact h

@[simp] theorem differs_wf (device : Nat) (q : Quorum) : (s.differs device q).mem.wf = true := by
  unfold State.differs
  split <;> simp [h]

@[simp] theorem takeMemberAck_wf (device subject : Nat) (digest : Bytes) (early : Bool) :
    (s.takeMemberAck device subject digest early).mem.wf = true := by
  unfold State.takeMemberAck
  dsimp only
  split
  · simp [h]
  · split <;> simp [h]

@[simp] theorem ueFor_wf (r : MemReader) : (s.ueFor r).mem.wf = true := by
  unfold State.ueFor
  repeat' split
  all_goals simp [h]

end

/-! ### Rows that may write memory or begin a reset -/

section
variable {s : State} (h : s.mem.wf = true)
include h

@[simp] theorem execResidualReset_wf (r : Req) (store : Nat) : (settled s (execResidualReset r store s)).mem.wf = true := by
  unfold execResidualReset
  refine finish_wf h _ _ _ ?_
  simp [h, Memory.clear_wf]

@[simp] theorem execPowerOn_wf : (settled s (execPowerOn s)).mem.wf = true := by
  simp [execPowerOn, h]

@[simp] theorem execHlResetReqWarm_wf : (settled s (execHlResetReqWarm s)).mem.wf = true := by
  simp [execHlResetReqWarm, h]

@[simp] theorem execLpddr6TrainingDone_wf (failed : List Nat) (found : List FoundDie) :
    (settled s (execLpddr6TrainingDone failed found s)).mem.wf = true := by
  simp [execLpddr6TrainingDone, h]

@[simp] theorem execPoolPointerEcc_wf (pool : Nat) : (settled s (execPoolPointerEcc pool s)).mem.wf = true := by
  simp [execPoolPointerEcc, h]

@[simp] theorem execRead_wf (qp : Nat) (e : SqEntry) : (settled s (execRead qp e s)).mem.wf = true := by
  unfold execRead
  split <;> simp [h]

@[simp] theorem execCqPost_wf (qp : Nat) : (settled s (execCqPost qp s)).mem.wf = true := by
  unfold execCqPost
  repeat' split
  all_goals simp [h, Memory.writeBytes_wf]

@[simp] theorem execSetFeature_wf (qp : Nat) (e : SqEntry) : (settled s (execSetFeature qp e s)).mem.wf = true := by
  unfold execSetFeature
  dsimp only
  rw [settled_next]
  refine admin_wf h _ _ fun u k hu => ?_
  simp [hu]

@[simp] theorem execManagerTakeover_wf (r : Req) : (settled s (execManagerTakeover r s)).mem.wf = true := by
  unfold execManagerTakeover
  refine finish_wf h _ _ _ ?_
  simp [h]

@[simp] theorem execShadowParityError_wf : (settled s (execShadowParityError s)).mem.wf = true := by
  simp [execShadowParityError, h]

@[simp] theorem execReset_wf (r : Req) (scope target : Nat) : (settled s (execReset r scope target s)).mem.wf = true := by
  unfold execReset
  refine finish_wf h _ _ _ ?_
  repeat' split
  all_goals simp [h]

@[simp] theorem execManagerSilenceTimeout_wf : (settled s (execManagerSilenceTimeout s)).mem.wf = true := by
  simp [execManagerSilenceTimeout, h]

@[simp] theorem execFeedRingSet_wf (r : Req) (port qp baseVa rkey slots slotBytes tag : Nat) :
    (settled s (execFeedRingSet r port qp baseVa rkey slots slotBytes tag s)).mem.wf = true := by
  unfold execFeedRingSet
  refine finish_wf h _ _ _ ?_
  repeat' split
  all_goals simp [h]

@[simp] theorem execCheckpointImageWrite_wf (outcome : ImageWrite) :
    (settled s (execCheckpointImageWrite outcome s)).mem.wf = true := by
  unfold execCheckpointImageWrite
  dsimp only
  split
  · split
    · exact h
    · split
      · simp [h]
      next u hplaced =>
        have hu : u.mem.wf = true := by
          split at hplaced
          · exact placeImage_wf h hplaced
          · cases hplaced
        rw [settled_next]
        repeat' split
        all_goals simp [hu]
  · exact h

@[simp] theorem execWriteDurable_wf : (settled s (execWriteDurable s)).mem.wf = true := by
  unfold execWriteDurable
  dsimp only
  rw [settled_next]
  refine retryWaitingWrites_wf (serveFlushes_wf ?_ _)
  simp [h]

@[simp] theorem execLkWatchdogExpiry_wf : (settled s (execLkWatchdogExpiry s)).mem.wf = true := by
  simp [execLkWatchdogExpiry, h]

@[simp] theorem execRingPieceReceive_wf (p : Piece) (fcsOk : Bool) :
    (settled s (execRingPieceReceive p fcsOk s)).mem.wf = true := by
  simp [execRingPieceReceive, h]

@[simp] theorem execTextProbe_wf (r : Req) (recipe direction item output limit : Nat) (input : Bytes) :
    (settled s (execTextProbe r recipe direction item output limit input s)).mem.wf = true := by
  unfold execTextProbe
  refine finish_wf h _ _ _ ?_
  repeat' split
  all_goals simp [h, Memory.writeBytes_wf]

@[simp] theorem execGetFeature_wf (qp : Nat) (e : SqEntry) : (settled s (execGetFeature qp e s)).mem.wf = true := by
  unfold execGetFeature
  dsimp only
  rw [settled_next]
  refine admin_wf h _ _ fun u k hu => ?_
  simp [hu]

@[simp] theorem execIdentify_wf (qp : Nat) (e : SqEntry) : (settled s (execIdentify qp e s)).mem.wf = true := by
  unfold execIdentify
  rw [settled_next]
  exact admin_wf h _ _ fun u slot hu => endBad_wf hu _ _ _ _ (endStorage_wf (memWrite_wf hu _ _) ..)

@[simp] theorem execRdmaPacketReceive_wf (port : Nat) (packet : RdmaPacket) :
    (settled s (execRdmaPacketReceive port packet s)).mem.wf = true := by
  simp [execRdmaPacketReceive, h]

@[simp] theorem execLkSramEccError_wf (error : LkError) : (settled s (execLkSramEccError error s)).mem.wf = true := by
  unfold execLkSramEccError
  split <;> simp [h]

@[simp] theorem execContextFetchComplete_wf (qp : Nat) : (settled s (execContextFetchComplete qp s)).mem.wf = true := by
  unfold execContextFetchComplete
  split
  · exact h
  · extract_lets r mine u v
    have hv : v.mem.wf = true := foldl_wf (fun t m ht => takePacket_wf (by simp [ht]) _ _) mine (s := u) h
    rw [settled_next, foldl_mem (fun s i => fetchContext_mem s i)]
    exact hv

@[simp] theorem execFwCommit_wf (qp : Nat) (e : SqEntry) : (settled s (execFwCommit qp e s)).mem.wf = true := by
  unfold execFwCommit
  extract_lets a mine check
  clear_value check
  rw [settled_next]
  refine admin_wf h _ _ fun u k hu => ?_
  repeat' split
  all_goals simp [hu]

@[simp] theorem execResetQueue_wf (qp : Nat) (e : SqEntry) : (settled s (execResetQueue qp e s)).mem.wf = true := by
  unfold execResetQueue
  rw [settled_next]
  exact admin_wf h _ _ fun u k hu => resetBy_wf hu ..

@[simp] theorem execCreateQueue_wf (qp : Nat) (e : SqEntry) : (settled s (execCreateQueue qp e s)).mem.wf = true := by
  unfold execCreateQueue
  dsimp only
  rw [settled_next]
  refine admin_wf h _ _ fun u k hu => ?_
  simp [hu]

@[simp] theorem execSqFetch_wf : (settled s (execSqFetch s)).mem.wf = true := by
  unfold execSqFetch
  dsimp only
  repeat' split
  all_goals simp [h]

@[simp] theorem execWrite_wf (qp : Nat) (e : SqEntry) : (settled s (execWrite qp e s)).mem.wf = true := by
  simp [execWrite, h]

@[simp] theorem execQuorumAckReceive_wf (device : Nat) (ack : Body) :
    (settled s (execQuorumAckReceive device ack s)).mem.wf = true := by
  unfold execQuorumAckReceive
  repeat' split
  all_goals simp [h]

@[simp] theorem execNandOpTimeout_wf (channel target : Nat) (op : NandOp) :
    (settled s (execNandOpTimeout channel target op s)).mem.wf = true := by
  simp [execNandOpTimeout, h]

@[simp] theorem execNorWriteComplete_wf (pass : Bool) : (settled s (execNorWriteComplete pass s)).mem.wf = true := by
  unfold execNorWriteComplete
  repeat' split
  all_goals simp [h]

@[simp] theorem execMemberSilenceTimeout_wf (device : Nat) : (settled s (execMemberSilenceTimeout device s)).mem.wf = true := by
  simp [execMemberSilenceTimeout, h]

@[simp] theorem execSysRstN_wf (low : Bool) : (settled s (execSysRstN low s)).mem.wf = true := by
  simp [execSysRstN, h]

@[simp] theorem execDeleteQueue_wf (qp : Nat) (e : SqEntry) : (settled s (execDeleteQueue qp e s)).mem.wf = true := by
  unfold execDeleteQueue
  rw [settled_next]
  exact admin_wf h _ _ fun u k hu => resetBy_wf hu ..

@[simp] theorem execHostMemAccess_wf (address length : Nat) (data : Option Bytes) :
    (settled s (execHostMemAccess address length data s)).mem.wf = true := by
  unfold execHostMemAccess
  repeat' split
  all_goals simp [h, Memory.writeBytes_wf]

@[simp] theorem execQueueAdminReset_wf (r : Req) : (settled s (execQueueAdminReset r s)).mem.wf = true := by
  unfold execQueueAdminReset
  refine finish_wf h _ _ _ ?_
  simp [h]

@[simp] theorem execThrottleEval_wf (power : Nat) (domainPower : List Nat) (throttleLow : Bool) :
    (settled s (execThrottleEval power domainPower throttleLow s)).mem.wf = true := by
  simp [execThrottleEval, h]

@[simp] theorem execGetLog_wf (qp : Nat) (e : SqEntry) : (settled s (execGetLog qp e s)).mem.wf = true := by
  unfold execGetLog
  extract_lets id k n o checks
  rw [settled_next]
  refine admin_wf h _ _ fun u slot hu => endBad_wf hu _ _ _ _ ?_
  repeat' split
  all_goals simp [hu, Memory.writeBytes_wf]

@[simp] theorem execFlush_wf (qp : Nat) (e : SqEntry) : (settled s (execFlush qp e s)).mem.wf = true := by
  unfold execFlush
  split <;> simp [h]

@[simp] theorem execHlResetReqCold_wf : (settled s (execHlResetReqCold s)).mem.wf = true := by
  simp [execHlResetReqCold, h]

end

section
/-- What a register write makes the block do, if it hits a register, keeps the form of the memory. -/
def HitKeeps (s : State) (hit : Option Out) : Prop := ∀ o, hit = some o → (settled s o).mem.wf = true

variable {s : State}

theorem hitKeeps_none : HitKeeps s none := by
  intro _ ho
  cases ho

theorem hitKeeps_some {o : Out} (ho : (settled s o).mem.wf = true) : HitKeeps s (some o) := by
  rintro _ ⟨⟩
  exact ho

theorem hitKeeps_ite {c : Prop} [Decidable c] {a b : Option Out} (ha : HitKeeps s a) (hb : HitKeeps s b) :
    HitKeeps s (if c then a else b) := by
  split
  · exact ha
  · exact hb

end

section
variable {s : State} (h : s.mem.wf = true)
include h

theorem write4_keeps (o value : Nat) : HitKeeps s (s.write4 o value) := by
  unfold State.write4
  dsimp only
  refine hitKeeps_ite hitKeeps_none (hitKeeps_ite (hitKeeps_some h) (hitKeeps_ite (hitKeeps_some h)
    (hitKeeps_ite (hitKeeps_some ?reset) (hitKeeps_ite ?mailbox (hitKeeps_ite (hitKeeps_some ?pop) (hitKeeps_ite (hitKeeps_some h)
    (hitKeeps_ite (hitKeeps_some ?pair) (hitKeeps_ite (hitKeeps_some ?table) (hitKeeps_ite ?window
    (hitKeeps_ite (hitKeeps_some h) hitKeeps_none))))))))))
  case reset => simp [h]
  case mailbox =>
    refine hitKeeps_ite (hitKeeps_some ?_) (hitKeeps_ite (hitKeeps_some ?_) hitKeeps_none)
    · simp [h]
    · simp [h]
  case pop => simp [h]
  case pair => simp [h]
  case table => simp [h]
  case window =>
    refine hitKeeps_ite (hitKeeps_some ?_) (hitKeeps_some h)
    simp [h]

theorem write8_keeps (o value : Nat) : HitKeeps s (s.write8 o value) := by
  unfold State.write8
  dsimp only
  refine hitKeeps_ite (hitKeeps_some h) (hitKeeps_ite (hitKeeps_ite (hitKeeps_some ?_) (hitKeeps_ite (hitKeeps_some ?_)
    (hitKeeps_ite (hitKeeps_some h) hitKeeps_none))) hitKeeps_none)
  · simp [h]
  · simp [h]

@[simp] theorem execRegisterWrite_wf (offset size value : Nat) :
    (settled s (execRegisterWrite offset size value s)).mem.wf = true := by
  unfold execRegisterWrite
  extract_lets hit
  have hhit : HitKeeps s hit :=
    hitKeeps_ite (write4_keeps h _ _) (hitKeeps_ite (write8_keeps h _ _) hitKeeps_none)
  clear_value hit
  cases hit with
  | some o => exact hhit o rfl
  | none => simp [h]

@[simp] theorem execCheckpointResume_wf (r : Req) (flags place address : Nat) :
    (settled s (execCheckpointResume r flags place address s)).mem.wf = true := by
  unfold execCheckpointResume
  refine finish_wf h _ _ _ ?_
  repeat' split
  all_goals simp [h]

@[simp] theorem execZoneFinish_wf (qp : Nat) (e : SqEntry) : (settled s (execZoneFinish qp e s)).mem.wf = true := by
  unfold execZoneFinish
  dsimp only
  repeat' split
  all_goals simp [h]

@[simp] theorem execTelemetryEmit_wf : (settled s (execTelemetryEmit s)).mem.wf = true := by
  unfold execTelemetryEmit
  repeat' split
  all_goals simp [h, Memory.writeBytes_wf]

@[simp] theorem execChunkCommit_wf (launch chunk rank : Nat) :
    (settled s (execChunkCommit launch chunk rank s)).mem.wf = true := by
  unfold execChunkCommit
  repeat' split
  all_goals simp [h]

@[simp] theorem execPllLockLoss_wf (pll : Nat) : (settled s (execPllLockLoss pll s)).mem.wf = true := by
  simp [execPllLockLoss, h]

@[simp] theorem execSensorSample_wf (temperatures rails : List Int) :
    (settled s (execSensorSample temperatures rails s)).mem.wf = true := by
  simp [execSensorSample, h]

@[simp] theorem execDeviceService_wf (r : Req) (device action : Nat) :
    (settled s (execDeviceService r device action s)).mem.wf = true := by
  unfold execDeviceService
  refine finish_wf h _ _ _ ?_
  repeat' split
  all_goals simp [h]

@[simp] theorem execZoneReset_wf (qp : Nat) (e : SqEntry) : (settled s (execZoneReset qp e s)).mem.wf = true := by
  unfold execZoneReset
  dsimp only
  repeat' split
  all_goals simp [h]

@[simp] theorem execLpddr6Ue_wf (address : Nat) (reader : MemReader) :
    (settled s (execLpddr6Ue address reader s)).mem.wf = true := by
  simp [execLpddr6Ue, h]

@[simp] theorem execZoneAppend_wf (qp : Nat) (e : SqEntry) : (settled s (execZoneAppend qp e s)).mem.wf = true := by
  simp [execZoneAppend, h]

@[simp] theorem execResidualCreate_wf (r : Req) (store elems : Nat) :
    (settled s (execResidualCreate r store elems s)).mem.wf = true := by
  unfold execResidualCreate
  refine finish_wf h _ _ _ ?_
  simp [h]

@[simp] theorem execFwDownload_wf (qp : Nat) (e : SqEntry) : (settled s (execFwDownload qp e s)).mem.wf = true := by
  unfold execFwDownload
  dsimp only
  rw [settled_next]
  refine admin_wf h _ _ fun u k hu => ?_
  split <;> simp [hu]

@[simp] theorem execNandOpComplete_wf (channel target : Nat) (op : NandOp) (pass : Bool) :
    (settled s (execNandOpComplete channel target op pass s)).mem.wf = true := by
  unfold execNandOpComplete
  split <;> simp [h]

@[simp] theorem execTrim_wf (qp : Nat) (e : SqEntry) : (settled s (execTrim qp e s)).mem.wf = true := by
  unfold execTrim
  split <;> simp [h]

end

/-! ### Every step keeps the form of the memory (R583) -/

/-- Every command leaves memory in canonical form, by the frame or preservation rule of its row. -/
theorem exec_wf {s : State} (h : s.mem.wf = true) (c : Instr) : (settled s (exec c s)).mem.wf = true := by
  unfold exec
  cases c
  all_goals simp [h]

theorem step_memoryOk {s t : State} (h : MemoryOk s) (hstep : step s = .next t) : MemoryOk t := by
  cases hpending : s.pending with
  | nil =>
    rw [step_of_pending_nil hpending] at hstep
    cases hstep
    exact h
  | cons c rest =>
    rw [step_of_pending_cons hpending] at hstep
    have hsettled := exec_wf (s := { s with pending := rest }) h c
    rw [hstep, settled_next] at hsettled
    exact hsettled

/-- Settles O57: a step runs the command at the front or one cycle of the clock, and each of these keeps the form. -/
theorem everyStepKeepsMemory : Obligations.EveryStepKeepsMemory := by
  unfold Obligations.EveryStepKeepsMemory
  exact fun _ _ => step_memoryOk

end Sys2Proof.Machine
end
